-- ==== Sys2Proof/Word.lean ====
section
/-! DEFINITION. The plain word types of the Areano A6432 model (R3, R27, R29, R30). -/
namespace Sys2Proof

/-- A byte. -/
abbrev Byte := BitVec 8
/-- A 32-bit register (the "register" of the manual's size table). -/
abbrev Reg := BitVec 32
/-- A 64-bit channel word, fabric word or thread register. -/
abbrev Word := BitVec 64
/-- A 48-bit block counter. -/
abbrev Counter := BitVec 48
/-- The 16-bit identity of a master (R27). -/
abbrev Mid := BitVec 16
/-- The 16-bit path of a unit (R29). -/
abbrev UnitPath := BitVec 16
/-- A register page: bits [31:12] of its address for the internal pages (R30); the pages of
function `f` of endpoint `e` follow at `0x10_0000 + (256 e + f) * 32 + n` (R32). -/
abbrev PageKey := Nat
/-- Nanoseconds. -/
abbrev Ns := Nat

end Sys2Proof
end

