-- ==== Sys2Proof/Syntax.lean ====
section
/-!
DEFINITION. The commands of the block, one constructor per row of spec/opcode_table.json, and the types of their
operands.

The operands of a row say who sends it and where it lands. `mid` is the machine identity of the master that makes a
register access (R27); `p` (or `g`) names a register page (R34), `r` a region, `c` a cluster (and for the cipher rows,
`c` or `h` a context handle), `i` a thread of a cluster (a command slot for the storage rows), `n` a channel, `k` a
mover channel or a parking place, `d` a die, a power domain or a port group, `e` an endpoint, `f` a function of it,
`q` an APL or peer port, `v` the value a register write carries, `h` a ring's handle, `len` and `tag` the header fields
of a message. What the outside world alone decides (a frame's bytes, a completion, a fuse that fails to take, a link
that comes up) is an operand too.
-/
namespace Sys2Proof
/-- What asks a domain to wake (R66). -/
inductive WakeSource where
  /-- a frame, descriptor, channel message or unit reply -/
  | work
  /-- a write of the page that needs the ferry -/
  | ferry (page : PageKey)
  /-- WAKE_NOW of the page -/
  | wakeNow (page : PageKey)
  /-- a raised PWR_POLICY -/
  | policy
  /-- a floor of R63 that became true -/
  | floor
  /-- a soft reset, or a reset of the domain's level -/
  | reset
  /-- a debugger attaching to a cluster -/
  | debugger
  deriving DecidableEq, Repr
/-- What the express and preemptable MACs hand up (R89): a whole frame of either, a frame reassembled from
fragments, or a failed assembly or an unknown start delimiter. -/
inductive RxMerge where
  | express
  | whole
  | fragments (n : Nat)
  | assemblyError
  | smdError
  deriving DecidableEq, Repr

/-- What an IDE_KM message in a secured session does to a stream (R294): it programs the key of a stream's slot,
takes the stream to Secure, or stops it. Stream 0 of `sel = false` is the link stream. -/
inductive IdeKm where
  | none
  | keyProg (stream : Byte) (slot : Fin 16) (key : BitVec 256)
  | go (sel : Bool) (stream : Byte)
  | stop (sel : Bool) (stream : Byte)
  deriving DecidableEq, Repr

/-- What happens between the package and the backend of a storage command (R461–R463): the command is sent, the session
is found to be down, or the backend has answered, with a status field and the blocks it holds. -/
inductive Backend where
  | send
  | down
  | reply (status : BitVec 15) (data : List Byte)
  deriving DecidableEq, Repr

/-- A word of a SECDED array (R470): an entry of a table `t` (8 per region) at a place, a key context, an action set, a
template line, a classification rule, a node or policer record, a place in a packet buffer, a cluster-memory word, a
word of a channel buffer, or a 4 KiB page of an HBM3E stack outside the tables. -/
inductive EccHit where
  | entry (t : Fin 128) (place : BitVec 32)
  | ctx (c : BitVec 24)
  | aset (r : Fin 16) (i : Fin 16384)
  | tpl (r : Fin 16) (i : Fin 8192)
  | rule (r : Fin 16) (bank : Fin 2) (i : BitVec 17)
  | node (d : Fin 4) (kind : Fin 3) (i : BitVec 17)
  | plcr (d : Fin 4) (i : BitVec 18)
  | pbuf (d : Fin 4) (handle : BitVec 26)
  | cmem (c : Fin 128) (w : BitVec 17)
  | chanBuf (c : Fin 128) (w : BitVec 16)
  | hbm (d : Fin 4) (pg : BitVec 24)
  deriving DecidableEq, Repr

/-- A fault that hardware detects and that no other command brings about (R472): a fault of a unit, of state that a
cluster, a region or a die shares (codes 0x20–0x23), or an error met in a word of an array, uncorrectable where `ue`. -/
inductive HwFault where
  | unit (accused : BitVec 16) (code : Byte) (detail : BitVec 16)
  | word (hit : EccHit) (ue : Bool)
  deriving DecidableEq, Repr

/-- Where an access on the lantern bus goes: an internal address (R30), or an offset in BAR0 of the function that the
master's MID names (R32, R33). -/
inductive BusAddr where
  | internal (a : BitVec 32)
  | bar0 (off : BitVec 26)
  deriving DecidableEq, Repr


/-- The commands of the block: one constructor per row of the table, under the row's mnemonic. -/
inductive Instr where
  /-- REGISTER_WRITE (R41). A write access accepted by a page that has no row of its own lands in the page at once and waits for the ferry where it needs one. -/
  | registerWrite (mid : Mid) (tee : Bool) (addr : BusAddr) (data : List Byte)
  /-- FERRY_BATCH (R42). Fast logic applies a batch of accepted writes in acceptance order within 16 fast cycles, then updates FERRY_STS. -/
  | ferryBatch (p : PageKey)
  /-- SOFT_RESET (R18). A write of PAGE_CTL.SOFT_RESET starts a unit soft reset of the block's fast state, status and interrupts. -/
  | softReset (mid : Mid) (p : PageKey)
  /-- SOFT_RESET_DONE (R18). The unit soft reset completes, SOFT_RESET clears and pending writes apply in the next batch. -/
  | softResetDone (p : PageKey)
  /-- PAGE_ENABLE (R39). A PAGE_CTL write that changes ENABLE starts or stops the block through the ferry. -/
  | pageEnable (mid : Mid) (p : PageKey) (on : Bool)
  /-- PWR_POLICY (R62). A write of PWR_POLICY sets the domain's power policy at acceptance and wakes the domain if it is darker than allowed. -/
  | pwrPolicy (mid : Mid) (p : PageKey) (pol : BitVec 2)
  /-- INT_SET (R39). A write of INT_SET sets the same bits in INT_RAW for test. -/
  | intSet (mid : Mid) (p : PageKey) (v : Reg)
  /-- INT_RAW_CLEAR (R45). A write of 1 to an INT_RAW bit clears it unless fast logic sets it in the same cycle. -/
  | intRawClear (mid : Mid) (p : PageKey) (v hw : Reg)
  /-- FAULT_COUNT_READ (R40). A read of FAULT_COUNT returns and clears the count so that the next fault is captured in FAULT_FIRST. -/
  | faultCountRead (mid : Mid) (p : PageKey)
  /-- CFG_SEAL (R48). A write of 1 to CFG_SEAL.SEAL makes every RWL field of the page read only until its seal scope is reset. -/
  | cfgSeal (mid : Mid) (p : PageKey)
  /-- WAKE_NOW (R66). A write of WAKE_NOW requests a wake of the page's domain. -/
  | wakeNow (mid : Mid) (p : PageKey)
  /-- DRW_GO (R46). A GO to DRW_REQ starts a deferred counter read, or is refused while BUSY. -/
  | drwGo (mid : Mid) (p : PageKey) (v : Reg)
  /-- DRW_COMPLETE (R46). A deferred read completes within 1 µs: DRW_DATA is filled, READY set, BUSY cleared and DRW_READY raised. -/
  | drwComplete (p : PageKey)
  /-- LOCK_ACQUIRE (R50). A read of a lock register acquires a free lock or returns HELD with the holder's MID. -/
  | lockAcquire (mid : Mid) (p : PageKey)
  /-- LOCK_RELEASE (R51). A write to a lock register releases it when the value and writer match, or is counted as a bad release. -/
  | lockRelease (mid : Mid) (p : PageKey) (v : Reg)
  /-- LOCK_BADREL_READ (R49). A read of x_LOCK_BADREL returns and clears the count of ignored releases. -/
  | lockBadrelRead (mid : Mid) (p : PageKey)
  /-- IDLE_TO_DIM (R61). After 64 consecutive idle fast cycles an automatic domain stops its clock and becomes dim. -/
  | idleToDim (d : Nat)
  /-- DIM_TO_DARK (R61). After 20 µs of continuous idleness a dim domain starts its 240 ns entry into dark. -/
  | dimToDark (d : Nat)
  /-- DARK_ENTRY_DONE (R70). The rail switches open and the domain is dark. -/
  | darkEntryDone (d : Nat)
  /-- WAKE_REQUEST (R66). A wake source reaches the domain's wake controller and starts or reverses a power-state transition. -/
  | wakeRequest (d : Nat) (src : WakeSource)
  /-- WAKE_COMPLETE (R68). The domain becomes lit, its pending ferry batch starts and waiting work is admitted. -/
  | wakeComplete (d : Nat)
  /-- NETREF_LOSS (R59). Loss of a network reference takes every port of that line die down and is logged. -/
  | netrefLoss (d : Fin 4)
  /-- PCIEREF_LOSS (R59). Loss of a PCIe reference takes every endpoint of that host die link-down under the host-loss rules. -/
  | pcierefLoss (d : Fin 4)
  /-- CLUSTER_RESET (R403). A write of CLU_CTL.RESET wakes the cluster, discards its threads' work, messages and buffers and keeps its configuration. -/
  | clusterReset (mid : Mid) (c : Fin 128) (clear : Bool)
  /-- CLUSTER_RESET_DONE (R403). The cluster reset ends, RESET clears and each enabled thread starts at START_PC. -/
  | clusterResetDone (c : Fin 128)
  /-- REGION_RESET (R18). A region reset by the OMC resets all units and clusters of the region, discards in-flight work and lifts its fences. -/
  | regionReset (r : Fin 16)
  /-- DIE_RESET (R18). A die reset resets everything on the die, holds its HBM in self-refresh and discards work in flight. -/
  | dieReset (d : Fin 12)
  /-- PKG_RESET_ASSERT (R545). Assertion of PKG_RESET_N returns every field to its reset value, empties every store and floats outputs. -/
  | pkgResetAssert
  /-- PKG_RESET_RELEASE (R517). Release of PKG_RESET_N starts the cold boot sequence of the boot agent. -/
  | pkgResetRelease
  /-- PWR_GOOD_FALL (R545). The fall of PWR_GOOD resets the lantern domain, floats every output and releases THERM_TRIP_N. -/
  | pwrGoodFall
  /-- PWR_GOOD_RISE (R549). The rise of PWR_GOOD resets every TAP and starts sampling of PERST_N. -/
  | pwrGoodRise (perst : BitVec 32)
  /-- FABRIC_BARRIER (R23). A master issues a fabric barrier through the PFAB page or a BARRIER word. -/
  | fabricBarrier (mid : Mid)
  /-- FABRIC_BARRIER_DONE (R23). The barrier completes when every earlier write and commit of its master has been applied on every die. -/
  | fabricBarrierDone (mid : Mid)
  /-- FRAME_RECEIVE (R82). A MAC receives a frame and tests FCS, length, MAC Control and the address filter before passing it on. -/
  | frameReceive (p : PageKey) (m : RxMerge) (b : List Byte)
  /-- PORT_MODE_CHANGE (R81). A ferried write of NPG_MODE, PEER_MODE or lane registers takes the ports down and restarts link bring-up. -/
  | portModeChange (mid : Mid) (g : PageKey) (off : Nat) (v : Reg)
  /-- LINK_UP (R80). Auto-negotiation and link training complete and a port's link comes up. -/
  | linkUp (p : PageKey)
  /-- LINK_DOWN (R87). A port's link goes down, and entries toward it are discarded at the heads of their queues. -/
  | linkDown (p : PageKey) (localFault remoteFault : Bool)
  /-- MAC_TRANSMIT (R87). The MAC sends a selected frame, padding it, appending FCS and inserting checksums and timestamps as requested. -/
  | macTransmit (p : PageKey)
  /-- PREEMPT_VERIFY (R89). The IEEE 802.3br verify process completes as succeeded or failed. -/
  | preemptVerify (p : PageKey) (ok : Bool)
  /-- PTIME_STEP_GO (R97). A write of PTIME_STEP_CTL.GO requests a step of package time. -/
  | ptimeStepGo (mid : Mid)
  /-- PTIME_STEP_APPLY (R97). The step is applied at the next whole microsecond in the master and every die copy. -/
  | ptimeStepApply
  /-- PTIME_RATE (R97). A write of PTIME_RATE sets the rate correction and clamps it at 1,000 ppm. -/
  | ptimeRate (mid : Mid) (v : Reg)
  /-- PPS_OUT_PULSE (R97). PPS_OUT rises when package time mod 10^9 is 0. -/
  | ppsOutPulse
  /-- PPS_IN_EDGE (R97). A rising edge on PPS_IN is timestamped and sets INT_RAW[0] of PTIME. -/
  | ppsInEdge
  /-- APL_FRAME_RECEIVE (R100). An APL frame is received and discarded with a NAK if malformed. -/
  | aplFrameReceive (q : Fin 16) (delim : Byte) (b : List Byte)
  /-- DATA (R109). A DATA frame is accepted, discarded as duplicate with ACK, or discarded with NAK by its sequence number. -/
  | data (q : Fin 16) (seq : BitVec 12) (cls : Fin 8) (body : List Byte)
  /-- ACK (R110). An ACK frees held frames up to ACK_SEQ and resets the replay count. -/
  | ack (q : Nat) (ackSeq : BitVec 12)
  /-- NAK (R110). A NAK frees acknowledged frames and causes every held frame to be resent in SEQ order. -/
  | nak (q : Nat) (ackSeq : BitVec 12)
  /-- CREDIT (R107). A CREDIT frame sets the per-class header and data limits. -/
  | credit (q : Nat) (body : List Byte)
  /-- INIT (R112). An INIT frame sets PEER_SEEN and may bring APL up, or keeps bring-up on version or MAX_TLU mismatch. -/
  | init (q : Nat) (body : List Byte)
  /-- APL_DATA_SEND (R110). The sender starts a DATA frame when credits, frame count and replay buffer room allow. -/
  | aplDataSend (q : Fin 16) (cls : Fin 5)
  /-- APL_REPLAY_TIMEOUT (R110). The replay timer expires and every held frame is resent. -/
  | aplReplayTimeout (q : Nat)
  /-- APL_INIT_TICK (R112). During bring-up each side sends INIT every 1 µs. -/
  | aplInitTick (q : Nat)
  /-- APL_CREDIT_TICK (R108). A receiver sends CREDIT at least every 10 µs while APL is up. -/
  | aplCreditTick (q : Nat)
  /-- APL_DOWN (R113). APL goes down, discards held frames, completes outstanding reads, quarantines tags and resets credits and sequences. -/
  | aplDown (q : Nat)
  /-- MWR (R103). An inbound memory write is translated by a peer window and issued, or discarded. -/
  | mwr (q : Fin 16) (addr : BitVec 64) (data : List Byte)
  /-- MRD (R105). An inbound memory read is translated and answered with CPLs, or with STATUS 0x1. -/
  | mrd (q : Fin 16) (tag : BitVec 10) (addr : BitVec 64) (len : BitVec 13)
  /-- CPL (R105). A completion for an MRD of the A6432 delivers data to its requester, or is discarded if its tag is quarantined. -/
  | cpl (q : Nat) (tag : BitVec 10) (status : BitVec 4) (remaining : Nat) (data : List Byte)
  /-- APL_MRD_TIMEOUT (R113). An MRD of the A6432 exceeds APL_CPL_TO and its tag is quarantined. -/
  | aplMrdTimeout (q : Nat) (tag : BitVec 10)
  /-- APL_TAG_QUARANTINE_END (R113). The quarantine of an APL tag ends after twice APL_CPL_TO. -/
  | aplTagQuarantineEnd (q : Nat) (tag : BitVec 10)
  /-- SPREAD (R119). A non-express frame receives a ferry number and is sent to an unfenced pipeline of its region. -/
  | spread (src : Nat)
  /-- EXPRESS_SPREAD (R121). An express frame is sent without a ferry number to its source's pinned pipeline. -/
  | expressSpread (src : Nat)
  /-- PIPELINE_PASS (R184). A header is parsed, passes 12 match-action stages and the editor, and emits its queue entries. -/
  | pipelinePass (p : Fin 64)
  /-- FAR_RESUME (R185). The far reply arrives and the parked header resumes on the resume lane at its stage. -/
  | farResume (p : Fin 64) (k : Nat)
  /-- FAR_TIMEOUT (R185). A far lookup unanswered after 880 ns is answered as a miss and counted. -/
  | farTimeout (p : Fin 64) (k : Nat)
  /-- LANDING_ENTRY_ARRIVE (R137). A queue entry arrives at an egress landing and is held or passed to admission. -/
  | landingEntryArrive (a d : Fin 4)
  /-- LANDING_WATERMARK_ARRIVE (R137). A new W arrives at a landing, which passes held entries in ferry order to queue admission. -/
  | landingWatermarkArrive (a d : Fin 4)
  /-- FORCED_HOLE (R138). The oldest unresolved frame of a sequence times out and receives a forced hole. -/
  | forcedHole (src : Nat)
  /-- CLS_RULE_WRITE (R131). A CLS_RULE_CMD WRITE applies a rule to the inactive bank, or is refused. -/
  | clsRuleWrite (mid : Mid) (r : Fin 16) (valid : Bool)
  /-- CLS_RULE_READ (R131). A CLS_RULE_CMD READ loads a rule into the data registers. -/
  | clsRuleRead (mid : Mid) (r : Fin 16)
  /-- CLS_PROF_WRITE (R131). A write of a CLS_PROF selector is stored for the inactive bank or refused. -/
  | clsProfWrite (mid : Mid) (r : Fin 16) (bank : Fin 2) (prof : Fin 16) (i : Fin 10) (v : Reg)
  /-- CLS_SWAP (R132). A GO to CLS_SWAP starts a bank swap whose boundary follows the ferry, or is refused during a swap. -/
  | clsSwap (mid : Mid) (r : Fin 16)
  /-- SWAP_DONE (R133). The last header stamped with the old bank leaves and DONE is set. -/
  | swapDone (r : Fin 16)
  /-- INSERT (R154). INSERT places a key in a free way, by one relocation, or in overflow. -/
  | insert (c : Fin 128) (n : Fin 64)
  /-- UPDATE (R161). UPDATE replaces RESULT and flags of an existing key in place. -/
  | update (c : Fin 128) (n : Fin 64)
  /-- UPSERT (R161). UPSERT updates a present key or inserts an absent one. -/
  | upsert (c : Fin 128) (n : Fin 64)
  /-- DELETE (R161). DELETE removes a key. -/
  | delete (c : Fin 128) (n : Fin 64)
  /-- TBL_READ (R161). READ returns an entry's RESULT, flags and GEN. -/
  | tblRead (c : Fin 128) (n : Fin 64)
  /-- WALK_FULL (R175). WALK_FULL starts a full walk of a table. -/
  | walkFull (c : Fin 128) (n : Fin 64)
  /-- WALK_DELTA (R177). WALK_DELTA starts a delta walk from FROM_GEN, or is refused as STALE_GEN. -/
  | walkDelta (c : Fin 128) (n : Fin 64)
  /-- FLUSH_LEARNED (R161). FLUSH_LEARNED removes every learned entry of a table. -/
  | flushLearned (c : Fin 128) (n : Fin 64)
  /-- TBL_PORT_LOCK (R163). LOCK on a table port reads TBL_LOCK with the thread's MID. -/
  | tblPortLock (c : Fin 128) (n : Fin 64)
  /-- TBL_PORT_UNLOCK (R163). UNLOCK on a table port writes TBL_LOCK with the thread's MID. -/
  | tblPortUnlock (c : Fin 128) (n : Fin 64)
  /-- TBL_CMD_BASE_WRITE (R165). A write of TBL_CMD_BASE_LO records CMD_OWNER, or is ignored while EN is 1. -/
  | tblCmdBaseWrite (mid : Mid) (r : Fin 16) (v : Reg)
  /-- TBL_CMD_CFG_WRITE (R167). A write of TBL_CMD_CFG.EN starts or stops command execution, subject to the owner rules. -/
  | tblCmdCfgWrite (mid : Mid) (r : Fin 16) (v : Reg)
  /-- TBL_CMD_DB (R165). A doorbell from CMD_OWNER announces commands, or is discarded as overrun or refused. -/
  | tblCmdDb (mid : Mid) (r : Fin 16) (v : Reg)
  /-- TBL_CMD_FETCH (R165). The mover fetches the command at CONS and accepts it only when OWN is 1, then executes and writes it back. -/
  | tblCmdFetch (r : Fin 16)
  /-- TBL_CMD_REFETCH (R165). The engine reads a command entry again 1 µs after finding OWN = 0. -/
  | tblCmdRefetch (r : Fin 16)
  /-- AGING_PASS_START (R158). A table's aging pass falls due and starts, or waits and is counted late. -/
  | agingPassStart (r : Nat)
  /-- AGING_VISIT (R157). The scanner examines an entry, clearing ACT, setting IDLE or removing it. -/
  | agingVisit (r : Nat)
  /-- LEARN_EXECUTE (R169). The learner inserts a learned key or updates a moved source and writes its record. -/
  | learnExecute (r : Nat)
  /-- LEARN_RING_STALL (R173). The learn ring stays full for STALL_MS and stops. -/
  | learnRingStall (r : Nat)
  /-- LRN_RING_RESTART (R173). A write of LRN_RING_LO restarts the ring at 0 and queues a LOST record. -/
  | lrnRingRestart (mid : Mid) (r : Nat) (v : Reg)
  /-- LRN_CONS_WRITE (R173). Software advances CONS, releasing a paused ring. -/
  | lrnConsWrite (mid : Mid) (r : Nat) (v : Reg)
  /-- WALK_VISIT (R175). The walker visits the next bucket or overflow entry and writes WALK records. -/
  | walkVisit (r : Nat)
  /-- WALK_ABORT (R175). A write of TBL_WALK.ABORT ends the walk at once with WALK_END. -/
  | walkAbort (mid : Mid) (r : Nat)
  /-- TABLE_ENABLE (R178). A write of TBL_DESC_CTL.EN = 1 checks the geometry and starts clearing, or is refused. -/
  | tableEnable (mid : Mid) (r slot : Nat) (v : Reg)
  /-- TABLE_CLEAR_DONE (R178). Clearing of a newly enabled table ends and EN reads 1. -/
  | tableClearDone (r slot : Nat)
  /-- TABLE_DISABLE (R178). A write of EN = 0 makes lookups miss from the ferry boundary. -/
  | tableDisable (mid : Mid) (r slot : Nat) (v : Reg)
  /-- PIPE_AS_WRITE (R207). A PIPE_AS_CMD WRITE replaces an action set in the region store. -/
  | pipeAsWrite (mid : Mid) (p : Fin 64)
  /-- PIPE_AS_READ (R207). A PIPE_AS_CMD READ loads an action set into PIPE_AS_DATA. -/
  | pipeAsRead (mid : Mid) (p : Fin 64)
  /-- PIPE_TPL_WRITE (R207). A PIPE_TPL_CMD WRITE replaces a template line. -/
  | pipeTplWrite (mid : Mid) (p : Fin 64)
  /-- PIPE_TPL_READ (R207). A PIPE_TPL_CMD READ loads a template line into PIPE_TPL_DATA. -/
  | pipeTplRead (mid : Mid) (p : Fin 64)
  /-- PIPE_CNT_FLUSH (R202). A GO to PIPE_CNT_FLUSH writes every changed counter pair to HBM3E. -/
  | pipeCntFlush (mid : Mid) (p : Fin 64)
  /-- COUNTER_WRITEBACK (R202). A changed counter pair is written to HBM3E within 10 µs or on eviction. -/
  | counterWriteback (r : Fin 16) (pair : BitVec 22)
  /-- TAG_VERDICT (R230). A decrypt's tag check completes, updating the replay window and carrying the verdict. -/
  | tagVerdict (p : Fin 64)
  /-- CONTEXT_FILL (R219). A context is filled into the region cache from the vault. -/
  | contextFill (r : Fin 16) (c : BitVec 24)
  /-- CONTEXT_MIGRATE (R220). A context held by another region is written back and migrated. -/
  | contextMigrate (r : Fin 16) (c : BitVec 24)
  /-- CIPHER_REQUEST (R233). A flow thread's AEAD or XTS request is worked in segments and answered. -/
  | cipherRequest (c : Fin 128) (n : Fin 64)
  /-- IMPORT (R237). IMPORT wraps a plaintext key into a blob. -/
  | importKey (mid : Mid) (p : PageKey) (h : BitVec 24)
  /-- GENERATE (R237). GENERATE wraps a random key into a blob. -/
  | generate (mid : Mid) (p : PageKey) (h : BitVec 24)
  /-- CU_LOAD (R224). LOAD unwraps a blob into a FREE context, or derives a key from a root. -/
  | cuLoad (mid : Mid) (p : PageKey) (h : BitVec 24)
  /-- SET_NEXT (R237). SET_NEXT links a successor context. -/
  | setNext (mid : Mid) (p : PageKey) (h : BitVec 24)
  /-- RETIRE (R228). RETIRE sets a context RETIRED. -/
  | retire (mid : Mid) (p : PageKey) (h : BitVec 24)
  /-- QUERY (R237). QUERY returns a context's STATE, USAGE and PSTATE. -/
  | query (mid : Mid) (p : PageKey) (h : BitVec 24)
  /-- RESYNC (R215). RESYNC sets the TCP and record sequence numbers of a TLS receive context. -/
  | resync (mid : Mid) (p : PageKey) (h : BitVec 24)
  /-- CONTEXT_FREED (R228). A retired context with no invocation in flight becomes FREE and writes FREED. -/
  | contextFreed (c : BitVec 24)
  /-- CU_EVT_POP (R237). A read of CU_EVT pops the oldest cipher event. -/
  | cuEvtPop (mid : Mid) (p : PageKey)
  /-- TOKEN_TICK (R247). On each 8 ns tick every shaper and policer bucket gains its rate. -/
  | tokenTick
  /-- OUTLET_SELECT (R249). An outlet that can start a frame selects one from the express queue and service nodes. -/
  | outletSelect (d : Fin 4) (o : Nat)
  /-- GATE_ENTRY_ADVANCE (R254). A gate list entry's interval ends and the next entry or cycle starts. -/
  | gateEntryAdvance (d : Fin 4) (o : Nat)
  /-- GATE_BANK_CHANGE (R255). A requested gate bank takes effect at the first cycle start at or after CHANGE_TIME. -/
  | gateBankChange (d : Fin 4) (o : Nat)
  /-- SCHED_NODE_WRITE (R250). A node record WRITE is applied whole or refused. -/
  | schedNodeWrite (mid : Mid) (d : Fin 4)
  /-- SCHED_NODE_READ (R266). A node record READ loads SCHED_NODE_DATA. -/
  | schedNodeRead (mid : Mid) (d : Fin 4)
  /-- SCHED_OUT_WRITE (R266). An outlet record WRITE is applied or refused. -/
  | schedOutWrite (mid : Mid) (d : Fin 4)
  /-- SCHED_OUT_READ (R266). An outlet record READ loads SCHED_OUT_DATA. -/
  | schedOutRead (mid : Mid) (d : Fin 4)
  /-- SCHED_GATE_WRITE (R266). A gate store WRITE stores a gate entry. -/
  | schedGateWrite (mid : Mid) (d : Fin 4)
  /-- SCHED_GATE_READ (R266). A gate store READ loads a gate entry. -/
  | schedGateRead (mid : Mid) (d : Fin 4)
  /-- PLCR_WRITE (R253). A policer record WRITE refills both buckets or is refused. -/
  | plcrWrite (mid : Mid) (d : Fin 4)
  /-- PLCR_READ (R267). A policer record READ returns the record and token counts. -/
  | plcrRead (mid : Mid) (d : Fin 4)
  /-- ARB_DRAW (R259). A lottery arbiter draws among eligible requesters and steps its LFSR. -/
  | arbDraw (r : Fin 16) (a : Fin 3) (ask : BitVec 16)
  /-- BACKOFF_EXPIRE (R260). A losing requester's back-off expires and it becomes eligible again. -/
  | backoffExpire (r : Fin 16) (a : Fin 3) (q : Fin 16)
  /-- FORD_GRANT (R262). The ford grants an express request a free or preempted unit ahead of every draw. -/
  | fordGrant (r : Fin 16) (a : Fin 3)
  /-- ARB_SEED (R259). A write of ARB_SEED loads the arbiter's LFSR. -/
  | arbSeed (mid : Mid) (r : Fin 16) (a : Fin 3) (v : Reg)
  /-- ARB_MASK (R260). A requester in reset or dark is masked and its request withdrawn. -/
  | arbMask (r : Fin 16) (a : Fin 3)
  /-- PERST_ASSERT (R282). PERST_N asserted resets the endpoint's link, configuration, instances and IDE. -/
  | perstAssert (e : Fin 32)
  /-- PERST_DEASSERT (R283). PERST_N deasserted starts link training and the wait for CFG_READY. -/
  | perstDeassert (e : Fin 32)
  /-- CFG_READY (R283). CFG_READY becomes 1 at the later of 80 ms after deassertion and the endpoint release. -/
  | cfgReady (e : Fin 32)
  /-- HOT_RESET (R282). A hot reset or DL_Down resets the endpoint as a fundamental reset does. -/
  | hotReset (e : Fin 32) (removed : Bool)
  /-- DL_UP (R275). The endpoint link trains and reaches DL_Up. -/
  | dlUp (e : Fin 32) (speed : Fin 6) (width : Fin 3) (flit : Bool)
  /-- PF_FLR (R282). Initiate FLR in a PF resets it, its instance and all its VFs. -/
  | pfFlr (e : Fin 32) (p : Fin 2)
  /-- VF_FLR (R282). Initiate FLR in a VF resets that VF and its instance. -/
  | vfFlr (e : Fin 32) (f : Byte)
  /-- FLR_COMPLETE (R284). The function under FLR is reset and ready within 100 ms. -/
  | flrComplete (e : Fin 32) (f : Byte)
  /-- EP_RESET (R282). A write of EP_CTL.EP_RESET resets the endpoint and its pages and lifts its fence. -/
  | epReset (mid : Mid) (e : Fin 32)
  /-- CONFIG_REQUEST (R283). A configuration request completes, or with RRS until the function is ready. -/
  | configRequest (e : Fin 32) (f : Byte) (off : BitVec 12) (write : Option Reg)
  /-- D_STATE_CHANGE (R278). A function enters or leaves D3 and stops or resumes fetching. -/
  | dStateChange (e : Fin 32) (f : Byte) (d3 : Bool)
  /-- LINK_PM_ENTRY (R277). The endpoint enters L0p or L1 after its idle time when enabled. -/
  | linkPmEntry (e : Fin 32) (target : Fin 6) (light off : Bool)
  /-- LINK_PM_EXIT (R277). A TLP, DLLP or partner exit returns the link to L0. -/
  | linkPmExit (e : Fin 32)
  /-- LTR_SEND (R279). The endpoint sends an LTR message after a change of EP_LINK_LTR or link-up. -/
  | ltrSend (e : Fin 32)
  /-- HOST_READ_ISSUE (R286). A read to host memory is issued once a tag and completion buffer room are reserved. -/
  | hostReadIssue (e : Fin 32) (tag : BitVec 14)
  /-- HOST_COMPLETION (R288). A host completion delivers data, maps an error status, or is discarded as unexpected. -/
  | hostCompletion (e : Fin 32) (tag : BitVec 14) (fn : BitVec 8) (status : BitVec 3) (poisoned : Bool) (hdr : BitVec 128) (data : List Byte)
  /-- HOST_READ_TIMEOUT (R287). A read whose completion is still owed at the timeout fails and its tag is quarantined. -/
  | hostReadTimeout (e : Fin 32) (tag : BitVec 14)
  /-- TAG_QUARANTINE_END (R287). A quarantined endpoint tag becomes free after twice the timeout. -/
  | tagQuarantineEnd (e : Fin 32) (tag : BitVec 14)
  /-- DOE_OBJECT (R293). A DOE data object is received and answered by OMC firmware. -/
  | doeObject (e : Fin 32) (type : Byte) (body : List Byte) (km : IdeKm)
  /-- IDE_CHECK_FAIL (R294). A TLP failing IDE integrity is discarded and moves its stream to Insecure and its TDIs to ERROR. -/
  | ideCheckFail (e : Fin 32) (sel : Bool) (stream : Byte)
  /-- LOCK_INTERFACE (R296). LOCK_INTERFACE moves a TDI to CONFIG_LOCKED. -/
  | lockInterface (e : Fin 32) (f stream : Byte)
  /-- START_INTERFACE (R296). START_INTERFACE moves a TDI to RUN. -/
  | startInterface (e : Fin 32) (f : Byte)
  /-- STOP_INTERFACE (R296). STOP_INTERFACE returns a TDI to CONFIG_UNLOCKED. -/
  | stopInterface (e : Fin 32) (f : Byte)
  /-- GET_DEVICE_INTERFACE_REPORT (R295). The TDISP interface report is returned. -/
  | getDeviceInterfaceReport (e : Fin 32) (f : Byte)
  /-- GET_DEVICE_INTERFACE_STATE (R295). The TDI state is returned. -/
  | getDeviceInterfaceState (e : Fin 32) (f : Byte)
  /-- GET_TDISP_VERSION (R295). The TDISP version is returned. -/
  | getTdispVersion (e : Fin 32)
  /-- GET_TDISP_CAPABILITIES (R295). The TDISP capabilities are returned. -/
  | getTdispCapabilities (e : Fin 32)
  /-- PWIN_COMMIT (R299). A GO to PWIN_COMMIT sets COMMIT_PENDING or is refused. -/
  | pwinCommit (mid : Mid) (q : Fin 16)
  /-- PWIN_BANK_SWITCH (R299). The active window bank changes at the next APL header boundary. -/
  | pwinBankSwitch (q : Fin 16)
  /-- CREATE (R307). IADM CREATE checks and grants resources, putting the instance in READY. -/
  | create (mid : Mid) (e : Fin 32) (p : Fin 2)
  /-- DESTROY (R316). IADM DESTROY starts an abort drain of the instance. -/
  | destroy (mid : Mid) (e : Fin 32) (p : Fin 2)
  /-- QUIESCE (R316). IADM QUIESCE starts a finish drain of a running instance. -/
  | quiesce (mid : Mid) (e : Fin 32) (p : Fin 2)
  /-- IADM_QUERY (R316). IADM QUERY loads the instance's grant into the IADM registers. -/
  | iadmQuery (mid : Mid) (e : Fin 32) (p : Fin 2)
  /-- ICTL_ENABLE (R308). A write of ICTL_CTL.ENABLE moves READY to RUN, starts a finish drain, or is refused. -/
  | ictlEnable (mid : Mid) (e : Fin 32) (f : BitVec 8) (on : Bool)
  /-- DRAIN_END (R310). The drain ends when no work remains and DRAINED is set. -/
  | drainEnd (e : Fin 32) (f : BitVec 8)
  /-- POOL_WRITE (R306). An OMC write of a PF pool total or context range is applied or ignored. -/
  | poolWrite (mid : Mid) (e : Fin 32) (p : Fin 2) (i : Fin 4) (v : Reg)
  /-- MSG_WRITE (R319). A write of a mailbox MSG register by the sender, overwriting and setting COLLISION on a FULL half. -/
  | msgWrite (mid : Mid) (p : PageKey) (b : Nat) (i : Fin 16) (v : Reg)
  /-- SEND (R319). A GO to SEND posts the message, sets FULL and interrupts the receiver. -/
  | send (mid : Mid) (p : PageKey) (b : Nat) (len : Fin 16)
  /-- TAKE (R319). A read of TAKE returns and clears FULL and COLLISION and acknowledges the sender. -/
  | take (mid : Mid) (p : PageKey) (b : Nat)
  /-- CROSS (R321). Both halves FULL for more than 1 µs sets CROSS in both halves. -/
  | cross (p : PageKey) (b : Nat)
  /-- MBXW_RETRACT (R322). A manager's retract clears the selected instance's DOWN FULL. -/
  | mbxwRetract (mid : Mid) (e : Fin 32) (p : Fin 2)
  /-- BIND_WRITE (R324). A BIND_CMD WRITE stores a channel binding or is refused. -/
  | bindWrite (mid : Mid)
  /-- BIND_READ (R324). A BIND_CMD READ loads a binding into BIND_DATA. -/
  | bindRead (mid : Mid)
  /-- RCFG_WRITE (R327). A ring record WRITE is checked and applied whole, enabling or disabling the ring. -/
  | rcfgWrite (mid : Mid) (e : Fin 32) (f : BitVec 8) (port : Fin 4)
  /-- RCFG_READ (R327). A ring record READ loads RCFG_DATA. -/
  | rcfgRead (mid : Mid) (e : Fin 32) (f : BitVec 8) (port : Fin 4)
  /-- DOORBELL (R334). A doorbell advances P or C, or is ignored as stale or discarded as overrun. -/
  | doorbell (mid : Mid) (e : Fin 32) (f : BitVec 8) (n : Fin 8) (v : Word)
  /-- DESC_FETCH (R336). The mover reserves a completion slot and fetches descriptors, stopping at an entry with OWN = 0. -/
  | descFetch (r : Fin 16)
  /-- DESC_REFETCH (R335). The mover reads an entry again 1 µs after finding OWN = 0. -/
  | descRefetch (e : Fin 32) (f : BitVec 8) (h : BitVec 16)
  /-- SEND_DESC (R340). A SEND descriptor's payload is read into the buffer and the frame enters the pipeline. -/
  | sendDesc (e : Fin 32) (f : BitVec 8) (h : BitVec 16)
  /-- SEND_TLS (R215). A SEND_TLS descriptor encrypts one TLS record and sends it in segments. -/
  | sendTls (e : Fin 32) (f : BitVec 8) (h : BitVec 16)
  /-- RX_BUF (R343). An RX_BUF descriptor supplies a receive buffer to the ring's prefetch. -/
  | rxBuf (e : Fin 32) (f : BitVec 8) (h : BitVec 16)
  /-- CQE_WRITE (R331). A descriptor completes: SQE write-back, CQE and MSI-X are written in order. -/
  | cqeWrite (e : Fin 32)
  /-- RX_DELIVER (R344). A selected receive frame is written into prefetched buffers followed by its CQEs. -/
  | rxDeliver (e : Fin 32)
  /-- IRQ_TIMER (R347). A moderation timer expires and the ring sends its MSI-X vector. -/
  | irqTimer (e : Fin 32) (f : BitVec 8) (h : BitVec 16)
  /-- RING_IDLE (R350). A disabled work ring's HELD reaches 0, IDLE is set and it leaves BOUND. -/
  | ringIdle (e : Fin 32) (f : BitVec 8) (h : BitVec 16)
  /-- DMA_COPY (R358). COPY moves bytes from source to destination through the funnel. -/
  | dmaCopy (r : Fin 16) (k : Fin 64)
  /-- DMA_FILL (R358). FILL writes a repeating pattern to the destination. -/
  | dmaFill (r : Fin 16) (k : Fin 64)
  /-- DMA_COMPARE (R358). COMPARE reads two sources and reports the first difference. -/
  | dmaCompare (r : Fin 16) (k : Fin 64)
  /-- DMA_COMPLETE (R365). A transfer completes when its writes are applied, then writes back or replies. -/
  | dmaComplete (r : Fin 16) (k : Fin 64)
  /-- DMACH_DB (R366). A doorbell on DMACH_DB announces ring descriptors. -/
  | dmachDb (mid : Mid) (r : Fin 16) (k : Fin 64) (v : BitVec 16)
  /-- DMACH_ABORT (R372). ABORT ends the transfer in progress with ABORTED and halts a ring channel. -/
  | dmachAbort (mid : Mid) (r : Fin 16) (k : Fin 64)
  /-- DMACH_RESUME (R372). RESUME restarts a HALTED ring channel at its next descriptor. -/
  | dmachResume (mid : Mid) (r : Fin 16) (k : Fin 64)
  /-- DMACH_ENABLE (R375). A write of DMACH_CTL.EN starts or stops the channel. -/
  | dmachEnable (mid : Mid) (r : Fin 16) (k : Fin 64) (v : Reg)
  /-- THREAD_ENABLE (R377). A write of FCORE_THR_CTL.EN starts a thread at START_PC or disables it. -/
  | threadEnable (mid : Mid) (c : Fin 128) (i : Fin 64) (v : Reg)
  /-- HQ_NOP (R418). Holquasol NOP does nothing. -/
  | hqNop (c : Fin 128) (i : Fin 64)
  /-- ADD (R418). ADD writes gS1 plus op2. -/
  | add (c : Fin 128) (i : Fin 64)
  /-- SUB (R418). SUB writes gS1 minus op2. -/
  | sub (c : Fin 128) (i : Fin 64)
  /-- AND (R418). AND writes the bitwise AND. -/
  | and (c : Fin 128) (i : Fin 64)
  /-- OR (R418). OR writes the bitwise OR. -/
  | or (c : Fin 128) (i : Fin 64)
  /-- XOR (R418). XOR writes the bitwise XOR. -/
  | xor (c : Fin 128) (i : Fin 64)
  /-- SHL (R418). SHL shifts left. -/
  | shl (c : Fin 128) (i : Fin 64)
  /-- SHR (R418). SHR shifts right logically. -/
  | shr (c : Fin 128) (i : Fin 64)
  /-- SAR (R418). SAR shifts right arithmetically. -/
  | sar (c : Fin 128) (i : Fin 64)
  /-- CMPEQ (R418). CMPEQ tests equality. -/
  | cmpeq (c : Fin 128) (i : Fin 64)
  /-- CMPLTU (R418). CMPLTU tests unsigned less than. -/
  | cmpltu (c : Fin 128) (i : Fin 64)
  /-- CMPLT (R418). CMPLT tests signed less than. -/
  | cmplt (c : Fin 128) (i : Fin 64)
  /-- MUL (R418). MUL writes the low 64 bits of the product. -/
  | mul (c : Fin 128) (i : Fin 64)
  /-- MULHU (R418). MULHU writes the high 64 bits of the unsigned product. -/
  | mulhu (c : Fin 128) (i : Fin 64)
  /-- BSWAP (R418). BSWAP reverses the bytes. -/
  | bswap (c : Fin 128) (i : Fin 64)
  /-- EXTR (R418). EXTR extracts a bit field. -/
  | extr (c : Fin 128) (i : Fin 64)
  /-- POPC (R418). POPC counts one bits. -/
  | popc (c : Fin 128) (i : Fin 64)
  /-- CLZ (R418). CLZ counts leading zero bits. -/
  | clz (c : Fin 128) (i : Fin 64)
  /-- MOV (R418). MOV writes op2. -/
  | mov (c : Fin 128) (i : Fin 64)
  /-- MOVH (R418). MOVH writes the upper 32 bits. -/
  | movh (c : Fin 128) (i : Fin 64)
  /-- CMOV (R418). CMOV writes op2 if gS1 is non-zero. -/
  | cmov (c : Fin 128) (i : Fin 64)
  /-- MFS (R419). MFS reads a special register. -/
  | mfs (c : Fin 128) (i : Fin 64)
  /-- LD1 (R420). LD1 loads one byte from cluster memory. -/
  | ld1 (c : Fin 128) (i : Fin 64) (ecc : Bool)
  /-- LD2 (R420). LD2 loads two bytes. -/
  | ld2 (c : Fin 128) (i : Fin 64) (ecc : Bool)
  /-- LD4 (R420). LD4 loads four bytes. -/
  | ld4 (c : Fin 128) (i : Fin 64) (ecc : Bool)
  /-- LD8 (R420). LD8 loads eight bytes. -/
  | ld8 (c : Fin 128) (i : Fin 64) (ecc : Bool)
  /-- ST1 (R420). ST1 stores one byte. -/
  | st1 (c : Fin 128) (i : Fin 64)
  /-- ST2 (R420). ST2 stores two bytes. -/
  | st2 (c : Fin 128) (i : Fin 64)
  /-- ST4 (R420). ST4 stores four bytes. -/
  | st4 (c : Fin 128) (i : Fin 64)
  /-- ST8 (R420). ST8 stores eight bytes. -/
  | st8 (c : Fin 128) (i : Fin 64)
  /-- CAS8 (R420). CAS8 compares and swaps a 64-bit word atomically. -/
  | cas8 (c : Fin 128) (i : Fin 64)
  /-- FADD8 (R420). FADD8 fetches and adds a 64-bit word atomically. -/
  | fadd8 (c : Fin 128) (i : Fin 64)
  /-- CHW (R384). CHW stages a word of a channel message. -/
  | chw (c : Fin 128) (i : Fin 64)
  /-- CHC (R385). CHC commits the staged message whole, or blocks for room. -/
  | chc (c : Fin 128) (i : Fin 64)
  /-- CHR (R386). CHR takes the head message of a channel, or blocks until one arrives. -/
  | chr (c : Fin 128) (i : Fin 64)
  /-- CHP (R418). CHP returns the number of waiting messages. -/
  | chp (c : Fin 128) (i : Fin 64)
  /-- UCALL (R421). UCALL commits a unit request and reads its reply in one word. -/
  | ucall (c : Fin 128) (i : Fin 64)
  /-- LDP (R422). LDP reads a register page over the lantern bus. -/
  | ldp (c : Fin 128) (i : Fin 64)
  /-- STP (R422). STP writes a register page over the lantern bus. -/
  | stp (c : Fin 128) (i : Fin 64)
  /-- BR (R418). BR branches by DISP. -/
  | br (c : Fin 128) (i : Fin 64)
  /-- BEQ (R418). BEQ branches if equal. -/
  | beq (c : Fin 128) (i : Fin 64)
  /-- BNE (R418). BNE branches if not equal. -/
  | bne (c : Fin 128) (i : Fin 64)
  /-- BLTU (R418). BLTU branches if unsigned less. -/
  | bltu (c : Fin 128) (i : Fin 64)
  /-- BGEU (R418). BGEU branches if unsigned greater or equal. -/
  | bgeu (c : Fin 128) (i : Fin 64)
  /-- BLT (R418). BLT branches if signed less. -/
  | blt (c : Fin 128) (i : Fin 64)
  /-- BGE (R418). BGE branches if signed greater or equal. -/
  | bge (c : Fin 128) (i : Fin 64)
  /-- CALL (R418). CALL links and branches. -/
  | call (c : Fin 128) (i : Fin 64)
  /-- JR (R418). JR jumps to a register address. -/
  | jr (c : Fin 128) (i : Fin 64)
  /-- TRAP (R418). TRAP faults the thread with a code. -/
  | trap (c : Fin 128) (i : Fin 64)
  /-- BARRIER_WORD_DONE (R423). The fabric barrier of a BARRIER word completes and the thread leaves BLOCKED_MEM. -/
  | barrierWordDone (c : Fin 128) (i : Fin 64)
  /-- BUDGET (R435). A lease thread's cycle count would exceed its budget and it faults. -/
  | budget (c : Fin 128) (i : Fin 64)
  /-- UNIT_REPLY (R391). A unit's reply enters its reserved slot in the requesting channel. -/
  | unitReply (c : Fin 128) (n : Fin 64)
  /-- REMOTE_COMMIT_DELIVER (R385). A remote commit is delivered to the target inbound channel or inbound queue. -/
  | remoteCommitDeliver (c : Fin 128) (i : Fin 64)
  /-- INBOUND_DELIVER (R395). A waiting inbound-queue message is delivered when its cluster is lit and a slot frees. -/
  | inboundDeliver (c : Fin 128) (n : Fin 64)
  /-- MEMPORT_READ (R392). A memory-port READ returns data from a target space. -/
  | memportRead (c : Fin 128) (n : Fin 64)
  /-- MEMPORT_WRITE (R392). A memory-port WRITE stores data to a target space. -/
  | memportWrite (c : Fin 128) (n : Fin 64)
  /-- MEMPORT_CPL (R455). A memory-port CPL writes an NVMe CQE into its reserved slot and frees the command slot. -/
  | memportCpl (c : Fin 128) (n : Fin 64)
  /-- FREE (R393). FREE frees an owned packet buffer. -/
  | free (c : Fin 128) (n : Fin 64)
  /-- ALLOC (R393). ALLOC allocates a packet buffer. -/
  | alloc (c : Fin 128) (n : Fin 64)
  /-- INJECT (R393). INJECT sends an owned buffer to a pipeline or directly to admission. -/
  | inject (c : Fin 128) (n : Fin 64)
  /-- OPEN (R406). OPEN starts a CRC computation on a check channel. -/
  | openChk (c : Fin 128) (n : Fin 64)
  /-- FEED (R406). FEED feeds items to an open check channel, with alive checking. -/
  | feed (c : Fin 128) (n : Fin 64)
  /-- FEED_MEM (R406). FEED_MEM feeds cluster-memory bytes to an open check channel. -/
  | feedMem (c : Fin 128) (n : Fin 64)
  /-- CLOSE (R408). CLOSE finishes the CRC, compares it and replies. -/
  | closeChk (c : Fin 128) (n : Fin 64)
  /-- STILL_WATER (R396). The still-water count reaches 4,096 and the detector fires once. -/
  | stillWater (c : Fin 128)
  /-- CHAN_BIND_WRITE (R389). A write of a channel binding binds it, turns it OFF with discards, or is refused. -/
  | chanBindWrite (mid : Mid) (c : Fin 128) (n : Fin 64) (v : Reg) (v2 : Option Reg)
  /-- CHAN_OMC_SEND (R395). A GO to CHAN_OMC_SEND commits an OMC message to a channel or is refused. -/
  | chanOmcSend (mid : Mid) (c : Fin 128) (n : Fin 64) (lenM1 : Fin 8)
  /-- ATTACH (R399). A write of CDBG_SESSION.ATTACH attaches or detaches a debug session. -/
  | attach (mid : Mid) (c : Fin 128) (on : Bool)
  /-- HALT (R399). HALT stops the selected thread at its next word boundary. -/
  | halt (mid : Mid) (c : Fin 128)
  /-- RESUME (R399). RESUME restarts a halted thread. -/
  | resume (mid : Mid) (c : Fin 128)
  /-- STEP (R399). STEP runs one word of a halted thread. -/
  | step (mid : Mid) (c : Fin 128)
  /-- DISCARD (R401). DISCARD frees a halted thread's staging slot without commit. -/
  | discard (mid : Mid) (c : Fin 128)
  /-- COMMIT (R402). COMMIT commits a halted thread's staged words as its CHC would. -/
  | commit (mid : Mid) (c : Fin 128)
  /-- CDBG_REG_WRITE (R399). A write of CDBG_REG changes a halted thread's register. -/
  | cdbgRegWrite (mid : Mid) (c : Fin 128) (hi : Bool) (v : Reg)
  /-- CMEM_WINDOW_ACCESS (R381). An access through the cluster-memory window wakes the cluster and completes. -/
  | cmemWindowAccess (mid : Mid) (c : Fin 128) (a : Fin 1048576) (wide : Bool) (write : Option Word)
  /-- CS_WINDOW_WRITE (R426). A control-store window write stages or stores a 128-bit word, or is refused. -/
  | csWindowWrite (mid : Mid) (c : Fin 128) (w : Fin 32768) (o : Fin 4) (wide : Bool) (v : Word)
  /-- LEASE_ENABLE (R429). A write of LSE_CTL.EN = 1 checks the grants and puts the lease in LOADED, or is refused. -/
  | leaseEnable (mid : Mid) (c : Fin 128) (l : Fin 16) (key : Fin 4)
  /-- LEASE_REVOKE (R431). A write of LSE_CTL.EN = 0 disables the lease's threads and returns it to IDLE. -/
  | leaseRevoke (mid : Mid) (c : Fin 128) (l : Fin 16) (key : Fin 4)
  /-- LEASE_STOP (R436). A lease stops on its first failure or an OMC STOP, with the effects of R437. -/
  | leaseStop (mid : Mid) (c : Fin 128) (l : Fin 16) (key : Fin 4)
  /-- LEASE_RESTART (R438). RESTART on a STOPPED lease empties its channels and returns it to LOADED. -/
  | leaseRestart (mid : Mid) (c : Fin 128) (l : Fin 16) (key : Fin 4)
  /-- VLOCK (R427). A write of LEASE_PART.VLOCK locks the vendor partition. -/
  | vlock (mid : Mid) (c : Fin 128) (v : Reg)
  /-- CS_REPAIR (R447). A GO to CS_REPAIR_CMD rewrites a vendor word and logs the repair. -/
  | csRepair (mid : Mid) (c : Fin 128) (w : Fin 32768)
  /-- SCRUB_PASS (R446). The scrubber reads every control-store word once per SCRUB_MS and records parity errors. -/
  | scrubPass (c : Fin 128) (bad : List (Fin 32768))
  /-- VENDOR_PATCH_LOAD (R443). OMC firmware loads the vendor patch into every cluster and sets VLOCK. -/
  | vendorPatchLoad
  /-- NVME_CC_ENABLE (R451). A write of CC.EN enables the controller or starts a drain. -/
  | nvmeCcEnable (mid : Mid) (e : Fin 32) (f : BitVec 8) (on : Bool)
  /-- NVME_SHUTDOWN (R451). A write of CC.SHN starts a drain that ends with SHST complete. -/
  | nvmeShutdown (mid : Mid) (e : Fin 32) (f : BitVec 8) (abrupt : Bool)
  /-- NVME_SQ_DOORBELL (R453). An SQ tail doorbell advances the tail or is discarded with an asynchronous event. -/
  | nvmeSqDoorbell (mid : Mid) (e : Fin 32) (f : BitVec 8) (y : Fin 65) (v : BitVec 16)
  /-- NVME_CQ_DOORBELL (R453). A CQ head doorbell frees completions or is discarded with an asynchronous event. -/
  | nvmeCqDoorbell (mid : Mid) (e : Fin 32) (f : BitVec 8) (y : Fin 65) (v : BitVec 16)
  /-- NVME_FETCH (R452). The mover copies an SQE into a command slot and sends a work message. -/
  | nvmeFetch (e : Fin 32) (f : BitVec 8)
  /-- CREATE_IO_SQ (R454). Create I/O Submission Queue succeeds or fails with Invalid Queue Size. -/
  | createIoSq (e : Fin 32) (f : BitVec 8) (i : BitVec 12)
  /-- CREATE_IO_CQ (R449). Create I/O Completion Queue creates a completion queue. -/
  | createIoCq (e : Fin 32) (f : BitVec 8) (i : BitVec 12)
  /-- DELETE_IO_SQ (R465). Delete I/O Submission Queue completes unsent commands and waits for sent ones. -/
  | deleteIoSq (e : Fin 32) (f : BitVec 8) (i : BitVec 12)
  /-- DELETE_IO_CQ (R465). Delete I/O Completion Queue fails while an SQ is bound. -/
  | deleteIoCq (e : Fin 32) (f : BitVec 8) (i : BitVec 12)
  /-- ABORT (R464). Abort ends an unsent fetched command or reports that it could not. -/
  | abort (e : Fin 32) (f : BitVec 8) (i : BitVec 12)
  /-- IDENTIFY (R449). Identify returns controller or namespace data. -/
  | identify (e : Fin 32) (f : BitVec 8) (i : BitVec 12) (list : List Byte)
  /-- GET_LOG_PAGE (R449). Get Log Page returns a supported log. -/
  | getLogPage (e : Fin 32) (f : BitVec 8) (i : BitVec 12) (list : List Byte)
  /-- SET_FEATURES (R456). Set Features sets a supported feature. -/
  | setFeatures (e : Fin 32) (f : BitVec 8) (i : BitVec 12)
  /-- GET_FEATURES (R449). Get Features returns a supported feature. -/
  | getFeatures (e : Fin 32) (f : BitVec 8) (i : BitVec 12)
  /-- ASYNC_EVENT_REQUEST (R449). An Asynchronous Event Request waits for an event. -/
  | asyncEventRequest (e : Fin 32) (f : BitVec 8) (i : BitVec 12)
  /-- NVME_READ (R459). Read fetches data from the backend and writes it to the host with PI handling. -/
  | nvmeRead (e : Fin 32) (f : BitVec 8) (i : BitVec 12) (list : List Byte) (ev : Backend)
  /-- NVME_WRITE (R459). Write reads host data, handles PI and XTS and sends it to the backend. -/
  | nvmeWrite (e : Fin 32) (f : BitVec 8) (i : BitVec 12) (list : List Byte) (host : Option (List Byte)) (ev : Backend)
  /-- FLUSH (R449). Flush is passed to the backend. -/
  | flush (e : Fin 32) (f : BitVec 8) (i : BitVec 12) (ev : Backend)
  /-- WRITE_ZEROES (R449). Write Zeroes is passed to the backend. -/
  | writeZeroes (e : Fin 32) (f : BitVec 8) (i : BitVec 12) (ev : Backend)
  /-- DATASET_MANAGEMENT (R449). Dataset Management with Deallocate is passed to the backend. -/
  | datasetManagement (e : Fin 32) (f : BitVec 8) (i : BitVec 12) (host : Option (List Byte)) (ev : Backend)
  /-- NS_ATTACH (R457). An ATTACH message attaches a namespace to a controller. -/
  | nsAttach (e : Fin 32) (ch : Fin 64)
  /-- NS_DETACH (R458). A DETACH message stops new commands for a namespace and replies when fetched ones finish. -/
  | nsDetach (e : Fin 32) (ch : Fin 64)
  /-- NS_QUERY (R457). A QUERY message returns a namespace attachment. -/
  | nsQuery (e : Fin 32) (ch : Fin 64)
  /-- BACKEND_DIGEST_FAIL (R462). A digest or ICRC failure resets the backend queue and reissues commands once. -/
  | backendDigestFail (n : BitVec 12) (q : Fin 64)
  /-- SESSION_TIMEOUT (R463). A backend command exceeds the session timeout and completes with Transient Transport Error. -/
  | sessionTimeout (e : Fin 32) (f : BitVec 8) (i : BitVec 12)
  /-- FAB_REPLAY (R468). A fabric word fails parity, the receiver NAKs and the sender replays. -/
  | fabReplay (tx rx : Fin 13) (hop : BitVec 16) (n : Fin 9)
  /-- ECC_SCRUB (R470). The SECDED scrubber reads every word of a lit array once per second. -/
  | eccScrub (found : List (EccHit × Bool))
  /-- FAULT_REPORT (R475). A collector accepts a fault report, updates its accused table, forwards first causes and applies fences. -/
  | faultReport (reporter : BitVec 16) (hw : Option HwFault)
  /-- STORM_SUMMARY (R476). At each 10 µs multiple, grown entries forward STORM or OVERFLOW summaries. -/
  | stormSummary (p : PageKey)
  /-- ENTRY_IDLE_FREE (R476). An accused entry without reports for IDLE_MS is freed. -/
  | entryIdleFree (p : PageKey) (i : Fin 64)
  /-- FLT_CLR (R476). A GO to FLT_CLR frees one or all accused entries. -/
  | fltClr (mid : Mid) (p : PageKey) (all : Bool) (u : BitVec 16)
  /-- FLT_FENCE (R475). A GO to FLT_FENCE fences a unit as a report of the given class would. -/
  | fltFence (mid : Mid) (p : PageKey) (cls : Byte) (u : BitVec 16)
  /-- LOG_RECORD_POST (R480). A log record enters staging, coalesces or is dropped. -/
  | logRecordPost (source : UnitPath) (severity : Fin 4) (family : Byte) (code : BitVec 16) (count : Nat) (data : List Byte)
  /-- LOG_WRITE (R481). The log writer moves the oldest staged record, after any LOST record, into the log ring. -/
  | logWrite
  /-- LOG_POST (R483). A GO to LOG_POST posts a log or trace record from the OMC. -/
  | logPost (mid : Mid) (trace : Bool)
  /-- ADVANCE_LC (R492). ADVANCE_LC blows the fuses of the next lifecycle state. -/
  | advanceLc (mid : Mid) (target : BitVec 4) (got : BitVec 2)
  /-- ENROL (R510). ENROL writes an operator key hash into an empty slot. -/
  | enrol (mid : Mid) (slot : BitVec 4) (debug ok : Bool)
  /-- REVOKE (R510). REVOKE revokes an operator slot. -/
  | revoke (mid : Mid) (slot : BitVec 4) (ok : Bool)
  /-- BURN_FW_SVN (R510). BURN_FW_SVN raises the firmware SVN minimum. -/
  | burnFwSvn (mid : Mid) (ok : Bool)
  /-- BURN_PATCH_SVN (R510). BURN_PATCH_SVN raises the patch SVN minimum. -/
  | burnPatchSvn (mid : Mid) (ok : Bool)
  /-- DBG_NONCE (R499). A write of SEC_DBG_REQ.NONCE draws a fresh nonce and empties the FIFO. -/
  | dbgNonce (mid : Mid)
  /-- DBG_FIFO_WRITE (R499). A write of SEC_DBG_FIFO appends 4 token bytes. -/
  | dbgFifoWrite (mid : Mid) (v : Reg)
  /-- DBG_GO (R500). GO verifies the debug token and unlocks its scope or refuses it. -/
  | dbgGo (mid : Mid)
  /-- RELOCK (R501). A write of RELOCK ends the unlock and every debug-port session. -/
  | relock (mid : Mid)
  /-- FUSE_COMPARE (R489). Once per second the fuse fields are compared with their redundant copies. -/
  | fuseCompare (agree : Bool)
  /-- ALARM_FIRE (R504). An alarm source fires, latches its beacon and raises the package alarm level. -/
  | alarmFire (src : BitVec 4)
  /-- ALARM_PULSE_END (R506). The 1 µs ALARM_N pulse of an A1 latch ends. -/
  | alarmPulseEnd
  /-- ALMAP_LATCH_CLEAR (R506). A write of 1 to ALMAP_LATCH clears an A1 latch and its count. -/
  | almapLatchClear (mid : Mid) (v : Reg)
  /-- ISO_WINDOW_START (R508). At each WINDOW_MS multiple the isolation count returns to 0. -/
  | isoWindowStart
  /-- BOOT_EP_RELEASE (R519). A write of BOOT_EP_RELEASE.RELEASE releases the endpoints. -/
  | bootEpRelease (mid : Mid)
  /-- KICK (R521). A write of OMC_WDT.KICK restarts the watchdog count. -/
  | kick (mid : Mid)
  /-- WDT_WARN (R521). Half the watchdog timeout passes without KICK. -/
  | wdtWarn
  /-- OMC_RESTART (R521). The watchdog expires, the OMC domain resets and the boot agent runs a warm start or halts. -/
  | omcRestart
  /-- BANK_GOOD (R523). 60 s after endpoint release without watchdog expiry the running bank is marked GOOD. -/
  | bankGood
  /-- SENSOR_REFRESH (R526). Every 1 ms the sensors refresh, with TEMP_WARN, TEMP alarm and THERM_TRIP_N as thresholds are crossed. -/
  | sensorRefresh (vals : List (Nat × Reg))
  /-- PLDM_UPDATE (R525). A PLDM firmware update writes components into the inactive bank. -/
  | pldmUpdate (fw patch cfg : Option (List Byte))
  /-- MCTP_CONTROL (R530). An MCTP control request is answered. -/
  | mctpControl (cmd eid : Byte)
  /-- PLDM_REQUEST (R531). A PLDM Type 0 or Type 2 request is answered. -/
  | pldmRequest (type cmd : Byte) (arg : BitVec 16)
  /-- GET_INFO (R534). GET_INFO returns serial, lifecycle, bank and SVNs. -/
  | getInfo (tag : Byte) (len : Nat) (payload : List Byte)
  /-- LEASE_GRANT (R534). LEASE_GRANT writes the grants of an IDLE lease. -/
  | leaseGrant (tag : Byte) (len : Nat) (payload : List Byte)
  /-- LEASE_LOAD (R444). LEASE_LOAD takes an image part and, on the last part, verifies, loads and enables the lease. -/
  | leaseLoad (tag : Byte) (len : Nat) (payload : List Byte)
  /-- LEASE_REVOKE_CMD (R534). The vendor command LEASE_REVOKE revokes a lease. -/
  | leaseRevokeCmd (tag : Byte) (len : Nat) (payload : List Byte)
  /-- SESSION_CREATE (R534). SESSION_CREATE creates a backend session. -/
  | sessionCreate (tag : Byte) (len : Nat) (payload : List Byte) (up : Bool)
  /-- SESSION_DESTROY (R534). SESSION_DESTROY removes a backend session. -/
  | sessionDestroy (tag : Byte) (len : Nat) (payload : List Byte)
  /-- SEC_COMMAND_MSG (R534). The vendor command 0x06 issues ENROL, REVOKE or ADVANCE_LC through SEC_CMD. -/
  | secCommandMsg (tag : Byte) (len : Nat) (payload : List Byte) (ok : Bool) (got : BitVec 2)
  /-- SVN_COMMIT (R524). SVN_COMMIT burns both SVN minimums to the running SVNs. -/
  | svnCommit (tag : Byte) (len : Nat) (payload : List Byte) (ok : Bool)
  /-- LOG_READ (R534). LOG_READ returns records of the persistent log. -/
  | logRead (tag : Byte) (len : Nat) (payload : List Byte)
  /-- SET_CERTIFICATE (R496). SET_CERTIFICATE writes the slot 1 chain after checking it. -/
  | setCertificate (tag : Byte) (len : Nat) (payload : List Byte)
  /-- STATUS_READ_BLOCK (R536). An SMBus read-block of 0xF0 returns BOOT_STS, SEC_ALARM and SEC_LC in hardware. -/
  | statusReadBlock (addr : BitVec 7)
  /-- TAP_RESET (R549). A TAP is reset by TRST_N or five TMS-high cycles. -/
  | tapReset
  /-- UPDATE_IR (R553). Update-IR selects an instruction or refuses it and selects BYPASS. -/
  | updateIr (t : Fin 9) (op : Byte)
  /-- DBG_ACCESS (R555). Update-DR of DBG_ACCESS issues one lantern-bus access with MID 0xA000. -/
  | dbgAccess (write : Bool) (addr data : BitVec 32)
  /-- EXTEST (R556). EXTEST disconnects the die's functional pins and takes its links down. -/
  | extest (t : Fin 9)
  /-- DMACH_REFETCH (R366). A RING-mode DMA channel reads the descriptor at CONS again 1 µs after finding OWN = 0. -/
  | dmachRefetch (r : Fin 16) (k : Fin 64)
  /-- CLKREQ_N_CHANGE (R277). The root port releases or asserts CLKREQ_N, letting an L1 link enter L1.1 or L1.2 or leave it. -/
  | clkreqNChange (e : Fin 32) (released : Bool)
  /-- SPDM_MCTP_MESSAGE (R530). An SPDM request carried over MCTP from the BMC is answered by the responder of R293. -/
  | spdmMctpMessage (code : Byte) (body : List Byte)
  /-- CAPTURE_IR (R550). Capture-IR loads 0b0000_0001 into each TAP's instruction register, with bit 7 set after a refused Update-IR. -/
  | captureIr
  /-- CAPTURE_DR (R555). Capture-DR loads the selected data register, such as IDCODE or DBG_ACCESS status with DONE, REFUSED, address and read data. -/
  | captureDr (t : Fin 9) (cells : List Bool)
  /-- FEC_CODEWORD_RECEIVE (R91). The PCS decodes an RS(544,514) codeword, counting corrected and uncorrectable codewords and errored blocks and setting the A2408 FEC summary bit. -/
  | fecCodewordReceive (p : PageKey) (symbols : Nat) (uncorrectable : Bool) (blocks : Nat)
  /-- RC_COUNTER_READ (R45). A read of an RC counter such as LBUS_UNMAPPED, LBUS_BADSIZE, LBUS_ISOVIOL, DMACH_WAIT or OMC_MCHK.COUNT returns and clears it. -/
  | rcCounterRead (mid : Mid) (p : PageKey) (off : BitVec 12)
  /-- QSPI_COMMAND (R513). A GO to QSPI_CMD reads, programs or erases external flash, with BUSY set until the operation completes. -/
  | qspiCommand (mid : Mid) (v : Reg)
  deriving DecidableEq, Repr
end Sys2Proof
end

