-- ==== Sys2Proof/Config.lean ====
section
/-! DEFINITION. What an implementation fixes, what published standards compute, and the values the
manual leaves free: constants without a body, so that no proof can see what they are. A claim
about them holds whatever they are (log entries 5 and 6). -/
namespace Sys2Proof.Config

/-! ### Cryptographic functions of the published standards the manual names -/

/-- SHA-384. -/
opaque sha384 : List Byte → BitVec 384
/-- ECDSA P-384 verification: public key, digest, signature. -/
opaque ecdsaVerify : List Byte → BitVec 384 → List Byte → Bool
/-- ML-DSA-87 verification: public key, message, signature. -/
opaque mldsaVerify : List Byte → List Byte → List Byte → Bool
/-- HMAC-SHA-384: key and message (R225). -/
opaque hmacSha384 : List Byte → List Byte → BitVec 384
/-- AES-256-GCM: byte `i` of the key stream of a key and an IV, and the tag of a key, an IV, AAD and a plaintext
(R223). -/
opaque gcmStream : BitVec 256 → List Byte → Nat → Byte
opaque gcmTag : BitVec 256 → List Byte → List Byte → List Byte → List Byte
/-- A frame protected as the context's protocol standard defines (MACsec, ESP; R214): protocol, algorithm,
key, salt, PSTATE, packet number, frame. -/
opaque frameSeal : Nat → Nat → List Byte → List Byte → List Byte → Nat → List Byte → List Byte
/-- A protected frame opened: the frame, whose protected bytes mean nothing after a failed verdict, and the tag's
verdict (R229, R230). -/
opaque frameText : Nat → Nat → List Byte → List Byte → List Byte → Nat → List Byte → List Byte
opaque frameTagOk : Nat → Nat → List Byte → List Byte → List Byte → Nat → List Byte → Bool
/-- A TLS 1.3 record protected: algorithm, key, salt, sequence number, inner plaintext; the record with header
and tag (R215). -/
opaque tlsSeal : Nat → List Byte → List Byte → Nat → List Byte → List Byte
/-- Bytes of a TLS record as they are decrypted: algorithm, key, salt, sequence number, position, bytes. -/
opaque tlsText : Nat → List Byte → List Byte → Nat → Nat → List Byte → List Byte
/-- The verdict of a whole TLS record: algorithm, key, salt, sequence number, record. -/
opaque tlsVerdict : Nat → List Byte → List Byte → Nat → List Byte → Bool
/-- AEAD transform of text: encrypt or decrypt, algorithm, key, nonce, AAD, text; the text, and the tag that
belongs to it (R233). -/
opaque aeadText : Bool → Nat → List Byte → List Byte → List Byte → List Byte → List Byte
opaque aeadTag : Bool → Nat → List Byte → List Byte → List Byte → List Byte → List Byte
/-- AES-256-XTS of one data unit: encrypt or decrypt, key, data unit number, unit (R214). -/
opaque xts : Bool → List Byte → Nat → List Byte → List Byte
/-- The certificate chain check of R496: chain, Alias key. -/
opaque chainOk : List Byte → BitVec 384 → Bool
/-- The body of an SPDM, DOE or TDISP response that firmware builds. -/
opaque firmwareReply : List Byte → Nat → List Byte

/-! ### Free values: each draw is applied to a counter of the state -/

/-- Bytes that the manual leaves undefined. -/
opaque freeByte : Nat → Byte
/-- Bytes of NVMe data structures that the manual does not state: kind, number, index. -/
opaque nvmeByte : Nat → Nat → Nat → Byte
/-- Random 256-bit values of the security engine. -/
opaque random256 : Nat → BitVec 256

end Sys2Proof.Config
end

