-- ==== Sys2Proof/Machine/Bits.lean ====
section
/-! DEFINITION. Bit-field, byte-order and sparse-table helpers (R3, R5). -/
namespace Sys2Proof.Machine

/-- Field `[lo + w - 1 : lo]` of a natural number. -/
def natField (v lo w : Nat) : Nat := (v >>> lo) % 2 ^ w

/-- Field `[lo + w - 1 : lo]` of a register, as a number. -/
def fld (r : Reg) (lo w : Nat) : Nat := natField r.toNat lo w

/-- Bit `i` of a register. -/
def bit (r : Reg) (i : Nat) : Bool := r.getLsbD i

/-- A register with ones exactly in `[lo + w - 1 : lo]`. -/
def maskR (lo w : Nat) : Reg := BitVec.ofNat 32 ((2 ^ w - 1) <<< lo)

/-- A register with only bit `i` set. -/
def bitR (i : Nat) : Reg := BitVec.ofNat 32 (2 ^ i)

/-- Replace field `[lo + w - 1 : lo]` of `r` by `v mod 2^w`. -/
def setFld (r : Reg) (lo w v : Nat) : Reg :=
  (r &&& ~~~(maskR lo w)) ||| BitVec.ofNat 32 ((v % 2 ^ w) <<< lo)

/-- Set or clear bit `i`. -/
def setBit (r : Reg) (i : Nat) (b : Bool) : Reg :=
  if b then r ||| bitR i else r &&& ~~~(bitR i)

/-- Add to a field, stopping at its largest value (a saturating count). -/
def satAdd (v n w : Nat) : Nat := min (v + n) (2 ^ w - 1)

/-- Little-endian bytes to a number: byte 0 holds bits [7:0] (R3). -/
def leNat : List Byte → Nat
  | [] => 0
  | b :: bs => b.toNat + 256 * leNat bs

/-- Network-order bytes to a number (R3). -/
def beNat (bs : List Byte) : Nat := leNat bs.reverse

/-- The `n` little-endian bytes of a number. -/
def leBytes : Nat → Nat → List Byte
  | 0, _ => []
  | n + 1, v => BitVec.ofNat 8 v :: leBytes n (v / 256)

/-- The `n` network-order bytes of a number. -/
def beBytes (n v : Nat) : List Byte := (leBytes n v).reverse

/-- `n` bytes of a list from offset `o`; bytes past the end read 0. -/
def slice (bs : List Byte) (o n : Nat) : List Byte :=
  (List.range n).map fun i => bs.getD (o + i) 0

/-- Little-endian field of `n` bytes at offset `o`. -/
def leAt (bs : List Byte) (o n : Nat) : Nat := leNat (slice bs o n)

/-- Network-order field of `n` bytes at offset `o`. -/
def beAt (bs : List Byte) (o n : Nat) : Nat := beNat (slice bs o n)

/-- Write bytes over a list at offset `o`; bytes past the end are dropped. -/
def overlay (bs : List Byte) (o : Nat) (new : List Byte) : List Byte :=
  bs.mapIdx fun i b => if o ≤ i ∧ i < o + new.length then new.getD (i - o) 0 else b

/-- `n` zero bytes. -/
def zeros (n : Nat) : List Byte := List.replicate n 0

/-- Pad with zero bytes to at least `n`. -/
def padTo (bs : List Byte) (n : Nat) : List Byte := bs ++ zeros (n - bs.length)

/-- A number read as signed in `w` bits. -/
def signedOf (w v : Nat) : Int := if v % 2 ^ w < 2 ^ (w - 1) then (v % 2 ^ w : Nat) else (v % 2 ^ w : Nat) - (2 ^ w : Nat)

/-- The difference of two free-running 16-bit indices, mod 65,536. -/
def idxDiff (a b : Nat) : Nat := (a + 65536 - b % 65536) % 65536

/-- Free-running 16-bit index arithmetic. -/
def idxAdd (a b : Nat) : Nat := (a + b) % 65536

/-! ### Cyclic redundancy checks -/

/-- One byte of a reflected CRC-32 with the given polynomial. -/
def crcStep (poly r : BitVec 32) (b : Byte) : BitVec 32 :=
  (List.range 8).foldl (fun r _ => if r.getLsbD 0 then (r >>> 1) ^^^ poly else r >>> 1)
    (r ^^^ b.setWidth 32)

/-- CRC-32C: reflected polynomial, all-ones initial value, final inversion (R405). -/
def crc32c (bs : List Byte) : BitVec 32 := ~~~(bs.foldl (crcStep 0x82F63B78) 0xFFFFFFFF)

/-- The IEEE 802.3 CRC-32 of a frame (R82, R98). -/
def crc32 (bs : List Byte) : BitVec 32 := ~~~(bs.foldl (crcStep 0xEDB88320) 0xFFFFFFFF)

/-- The four bytes of a frame check sequence, as sent. -/
def fcsBytes (bs : List Byte) : List Byte := leBytes 4 (crc32 bs).toNat

/-- One byte of the CRC-16 of T10-DIF (R280). -/
def crc16Step (r : BitVec 16) (b : Byte) : BitVec 16 :=
  (List.range 8).foldl (fun r _ => if r.getLsbD 15 then (r <<< 1) ^^^ 0x8BB7 else r <<< 1)
    (r ^^^ (b.setWidth 16 <<< 8))

/-- CRC-16 T10-DIF: polynomial 0x8BB7, initial value 0, no reflection, no final inversion (R280). -/
def crcT10 (bs : List Byte) : BitVec 16 := bs.foldl crc16Step 0

/-- One byte of the reflected NVMe 64-bit guard CRC, polynomial 0xAD93D23594C93659 (R405). -/
def crc64Step (r : BitVec 64) (b : Byte) : BitVec 64 :=
  (List.range 8).foldl (fun r _ => if r.getLsbD 0 then (r >>> 1) ^^^ 0x9A6C9329AC4BC9B5 else r >>> 1)
    (r ^^^ b.setWidth 64)

/-- The NVMe 64-bit guard of a block (R370, R405). -/
def crcNvme (bs : List Byte) : BitVec 64 := ~~~(bs.foldl crc64Step (BitVec.allOnes 64))

/-- Insert before every element with a key that is not smaller. -/
def insertBy {α : Type} (key : α → Nat) (x : α) : List α → List α
  | [] => [x]
  | y :: ys => if key x ≤ key y then x :: y :: ys else y :: insertBy key x ys

/-- Stable sort by rising key. -/
def sortBy {α : Type} (key : α → Nat) : List α → List α
  | [] => []
  | x :: xs => insertBy key x (sortBy key xs)

/-- The Internet checksum's ones-complement sum of 16-bit big-endian words. -/
def onesSum : List Byte → Nat → Nat
  | [], acc => acc
  | [a], acc => (acc + a.toNat * 256) % 65535
  | a :: b :: t, acc => onesSum t ((acc + a.toNat * 256 + b.toNat) % 65535)

/-- Is the ones-complement sum of bytes that hold their own checksum all ones (0 mod 65,535)? A sum of
zero words alone is not. -/
def csumOk (bs : List Byte) : Bool := onesSum bs 0 == 0 && bs.any (· != 0)

/-- The checksum that makes the bytes, with a zero checksum field, sum to all ones. -/
def csumOf (bs : List Byte) : Nat :=
  let r := onesSum bs 0
  if r = 0 then (if bs.any (· != 0) then 0 else 0xFFFF) else 65535 - r

/-! ### Sparse tables: sorted by key, no entry equal to the key's default -/

/-- The entry listed for key `k`. -/
def tabFind {α : Type} (t : List (Nat × α)) (k : Nat) : Option α :=
  match t with
  | [] => none
  | e :: t => if e.1 = k then some e.2 else tabFind t k

/-- What key `k` reads as; `d` says what an unlisted key reads as. -/
def tabGet {α : Type} (d : α) (t : List (Nat × α)) (k : Nat) : α :=
  (tabFind t k).getD d

/-- Insert in key order. -/
def tabInsert {α : Type} (t : List (Nat × α)) (k : Nat) (v : α) : List (Nat × α) :=
  match t with
  | [] => [(k, v)]
  | e :: t => if k < e.1 then (k, v) :: e :: t else e :: tabInsert t k v

/-- Remove key `k`. -/
def tabErase {α : Type} (t : List (Nat × α)) (k : Nat) : List (Nat × α) :=
  t.filter fun e => decide (e.1 ≠ k)

/-- Store `v` at `k`; storing the default removes the entry. -/
def tabPut {α : Type} [DecidableEq α] (d : α) (t : List (Nat × α)) (k : Nat) (v : α) :
    List (Nat × α) :=
  if v = d then tabErase t k else tabInsert (tabErase t k) k v

/-- Keep the entries whose key satisfies `p`. -/
def tabKeep {α : Type} (t : List (Nat × α)) (p : Nat → Bool) : List (Nat × α) :=
  t.filter fun e => p e.1

end Sys2Proof.Machine
end

