-- ==== Sys2Proof/Machine/Parse.lean ====
section
/-! DEFINITION. The fixed parser of the pipelines and of the MAC's checksum unit (R84, R122–R127), as a
function of the frame's bytes. -/
namespace Sys2Proof.Machine

/-- What the parser is told: the ports of PIPE_PARSE_PORTS and PIPE_ROCE_PORTS, the checks of
MAC_RXCTL, and the checksum results that reached the pipeline (`none` when the MAC itself parses). -/
structure ParseCfg where
  vxlan : Nat := 4789
  geneve : Nat := 6081
  roce : Nat := 4791
  nvme : Nat := 4420
  chk3 : Bool := false
  chk4 : Bool := false
  /-- PRV.CSUM as the pipeline received it -/
  csum : Option Nat := none
  deriving DecidableEq, Repr

/-- The result of a parse. Offsets are from the frame start; `none` is an absent header. -/
structure Parsed where
  /-- first malformation code, 0 none (R127) -/
  malf : Nat := 0
  nested : Bool := false
  fragLater : Bool := false
  firstFrag : Bool := false
  trunc : Bool := false
  secTag : Bool := false
  roce : Bool := false
  nvme : Bool := false
  ptp : Bool := false
  esp : Bool := false
  oTag : Option Nat := none
  oL3 : Option Nat := none
  oL4 : Option Nat := none
  oTun : Option Nat := none
  oIL2 : Option Nat := none
  oIL3 : Option Nat := none
  oIL4 : Option Nat := none
  oPay : Option Nat := none
  tags : Nat := 0
  tL3 : Nat := 0
  tL4 : Nat := 0
  tTun : Nat := 0
  iTags : Nat := 0
  tIL3 : Nat := 0
  tIL4 : Nat := 0
  tUp : Nat := 0
  ovlan : Nat := 0
  ivlan : Nat := 0
  vni : Nat := 0
  spi : Nat := 0
  /-- innermost L3 addresses as on the wire -/
  l3src : List Byte := []
  l3dst : List Byte := []
  /-- protocol number after the innermost L3 header and its extensions -/
  proto : Nat := 0
  /-- source and destination port of the innermost L4 header, as on the wire -/
  ports : List Byte := []
  /-- checksum results: outer L3, outer L4, inner L3, inner L4; 0 not checked, 1 good, 2 bad -/
  c3 : Nat := 0
  c4 : Nat := 0
  ic3 : Nat := 0
  ic4 : Nat := 0
  /-- end of the innermost L3 datagram and start of its L4 header, as declared -/
  l3end : Nat := 0
  deriving DecidableEq, Repr

/-- The parse ends; the payload starts at `o`. -/
def Parsed.stop (p : Parsed) (o : Nat) : Parsed := { p with oPay := some o }

/-- The parse ends with a malformation at the header at `o`. -/
def Parsed.bad (p : Parsed) (code o : Nat) : Parsed := { p with malf := code, oPay := some o }

/-- A header that ends at `e` does not end within byte 512, the frame or its carrier (R127, 0x0D). -/
def Parsed.deep (p : Parsed) (lim o : Nat) : Parsed :=
  { p with malf := 0x0D, oPay := some o, trunc := decide (512 < lim) }

/-- Does a header ending at `e` end within byte 512 and the limit? -/
def fits (lim e : Nat) : Bool := decide (e ≤ lim) && decide (e ≤ 512)

/-- The byte at an offset, as a number. -/
def byteAt (b : List Byte) (o : Nat) : Nat := (b.getD o 0).toNat

/-- A pseudo-header and L4 bytes sum to all ones (R84). -/
def l4SumOk (src dst : List Byte) (proto : Nat) (l4 : List Byte) : Bool :=
  csumOk (src ++ dst ++ beBytes 4 l4.length ++ beBytes 4 proto ++ l4)

/-- The recorded result of a checksum: computed by the MAC, or taken from the flags. -/
def csumRes (c : ParseCfg) (known : Nat) (chk ok : Bool) : Nat :=
  match c.csum with
  | some v => natField v known 2
  | none => if chk then (if ok then 1 else 2) else 0

/-- In the pipeline a bad result is a malformation; the MAC only counts it (R84, R126). -/
def raises (c : ParseCfg) (res : Nat) : Bool := c.csum.isSome && res == 2

/-- Walk Geneve options: does any run beyond the option length (R127, 0x0C)? -/
def geneveBad (b : List Byte) : Nat → Nat → Nat → Bool
  | 0, _, _ => false
  | fuel + 1, o, e =>
    if e ≤ o then false
    else
      let n := 4 + 4 * (byteAt b (o + 3) % 32)
      if e < o + 4 ∨ e < o + n then true else geneveBad b fuel (o + n) e

/-- The IPv6 extension headers from `o` (R122, R124): answers the protocol that follows, its offset,
whether later fragment, whether first fragment, and a malformation (0 none, 0x06, or 0x0D). -/
def ipv6Ext (b : List Byte) (lim : Nat) : Nat → Nat → Nat → Nat → Bool → Nat × Nat × Bool × Bool × Nat
  | 0, _, nh, o, ff => (nh, o, false, ff, 0x06)
  | fuel + 1, n, nh, o, ff =>
    if nh = 0 ∨ nh = 43 ∨ nh = 44 ∨ nh = 60 then
      if n = 4 ∨ (nh = 0 ∧ n ≠ 0) then (nh, o, false, ff, 0x06)
      else if !fits lim (o + 8) then (nh, o, false, ff, 0x0D)
      else
        let len := if nh = 44 then 8 else 8 * (byteAt b (o + 1) + 1)
        if !fits lim (o + len) then (nh, o, false, ff, 0x0D)
        else
          let fo := beAt b (o + 2) 2 / 8
          if nh = 44 ∧ fo ≠ 0 then
            (byteAt b o, o + 8, true, ff, 0)
          else ipv6Ext b lim fuel (n + 1) (byteAt b o) (o + len)
            (ff || (nh == 44 && (byteAt b (o + 3)).testBit 0))
    else (nh, o, false, ff, 0)

/-- The tags of an Ethernet header whose EtherType lies at `o`: the last EtherType's offset, the tag
count, the VLAN register, and whether the depth limit was broken (R122, R127). -/
def tagWalk (b : List Byte) (lim : Nat) : Nat → Nat → Nat → Nat → Nat × Nat × Nat × Nat
  | 0, o, n, v => (o, n, v, 0)
  | fuel + 1, o, n, v =>
    let et := beAt b o 2
    if et = 0x88A8 ∨ et = 0x8100 then
      if n = 2 ∨ (et = 0x88A8 ∧ n ≠ 0) then (o, n, v, 0x01)
      else if !fits lim (o + 6) then (o, n, v, 0x0D)
      else tagWalk b lim fuel (o + 4) (n + 1) (v % 65536 * 65536 + beAt b (o + 2) 2)
    else (o, n, v, 0)

/-- Record the result of an L4 checksum. -/
def Parsed.setC4 (p : Parsed) (inner : Bool) (v : Nat) : Parsed :=
  if inner then { p with ic4 := v } else { p with c4 := v }

/-- Record an L4 header. -/
def Parsed.setL4 (p : Parsed) (inner : Bool) (o t : Nat) : Parsed :=
  if inner then { p with oIL4 := some o, tIL4 := t } else { p with oL4 := some o, tL4 := t }

/-- RoCEv2 BTH at `o` (R122). -/
def parseBth (b : List Byte) (lim o : Nat) (p : Parsed) : Parsed :=
  if !fits lim (o + 12) then p.deep lim o
  else { p with roce := true, tUp := 6, spi := beAt b (o + 5) 3 }.stop (o + 12)

/-- The result of parsing an L4 header, and where a tunnel begins behind it. -/
inductive After where
  /-- the parse has ended -/
  | done
  /-- an Ethernet header follows, within a limit -/
  | ether (o lim : Nat)
  /-- an L3 header of the given EtherType follows, within a limit -/
  | ip (et o lim : Nat)
  deriving DecidableEq, Repr

/-- VXLAN or Geneve at `o` (R122, R127). -/
def parseUdpTunnel (b : List Byte) (lim o : Nat) (gen : Bool) (p : Parsed) : Parsed × After :=
  if !fits lim (o + 8) then (p.deep lim o, .done)
  else if gen then
    let optLen := 4 * (byteAt b o % 64)
    if byteAt b o / 64 ≠ 0 then (p.bad 0x0B o, .done)
    else if !fits lim (o + 8 + optLen) then (p.deep lim o, .done)
    else if geneveBad b 64 (o + 8) (o + 8 + optLen) then (p.bad 0x0C o, .done)
    else
      let p := { p with oTun := some o, tTun := 2, vni := beAt b (o + 4) 3 }
      if beAt b (o + 2) 2 = 0x6558 then (p, .ether (o + 8 + optLen) lim)
      else (p.stop (o + 8 + optLen), .done)
  else if !(byteAt b o).testBit 3 then (p.bad 0x0B o, .done)
  else ({ p with oTun := some o, tTun := 1, vni := beAt b (o + 4) 3 }, .ether (o + 8) lim)

/-- GRE at `o` (R122, R127). -/
def parseGre (b : List Byte) (lim o : Nat) (p : Parsed) : Parsed × After :=
  if !fits lim (o + 4) then (p.deep lim o, .done)
  else
    let f := beAt b o 2
    if f &&& 0x4FFF ≠ 0 then (p.bad 0x0B o, .done)
    else
      let c := if f.testBit 15 then 4 else 0
      let k := if f.testBit 13 then 4 else 0
      let n := if f.testBit 12 then 4 else 0
      let e := o + 4 + c + k + n
      if !fits lim e then (p.deep lim o, .done)
      else
        let p := { p with oTun := some o, tTun := 3, vni := if k = 4 then beAt b (o + 4 + c) 4 else 0 }
        let et := beAt b (o + 2) 2
        if et = 0x6558 then (p, .ether e lim)
        else if et = 0x0800 ∨ et = 0x86DD then (p, .ip et e lim)
        else (p.stop e, .done)

/-- The L4 header of protocol `pr` at `o` in a datagram that ends at `e` (R122–R124, R127). -/
def parseL4 (c : ParseCfg) (b : List Byte) (inner : Bool) (pr o e : Nat) (p : Parsed) : Parsed × After :=
  let frag := p.firstFrag
  let known := if inner then 0 else 4
  let l4 := slice b o (e - o)
  if pr = 6 then
    if e < o + 20 then (p.bad 0x09 o, .done)
    else if 512 < o + 20 then (p.deep e o, .done)
    else
      let h := 4 * (byteAt b (o + 12) / 16)
      if h < 20 ∨ e < o + h then (p.bad 0x09 o, .done)
      else if 512 < o + h then (p.deep e o, .done)
      else
        let r := if frag then 0 else csumRes c known c.chk4 (l4SumOk p.l3src p.l3dst 6 l4)
        let p := p.setC4 inner r
        if raises c r then (p.bad 0x08 o, .done)
        else
          let nv := beAt b o 2 == c.nvme || beAt b (o + 2) 2 == c.nvme
          let p := { p.setL4 inner o 1 with ports := slice b o 4, nvme := nv, tUp := if nv then 7 else 0 }
          (p.stop (o + h), .done)
  else if pr = 17 then
    if !fits e (o + 8) then (p.deep e o, .done)
    else
      let ul := beAt b (o + 4) 2
      if ul < 8 ∨ (!frag ∧ e < o + ul) then (p.bad 0x0A o, .done)
      else
        let zero4 := beAt b (o + 6) 2 = 0 ∧ p.l3src.length = 4
        let r := if frag ∨ zero4 then 0
          else csumRes c known c.chk4 (l4SumOk p.l3src p.l3dst 17 (slice b o ul))
        let p := p.setC4 inner r
        if raises c r then (p.bad 0x08 o, .done)
        else
          let dp := beAt b (o + 2) 2
          let p := { p.setL4 inner o 2 with ports := slice b o 4,
                                            ptp := p.ptp || dp == 319 || dp == 320 }
          let ue := min e (o + ul)
          if frag then (p.stop (o + 8), .done)
          else if dp = c.vxlan ∨ dp = c.geneve then
            if inner then ({ p with nested := true }.stop (o + 8), .done)
            else parseUdpTunnel b ue (o + 8) (decide (dp ≠ c.vxlan)) p
          else if dp = c.roce then (parseBth b ue (o + 8) p, .done)
          else (p.stop (o + 8), .done)
  else if pr = 1 ∨ pr = 58 then
    if !fits e (o + 8) then (p.deep e o, .done)
    else ((p.setL4 inner o (if pr = 1 then 3 else 4)).stop (o + 8), .done)
  else if pr = 50 then
    if !fits e (o + 4) then (p.deep e o, .done)
    else if e < o + 12 then (p.bad 0x0E o, .done)
    else if 512 < o + 8 then (p.deep e o, .done)
    else ({ p.setL4 inner o 5 with esp := true, spi := beAt b o 4 }.stop (o + 8), .done)
  else if pr = 47 ∨ pr = 4 ∨ pr = 41 then
    if frag then (p.stop o, .done)
    else if inner then ({ p with nested := true }.stop o, .done)
    else if pr = 47 then parseGre b e o p
    else ({ p with oTun := some o, tTun := if pr = 4 then 4 else 5 },
      .ip (if pr = 4 then 0x0800 else 0x86DD) o e)
  else (p.stop o, .done)

/-- Record an L3 header. -/
def Parsed.setL3 (p : Parsed) (inner : Bool) (o t : Nat) : Parsed :=
  if inner then { p with oIL3 := some o, tIL3 := t } else { p with oL3 := some o, tL3 := t }

/-- An IPv4 header at `o` within `lim` (R122, R124, R127). -/
def parseV4 (c : ParseCfg) (b : List Byte) (inner : Bool) (o lim : Nat) (p : Parsed) : Parsed × After :=
  if !fits lim (o + 20) then (p.deep lim o, .done)
  else
    let h := 4 * (byteAt b o % 16)
    let tot := beAt b (o + 2) 2
    if byteAt b o / 16 ≠ 4 ∨ h < 20 ∨ tot < h then (p.bad 0x03 o, .done)
    else if !fits lim (o + h) then (p.deep lim o, .done)
    else if lim < o + tot then (p.bad 0x04 o, .done)
    else
      let r := csumRes c (if inner then 2 else 6) c.chk3 (csumOk (slice b o h))
      let p := if inner then { p with ic3 := r } else { p with c3 := r }
      if raises c r then (p.bad 0x07 o, .done)
      else
        let fr := beAt b (o + 6) 2
        let p := { p.setL3 inner o 1 with
                   l3src := slice b (o + 12) 4, l3dst := slice b (o + 16) 4,
                   proto := byteAt b (o + 9), ports := [], l3end := o + tot }
        if fr % 8192 ≠ 0 then ({ p with fragLater := true }.stop (o + h), .done)
        else parseL4 c b inner (byteAt b (o + 9)) (o + h) (o + tot)
          { p with firstFrag := fr.testBit 13 }

/-- An IPv6 header at `o` within `lim` (R122, R124, R127). -/
def parseV6 (c : ParseCfg) (b : List Byte) (inner : Bool) (o lim : Nat) (p : Parsed) : Parsed × After :=
  if !fits lim (o + 40) then (p.deep lim o, .done)
  else
    let e := o + 40 + beAt b (o + 4) 2
    if lim < e then (p.bad 0x05 o, .done)
    else
      let p := { p.setL3 inner o 2 with
                 l3src := slice b (o + 8) 16, l3dst := slice b (o + 24) 16,
                 proto := byteAt b (o + 6), ports := [], l3end := e }
      let x := ipv6Ext b e 6 0 (byteAt b (o + 6)) (o + 40) false
      let p := { p with proto := x.1 }
      if x.2.2.2.2 = 0x06 then (p.bad 0x06 x.2.1, .done)
      else if x.2.2.2.2 = 0x0D then (p.deep e x.2.1, .done)
      else if x.2.2.1 then ({ p with fragLater := true }.stop x.2.1, .done)
      else parseL4 c b inner x.1 x.2.1 e { p with firstFrag := x.2.2.2.1 }

/-- An L3 header of the given EtherType. -/
def parseL3 (c : ParseCfg) (b : List Byte) (inner : Bool) (et o lim : Nat) (p : Parsed) : Parsed × After :=
  if et = 0x0800 then parseV4 c b inner o lim p
  else if et = 0x86DD then parseV6 c b inner o lim p
  else (p.stop o, .done)

/-- A SecTAG whose EtherType lies at 12 (R122, R127). -/
def parseSecTag (b : List Byte) (len : Nat) (p : Parsed) : Parsed :=
  if !fits len 20 then p.deep len 12
  else
    let tci := byteAt b 14
    let e := if tci.testBit 5 then 28 else 20
    let sl := byteAt b 15 % 64
    let rest := len - e - 16
    if tci.testBit 7 ∨ 48 ≤ sl ∨ len < e + 16 ∨ (sl = 0 ∧ rest < 48) ∨
        (sl ≠ 0 ∧ rest ≠ sl ∧ ¬(sl < rest ∧ len = 60)) then p.bad 0x0F 12
    else if !fits len e then p.deep len 12
    else { p with secTag := true }.stop e

/-- An Ethernet header at `o` within `lim`: inner or outer (R122). -/
def parseEth (c : ParseCfg) (b : List Byte) (inner : Bool) (o lim : Nat) (p : Parsed) : Parsed × After :=
  if !fits lim (o + 14) then (p.deep lim o, .done)
  else if (byteAt b (o + 6)).testBit 0 then (p.bad 0x02 o, .done)
  else if !inner ∧ beAt b 12 2 = 0x88E5 then (parseSecTag b lim p, .done)
  else
    let w := tagWalk b lim 3 (o + 12) 0 0
    let p := if inner then { p with oIL2 := some o, iTags := w.2.1, ivlan := w.2.2.1 }
      else { p with oTag := if w.2.1 = 0 then none else some 12, tags := w.2.1, ovlan := w.2.2.1 }
    if w.2.2.2 = 0x01 then (p.bad 0x01 w.1, .done)
    else if w.2.2.2 = 0x0D then (p.deep lim w.1, .done)
    else
      let et := beAt b w.1 2
      let q := w.1 + 2
      if !inner ∧ et = 0x0806 then ({ p with oL3 := some q, tL3 := 3 }, .done)
      else if !inner ∧ et = 0x88F7 then ({ p with oL3 := some q, tL3 := 4, ptp := true }, .done)
      else parseL3 c b inner et q lim p

/-- What follows a tunnel header: one level only (R123). -/
def parseInner (c : ParseCfg) (b : List Byte) (r : Parsed × After) : Parsed :=
  match r.2 with
  | .done => r.1
  | .ether o lim => (parseEth c b true o lim r.1).1
  | .ip et o lim => (parseL3 c b true et o lim r.1).1

/-- Parse a frame: destination address through last payload byte (R122). -/
def parseFrame (c : ParseCfg) (b : List Byte) : Parsed :=
  parseInner c b (parseEth c b false 0 b.length {})

/-- PRV.CSUM (R125). -/
def Parsed.csumByte (p : Parsed) : Nat := p.c3 * 64 + p.c4 * 16 + p.ic3 * 4 + p.ic4

/-- Is the parse of a PTP event message: messageType 0–3 over EtherType 0x88F7, or over UDP destination
port 319 (R91, R96)? Answers the offset of the PTP header. -/
def ptpEvent (b : List Byte) (p : Parsed) : Option Nat :=
  let o := if p.tL3 = 4 then p.oL3
    else if p.ports.length = 4 ∧ beAt p.ports 2 2 = 319 ∧ (p.tL4 = 2 ∨ p.tIL4 = 2) then p.oPay else none
  match o with
  | none => none
  | some o => if byteAt b o % 16 < 4 then some o else none

/-- PRV.HASH (R125). -/
def Parsed.hash (p : Parsed) : Nat :=
  if p.l3src = [] then 0
  else (crc32c (p.l3src ++ p.l3dst ++ [BitVec.ofNat 8 p.proto] ++
    (if p.ports = [] then zeros 4 else p.ports))).toNat

/-- A 16-bit offset of the vector: absent headers read 0xFFFF. -/
def offBytes (o : Option Nat) : List Byte := leBytes 2 (o.getD 0xFFFF)

/-- Bytes 6–107 of the parse-result vector that the parse itself gives; `ctl`, `ts` and `buf` come with
the frame (R125). -/
def Parsed.vector (p : Parsed) (src ferry vport ctl len : Nat) (ts : Nat) (buf : Nat) (metab : List Byte) :
    List Byte :=
  let b2n := fun (b : Bool) (n : Nat) => if b then n else 0
  let fl := b2n p.nested 32768 + b2n p.fragLater 16384 + b2n p.trunc 8192 + b2n p.secTag 4096 +
    b2n p.roce 2048 + b2n p.nvme 1024 + b2n p.ptp 512 + b2n p.esp 256
  let addr := if p.l3src.length = 4 then p.l3src ++ zeros 12 ++ p.l3dst ++ zeros 12
    else padTo (p.l3src ++ p.l3dst) 32
  leBytes 2 src ++ leBytes 2 ferry ++ leBytes 2 vport ++ leBytes 1 ctl ++ leBytes 1 p.malf ++
  leBytes 2 len ++ leBytes 2 fl ++ leBytes 1 p.csumByte ++ zeros 3 ++ leBytes 8 ts ++ leBytes 4 buf ++
  leBytes 4 p.hash ++
  offBytes p.oTag ++ offBytes p.oL3 ++ offBytes p.oL4 ++ offBytes p.oTun ++
  offBytes p.oIL2 ++ offBytes p.oIL3 ++ offBytes p.oIL4 ++ offBytes p.oPay ++
  leBytes 1 p.tags ++ leBytes 1 p.tL3 ++ leBytes 1 p.tL4 ++ leBytes 1 p.tTun ++
  leBytes 1 p.iTags ++ leBytes 1 p.tIL3 ++ leBytes 1 p.tIL4 ++ leBytes 1 p.tUp ++
  leBytes 4 p.ovlan ++ leBytes 4 p.ivlan ++ leBytes 4 p.vni ++ leBytes 4 p.spi ++
  addr ++ padTo p.ports 4 ++ slice metab 0 20

end Sys2Proof.Machine
end

