-- ==== Sys2Proof/Machine/Geom.lean ====
section
/-! DEFINITION. Page types, page placement, power domains and master identities
(R6, R8, R20, R27, R29, R30, R32, R35, R42, R54, R301). -/
namespace Sys2Proof.Machine

/-- The page types of R54, with the instance pages of R301 under their own names. -/
inductive PageType where
  | clu | fcore | chk | lease | chan | cdbg
  | tbl | lrn | ciph | dma | dmach | arb | rflt | inq
  | pipe | cls
  | cfab | pbuf | sched | plcr | hbm | dflt | land
  | npg | mac | peer | apl | pwin | lfab | tsu
  | ep | epLink | epWakep | epIde | epIwin | hfab
  | omc | fuse | sec | sens | boot | mgmt | log | ptime
  | lbus | pfab | almap | bindp
  | ictl | imbx | cu | irqm | rcfg | idb | iadm | mbxw | gch | imsix | ipba
  deriving DecidableEq, Repr

/-- The access classes of R35. -/
inductive AccessClass where
  | o | e | i | c | d
  deriving DecidableEq, Repr

/-- First key of the instance pages. -/
def instBase : Nat := 0x100000

/-- Site code, bits [27:24] of the address. -/
def pgSite (p : PageKey) : Nat := natField p 12 4
/-- Region or quadrant, bits [23:22]. -/
def pgRegion (p : PageKey) : Nat := natField p 10 2
/-- Group, bits [21:18]. -/
def pgGroup (p : PageKey) : Nat := natField p 6 4
/-- Page, bits [17:12]. -/
def pgPage (p : PageKey) : Nat := natField p 0 6

/-- The key of an internal page from its fields (R30). -/
def mkPage (site region group page : Nat) : PageKey :=
  0x40000 + site * 4096 + region * 1024 + group * 64 + page

/-- The key of instance page `n` of function `f` of endpoint `e` (R32). -/
def instPage (e f n : Nat) : PageKey := instBase + (e * 256 + f) * 32 + n

/-- Is it an instance page key? -/
def isInst (p : PageKey) : Bool := instBase ≤ p && decide (p < instBase + 32 * 256 * 32)
/-- Endpoint of an instance page. -/
def instEp (p : PageKey) : Nat := (p - instBase) / 8192
/-- Function of an instance page. -/
def instFn (p : PageKey) : Nat := (p - instBase) / 32 % 256
/-- Index of an instance page. -/
def instIdx (p : PageKey) : Nat := (p - instBase) % 32

/-- The unit path of a page (R29); instance pages have none and give 0xFFFF. -/
def unitPath (p : PageKey) : UnitPath := if isInst p then 0xFFFF else BitVec.ofNat 16 (p % 65536)

/-- The page key that a unit path names. -/
def pathPage (u : UnitPath) : PageKey := 0x40000 + u.toNat

/-- Is the site a core die, a line die, a host die? -/
def isCore (s : Nat) : Bool := s < 4
/-- Line dies are sites 4–7. -/
def isLine (s : Nat) : Bool := 4 ≤ s && s < 8
/-- Host dies are sites 8–11. -/
def isHost (s : Nat) : Bool := 8 ≤ s && s < 12

/-- Page types of the core dies by group and page (R54). -/
def corePage (region group page : Nat) : Option PageType :=
  if group < 8 then
    if page = 0 then some .clu else if page ≤ 8 then some .fcore
    else if page = 9 then some .chk else if page = 10 then some .lease
    else if page = 11 then some .chan else if page = 12 then some .cdbg else none
  else if group = 8 then
    if page = 0 then some .tbl else if page = 1 then some .lrn
    else if page = 2 then some .ciph else if page = 3 then some .dma
    else if page ≤ 11 then some .dmach else if page = 12 then some .arb
    else if page = 13 then some .rflt else if page = 14 then some .inq else none
  else if group = 9 then
    if page ≤ 3 then some .pipe else if page = 4 then some .cls else none
  else if group = 10 && region = 0 then
    if page = 0 then some .cfab else if page = 1 then some .pbuf
    else if page = 2 then some .sched else if page = 3 then some .plcr
    else if page = 4 then some .hbm else if page = 5 then some .dflt
    else if page = 6 then some .land else none
  else none

/-- Page types of the line dies (R54). -/
def linePage (region group page : Nat) : Option PageType :=
  if group < 2 then
    if page = 0 then some .npg else if page ≤ 8 then some .mac else none
  else if group = 2 then
    if page = 0 then some .peer else if page = 1 then some .apl
    else if page = 2 then some .pwin else if page = 3 then some .mac else none
  else if group = 10 && region = 0 then
    if page = 0 then some .lfab else if page = 1 then some .tsu else none
  else none

/-- Page types of the host dies (R54). -/
def hostPage (region group page : Nat) : Option PageType :=
  if group < 2 then
    if page = 0 then some .ep else if page = 1 then some .epLink
    else if page = 2 then some .epWakep else if page = 3 then some .epIde
    else if page = 4 then some .epIwin else none
  else if group = 10 && region = 0 && page = 0 then some .hfab
  else none

/-- Page types of die M (R54). -/
def mgmtPage (page : Nat) : Option PageType :=
  match page with
  | 0 => some .omc | 1 => some .fuse | 2 => some .sec | 3 => some .sens
  | 4 => some .boot | 5 => some .mgmt | 6 => some .log | 7 => some .ptime
  | _ => none

/-- Package-global page types (R54). -/
def globalPage (page : Nat) : Option PageType :=
  match page with
  | 0 => some .lbus | 1 => some .pfab | 2 => some .almap | 3 => some .bindp
  | _ => none

/-- Instance page roles by index and function (R301). -/
def instPageType (f n : Nat) : Option PageType :=
  if n = 0 then some .ictl else if n = 1 then some .imbx else if n = 2 then some .cu
  else if n = 3 then some .irqm else if n ≤ 7 then some .rcfg else if n ≤ 15 then some .idb
  else if n = 30 then some .imsix else if n = 31 then some .ipba
  else if 2 ≤ f then none
  else if n = 16 then some .iadm else if n = 17 then some .mbxw
  else if n ≤ 21 then some .gch else none

/-- The type of a page; `none` for a key that names no page (R31, R54). -/
def pageType (p : PageKey) : Option PageType :=
  if isInst p then instPageType (instFn p) (instIdx p)
  else if p / 65536 ≠ 4 then none
  else
    let s := pgSite p
    if isCore s then corePage (pgRegion p) (pgGroup p) (pgPage p)
    else if isLine s then linePage (pgRegion p) (pgGroup p) (pgPage p)
    else if isHost s then hostPage (pgRegion p) (pgGroup p) (pgPage p)
    else if pgRegion p ≠ 0 || pgGroup p ≠ 10 then none
    else if s = 12 then mgmtPage (pgPage p)
    else if s = 13 then globalPage (pgPage p)
    else none

/-- The block type code of a page (R54, R301). -/
def blockType (p : PageKey) : Nat :=
  if isInst p then 0x0701 + instIdx p
  else match pageType p with
  | none => 0
  | some t => match t with
    | .clu => 0x101 | .fcore => 0x102 | .chk => 0x103 | .lease => 0x104 | .chan => 0x105
    | .cdbg => 0x106 | .tbl => 0x201 | .lrn => 0x202 | .ciph => 0x203 | .dma => 0x204
    | .dmach => 0x205 | .arb => 0x206 | .rflt => 0x207 | .inq => 0x208 | .pipe => 0x301
    | .cls => 0x302 | .cfab => 0x401 | .pbuf => 0x402 | .sched => 0x403 | .plcr => 0x404
    | .hbm => 0x405 | .dflt => 0x406 | .land => 0x407 | .npg => 0x501 | .mac => 0x502
    | .peer => 0x503 | .apl => 0x504 | .pwin => 0x505 | .lfab => 0x506 | .tsu => 0x507
    | .ep => 0x601 | .epLink => 0x602 | .epWakep => 0x603 | .epIde => 0x604 | .epIwin => 0x605
    | .hfab => 0x606 | .omc => 0x801 | .fuse => 0x802 | .sec => 0x803 | .sens => 0x804
    | .boot => 0x805 | .mgmt => 0x806 | .log => 0x807 | .ptime => 0x808 | .lbus => 0x901
    | .pfab => 0x902 | .almap => 0x903 | .bindp => 0x904
    | _ => 0

/-- Instance of the block type within its site, in address order (PAGE_ID, R39). -/
def pageInstance (p : PageKey) : Nat :=
  if isInst p then 0
  else
    let r := pgRegion p
    let g := pgGroup p
    match pageType p with
    | none => 0
    | some t => match t with
      | .clu | .chk | .lease | .chan | .cdbg => r * 8 + g
      | .fcore => (r * 8 + g) * 8 + (pgPage p - 1)
      | .tbl | .lrn | .ciph | .dma | .arb | .rflt | .inq | .cls | .peer | .apl | .pwin => r
      | .dmach => r * 8 + (pgPage p - 4)
      | .pipe => r * 4 + pgPage p
      | .npg | .ep | .epLink | .epWakep | .epIde | .epIwin => r * 2 + g
      | .mac => if g = 2 then r * 17 + 16 else r * 17 + g * 8 + (pgPage p - 1)
      | _ => 0

/-- The access class of a page type (R54, R302). -/
def classOf : PageType → AccessClass
  | .chk => .c
  | .cdbg => .d
  | .tbl | .lrn | .ep | .epLink | .epWakep => .e
  | .ictl | .imbx | .cu | .irqm | .rcfg | .idb | .iadm | .mbxw | .gch | .imsix | .ipba => .i
  | _ => .o

/-- PAGE_CAPS.DRW: the deferred-read window is present. -/
def hasDrw (p : PageKey) : Bool :=
  match pageType p with
  | none => false
  | some t => match t with
    | .mac | .apl | .pipe | .land | .tbl | .lrn | .ciph | .sched | .plcr | .arb | .ep
    | .ictl | .mbxw | .dma | .fcore | .chan | .inq | .chk | .lease | .rflt | .dflt | .log => true
    | .rcfg => instIdx p == 4
    | _ => false

/-- PAGE_CAPS.LOCK_COUNT. -/
def lockCount : PageType → Nat
  | .tbl | .iadm | .mbxw => 1
  | _ => 0

/-! ### Places (R8) -/

/-- Region index 0–15 of a core-die page. -/
def regionIdx (p : PageKey) : Nat := pgSite p * 4 + pgRegion p
/-- Cluster number 0–127 of a page of groups 0–7 of a core die (R16). -/
def clusterOf (p : PageKey) : Nat := pgSite p * 32 + pgRegion p * 8 + pgGroup p
/-- Network port group of a page of a line die. -/
def npgOf (p : PageKey) : Nat := (pgSite p - 4) * 8 + pgRegion p * 2 + pgGroup p
/-- Peer port of a page of a line die. -/
def peerOf (p : PageKey) : Nat := (pgSite p - 4) * 4 + pgRegion p
/-- Endpoint of a page of a host die, or of an instance page. -/
def epOf (p : PageKey) : Nat :=
  if isInst p then instEp p else (pgSite p - 8) * 8 + pgRegion p * 2 + pgGroup p

/-- A page of a cluster. -/
def cluPage (c n : Nat) : PageKey := mkPage (c / 32) (c / 8 % 4) (c % 8) n
/-- A region-shared page. -/
def regPage (r n : Nat) : PageKey := mkPage (r / 4) (r % 4) 8 n
/-- A pipeline-group page. -/
def pipePage (r n : Nat) : PageKey := mkPage (r / 4) (r % 4) 9 n
/-- A die-shared page. -/
def diePage (site n : Nat) : PageKey := mkPage site 0 10 n
/-- A page of network port group `n`. -/
def npgPage (n k : Nat) : PageKey := mkPage (4 + n / 8) (n % 8 / 2) (n % 2) k
/-- A page of peer port `q`. -/
def peerPage (q k : Nat) : PageKey := mkPage (4 + q / 4) (q % 4) 2 k
/-- A page of endpoint `e`. -/
def epPage (e k : Nat) : PageKey := mkPage (8 + e / 8) (e % 8 / 2) (e % 2) k

/-- Home region index of an endpoint (R8). -/
def epRegion (e : Nat) : Nat := e / 8 * 4 + e % 8 / 2
/-- Home region index of a network port group (R8). -/
def npgRegion (n : Nat) : Nat := n / 8 * 4 + n % 8 / 2
/-- Home region index of a peer port (R8). -/
def peerRegion (q : Nat) : Nat := q

/-- Page keys with fixed places. -/
def lbusPage : PageKey := mkPage 13 0 10 0
/-- Fabric barrier page. -/
def pfabPage : PageKey := mkPage 13 0 10 1
/-- Alarm map page. -/
def almapPage : PageKey := mkPage 13 0 10 2
/-- Binding page. -/
def bindPage : PageKey := mkPage 13 0 10 3
/-- OMC page. -/
def omcPage : PageKey := mkPage 12 0 10 0
/-- Fuse shadow page. -/
def fusePage : PageKey := mkPage 12 0 10 1
/-- Security engine page. -/
def secPage : PageKey := mkPage 12 0 10 2
/-- Sensor page. -/
def sensPage : PageKey := mkPage 12 0 10 3
/-- Boot page. -/
def bootPage : PageKey := mkPage 12 0 10 4
/-- Management page. -/
def mgmtPageKey : PageKey := mkPage 12 0 10 5
/-- Log page. -/
def logPage : PageKey := mkPage 12 0 10 6
/-- Package time page. -/
def ptimePage : PageKey := mkPage 12 0 10 7

/-! ### Power domains (R20, R42, R62) -/

/-- The number of the power domain of a page's block: 0–127 clusters, 128–191 pipelines,
192–207 cipher blocks, 208–223 movers, 224–239 region-shared, 240–243 core fabric and buffer,
244–247 HBM3E interface, 248–279 network port groups, 280–295 peer ports, 296–327 endpoints,
328–331 line fabric, 332–335 host fabric, 336 OMC processors, 337 security engine. -/
def domainOf (p : PageKey) : Option Nat :=
  match pageType p with
  | none => none
  | some t =>
    if isInst p then some (296 + instEp p)
    else match t with
      | .clu | .fcore | .chk | .lease | .chan | .cdbg => some (clusterOf p)
      | .pipe => some (128 + regionIdx p * 4 + pgPage p)
      | .ciph => some (192 + regionIdx p)
      | .dma | .dmach => some (208 + regionIdx p)
      | .tbl | .lrn | .cls | .inq | .arb => some (224 + regionIdx p)
      | .cfab | .pbuf | .sched | .plcr | .land => some (240 + pgSite p)
      | .hbm => some (244 + pgSite p)
      | .npg => some (248 + npgOf p)
      | .mac => if pgGroup p = 2 then some (280 + peerOf p) else some (248 + npgOf p)
      | .peer | .apl | .pwin => some (280 + peerOf p)
      | .ep | .epLink | .epWakep | .epIde | .epIwin => some (296 + epOf p)
      | .lfab | .tsu => some (328 + (pgSite p - 4))
      | .hfab => some (332 + (pgSite p - 8))
      | .omc => some 336
      | .sec => some 337
      | _ => none

/-- PAGE_CAPS.SWITCHED (R42). -/
def switched (p : PageKey) : Bool := (domainOf p).isSome

/-- The governing page of a domain (R63); the OMC page governs both domains of die M. -/
def governing (d : Nat) : PageKey :=
  if d < 128 then cluPage d 0
  else if d < 192 then pipePage ((d - 128) / 4) ((d - 128) % 4)
  else if d < 208 then regPage (d - 192) 2
  else if d < 224 then regPage (d - 208) 3
  else if d < 240 then regPage (d - 224) 0
  else if d < 244 then diePage (d - 240) 1
  else if d < 248 then diePage (d - 244) 4
  else if d < 280 then npgPage (d - 248) 0
  else if d < 296 then peerPage (d - 280) 0
  else if d < 328 then epPage (d - 296) 0
  else if d < 332 then diePage (4 + (d - 328)) 0
  else if d < 336 then diePage (8 + (d - 332)) 0
  else omcPage

/-- The fast clock of a domain in MHz (R42). -/
def clockMhz (d : Nat) : Nat :=
  if d < 128 then 2000 else if d < 192 then 2600 else if d < 208 then 1600
  else if d < 224 then 1300 else if d < 240 then 2600 else if d < 336 then 1300 else 1000

/-! ### Master identities (R27) -/

/-- Class, bits [15:13]. -/
def midClass (m : Mid) : Nat := natField m.toNat 13 3
/-- The OMC, or one of its requesters. -/
def midIsOmc (m : Mid) : Bool := midClass m == 0
/-- A host function. -/
def midIsHost (m : Mid) : Bool := midClass m == 1
/-- A flow thread. -/
def midIsThread (m : Mid) : Bool := midClass m == 2
/-- The debug port. -/
def midIsDebug (m : Mid) : Bool := midClass m == 5
/-- A hardware agent. -/
def midIsAgent (m : Mid) : Bool := midClass m == 6
/-- Endpoint of a host function. -/
def midEp (m : Mid) : Nat := natField m.toNat 8 5
/-- ARI function of a host function. -/
def midFn (m : Mid) : Nat := natField m.toNat 0 8
/-- Cluster of a flow thread. -/
def midCluster (m : Mid) : Nat := natField m.toNat 6 7
/-- Core of a flow thread. -/
def midCore (m : Mid) : Nat := natField m.toNat 3 3
/-- Thread within the core. -/
def midThread (m : Mid) : Nat := natField m.toNat 0 3

/-- The MID of host function `f` of endpoint `e`. -/
def hostMid (e f : Nat) : Mid := BitVec.ofNat 16 (0x2000 + e * 256 + f)
/-- The MID of a flow thread. -/
def threadMid (c k t : Nat) : Mid := BitVec.ofNat 16 (0x4000 + c * 64 + k * 8 + t)
/-- The MID of a DMA channel. -/
def dmaMid (region k : Nat) : Mid := BitVec.ofNat 16 (0x6000 + region * 64 + k)
/-- The MID of a peer port. -/
def peerMid (q : Nat) : Mid := BitVec.ofNat 16 (0x8000 + q)
/-- The MID of a hardware agent of a kind in a region. -/
def agentMid (kind r : Nat) : Mid := BitVec.ofNat 16 (0xC000 + kind * 256 + r * 16)
/-- The JTAG-attached debugger. -/
def jtagMid : Mid := 0xA000

end Sys2Proof.Machine
end

