-- ==== Sys2Proof/Machine/Regs.lean ====
section
/-! DEFINITION. The registers of every page type: offset, reset value and the access code of every
field (R4, R39 and the register tables of the chapters that own the blocks), and the encodings of
each field that are not reserved (R5). -/
namespace Sys2Proof.Machine

/-- One register of a page type, or an array of them: element `(i, j)` lies at
`off + i * s1 + j * s2`. The masks hold the bits of each access code of R4; a bit in none of them
is RO, RS or RSV. `legal` lists, for a field with reserved encodings, its low bit, its width and
the ranges of encodings that are not reserved. -/
structure RegDesc where
  name : String
  off : Nat
  n1 : Nat := 1
  s1 : Nat := 0
  n2 : Nat := 1
  s2 : Nat := 0
  reset : Reg := 0
  rw : Reg := 0
  rwl : Reg := 0
  w1c : Reg := 0
  w1s : Reg := 0
  rc : Reg := 0
  wo : Reg := 0
  legal : List (Nat × Nat × List (Nat × Nat)) := []
  deriving DecidableEq, Repr

/-- Does the register, or an element of the array, lie at this offset? -/
def RegDesc.covers (d : RegDesc) (off : Nat) : Bool :=
  if off < d.off then false
  else
    let r := off - d.off
    let i := if d.s1 = 0 then 0 else r / d.s1
    let r2 := if d.s1 = 0 then r else r % d.s1
    let j := if d.s2 = 0 then 0 else r2 / d.s2
    let r3 := if d.s2 = 0 then r2 else r2 % d.s2
    decide (i < d.n1) && decide (j < d.n2) && r3 == 0

/-- Registers of the common header (02_register_pages.md, tables near R39, R40, R43, R46). -/
def hdrRegs : List RegDesc := [
  { name := "PAGE_ID", off := 0x0, reset := 0x00001000 },
  { name := "PAGE_CAPS", off := 0x4 },
  { name := "PAGE_CTL", off := 0x8, rw := 0x00000031, w1s := 0x00000002, legal := [(4, 2, [(0,
    2)])] },
  { name := "PAGE_STS", off := 0xC },
  { name := "INT_RAW", off := 0x10, w1c := 0xFFFFFFFF },
  { name := "INT_EN", off := 0x14, rw := 0xFFFFFFFF },
  { name := "INT_PEND", off := 0x18 },
  { name := "INT_SET", off := 0x1C, w1s := 0xFFFFFFFF },
  { name := "FAULT_FIRST", off := 0x20 },
  { name := "FAULT_COUNT", off := 0x24, rc := 0x0000FFFF },
  { name := "CFG_SEAL", off := 0x28, w1s := 0x00000001 },
  { name := "WAKE_CTL", off := 0x2C, reset := 0x00000003, rw := 0x00000003, w1s := 0x00000100 },
  { name := "PAGE_SEQ", off := 0x30 },
  { name := "FERRY_STS", off := 0x34 },
  { name := "DRW_REQ", off := 0xE0, rw := 0x40FFFFFF, w1s := 0x80000000 },
  { name := "DRW_STS", off := 0xE4 },
  { name := "DRW_DATA_LO", off := 0xE8 },
  { name := "DRW_DATA_HI", off := 0xEC } ]

/-- Registers of the LBUS page (02_register_pages.md, tables near R54). -/
def lbusRegs : List RegDesc := [
  { name := "LBUS_UNMAPPED", off := 0x100, rc := 0xFFFFFFFF },
  { name := "LBUS_BADSIZE", off := 0x104, rc := 0xFFFFFFFF },
  { name := "LBUS_ISOVIOL", off := 0x108, rc := 0xFFFFFFFF },
  { name := "LBUS_LAST_VIOL", off := 0x10C } ]

/-- Registers of the NPG page (04_line_ports.md, tables near R80). -/
def npgRegs : List RegDesc := [
  { name := "NPG_MODE", off := 0x100, rw := 0x00000007, legal := [(0, 3, [(0, 4)])] },
  { name := "NPG_LANE_MAP", off := 0x104, reset := 0x00FAC688, rwl := 0x00FFFFFF },
  { name := "NPG_POL", off := 0x108, rwl := 0x0000FFFF },
  { name := "NPG_LANE_STS", off := 0x10C } ]

/-- Registers of the PEER page (04_line_ports.md, tables near R80). -/
def peerRegs : List RegDesc := [
  { name := "PEER_MODE", off := 0x100, reset := 0x00000010, rw := 0x00000077, legal := [(4, 3,
    [(1, 4)]), (0, 3, [(0, 2)])] },
  { name := "PEER_LANE_MAP", off := 0x104, reset := 0x00FAC688, rwl := 0x00FFFFFF },
  { name := "PEER_POL", off := 0x108, rwl := 0x0000FFFF },
  { name := "PEER_LANE_STS", off := 0x10C } ]

/-- Registers of the MAC page (04_line_ports.md, tables near R89). -/
def macRegs : List RegDesc := [
  { name := "MAC_CTL", off := 0x100, reset := 0x00002400, rw := 0x00003FFF, rwl := 0x00030000,
    legal := [(16, 2, [(0, 1)]), (0, 14, [(64, 9216)])] },
  { name := "MAC_RXCTL", off := 0x104, reset := 0x00000019, rw := 0x0000001F },
  { name := "MAC_PHY", off := 0x108, reset := 0x00000011, rw := 0x00000011, rwl := 0x00000F00,
    legal := [(8, 4, [(0, 3)])] },
  { name := "MAC_LINK_STS", off := 0x10C },
  { name := "MAC_PREEMPT", off := 0x110, rw := 0x00000036 },
  { name := "MAC_PREEMPT_STS", off := 0x114 },
  { name := "MAC_FILT_VALID", off := 0x118, rw := 0xFFFFFFFF },
  { name := "MAC_HALF_RX0", off := 0x120, w1c := 0xFFFFFFFF },
  { name := "MAC_HALF_RX1", off := 0x124, w1c := 0x0000003F },
  { name := "MAC_HALF_TX", off := 0x128, w1c := 0x000FFFFF },
  { name := "MAC_A2408_SUM", off := 0x130, w1c := 0x000000FF },
  { name := "MAC_FILT_LO", off := 0x200, n1 := 32, s1 := 0x8, rw := 0xFFFFFFFF },
  { name := "MAC_FILT_HI", off := 0x204, n1 := 32, s1 := 0x8, rw := 0x0000FFFF } ]

/-- Registers of the PTIME page (04_line_ports.md, tables near R96). -/
def ptimeRegs : List RegDesc := [
  { name := "PTIME_NOW_LO", off := 0x100 },
  { name := "PTIME_NOW_HI", off := 0x104 },
  { name := "PTIME_RATE", off := 0x108, rw := 0xFFFFFFFF },
  { name := "PTIME_STEP_LO", off := 0x110, rw := 0xFFFFFFFF },
  { name := "PTIME_STEP_HI", off := 0x114, rw := 0xFFFFFFFF },
  { name := "PTIME_STEP_CTL", off := 0x118, w1s := 0x00000001 },
  { name := "PTIME_STS", off := 0x11C },
  { name := "PTIME_PPS_IN_LO", off := 0x120 },
  { name := "PTIME_PPS_IN_HI", off := 0x124 },
  { name := "PTIME_PPS_OUT", off := 0x128, reset := 0x000186A0, rw := 0xBFFFFFFF } ]

/-- Registers of the TSU page (04_line_ports.md, tables near R97). -/
def tsuRegs : List RegDesc := [
  { name := "TSU_STS", off := 0x100 } ]

/-- Registers of the APL page (04_line_ports.md, tables near R114). -/
def aplRegs : List RegDesc := [
  { name := "APL_CTL", off := 0x100, reset := 0x00040004, rw := 0x00FF000F, legal := [(16, 8,
    [(1, 255)]), (0, 4, [(1, 15)])] },
  { name := "APL_CPL_TO", off := 0x104, reset := 0x00000032, rw := 0x0000FFFF, legal := [(0, 16,
    [(1, 65535)])] },
  { name := "APL_STS", off := 0x108 },
  { name := "APL_PEER_INFO", off := 0x10C },
  { name := "APL_LOCAL_ID", off := 0x110, rwl := 0x00FFFFFF },
  { name := "APL_HALF", off := 0x114, w1c := 0x00007FFF } ]

/-- Registers of the PIPE page (05_parsing.md, 07_actions_tunnels.md, tables near R140, R207). -/
def pipeRegs : List RegDesc := [
  { name := "PIPE_PARSE_PORTS", off := 0x100, reset := 0x12B517C1, rw := 0xFFFFFFFF },
  { name := "PIPE_ROCE_PORTS", off := 0x104, reset := 0x12B71144, rw := 0xFFFFFFFF },
  { name := "PIPE_MALF_PROF", off := 0x108, reset := 0x01004000, rw := 0x3FFFFFFF },
  { name := "PIPE_EXC", off := 0x10C, rw := 0x0000073F },
  { name := "PIPE_EXP_PORTS", off := 0x110, rw := 0x0007FFFF },
  { name := "PIPE_EXP_PCP", off := 0x114, rw := 0x000000FF },
  { name := "PIPE_STS", off := 0x118 },
  { name := "PIPE_HALF", off := 0x11C, w1c := 0x000FFFFE },
  { name := "PIPE_CNT_BASE", off := 0x120, rw := 0x00FFFFFF },
  { name := "PIPE_CNT_CFG", off := 0x124, reset := 0x0000000C, rw := 0x8000001F, legal := [(0, 5,
    [(12, 22)])] },
  { name := "PIPE_CNT_FLUSH", off := 0x128, w1s := 0x00000001 },
  { name := "PIPE_AS_IDX", off := 0x130, rw := 0x00003FFF },
  { name := "PIPE_AS_CMD", off := 0x134, w1s := 0x00000003 },
  { name := "PIPE_AS_DATA", off := 0x140, n1 := 8, s1 := 0x4, rw := 0xFFFFFFFF },
  { name := "PIPE_TPL_IDX", off := 0x160, rw := 0x00001FFF, legal := [(0, 13, [(1, 8191)])] },
  { name := "PIPE_TPL_CMD", off := 0x164, w1s := 0x00000003 },
  { name := "PIPE_TPL_DATA", off := 0x180, n1 := 16, s1 := 0x4, rw := 0xFFFFFFFF },
  { name := "PIPE_STG_CTL", off := 0x200, n1 := 12, s1 := 0x10, rw := 0xF0FF1F00 },
  { name := "PIPE_STG_DEFAULT", off := 0x204, n1 := 12, s1 := 0x10, rw := 0x00FFFFFF },
  { name := "PIPE_CS_DEST", off := 0x300, n1 := 16, s1 := 0x10, rw := 0xFFFFFFFF },
  { name := "PIPE_CS_CTL", off := 0x304, n1 := 16, s1 := 0x10, rw := 0x9FFF03FF, legal := [(0,
    10, [(0, 0), (64, 512)])] },
  { name := "PIPE_CS_RATE", off := 0x308, n1 := 16, s1 := 0x10, rw := 0x0000FFFF } ]

/-- Registers of the CLS page (05_parsing.md, tables near R141). -/
def clsRegs : List RegDesc := [
  { name := "CLS_ACTIVE", off := 0x100 },
  { name := "CLS_SWAP", off := 0x104, w1s := 0x00000001 },
  { name := "CLS_SWAP_STS", off := 0x108, reset := 0x80000000, w1c := 0x20000000 },
  { name := "CLS_RULE_IDX", off := 0x10C, reset := 0x00020000, rw := 0x0003FFFF },
  { name := "CLS_RULE_CMD", off := 0x110, rw := 0x00000004, w1c := 0x40000000, w1s := 0x00000003 },
  { name := "CLS_RULE_VALUE", off := 0x120, n1 := 10, s1 := 0x4, rw := 0xFFFFFFFF },
  { name := "CLS_RULE_MASK", off := 0x150, n1 := 10, s1 := 0x4, rw := 0xFFFFFFFF },
  { name := "CLS_RULE_RESULT", off := 0x180, rw := 0xFFFFFFFF },
  { name := "CLS_PROF", off := 0x400, n1 := 2, s1 := 0x400, n2 := 16, s2 := 0x40, rw := 0x8000007F },
  { name := "CLS_PROF", off := 0x404, n1 := 2, s1 := 0x400, n2 := 16, s2 := 0x40, rw := 0x8000007F },
  { name := "CLS_PROF", off := 0x408, n1 := 2, s1 := 0x400, n2 := 16, s2 := 0x40, rw := 0x8000007F },
  { name := "CLS_PROF", off := 0x40C, n1 := 2, s1 := 0x400, n2 := 16, s2 := 0x40, rw := 0x8000007F },
  { name := "CLS_PROF", off := 0x410, n1 := 2, s1 := 0x400, n2 := 16, s2 := 0x40, rw := 0x8000007F },
  { name := "CLS_PROF", off := 0x414, n1 := 2, s1 := 0x400, n2 := 16, s2 := 0x40, rw := 0x8000007F },
  { name := "CLS_PROF", off := 0x418, n1 := 2, s1 := 0x400, n2 := 16, s2 := 0x40, rw := 0x8000007F },
  { name := "CLS_PROF", off := 0x41C, n1 := 2, s1 := 0x400, n2 := 16, s2 := 0x40, rw := 0x8000007F },
  { name := "CLS_PROF", off := 0x420, n1 := 2, s1 := 0x400, n2 := 16, s2 := 0x40, rw := 0x8000007F },
  { name := "CLS_PROF", off := 0x424, n1 := 2, s1 := 0x400, n2 := 16, s2 := 0x40, rw := 0x8000007F } ]

/-- Registers of the LAND page (05_parsing.md, tables near R141). -/
def landRegs : List RegDesc := [
  { name := "LAND_CTL", off := 0x100, reset := 0x00000014, rw := 0x0000FFFF, legal := [(0, 16,
    [(1, 65535)])] },
  { name := "LAND_STS", off := 0x104 } ]

/-- Registers of the TBL page (02_register_pages.md, 06_exact_match_tables.md, tables near R49, R177). -/
def tblRegs : List RegDesc := [
  { name := "TBL_LOCK", off := 0x100 },
  { name := "TBL_LOCK_PEEK", off := 0x104 },
  { name := "TBL_LOCK_BADREL", off := 0x108, rc := 0x0000FFFF },
  { name := "TBL_CMD_BASE_LO", off := 0x110, rw := 0xFFFFFFC0 },
  { name := "TBL_CMD_BASE_HI", off := 0x114, rw := 0xFFFFFFFF },
  { name := "TBL_CMD_CFG", off := 0x118, reset := 0x00000006, rw := 0x0000800F, legal := [(0, 4,
    [(6, 12)])] },
  { name := "TBL_CMD_DB", off := 0x11C, rw := 0x0000FFFF },
  { name := "TBL_CMD_STS", off := 0x120, w1c := 0x40000000 },
  { name := "TBL_WALK", off := 0x124, w1s := 0x40000000 },
  { name := "TBL_WALK_POS", off := 0x128 },
  { name := "TBL_DESC_CTL", off := 0x200, n1 := 8, s1 := 0x20, rw := 0x8FFF1F00 },
  { name := "TBL_DESC_BASE", off := 0x204, n1 := 8, s1 := 0x20, rw := 0xFFFFFFFF },
  { name := "TBL_SEED0", off := 0x208, n1 := 8, s1 := 0x20, rw := 0xFFFFFFFF },
  { name := "TBL_SEED1", off := 0x20C, n1 := 8, s1 := 0x20, rw := 0xFFFFFFFF },
  { name := "TBL_AGE", off := 0x210, n1 := 8, s1 := 0x20, reset := 0x000003E8, rw := 0x0000FFFF,
    legal := [(0, 16, [(1, 65535)])] },
  { name := "TBL_OCC", off := 0x214, n1 := 8, s1 := 0x20 },
  { name := "TBL_OVF", off := 0x218, n1 := 8, s1 := 0x20 },
  { name := "TBL_GEN", off := 0x21C, n1 := 8, s1 := 0x20 } ]

/-- Registers of the LRN page (06_exact_match_tables.md, tables near R561). -/
def lrnRegs : List RegDesc := [
  { name := "LRN_CTL", off := 0x100, reset := 0x00000064, rw := 0xC000FFFF, legal := [(0, 16,
    [(1, 65535)])] },
  { name := "LRN_RING_LO", off := 0x104, rw := 0xFFFFFFC0 },
  { name := "LRN_RING_HI", off := 0x108, rw := 0xFFFFFFFF },
  { name := "LRN_RING_CFG", off := 0x10C, reset := 0x00000006, rw := 0xFFFF000F, legal := [(0, 4,
    [(6, 15)])] },
  { name := "LRN_RING_IDX", off := 0x110, rw := 0xFFFF0000 },
  { name := "LRN_STS", off := 0x114 },
  { name := "LRN_TMPL_SET", off := 0x118, rw := 0xFFFFFFFF },
  { name := "LRN_TMPL_DATA_LO", off := 0x11C, rw := 0xFFFF0000 },
  { name := "LRN_TMPL_DATA_HI", off := 0x120, rw := 0xFFFFFFFF } ]

/-- Registers of the CU page (08_cipher.md, tables near R236). -/
def cuRegs : List RegDesc := [
  { name := "CU_WIN_BASE", off := 0x100 },
  { name := "CU_WIN_CNT", off := 0x104 },
  { name := "CU_CMD", off := 0x108, rw := 0x7FFFFFFF, w1s := 0x80000000 },
  { name := "CU_CMD_STS", off := 0x10C },
  { name := "CU_CMD_ARG", off := 0x110, rw := 0x00FFFFFF },
  { name := "CU_EVT", off := 0x114, rc := 0xF0FFFFFF },
  { name := "CU_LOAD_CTL", off := 0x118, rw := 0x0FC00000 },
  { name := "CU_EVT_STS", off := 0x11C, w1c := 0x80000000 },
  { name := "CU_LIMIT_LO", off := 0x120, rw := 0xFFFFFFFF },
  { name := "CU_LIMIT_HI", off := 0x124, rw := 0x0000FFFF },
  { name := "CU_SOFT_LO", off := 0x128, rw := 0xFFFFFFFF },
  { name := "CU_SOFT_HI", off := 0x12C, rw := 0x0000FFFF },
  { name := "CU_USAGE_LO", off := 0x130 },
  { name := "CU_USAGE_HI", off := 0x134 },
  { name := "CU_BLOB", off := 0x140, n1 := 32, s1 := 0x4, rw := 0xFFFFFFFF },
  { name := "CU_KEY", off := 0x1C0, n1 := 16, s1 := 0x4, wo := 0xFFFFFFFF },
  { name := "CU_PARAM", off := 0x200, n1 := 16, s1 := 0x4, rw := 0xFFFFFFFF },
  { name := "CU_DCTX", off := 0x240, n1 := 4, s1 := 0x4, rw := 0xFFFFFFFF },
  { name := "CU_SALT", off := 0x250, n1 := 4, s1 := 0x4, rw := 0xFFFFFFFF } ]

/-- Registers of the CIPH page (08_cipher.md, tables near R236, R239). -/
def ciphRegs : List RegDesc := [
  { name := "CIPH_VAULT", off := 0x100, rwl := 0x00FFFFFF },
  { name := "CIPH_CTL", off := 0x104, rwl := 0x80000000 },
  { name := "CIPH_CACHE_STS", off := 0x108 },
  { name := "CIPH_PIN_STS", off := 0x10C },
  { name := "CIPH_LANES", off := 0x110 },
  { name := "CU_WIN_BASE", off := 0x200 },
  { name := "CU_WIN_CNT", off := 0x204 },
  { name := "CU_CMD", off := 0x208, rw := 0x7FFFFFFF, w1s := 0x80000000 },
  { name := "CU_CMD_STS", off := 0x20C },
  { name := "CU_CMD_ARG", off := 0x210, rw := 0x00FFFFFF },
  { name := "CU_EVT", off := 0x214, rc := 0xF0FFFFFF },
  { name := "CU_LOAD_CTL", off := 0x218, rw := 0x0FC00000 },
  { name := "CU_EVT_STS", off := 0x21C, w1c := 0x80000000 },
  { name := "CU_LIMIT_LO", off := 0x220, rw := 0xFFFFFFFF },
  { name := "CU_LIMIT_HI", off := 0x224, rw := 0x0000FFFF },
  { name := "CU_SOFT_LO", off := 0x228, rw := 0xFFFFFFFF },
  { name := "CU_SOFT_HI", off := 0x22C, rw := 0x0000FFFF },
  { name := "CU_USAGE_LO", off := 0x230 },
  { name := "CU_USAGE_HI", off := 0x234 },
  { name := "CU_BLOB", off := 0x240, n1 := 32, s1 := 0x4, rw := 0xFFFFFFFF },
  { name := "CU_KEY", off := 0x2C0, n1 := 16, s1 := 0x4, wo := 0xFFFFFFFF },
  { name := "CU_PARAM", off := 0x300, n1 := 16, s1 := 0x4, rw := 0xFFFFFFFF },
  { name := "CU_DCTX", off := 0x340, n1 := 4, s1 := 0x4, rw := 0xFFFFFFFF },
  { name := "CU_SALT", off := 0x350, n1 := 4, s1 := 0x4, rw := 0xFFFFFFFF } ]

/-- Registers of the SCHED page (09_egress_scheduling.md, tables near R265). -/
def schedRegs : List RegDesc := [
  { name := "SCHED_NODE_IDX", off := 0x100, rw := 0xC001FFFF, legal := [(30, 2, [(0, 2)])] },
  { name := "SCHED_NODE_CMD", off := 0x104, w1s := 0x00000003 },
  { name := "SCHED_NODE_DATA", off := 0x110, n1 := 8, s1 := 0x4, rw := 0xFFFFFFFF },
  { name := "SCHED_OUT_IDX", off := 0x140, rw := 0x000000FF },
  { name := "SCHED_OUT_CMD", off := 0x144, w1s := 0x00000003 },
  { name := "SCHED_OUT_DATA", off := 0x150, n1 := 12, s1 := 0x4, rw := 0xFFFFFFFF },
  { name := "SCHED_GATE_IDX", off := 0x180, rw := 0x00001FFF },
  { name := "SCHED_GATE_CMD", off := 0x184, w1s := 0x00000003 },
  { name := "SCHED_GATE_LO", off := 0x188, rw := 0xFFFFFFFF },
  { name := "SCHED_GATE_HI", off := 0x18C, rw := 0xFFFFFFFF },
  { name := "SCHED_EXP_SUM", off := 0x190 } ]

/-- Registers of the PLCR page (09_egress_scheduling.md, tables near R267). -/
def plcrRegs : List RegDesc := [
  { name := "PLCR_IDX", off := 0x100, rw := 0x0003FFFF },
  { name := "PLCR_CMD", off := 0x104, w1s := 0x00000003 },
  { name := "PLCR_DATA", off := 0x110, n1 := 8, s1 := 0x4, rw := 0xFFFFFFFF } ]

/-- Registers of the ARB page (09_egress_scheduling.md, tables near R268). -/
def arbRegs : List RegDesc := [
  { name := "ARB_TICKETS", off := 0x100, n1 := 3, s1 := 0x40, n2 := 4, s2 := 0x4,
    reset := 0x10101010, rw := 0xFFFFFFFF },
  { name := "ARB_SEED", off := 0x110, n1 := 3, s1 := 0x40, reset := 0x00000001, rw := 0xFFFFFFFF,
    legal := [(0, 32, [(1, 4294967295)])] },
  { name := "ARB_MASK", off := 0x114, n1 := 3, s1 := 0x40 },
  { name := "ARB_REQ", off := 0x118, n1 := 3, s1 := 0x40 },
  { name := "ARB_FORD", off := 0x11C, n1 := 3, s1 := 0x40 } ]

/-- Registers of the EP page (10_host_endpoints.md, tables near R299). -/
def epRegs : List RegDesc := [
  { name := "EP_CTL", off := 0x100, rw := 0x00000002, w1s := 0x00000001 },
  { name := "EP_STS", off := 0x104, reset := 0x80000000 },
  { name := "EP_IDS", off := 0x108, rwl := 0xFFFFFFFF },
  { name := "EP_FUNCS", off := 0x10C, reset := 0x00007F7F, rwl := 0x0000FFFF },
  { name := "EP_CPL_TO", off := 0x110 },
  { name := "EP_TAG_STS", off := 0x114 },
  { name := "EP_FLR_ACT", off := 0x120, n1 := 8, s1 := 0x4 },
  { name := "EP_D3_", off := 0x140, n1 := 8, s1 := 0x4 } ]

/-- Registers of the EP_LINK page (10_host_endpoints.md, tables near R300). -/
def epLinkRegs : List RegDesc := [
  { name := "EP_LINK_CFG", off := 0x100, rwl := 0xFC000000, legal := [(29, 2, [(0, 2)]), (26, 3,
    [(0, 5)])] },
  { name := "EP_LINK_STS", off := 0x104, reset := 0x00300000 },
  { name := "EP_LINK_IDLE", off := 0x108, reset := 0x0040000A, rw := 0xFFFFFFFF, legal := [(16,
    16, [(1, 65535)]), (0, 16, [(1, 65535)])] },
  { name := "EP_LINK_PM", off := 0x10C, reset := 0xE0000000, rw := 0xE0000000 },
  { name := "EP_LINK_LTR", off := 0x110, reset := 0x88648864, rw := 0x9FFF9FFF } ]

/-- Registers of the EP_WAKEP page (10_host_endpoints.md, tables near R300). -/
def epWakepRegs : List RegDesc := [
  { name := "WKP_HIT", off := 0x100, w1c := 0xFFFFFFFF },
  { name := "WKP_CTL", off := 0x200, n1 := 32, s1 := 0x20, rw := 0x80FF01FF, legal := [(0, 9,
    [(0, 384)])] },
  { name := "WKP_CRC", off := 0x204, n1 := 32, s1 := 0x20, rw := 0x0000FFFF },
  { name := "WKP_MASK", off := 0x210, n1 := 32, s1 := 0x20, n2 := 4, s2 := 0x4, rw := 0xFFFFFFFF } ]

/-- Registers of the EP_IDE page (10_host_endpoints.md, tables near R300). -/
def epIdeRegs : List RegDesc := [
  { name := "EP_IDE_STS", off := 0x100 },
  { name := "EP_TDI", off := 0x200, n1 := 256, s1 := 0x4 } ]

/-- Registers of the EP_IWIN page (10_host_endpoints.md, tables near R300). -/
def epIwinRegs : List RegDesc := [
  { name := "EP_IWIN_SEL", off := 0x100, rw := 0x0000FF3F } ]

/-- Registers of the PWIN page (10_host_endpoints.md, tables near R300). -/
def pwinRegs : List RegDesc := [
  { name := "PWIN_ACTIVE", off := 0x100 },
  { name := "PWIN_COMMIT", off := 0x104, w1s := 0x00000001 },
  { name := "PWIN_STS", off := 0x108, reset := 0x80000000, w1c := 0x20000000 },
  { name := "PWIN_CTL", off := 0x400, n1 := 2, s1 := 0x400, n2 := 64, s2 := 0x10,
    reset := 0x03000000, rw := 0xFFDFFF03, legal := [(22, 6, [(12, 58)])] },
  { name := "PWIN_BASE_LO", off := 0x404, n1 := 2, s1 := 0x400, n2 := 64, s2 := 0x10,
    rw := 0xFFFFF000 },
  { name := "PWIN_BASE_HI", off := 0x408, n1 := 2, s1 := 0x400, n2 := 64, s2 := 0x10,
    rw := 0xFFFFFFFF } ]

/-- Registers of the ICTL page (11_instances_mailboxes.md, 16_storage_offload.md, tables near R314, R451). -/
def ictlRegs : List RegDesc := [
  { name := "ICTL_CTL", off := 0x100, rw := 0x00000001 },
  { name := "ICTL_STS", off := 0x104, w1c := 0x20000000 },
  { name := "ICTL_GRANT", off := 0x108 },
  { name := "ICTL_FLAGS", off := 0x10C },
  { name := "ICTL_ID", off := 0x110 },
  { name := "NV_STEER", off := 0x180, reset := 0x00000600, rw := 0x873F0F00, legal := [(8, 4,
    [(6, 12)])] },
  { name := "NV_AREA", off := 0x184, rw := 0x000000FF },
  { name := "NV_SLOTS", off := 0x188 },
  { name := "NVME_PROP", off := 0x200, n1 := 16, s1 := 0x4 } ]

/-- Registers of the IADM page (02_register_pages.md, 11_instances_mailboxes.md, tables near R49, R315). -/
def iadmRegs : List RegDesc := [
  { name := "IADM_LOCK", off := 0x100 },
  { name := "IADM_LOCK_PEEK", off := 0x104 },
  { name := "IADM_LOCK_BADREL", off := 0x108, rc := 0x0000FFFF },
  { name := "IADM_SEL", off := 0x110, rw := 0x000000FF },
  { name := "IADM_CMD", off := 0x114, rw := 0x0000000F, w1s := 0x80000000, legal := [(0, 4, [(1,
    4)])] },
  { name := "IADM_STS", off := 0x118 },
  { name := "IADM_WR", off := 0x11C, rw := 0x00001FFF },
  { name := "IADM_CR", off := 0x120, rw := 0x00000FFF },
  { name := "IADM_CTX_BASE", off := 0x124, rw := 0x00FFFFFF },
  { name := "IADM_CTX_CNT", off := 0x128, rw := 0x0001FFFF },
  { name := "IADM_FLAGS", off := 0x12C, rw := 0x00000001 },
  { name := "IADM_STATE", off := 0x130 },
  { name := "IADM_POOL_WR", off := 0x140, reset := 0x10001000, rw := 0x00003FFF },
  { name := "IADM_POOL_CR", off := 0x144, reset := 0x08000800, rw := 0x00001FFF },
  { name := "IADM_POOL_CTX", off := 0x148, rw := 0x00FFFFFF },
  { name := "IADM_POOL_CTXN", off := 0x14C, reset := 0x00020000, rw := 0x0003FFFF },
  { name := "IADM_POOL_CTXF", off := 0x150, reset := 0x00020000 } ]

/-- Registers of the MBXW page (02_register_pages.md, 11_instances_mailboxes.md, tables near R49, R322). -/
def mbxwRegs : List RegDesc := [
  { name := "MBXW_LOCK", off := 0x100 },
  { name := "MBXW_LOCK_PEEK", off := 0x104 },
  { name := "MBXW_LOCK_BADREL", off := 0x108, rc := 0x0000FFFF },
  { name := "MBXW_SEL", off := 0x110, rw := 0x000000FF },
  { name := "MBXW_RETRACT", off := 0x114, w1s := 0x00000001 },
  { name := "MBXW_FULL", off := 0x120, n1 := 8, s1 := 0x4 },
  { name := "MBXW_ACK", off := 0x140, n1 := 8, s1 := 0x4, w1c := 0xFFFFFFFF },
  { name := "MBXW_EVT", off := 0x160, n1 := 8, s1 := 0x4, w1c := 0xFFFFFFFF } ]

/-- Registers of the BIND page (11_instances_mailboxes.md, tables near R324). -/
def bindpRegs : List RegDesc := [
  { name := "BIND_IDX", off := 0x100, rw := 0x00000FFF },
  { name := "BIND_CMD", off := 0x104, w1s := 0x00000003 },
  { name := "BIND_DATA", off := 0x108, rw := 0xFFFFFFFF } ]

/-- Registers of the RCFG page (12_work_rings.md, tables near R326). -/
def rcfgRegs : List RegDesc := [
  { name := "RCFG_IDX", off := 0x100, rw := 0x0000FFFF },
  { name := "RCFG_CMD", off := 0x104, w1s := 0x00000003 },
  { name := "RCFG_DATA", off := 0x110, n1 := 8, s1 := 0x4, rw := 0xFFFFFFFF },
  { name := "RCFG_DEFRX", off := 0x140, rw := 0x8000FFFF } ]

/-- Registers of the IRQM page (12_work_rings.md, tables near R347). -/
def irqmRegs : List RegDesc := [
  { name := "IRQM_CNT", off := 0x200, n1 := 64, s1 := 0x8, rw := 0x0000FFFF },
  { name := "IRQM_TIME", off := 0x204, n1 := 64, s1 := 0x8, rw := 0x00FFFFFF } ]

/-- Registers of the DMA page (13_dma_movers.md, tables near R373). -/
def dmaRegs : List RegDesc := [
  { name := "DMA_CTL", off := 0x100, reset := 0x00000008, rw := 0x0000000C },
  { name := "DMA_HALTED_LO", off := 0x104 },
  { name := "DMA_HALTED_HI", off := 0x108 } ]

/-- Registers of the DMACH page (13_dma_movers.md, tables near R374). -/
def dmachRegs : List RegDesc := [
  { name := "DMACH_CTL", off := 0x100, n1 := 8, s1 := 0x40, reset := 0x05800000,
    rw := 0x9FC00000, rwl := 0x00003F00, w1s := 0x60000000, legal := [(22, 4, [(6, 12)])] },
  { name := "DMACH_OWNER", off := 0x104, n1 := 8, s1 := 0x40, rwl := 0x8F7F0000 },
  { name := "DMACH_RING_LO", off := 0x108, n1 := 8, s1 := 0x40, rw := 0xFFFFFFC0 },
  { name := "DMACH_RING_HI", off := 0x10C, n1 := 8, s1 := 0x40, rw := 0xFFFFFFFF },
  { name := "DMACH_RING_TGT", off := 0x110, n1 := 8, s1 := 0x40, rw := 0xFFFFFFFF },
  { name := "DMACH_DB", off := 0x114, n1 := 8, s1 := 0x40, rw := 0x0000FFFF },
  { name := "DMACH_STS", off := 0x118, n1 := 8, s1 := 0x40, w1c := 0x20000000 },
  { name := "DMACH_WAIT", off := 0x11C, n1 := 8, s1 := 0x40, rc := 0xFFFFFFFF } ]

/-- Registers of the CLU page (14_flow_cores.md, tables near R409). -/
def cluRegs : List RegDesc := [
  { name := "CLU_CTL", off := 0x100, rw := 0x00000002, w1s := 0x00000001 },
  { name := "CLU_STS", off := 0x104 },
  { name := "CLU_ID", off := 0x108 } ]

/-- Registers of the FCORE page (14_flow_cores.md, tables near R409). -/
def fcoreRegs : List RegDesc := [
  { name := "FCORE_THR_CTL", off := 0x100, n1 := 8, s1 := 0x4, rw := 0x80007FFF },
  { name := "FCORE_THR_STS", off := 0x120, n1 := 8, s1 := 0x4 } ]

/-- Registers of the CHAN page (14_flow_cores.md, tables near R410). -/
def chanRegs : List RegDesc := [
  { name := "CHAN_SW_STS", off := 0x100, w1c := 0x80000000 },
  { name := "CHAN_STS", off := 0x104, w1c := 0x80000000 },
  { name := "CHAN_OMC_SEND", off := 0x108, rw := 0x000001FF, w1c := 0x40000000, w1s := 0x80000000 },
  { name := "CHAN_OMC_MSG", off := 0x110, n1 := 16, s1 := 0x4, rw := 0xFFFFFFFF },
  { name := "CHAN_BIND", off := 0x200, n1 := 64, s1 := 0x8, rwl := 0xF7FFFFFF },
  { name := "CHAN_BIND2", off := 0x204, n1 := 64, s1 := 0x8, rwl := 0xFFF80000 } ]

/-- Registers of the INQ page (14_flow_cores.md, tables near R411). -/
def inqRegs : List RegDesc := [
  { name := "INQ_LIMIT", off := 0x100, n1 := 8, s1 := 0x4, reset := 0x00000400, rw := 0x00003FFF },
  { name := "INQ_DEPTH", off := 0x120, n1 := 8, s1 := 0x4 },
  { name := "INQ_TOTAL", off := 0x140 } ]

/-- Registers of the CDBG page (14_flow_cores.md, tables near R412). -/
def cdbgRegs : List RegDesc := [
  { name := "CDBG_SESSION", off := 0x100, rw := 0x80000000 },
  { name := "CDBG_SEL", off := 0x104, rw := 0x003F033F, legal := [(16, 6, [(0, 33)])] },
  { name := "CDBG_CMD", off := 0x108, w1s := 0x0000001F },
  { name := "CDBG_REG_LO", off := 0x110, rw := 0xFFFFFFFF },
  { name := "CDBG_REG_HI", off := 0x114, rw := 0xFFFFFFFF },
  { name := "CDBG_STG_INFO", off := 0x118 },
  { name := "CDBG_STG", off := 0x140, n1 := 16, s1 := 0x4 },
  { name := "CDBG_HALTED", off := 0x180, n1 := 2, s1 := 0x4 } ]

/-- Registers of the CHK page (14_flow_cores.md, tables near R412). -/
def chkRegs : List RegDesc := [
  { name := "CHK_CFG", off := 0x200, n1 := 16, s1 := 0x20, reset := 0x04000000, rw := 0xFFF8FFFF,
    legal := [(22, 6, [(1, 32)])] },
  { name := "CHK_STS", off := 0x204, n1 := 16, s1 := 0x20, w1c := 0x20000000 },
  { name := "CHK_RES_LO", off := 0x208, n1 := 16, s1 := 0x20 },
  { name := "CHK_RES_HI", off := 0x20C, n1 := 16, s1 := 0x20 },
  { name := "CHK_EXP_LO", off := 0x210, n1 := 16, s1 := 0x20 },
  { name := "CHK_EXP_HI", off := 0x214, n1 := 16, s1 := 0x20 },
  { name := "CHK_ALIVE_LAST", off := 0x218, n1 := 16, s1 := 0x20 },
  { name := "CHK_ALIVE_SEEN", off := 0x21C, n1 := 16, s1 := 0x20 } ]

/-- Registers of the LEASE page (15_holquasol_store.md, tables near R447). -/
def leaseRegs : List RegDesc := [
  { name := "LEASE_PART", off := 0x100, reset := 0x400A0000, rw := 0x40FF00FF, w1s := 0x80000000,
    legal := [(16, 8, [(1, 255)])] },
  { name := "CS_PERR", off := 0x104, w1c := 0x80000000 },
  { name := "CS_REPAIR_DATA", off := 0x110, n1 := 4, s1 := 0x4, rw := 0xFFFFFFFF },
  { name := "CS_REPAIR_CMD", off := 0x120, rw := 0x00007FFF, w1s := 0x80000000 },
  { name := "LSE_CTL", off := 0x200, n1 := 16, s1 := 0x40, rw := 0x83000000, w1s := 0x30000000 },
  { name := "LSE_CS", off := 0x204, n1 := 16, s1 := 0x40, rw := 0x0000FFFF },
  { name := "LSE_THR_LO", off := 0x208, n1 := 16, s1 := 0x40, rw := 0xFFFFFFFF },
  { name := "LSE_THR_HI", off := 0x20C, n1 := 16, s1 := 0x40, rw := 0xFFFFFFFF },
  { name := "LSE_MEM", off := 0x210, n1 := 16, s1 := 0x40, rw := 0x0000FFFF },
  { name := "LSE_BUDGET", off := 0x214, n1 := 16, s1 := 0x40, rw := 0x00FFFFFF },
  { name := "LSE_TBL_GRANT", off := 0x218, n1 := 16, s1 := 0x40, rw := 0xFFFFFFFF },
  { name := "LSE_TBL_QUOTA", off := 0x21C, n1 := 16, s1 := 0x40, rw := 0x07FFFFFF },
  { name := "LSE_TBL_USED", off := 0x220, n1 := 16, s1 := 0x40, rw := 0x07FFFFFF },
  { name := "LSE_SPACES", off := 0x224, n1 := 16, s1 := 0x40, rw := 0xFFFF003F },
  { name := "LSE_HOST", off := 0x228, n1 := 16, s1 := 0x40, rw := 0x801FFF00 },
  { name := "LSE_DEVM_BASE", off := 0x22C, n1 := 16, s1 := 0x40, rw := 0x03FFFFFF },
  { name := "LSE_DEVM_SIZE", off := 0x230, n1 := 16, s1 := 0x40, rw := 0x00FFFFFF },
  { name := "LSE_CHK", off := 0x234, n1 := 16, s1 := 0x40, rw := 0x0000FFFF },
  { name := "LSE_STOP_AT", off := 0x238, n1 := 16, s1 := 0x40 } ]

/-- Registers of the RFLT page (17_faults_events.md, tables near R485). -/
def rfltRegs : List RegDesc := [
  { name := "FLT_CTL", off := 0x100, reset := 0x000003E8, rw := 0x0000FFFF, legal := [(0, 16,
    [(1, 65535)])] },
  { name := "FLT_STS", off := 0x104 },
  { name := "FLT_FENCE", off := 0x108, rw := 0x00FFFFFF, w1s := 0x80000000, legal := [(16, 8,
    [(8, 11)])] },
  { name := "FLT_CLR", off := 0x10C, rw := 0x4000FFFF, w1s := 0x80000000 },
  { name := "FLT_ENT_LO", off := 0x200, n1 := 64, s1 := 0x8 },
  { name := "FLT_ENT_CNT", off := 0x204, n1 := 64, s1 := 0x8 } ]

/-- Registers of the LOG page (17_faults_events.md, tables near R485, R486). -/
def logRegs : List RegDesc := [
  { name := "LOG_BASE_LO", off := 0x100, rw := 0xFFFFFFC0 },
  { name := "LOG_BASE_HI", off := 0x104, rw := 0xFFFFFFFF },
  { name := "LOG_CFG", off := 0x108, reset := 0x00000008, rw := 0x8000000F, legal := [(0, 4, [(8,
    15)])] },
  { name := "LOG_IDX", off := 0x10C, rw := 0xFFFF0000 },
  { name := "LOG_STS", off := 0x110 },
  { name := "TRC_BASE_LO", off := 0x120, rw := 0xFFFFFFE0 },
  { name := "TRC_BASE_HI", off := 0x124, rw := 0xFFFFFFFF },
  { name := "TRC_CFG", off := 0x128, reset := 0x00000008, rw := 0x8000000F, legal := [(0, 4, [(8,
    15)])] },
  { name := "TRC_IDX", off := 0x12C, rw := 0xFFFF0000 },
  { name := "LOG_POST", off := 0x138, rw := 0x40000000, w1s := 0x80000000 },
  { name := "LOG_POST_DATA", off := 0x140, n1 := 16, s1 := 0x4, rw := 0xFFFFFFFF },
  { name := "FLT_ENT_LO", off := 0x200, n1 := 16, s1 := 0x8 },
  { name := "FLT_ENT_CNT", off := 0x204, n1 := 16, s1 := 0x8 } ]

/-- Registers of the FUSE page (18_security.md, tables near R509). -/
def fuseRegs : List RegDesc := [
  { name := "FUSE_STS", off := 0x100 },
  { name := "FUSE_SERIAL_LO", off := 0x104 },
  { name := "FUSE_SERIAL_HI", off := 0x108 },
  { name := "FUSE_SLOTS", off := 0x10C },
  { name := "FUSE_SVN", off := 0x110 },
  { name := "FUSE_VENDOR_HASH", off := 0x140, n1 := 12, s1 := 0x4 },
  { name := "FUSE_VDBG_HASH", off := 0x170, n1 := 12, s1 := 0x4 },
  { name := "FUSE_SLOT_HASH", off := 0x200, n1 := 4, s1 := 0x40, n2 := 12, s2 := 0x4 } ]

/-- Registers of the SEC page (18_security.md, tables near R509). -/
def secRegs : List RegDesc := [
  { name := "SEC_LC", off := 0x100 },
  { name := "SEC_ALARM", off := 0x104 },
  { name := "SEC_CMD", off := 0x108, rw := 0x00010F0F, w1s := 0x80000000, legal := [(0, 4, [(1,
    5)])] },
  { name := "SEC_CMD_STS", off := 0x10C },
  { name := "SEC_ISO_CFG", off := 0x110, reset := 0x00640400, rwl := 0xFFFFFFFF, legal := [(16,
    16, [(1, 65535)]), (0, 16, [(1, 65535)])] },
  { name := "SEC_ISO_CNT", off := 0x114 },
  { name := "SEC_DBG_CTL", off := 0x118, rwl := 0x80000000, w1s := 0x00000001 },
  { name := "SEC_DBG_STS", off := 0x11C },
  { name := "SEC_CMD_DATA", off := 0x140, n1 := 12, s1 := 0x4, rw := 0xFFFFFFFF },
  { name := "SEC_DBG_REQ", off := 0x200, w1s := 0xC0000000 },
  { name := "SEC_DBG_RES", off := 0x204 },
  { name := "SEC_DBG_FIFO", off := 0x208, wo := 0xFFFFFFFF },
  { name := "SEC_DBG_NONCE", off := 0x220, n1 := 8, s1 := 0x4 } ]

/-- Registers of the ALMAP page (18_security.md, tables near R510). -/
def almapRegs : List RegDesc := [
  { name := "ALMAP_LEVEL", off := 0x100, reset := 0x003D6DAB, rwl := 0xFFFFFFFF },
  { name := "ALMAP_FLOOR", off := 0x104, reset := 0x00395957 },
  { name := "ALMAP_LATCH", off := 0x108, w1c := 0x0000FFFF },
  { name := "ALMAP_COUNT", off := 0x140, n1 := 16, s1 := 0x4 } ]

/-- Registers of the OMC page (19_management_boot.md, tables near R536). -/
def omcRegs : List RegDesc := [
  { name := "OMC_WDT", off := 0x100, reset := 0x000003E8, rw := 0x8000FFFF, w1s := 0x40000000,
    legal := [(0, 16, [(1, 65535)])] },
  { name := "OMC_STS", off := 0x104 },
  { name := "OMC_MCHK", off := 0x108, w1c := 0x80000000, rc := 0x0000FFFF } ]

/-- Registers of the BOOT page (19_management_boot.md, tables near R536). -/
def bootRegs : List RegDesc := [
  { name := "BOOT_STS", off := 0x100, rw := 0xF0000000, legal := [(28, 4, [(0, 4), (14, 15)])] },
  { name := "BOOT_CFG", off := 0x104, reset := 0x00000001, rwl := 0x00000001 },
  { name := "BOOT_EP_RELEASE", off := 0x108, w1s := 0x00000001 },
  { name := "BOOT_T", off := 0x110, n1 := 4, s1 := 0x4 },
  { name := "QSPI_CMD", off := 0x120, rw := 0x000003FF, w1s := 0x80000000, legal := [(0, 2, [(0,
    2)])] },
  { name := "QSPI_ADDR", off := 0x124, rw := 0xFFFFFFFF },
  { name := "QSPI_DATA", off := 0x400, n1 := 64, s1 := 0x4, rw := 0xFFFFFFFF } ]

/-- Registers of the SENS page (19_management_boot.md, tables near R536). -/
def sensRegs : List RegDesc := [
  { name := "SENS_IDX", off := 0x100, rw := 0x000000FF },
  { name := "SENS_VAL", off := 0x104 },
  { name := "SENS_WARN", off := 0x108, reset := 0x00000320, rw := 0x0000FFFF },
  { name := "SENS_AVS", off := 0x120, n1 := 4, s1 := 0x4, rw := 0xFFFF0000 } ]

/-- Registers of the MGMT page (19_management_boot.md, tables near R536). -/
def mgmtRegs : List RegDesc := [
  { name := "MGMT_ADDR", off := 0x100, reset := 0x0000004E, rwl := 0x0000007F },
  { name := "MGMT_EID", off := 0x104 },
  { name := "MGMT_GPIO_DIR", off := 0x108, rw := 0x0000FFFF },
  { name := "MGMT_GPIO_OUT", off := 0x10C, rw := 0x0000FFFF },
  { name := "MGMT_GPIO_IN", off := 0x110 },
  { name := "MGMT_UART", off := 0x114, rw := 0x000000FF } ]

/-- Registers of the GCH page (11_instances_mailboxes.md, tables near R317, R323). -/
def gchRegs : List RegDesc := [
  { name := "HALF_MSG", off := 0x100, n1 := 32, s1 := 0x60, n2 := 16, s2 := 0x4, rw := 0xFFFFFFFF },
  { name := "HALF_SEND", off := 0x140, n1 := 32, s1 := 0x60, rw := 0x0000000F, w1s := 0x80000000 },
  { name := "HALF_STATUS", off := 0x144, n1 := 32, s1 := 0x60 },
  { name := "HALF_TAKE", off := 0x148, n1 := 32, s1 := 0x60, rc := 0xC000000F },
  { name := "GCH_TAKEN", off := 0xD00, w1c := 0x0000FFFF } ]

/-- Registers of the IMBX page (11_instances_mailboxes.md, tables near R317), with the doorbells of NVMe functions (R450). -/
def imbxRegs : List RegDesc := [
  { name := "HALF_MSG", off := 0x100, n1 := 2, s1 := 0x60, n2 := 16, s2 := 0x4, rw := 0xFFFFFFFF },
  { name := "HALF_SEND", off := 0x140, n1 := 2, s1 := 0x60, rw := 0x0000000F, w1s := 0x80000000 },
  { name := "HALF_STATUS", off := 0x144, n1 := 2, s1 := 0x60 },
  { name := "HALF_TAKE", off := 0x148, n1 := 2, s1 := 0x60, rc := 0xC000000F },
  { name := "NVME_DB", off := 0x200, n1 := 130, s1 := 0x4, wo := 0xFFFFFFFF } ]

/-- Registers of the IDB page (12_work_rings.md, tables near R333). -/
def idbRegs : List RegDesc := [
  { name := "IDB_DB", off := 0x100, n1 := 2, s1 := 0x4, wo := 0xFFFFFFFF } ]

/-- Registers of the IMSIX page (12_work_rings.md, tables near R348). -/
def imsixRegs : List RegDesc := [
  { name := "MSIX_TABLE", off := 0x100, n1 := 512, s1 := 0x4, rw := 0xFFFFFFFF } ]

/-- Registers of the IPBA page (12_work_rings.md, tables near R348). -/
def ipbaRegs : List RegDesc := [
  { name := "MSIX_PBA", off := 0x100, n1 := 4, s1 := 0x4 } ]

/-- The block registers of a page type. -/
def blockRegs : PageType → List RegDesc
  | .lbus => lbusRegs
  | .npg => npgRegs
  | .peer => peerRegs
  | .mac => macRegs
  | .ptime => ptimeRegs
  | .tsu => tsuRegs
  | .apl => aplRegs
  | .pipe => pipeRegs
  | .cls => clsRegs
  | .land => landRegs
  | .tbl => tblRegs
  | .lrn => lrnRegs
  | .cu => cuRegs
  | .ciph => ciphRegs
  | .sched => schedRegs
  | .plcr => plcrRegs
  | .arb => arbRegs
  | .ep => epRegs
  | .epLink => epLinkRegs
  | .epWakep => epWakepRegs
  | .epIde => epIdeRegs
  | .epIwin => epIwinRegs
  | .pwin => pwinRegs
  | .ictl => ictlRegs
  | .iadm => iadmRegs
  | .mbxw => mbxwRegs
  | .bindp => bindpRegs
  | .rcfg => rcfgRegs
  | .irqm => irqmRegs
  | .dma => dmaRegs
  | .dmach => dmachRegs
  | .clu => cluRegs
  | .fcore => fcoreRegs
  | .chan => chanRegs
  | .inq => inqRegs
  | .cdbg => cdbgRegs
  | .chk => chkRegs
  | .lease => leaseRegs
  | .rflt => rfltRegs
  | .log => logRegs
  | .fuse => fuseRegs
  | .sec => secRegs
  | .almap => almapRegs
  | .omc => omcRegs
  | .boot => bootRegs
  | .sens => sensRegs
  | .mgmt => mgmtRegs
  | .dflt => rfltRegs
  | .gch => gchRegs
  | .imbx => imbxRegs
  | .idb => idbRegs
  | .imsix => imsixRegs
  | .ipba => ipbaRegs
  | .cfab | .pbuf | .hbm | .lfab | .hfab | .pfab => []

/-- The description of the register at an offset of a page; `none` where no register lies there
(R31). The deferred-read window exists only where PAGE_CAPS.DRW is 1 (R39), and the common header
has no other registers than its own. -/
def regDesc (p : PageKey) (off : Nat) : Option RegDesc :=
  match pageType p with
  | none => none
  | some t =>
    if off < 0x100 then
      if 0xE0 ≤ off && !hasDrw p then none
      else hdrRegs.find? fun d => d.covers off
    -- a VF has 32 vectors (R348)
    else if (t == .imsix && 0x300 ≤ off || t == .ipba && 0x108 ≤ off) && 2 ≤ instFn p then none
    else (blockRegs t).find? fun d => d.covers off

/-- The reset value of a register by its key `page * 4096 + offset`. -/
def regReset (k : Nat) : Reg :=
  match regDesc (k / 4096) (k % 4096) with
  | none => 0
  | some d =>
    -- the context range of a PF follows from its endpoint (R305)
    if k % 4096 = 0x148 ∧ pageType (k / 4096) = some .iadm then
      let e := instEp (k / 4096)
      BitVec.ofNat 32 (e / 8 * 2 ^ 22 + e % 8 * 2 ^ 18 + instFn (k / 4096) * 131072)
    -- MSI-X vectors are masked after reset, as in PCIe Base 6.0 (R348; PRESUMED, log entry 8)
    else if k % 16 = 0xC ∧ 0x100 ≤ k % 4096 ∧ pageType (k / 4096) = some .imsix then 1
    else d.reset

end Sys2Proof.Machine
end

