-- ==== Sys2Proof/Machine/State.lean ====
section
/-! DEFINITION. The machine state: every register, store, queue and mode that the manual gives the
A6432, as plain data. Sparse tables are sorted by key and list nothing that equals the key's
default (`tabPut`). -/
namespace Sys2Proof.Machine

/-! ### What leaves the package -/

/-- One thing the package does that only the world outside sees. The list of them is the model's
own record; nothing inside the package reads it. -/
inductive Output where
  /-- data returned to a master by a register read -/
  | readData (mid : Mid) (key : Nat) (v : Word)
  /-- a register page write acknowledged without effect, or a configuration completion -/
  | cfgCpl (ep fn off : Nat) (rrs : Bool) (v : Reg)
  /-- a frame sent by a port: port key, bytes without FCS, FCS good -/
  | frame (port : Nat) (bytes : List Byte) (good : Bool)
  /-- an APL frame sent by a peer port -/
  | apl (peer : Nat) (bytes : List Byte)
  /-- a memory write TLP to a host -/
  | hostWrite (ep fn addr : Nat) (bytes : List Byte)
  /-- a memory read TLP to a host -/
  | hostRead (ep fn tag addr len : Nat)
  /-- an MSI-X message -/
  | msix (ep fn vec : Nat) (addr : Word) (data : Reg)
  /-- a PCIe message TLP, by kind -/
  | pcieMsg (ep fn : Nat) (kind : String)
  /-- a DOE, SPDM, MCTP, PLDM or vendor response -/
  | reply (kind : String) (bytes : List Byte)
  /-- the interrupt summary of the OMC: a page output that rose -/
  | omcIrq (page : PageKey)
  /-- a register page interrupt or pin change of the package, by name and level -/
  | pin (name : String) (index : Nat) (level : Bool)
  /-- an MCTP event message to the BMC -/
  | event (kind : String)
  /-- a fabric word resent -/
  | replay (hop : Nat)
  /-- a command capsule and its data, sent on a queue of a backend session -/
  | backend (session queue : Nat) (sqe data : List Byte)
  /-- a byte sent on the UART -/
  | uart (b : Byte)
  deriving DecidableEq, Repr


/-! ### Register pages, the ferry and the lantern bus (R30–R54) -/

/-- A write accepted by a page and not yet applied by its fast logic (R41). -/
structure FerryWrite where
  /-- the page -/
  page : PageKey
  /-- offset of the (first) register -/
  off : Nat
  /-- the values of one or two registers, low offset first, as the write left them visible -/
  vals : List Reg
  /-- the written bits that are W1S or WO, per register: what the write asked for -/
  raw : List Reg
  /-- the writer -/
  mid : Mid
  /-- PAGE_SEQ.COUNT after this write -/
  seq : Reg
  deriving DecidableEq, Repr

/-- A deferred counter read in progress (R46). -/
structure DrwRead where
  page : PageKey
  index : Nat
  clear : Bool
  start : Ns
  deriving DecidableEq, Repr

/-- What a fence or a reset covers (R16, R21). -/
inductive Scope where
  /-- the unit of a page -/
  | unit (p : PageKey)
  /-- a core cluster, 0–127 -/
  | cluster (c : Nat)
  /-- a network port group -/
  | npg (n : Nat)
  /-- a peer port -/
  | peer (q : Nat)
  /-- an endpoint -/
  | endpoint (e : Nat)
  /-- a region, with the line and host units homed there -/
  | region (r : Nat)
  /-- a die by its site code -/
  | die (site : Nat)
  deriving DecidableEq, Repr

/-- The state of a switched power domain (R60, R70). -/
inductive Power where
  | lit
  | dim
  /-- in the 240 ns entry into dark -/
  | enteringDark
  | dark
  /-- waking from dim, or reversing an entry into dim -/
  | wakingDim
  /-- waking from dark, or reversing an entry into dark -/
  | wakingDark
  deriving DecidableEq, Repr

/-- A switched power domain. -/
structure Domain where
  st : Power := .lit
  /-- when the present transition began -/
  since : Ns := 0
  /-- when the domain last had work (R61) -/
  lastWork : Ns := 0
  deriving DecidableEq, Repr

/-! ### Faults, log, security and management (R468–R536) -/

/-- A fault report (R471). -/
structure FaultRep where
  accused : UnitPath
  reporter : UnitPath
  code : Byte
  cls : Byte
  detail : BitVec 16
  deriving DecidableEq, Repr

/-- An entry of an accused table (R475). -/
structure Accused where
  unit : UnitPath
  /-- code of the first report -/
  code : Byte
  /-- highest class so far -/
  cls : Byte
  /-- reports counted -/
  count : Nat
  /-- the count when the entry was last forwarded -/
  sent : Nat
  /-- clock time of the last report -/
  last : Ns
  deriving DecidableEq, Repr

/-- A fault collector: an RFLT or DFLT page or the LOG page's table (R474–R477). -/
structure Collector where
  /-- accused entries by entry number -/
  ents : List (Nat × Accused) := []
  /-- reports folded into the overflow entry -/
  ovf : Nat := 0
  /-- the overflow count when it was last forwarded -/
  ovfSent : Nat := 0
  /-- last accused unit folded -/
  ovfUnit : UnitPath := 0
  /-- highest class folded -/
  ovfCls : Byte := 0
  /-- DFLT: first causes forwarded per region (0–3) in the present 10 µs period (R477) -/
  firsts : List Nat := [0, 0, 0, 0]
  /-- DFLT: first causes folded per region since the last summary, and their highest class -/
  folded : List Nat := [0, 0, 0, 0]
  foldCls : List Byte := [0, 0, 0, 0]
  /-- the 10 µs period that `firsts` counts, and the one in which summaries were forwarded last (R476, R477) -/
  firstPer : Nat := 0
  per : Nat := 0
  /-- next trace sequence number of this source (R483) -/
  trcSeq : Nat := 0
  /-- the next trace written carries GAP -/
  trcGap : Bool := false
  deriving DecidableEq, Repr

/-- A log record before it is written (R482); SEQ is filled by the writer. -/
structure LogRec where
  time : Word
  source : UnitPath
  /-- 0 CRITICAL, 1 ERROR, 2 WARNING, 3 NOTICE -/
  severity : Nat
  coalesced : Bool := false
  notApplied : Bool := false
  family : Byte
  code : BitVec 16
  count : Nat := 1
  /-- DATA, bytes 24–63 -/
  data : List Byte := []
  deriving DecidableEq, Repr

/-- The log and trace writers (R480–R483, R529). -/
structure LogState where
  /-- staged records, oldest first -/
  staged : List LogRec := []
  /-- drops since the last LOST record, by severity -/
  drops : List Nat := [0, 0, 0, 0]
  firstDrop : Word := 0
  lastDrop : Word := 0
  /-- next SEQ of a log record -/
  seq : Nat := 0
  /-- trace SEQ and GAP of each OMC requester that posts traces, by MID -/
  trc : List (Nat × (Nat × Bool)) := []
  /-- records ever written to the persistent log in flash (R529) -/
  persist : Nat := 0
  /-- tokens of the persistent log's bucket -/
  bucket : Nat := 64
  /-- clock time of the bucket's last refill -/
  bucketAt : Ns := 0
  /-- records that found the bucket empty -/
  bucketLost : Nat := 0
  deriving DecidableEq, Repr

/-- The fuse array (R488); `false` bits and zero fields are unblown. -/
structure Fuses where
  serial : Word := 0
  vendorImgSecret : BitVec 256 := 0
  vendorHash : BitVec 384 := 0
  vendorDbgHash : BitVec 384 := 0
  dus : BitVec 256 := 0
  slotHash : List (BitVec 384) := [0, 0, 0, 0]
  enrolled : BitVec 4 := 0
  revoked : BitVec 4 := 0
  dbgSlots : BitVec 4 := 0
  /-- number of blown bits, 0–64 -/
  fwSvn : Nat := 0
  patchSvn : Nat := 0
  /-- two bits each: PROVISIONED [1:0], OPERATIONAL [3:2], RMA [5:4] -/
  lc : BitVec 6 := 0
  /-- fused VDD_CORE target of core dies 0–3 in mV (R528) -/
  avs : List (BitVec 16) := [700, 700, 700, 700]
  deriving DecidableEq, Repr

/-- The security engine (R490–R510). -/
structure SecState where
  /-- lifecycle read at PKG_RESET_N: 0 MANUFACTURE … 3 RMA, and whether it is known yet (R490) -/
  lcKnown : Bool := false
  lc : Nat := 0
  /-- key-encryption key, vault key, patch key; `none` when absent or zeroized (R494, R507) -/
  kek : Option (BitVec 256) := none
  vaultKey : Option (BitVec 256) := none
  patchKey : Option (BitVec 256) := none
  /-- DeviceID and Alias private scalars -/
  devIdKey : Option (BitVec 384) := none
  aliasKey : Option (BitVec 384) := none
  /-- measurement registers by index (R493, R497) -/
  meas : List (Nat × BitVec 384) := []
  /-- the current nonce, while unconsumed (R499) -/
  nonce : Option (BitVec 256) := none
  /-- token bytes received -/
  fifo : List Byte := []
  /-- debug scope in effect: [0] CLUSTER_DEBUG, [1] JTAG_TEST, [2] WINDOWS; 0 while locked -/
  scope : BitVec 3 := 0
  /-- ISOLATION has fired in the present window (R508) -/
  isoFired : Bool := false
  /-- start of the present window, in windows since time 0 -/
  isoWin : Nat := 0
  /-- when ALARM_N's A1 pulse ends (R506) -/
  pulseEnd : Option Ns := none
  /-- SPDM secured sessions in use -/
  spdm : List Nat := []
  /-- certificate slot 1 chain (R496) -/
  slot1 : List Byte := []
  deriving DecidableEq, Repr

/-- An upload in parts: LEASE_LOAD or SET_CERTIFICATE (R534). -/
structure Upload where
  cluster : Nat
  lease : Nat
  total : Nat
  nextPart : Nat
  bytes : List Byte
  deriving DecidableEq, Repr

/-- A backend session (R461, R534). -/
structure Session where
  transport : Nat
  queues : Nat
  flags : Byte
  /-- timeout in seconds -/
  timeout : Nat
  entries : Nat
  die : Nat
  /-- the whole 512-byte request, which holds addresses and names -/
  params : List Byte
  deriving DecidableEq, Repr

/-- The management complex (R511–R536). -/
structure OmcState where
  /-- firmware runs -/
  running : Bool := false
  /-- when the watchdog was last kicked -/
  kickAt : Ns := 0
  /-- digest and SVN of the running firmware and patch (R493, R524) -/
  fwDigest : BitVec 384 := 0
  fwSvn : Nat := 0
  patchId : BitVec 384 := 0
  patchSvn : Nat := 0
  patchLoaded : Bool := false
  /-- the boot configuration record in use, 256 bytes, or `none` for the defaults (R520) -/
  bootCfg : Option (List Byte) := none
  /-- when PKG_RESET_N was last released -/
  relAt : Ns := 0
  /-- threads per core is 8: BOOT_CFG.T8 as the core dies sampled it (R376, R518) -/
  t8 : Bool := true
  /-- endpoints have been released (R519), and when -/
  released : Bool := false
  releasedAt : Ns := 0
  /-- a watchdog expiry happened since release (R523) -/
  expired : Bool := false
  /-- the OMC has halted (R521, R523) -/
  halted : Bool := false
  leaseUp : Option Upload := none
  certUp : Option Upload := none
  /-- the image loaded in (cluster * 16 + lease): IMAGE_ID and SVN (R497) -/
  images : List (Nat × (BitVec 384 × Nat)) := []
  sessions : List (Nat × Session) := []
  /-- event receiver set by the BMC (R531) -/
  eventRecv : Bool := false
  /-- sensor values, by index; `none` is not valid (R526) -/
  sensors : List (Nat × Reg) := []
  /-- received UART bytes, oldest first -/
  uartRx : List Byte := []
  /-- PLDM terminus identifier -/
  tid : Byte := 0
  deriving DecidableEq, Repr

/-- One JTAG TAP (R548–R556). -/
structure Tap where
  ir : Byte := 0x01
  refused : Bool := false
  deriving DecidableEq, Repr

/-- The TAPs and die M's DBG_ACCESS register (R551, R555). -/
structure JtagState where
  /-- TAPs in chain order: M, H0–H3, L0–L3 -/
  taps : List Tap := List.replicate 9 {}
  /-- the captured instruction and data registers -/
  irCapture : List Byte := List.replicate 9 0
  drCapture : List (List Bool) := List.replicate 9 []
  dbgDone : Bool := true
  dbgRefused : Bool := false
  dbgAddr : Reg := 0
  dbgData : Reg := 0
  /-- a die was taken into a test instruction and needs PKG_RESET_N (R556) -/
  tested : List Nat := []
  deriving DecidableEq, Repr

/-- Package pins, as levels (R538, R544–R547). -/
structure Pins where
  pkgResetN : Bool := true
  pwrGood : Bool := true
  /-- PERST_N levels of endpoints 0–31: true is deasserted -/
  perstN : BitVec 32 := 0
  /-- CLKREQ_N: true is released (high) -/
  clkreqN : BitVec 32 := 0
  /-- WAKE_N: true is released -/
  wakeN : BitVec 32 := 0xFFFFFFFF
  alarmN : Bool := true
  thermTripN : Bool := true
  ppsOut : Bool := false
  /-- when the PPS_OUT pulse began, in package time -/
  ppsAt : Word := 0
  /-- outputs are at high impedance -/
  hiZ : Bool := false
  /-- network references L0–L3 and PCIe references H0–H3 present (R55, R59) -/
  netref : BitVec 4 := 0xF
  pcieref : BitVec 4 := 0xF
  gpioIn : BitVec 16 := 0
  deriving DecidableEq, Repr

/-! ### Key contexts (R216–R231) -/

/-- A key context, in the vault or held by a region (R217). -/
structure KeyCtx where
  /-- 0 FREE, 1 ACTIVE, 2 SOFT, 3 EXHAUSTED, 4 RETIRED, 5 RESYNC -/
  st : Nat := 0
  /-- 1 MACsec, 2 ESP, 3 TLS transmit, 4 TLS receive, 5 XTS, 6 AEAD, 7 ROOT -/
  proto : Nat := 0
  alg : Nat := 0
  pin : Bool := false
  derived : Bool := false
  /-- the region that holds it (HELD, HOLDER) -/
  holder : Option Nat := none
  owner : Reg := 0
  usage : Nat := 0
  /-- as a number of invocations: 2^48 where the field is 0 -/
  limit : Nat := 0
  soft : Nat := 0
  next : Option Nat := none
  root : Option Nat := none
  dctx : List Byte := []
  salt : List Byte := []
  pstate : List Byte := []
  /-- 64 bytes; empty for a derived context -/
  key : List Byte := []
  replay : BitVec 512 := 0
  /-- LABEL of the blob, which derivation from a root uses (R225) -/
  label : List Byte := []
  /-- a redirect to NEXT has been reported (R227) -/
  switched : Bool := false
  /-- ciphertext of the TLS record being received (R215) -/
  record : List Byte := []
  deriving DecidableEq, Repr

/-- A decrypt that runs and whose tag has not been checked yet (R229–R231). -/
structure Check where
  ctx : Nat
  /-- region whose cipher block runs it -/
  region : Nat
  /-- packet number, for the replay check -/
  number : Nat
  /-- the tag is good -/
  good : Bool
  deriving DecidableEq, Repr

/-- Who asked for a read of host memory, and what its data is for (R286, R287). -/
inductive Client where
  /-- `n` descriptors of a work ring from index `i` -/
  | desc (ring i n : Nat)
  /-- part of the scatter list, or of the payload, of a transmit descriptor -/
  | sgl (tx part : Nat)
  | payload (tx part : Nat)
  /-- descriptor of a ring-mode DMA channel `region * 64 + k`, or part of its transfer's source -/
  | dmaDesc (chan : Nat)
  | dmaSrc (chan src part : Nat)
  /-- an entry of the command ring of a TBL page, by region -/
  | tblCmd (region : Nat)
  /-- a read through a cluster's memory port: cluster and the request's number -/
  | mport (cluster req : Nat)
  /-- a read of a peer card: peer and tag -/
  | apl (peer tag : Nat)
  /-- an entry of an NVMe submission queue -/
  | nvme (fn qid : Nat)
  /-- a requester that is gone: its data is discarded -/
  | dead
  deriving DecidableEq, Repr

/-- The end of a read of host memory or of a peer card: its data, or an error status (0x01 ABORTED, 0x02
TIMEOUT, 0x07 ACCESS_FAULT, 0x08 DATA_PARITY), until the requester takes it. -/
structure Arrived where
  client : Client
  off : Nat := 0
  status : Nat
  data : List Byte
  deriving DecidableEq, Repr

/-! ### Frames on their way through the package (R12, R86, R117–R139, R181–R206, R241–R257) -/

/-- A frame in the packet buffer of a die, by handle. -/
structure Buf where
  /-- destination address through the last payload byte, without FCS -/
  bytes : List Byte
  /-- bytes taken from the pool (R245) -/
  size : Nat
  /-- taken from the express reservation -/
  express : Bool
  /-- entries and passes that still need it -/
  refs : Nat
  /-- the cluster that owns the handle, for a steered or allocated buffer (R393) -/
  owner : Option Nat := none
  /-- the lease on whose channel it arrived, or which allocated it (R433) -/
  lease : Option Nat := none
  /-- an uncorrectable error has been met in it (R472, PBUF_UE) -/
  parity : Bool := false
  /-- transmit descriptor the frame came from, a key of `txs` -/
  tx : Option Nat := none
  deriving DecidableEq, Repr

/-- A frame that waits to be spread, or is in a pipeline. -/
structure Frame where
  /-- packet buffer place, `die * 2^32 + handle` -/
  buf : Nat
  /-- PRV.SRC -/
  src : Nat
  /-- PRV.TS -/
  ts : Nat
  /-- PRV.CSUM as the MAC or the peer found it -/
  csum : Nat := 0
  vport : Nat := 0
  express : Bool := false
  unordered : Bool := false
  /-- transmit descriptor the frame came from, a key of `txs` -/
  tx : Option Nat := none
  deriving DecidableEq, Repr

/-- The frames of one ingress source that wait to be spread (R86, R120). -/
structure Fifo where
  exp : List Frame := []
  ord : List Frame := []
  deriving DecidableEq, Repr

/-- An unresolved frame of a ferry sequence (R135, R138). -/
structure OpenF where
  f : Nat
  /-- passes of the frame and of copies started from it that have not ended (R206) -/
  left : Nat
  /-- pipeline 0–63 that took it -/
  pipe : Nat
  at_ : Ns
  deriving DecidableEq, Repr

/-- A ferry sequencer (R119, R120, R135–R139). -/
structure FerrySeq where
  /-- the next ferry number -/
  next : Nat := 0
  /-- the watermark W -/
  w : Nat := 65535
  /-- unresolved frames above W, oldest first -/
  unres : List OpenF := []
  /-- when W last advanced -/
  wAt : Ns := 0
  /-- frames that received a forced hole and whose pass has not ended -/
  late : List Nat := []
  /-- spreading is paused by a full window -/
  paused : Bool := false
  deriving DecidableEq, Repr

/-- An edit recorded by an action (R187, R194). -/
inductive Edit where
  | dmac (inner : Bool) (mac : Nat)
  | smac (inner : Bool) (mac : Nat)
  | push (inner stag : Bool) (tci : Nat)
  | pop (inner : Bool)
  | vset (inner setPcp : Bool) (pcp vid : Nat)
  | ttl (outer exc : Bool)
  | dscp (outer : Bool) (v : Nat)
  deriving DecidableEq, Repr

/-- A destination: DEST value and its HAIRPIN bit. -/
structure Dest where
  dest : Reg
  hair : Bool
  deriving DecidableEq, Repr

/-- A pass through a pipeline, between the parser and the editor (R181–R206). -/
structure PassSt where
  prv : List Byte
  parsed : Parsed
  decap : Bool := false
  edits : List Edit := []
  /-- template line, KEY and ACTION_DATA -/
  encap : Option (Nat × Nat × Nat) := none
  csumReq : Nat := 0
  /-- the bytes that the parser read -/
  head : List Byte := []
  tsMode : Nat := 0
  /-- HAIRPIN of the primary destination, which META.DEST holds -/
  hair : Bool := false
  copies : List Dest := []
  /-- session number and ACTION_DATA of each session copy -/
  sess : List (Nat × Nat) := []
  /-- the stage that a GOTO of the present set names -/
  goto_ : Option Nat := none
  /-- VALUE of each RECIRC_COPY -/
  rcopies : List Nat := []
  /-- DIR and context of each CIPHER, in order -/
  ciphers : List (Nat × Nat) := []
  /-- drop with an event code -/
  drop : Option Nat := none
  steer : Option (Nat × Nat) := none
  recirc : Bool := false
  /-- the pass is over: no further stage runs -/
  quit : Bool := false
  deriving DecidableEq, Repr

/-- A header parked on a far lookup (R185). -/
structure Park where
  stage : Nat
  since : Ns
  pass : PassSt
  /-- the reply: RESULT and ACTION_DATA, or a miss; and the ternary result -/
  reply : Option (Nat × Nat)
  tern : Option Nat
  deriving DecidableEq, Repr

/-- A header in a pipeline. -/
structure Hdr where
  /-- pipeline 0–63 -/
  pipe : Nat
  frame : Frame
  /-- ferry sequence, by `region * 32 + local index` -/
  seq : Option Nat
  ferry : Nat := 0
  /-- pass 0–3 (R125) -/
  pass : Nat := 0
  /-- the classification bank once stamped (R130) -/
  bank : Option Nat := none
  /-- META carried from an earlier pass -/
  metab : List Byte := []
  /-- a frame edited so far, when it is not the buffer's own -/
  bytes : Option (List Byte) := none
  /-- decrypts whose verdicts are owed, with the pass that waits for them (R229–R231) -/
  checks : List Check := []
  owed : Option PassSt := none
  park : Option Park := none
  deriving DecidableEq, Repr

/-- A queue entry (R135–R137, R189–R192, R243). -/
structure Entry where
  seq : Option Nat := none
  ferry : Nat := 0
  unordered : Bool := false
  express : Bool := false
  dest : Reg
  /-- service class 0–7 -/
  cls : Nat := 0
  /-- 0 green, 1 yellow, 2 red -/
  colour : Nat := 0
  bytes : List Byte
  buf : Nat
  /-- the parse-result vector at the end of the pass -/
  prv : List Byte := []
  tsMode : Nat := 0
  /-- encrypt invocations at dequeue, by context, and a TLS receive decrypt (R211, R212) -/
  enc : List Nat := []
  dec : Option Nat := none
  /-- the frame failed a check that egress must carry, or its plaintext was released before the verdict (R229) -/
  bad : Bool := false
  early : Bool := false
  tx : Option Nat := none
  deriving DecidableEq, Repr

/-- What travels on a link between core dies (R136). -/
inductive Transit where
  | entry (e : Entry)
  | mark (seq w : Nat)
  deriving DecidableEq, Repr

/-- A scheduler node: queue, subscriber or service node (R242, R248, R266). -/
structure Node where
  en : Bool := false
  strict : Bool := false
  parent : Nat := 0
  weight : Nat := 1
  cir : Nat := 0
  cbs : Nat := 0
  pir : Nat := 0
  pbs : Nat := 0
  /-- KiB: green, yellow, red -/
  limit : Nat := 0
  ylimit : Nat := 0
  rlimit : Nat := 0
  /-- millibytes, signed 40-bit -/
  ctok : Int := 0
  ptok : Int := 0
  /-- deficit round robin: bytes, and the child served last -/
  deficit : Int := 0
  last : Nat := 0
  deriving DecidableEq, Repr

/-- An outlet (R254–R257, R266). -/
structure Outlet where
  gateEn : Bool := false
  adminBank : Nat := 0
  operBank : Nat := 0
  pending : Bool := false
  /-- ADJ as a byte: `none` is the reset value, 24 on network and peer outlets and 0 on endpoints -/
  adj : Option Byte := none
  expRate : Nat := 0
  expBurst : Nat := 0
  bank0 : Reg := 0
  bank1 : Reg := 0
  cycle : Nat := 0
  base : Nat := 0
  change : Nat := 0
  defq : Nat := 0
  /-- millibytes of the express policer -/
  etok : Int := 0
  /-- start of the running cycle, entry in force and its start, in package time -/
  cycStart : Nat := 0
  entry : Nat := 0
  entStart : Nat := 0
  /-- the running list has started; its bank register and cycle time, which a change replaces (R255) -/
  running : Bool := false
  run : Reg := 0
  runCycle : Nat := 0
  /-- when a requested change takes effect -/
  changeAt : Nat := 0
  deriving DecidableEq, Repr

/-- An ingress policer (R251, R252). -/
structure Plcr where
  en : Bool := false
  redDrop : Bool := false
  adj : Byte := 0
  cir : Nat := 0
  cbs : Nat := 0
  pir : Nat := 0
  pbs : Nat := 0
  ctok : Nat := 0
  ptok : Nat := 0
  deriving DecidableEq, Repr

/-- A ternary classification rule (R129). -/
structure Rule where
  value : List Byte := []
  mask : List Byte := []
  valid : Bool := false
  result : Reg := 0
  deriving DecidableEq, Repr

/-- Classification of a region: a swap in progress (R132, R133). -/
structure ClsState where
  /-- the old bank of a swap that is not DONE -/
  old : Option Nat := none
  deriving DecidableEq, Repr

/-- A counter pair with updates not yet in HBM3E (R202). -/
structure CntPair where
  packets : Nat := 0
  octets : Nat := 0
  since : Ns := 0
  deriving DecidableEq, Repr

/-- APL of a peer port (R98–R115). -/
structure AplState where
  /-- INIT with PEER_SEEN = 1 sent and received -/
  sentSeen : Bool := false
  gotInit : Bool := false
  gotSeen : Bool := false
  maxTlu : Nat := 0
  /-- sender: next SEQ, held frames (SEQ and bytes from link header through LCRC), oldest first -/
  txSeq : Nat := 0
  held : List (Nat × List Byte) := []
  replays : Nat := 0
  /-- when the replay timer last started -/
  timer : Ns := 0
  /-- receiver: NEXT, and whether a NAK is outstanding -/
  next : Nat := 0
  nakSent : Bool := false
  gotCredit : Bool := false
  /-- credits per class 0–3: consumed headers and data, and the partner's limits -/
  hdrUsed : List Nat := [0, 0, 0, 0]
  dataUsed : List Nat := [0, 0, 0, 0]
  hdrLim : List Nat := [0, 0, 0, 0]
  dataLim : List Nat := [0, 0, 0, 0]
  /-- what this side has received, per class: its limits follow -/
  hdrGot : List Nat := [0, 0, 0, 0]
  dataGot : List Nat := [0, 0, 0, 0]
  lastCredit : Ns := 0
  /-- units of the A6432 that wait to be sent: CLASS and TLU -/
  sendq : List (Nat × List Byte) := []
  deriving DecidableEq, Repr

/-- A read of the A6432 in a peer card (R103, R113): where its data goes. -/
structure AplRead where
  /-- requester: a memory port or a DMA transfer -/
  who : Client
  addr : Nat
  len : Nat
  got : List Byte := []
  at_ : Ns
  /-- quarantined since -/
  quar : Option Ns := none
  deriving DecidableEq, Repr

/-- A read of a peer card that waits for its translation or its data (R103, R105, R298). -/
structure WinReq where
  /-- 0–15 -/
  peer : Nat
  /-- window and bank it uses -/
  win : Nat
  bank : Nat
  tag : Nat
  addr : Nat
  len : Nat
  deriving DecidableEq, Repr


/-! ### Lottery arbiters (R258–R262) -/

/-- A request at an arbiter: requester, cycle of the request, losses, and when its back-off ends. -/
structure ArbReq where
  r : Nat
  since : Nat
  losses : Nat := 0
  off : Option Nat := none
  deriving DecidableEq, Repr

/-- A lottery arbiter. -/
structure Arb where
  lfsr : BitVec 32 := 1
  reqs : List ArbReq := []
  deriving DecidableEq, Repr

/-! ### Endpoints, instances and rings (R270–R353) -/

/-- A read to host memory, waiting, outstanding or quarantined (R285–R288). -/
structure HRead where
  ep : Nat
  fn : Nat
  addr : Nat
  len : Nat
  client : Client
  /-- offset of this request in the whole read, which the maximum read request size may split -/
  off : Nat := 0
  got : List Byte := []
  at_ : Ns := 0
  /-- it has waited for a tag or buffer room and was counted (R286) -/
  waited : Bool := false
  /-- quarantined since, and for how long -/
  quar : Option (Ns × Ns) := none
  deriving DecidableEq, Repr

/-- An endpoint (R275–R296). -/
structure EpState where
  /-- PERST_N was deasserted at this time -/
  deassertAt : Option Ns := none
  /-- last DL_Up after a hot reset -/
  hotUpAt : Option Ns := none
  /-- a hot reset happened and DL_Up has not returned -/
  hot : Bool := false
  /-- last TLP, DLLP or non-posted request -/
  lastTlp : Ns := 0
  /-- an LTR message is owed -/
  ltrDue : Bool := false
  /-- functions under FLR, with the time it began -/
  flr : List (Nat × Ns) := []
  /-- selective IDE streams known (stream, secure), and the link stream -/
  ide : List (Nat × Bool) := []
  ideLink : Option Bool := none
  /-- IDE keys by stream and slot -/
  ideKeys : List (Nat × BitVec 256) := []
  /-- PME_Turn_Off was acknowledged: the link is in L2 -/
  inL2 : Bool := false
  /-- functions whose drain an eclipse has started, and whose ring work has not yet followed -/
  late : List Nat := []
  deriving DecidableEq, Repr

/-- A prefetched receive buffer (R343). -/
structure RxBuf where
  idx : Nat
  desc : Nat
  addr : Nat
  len : Nat
  deriving DecidableEq, Repr

/-- A fetched transmit or receive descriptor not yet worked. -/
structure Fetched where
  idx : Nat
  bytes : List Byte
  deriving DecidableEq, Repr

/-- A work ring (R326, R332, R343). -/
structure WorkRing where
  base : Nat := 0
  en : Bool := false
  idle : Bool := true
  rx : Bool := false
  express : Bool := false
  earlyRel : Bool := false
  bufMin : Nat := 0
  log2 : Nat := 0
  cq : Nat := 0
  qvalid : Bool := false
  queue : Nat := 0
  p : Nat := 0
  f : Nat := 0
  c : Nat := 0
  /-- fetched and not completed -/
  heldN : Nat := 0
  /-- completed entries at or after C -/
  doneIdx : List Nat := []
  fetched : List Fetched := []
  pref : List RxBuf := []
  /-- a fetch of this many entries is in progress -/
  inFetch : Nat := 0
  /-- the entry at F had OWN = 0 at this time; `none` after the one re-read (R335) -/
  stall : Bool := false
  stallAt : Option Ns := none
  /-- the entry at F has been read again once -/
  retried : Bool := false
  deriving DecidableEq, Repr

/-- A completion ring (R326, R332, R336, R347). -/
structure CplRing where
  base : Nat := 0
  en : Bool := false
  log2 : Nat := 0
  vector : Nat := 0
  slot : Nat := 0
  p : Nat := 0
  c : Nat := 0
  reserved : Nat := 0
  armed : Bool := false
  unsig : Nat := 0
  oldest : Ns := 0
  /-- fetching stopped for lack of a slot (counted once per stop, R338) -/
  stopped : Bool := false
  deriving DecidableEq, Repr

/-- A transmit descriptor in progress (R340, R349). -/
structure TxRec where
  /-- ring key and index -/
  ring : Nat
  idx : Nat
  sqe : List Byte
  /-- scatter list and payload parts wanted and received -/
  want : List (Nat × Nat × Nat) := []
  parts : List (Nat × List Byte) := []
  listed : Bool := false
  asked : Bool := false
  /-- payload is in the packet buffer; completion owed only by TS_REQ, CIPHER and SEND_TLS -/
  sent : Bool := false
  /-- its CQE has not been queued yet -/
  owed : Bool := true
  /-- frames of it still in the package -/
  left : Nat := 0
  status : Nat := 0
  bytesSent : Nat := 0
  ts : Option Nat := none
  /-- abort drain: its completion is ABORTED; discard: none -/
  mode : Nat := 0
  deriving DecidableEq, Repr

/-- A completion that is owed to a ring (R331): work ring, its index (and whether the SQE is written
back), and the CQE. -/
structure CqeOut where
  ring : Nat
  idx : Nat
  cqe : List Byte
  deriving DecidableEq, Repr



/-! ### Exact-match tables, learning and the mirror (R143–R180) -/

/-- An entry of a near table or of an overflow store (R146, R147); far entries lie in HBM3E. -/
structure TEnt where
  key : List Byte := []
  result : Reg := 0
  data : Word := 0
  ectl : Reg := 0
  deriving DecidableEq, Repr

/-- A learn request (R168). -/
structure LearnReq where
  slot : Nat
  key : List Byte
  src : Nat
  deriving DecidableEq, Repr

/-- The learner and learn ring of a region (R168–R173). -/
structure LearnState where
  queue : List LearnReq := []
  /-- records that wait while the ring is paused, without SEQ -/
  pend : List (List Byte) := []
  seq : Nat := 0
  /-- records not written since the last LOST record -/
  lost : Nat := 0
  /-- the ring was restarted and no record has been written since -/
  restart : Bool := false
  fullAt : Ns := 0
  deriving DecidableEq, Repr

/-- The table engine of a region: aging pass, walk and command ring (R157, R158, R165, R175). -/
structure TblRegion where
  /-- aging pass in progress: slot, and the location to visit next -/
  aging : Option (Nat × Nat) := none
  /-- FROM_GEN of the walk in progress -/
  walkFrom : Nat := 0
  /-- tables being cleared -/
  clearing : List Nat := []
  /-- a fetch of the command at CONS is in progress -/
  fetching : Bool := false
  /-- the entry at CONS was found without OWN -/
  stall : Bool := false
  stallAt : Option Ns := none
  deriving DecidableEq, Repr


/-! ### Flow cores, channels and check units (R376–R413) -/

/-- A channel message (R382, R386). -/
structure Msg where
  words : List Word
  /-- the writer's MID, 0 where it has none -/
  mid : Mid := 0
  /-- SOURCE: 0 thread of this cluster, 1 pipeline, 2 OMC, 3 unit or other cluster -/
  src : Nat := 0
  err : Bool := false
  /-- buffer of the frame of a work message -/
  frame : Option Nat := none
  deriving DecidableEq, Repr

/-- What a blocked thread waits for (R377). -/
inductive Wait where
  | none
  /-- a message of channel `n` into registers from `d` on -/
  | read (n d : Nat)
  /-- room for its staged message on channel `n`; for UCALL the reply goes to registers from `d` on -/
  | commit (n : Nat) (ucall : Option Nat)
  /-- the fabric barrier of its word -/
  | barrier
  deriving DecidableEq, Repr

/-- A thread (R376, R377). -/
structure Thread where
  /-- 0 DISABLED, 1 RUN, 2 BLOCKED_READ, 3 BLOCKED_COMMIT, 4 BLOCKED_MEM, 5 HALTED, 6 STOPPED, 7 RESET -/
  st : Nat := 0
  pc : Nat := 0
  g : List Word := List.replicate 32 0
  chs : Word := 0
  /-- staging slots: channel and words -/
  staged : List (Nat × List Word) := []
  /-- cycles of the work item so far (R435) -/
  cycles : Nat := 0
  /-- when the present wait began -/
  since : Ns := 0
  wait : Wait := .none
  /-- of the word in progress: program counter after it, STOP, BARRIER; its slot B has been done -/
  next : Nat := 0
  stop : Bool := false
  bar : Bool := false
  begun : Bool := false
  /-- halted in a UCALL whose commit has been made: the word is issued again as a CHR (R421) -/
  ucalled : Bool := false
  /-- one word runs for STEP (R399) -/
  step : Bool := false
  /-- halted by a debug session -/
  held : Bool := false
  /-- EN as last applied -/
  on : Bool := false
  deriving DecidableEq, Repr

/-- A channel's FIFO (R384–R387). -/
structure Chan where
  fifo : List Msg := []
  /-- slots reserved for replies -/
  owed : Nat := 0
  /-- threads blocked reading it and committing to it, by number in the cluster, in the order they blocked -/
  readers : List Nat := []
  writers : List Nat := []
  deriving DecidableEq, Repr

/-- A request of a thread at a unit (R391). -/
structure Ureq where
  cluster : Nat
  chan : Nat
  mid : Mid
  lease : Option Nat
  words : List Word
  /-- the lease was stopped or the cluster reset: the reply is discarded -/
  dead : Bool := false
  deriving DecidableEq, Repr

/-- A reply that a unit has produced (R391). -/
structure Ureply where
  cluster : Nat
  chan : Nat
  words : List Word
  err : Bool := false
  dead : Bool := false
  deriving DecidableEq, Repr

/-- A message in the inbound queue of a region (R395). -/
structure InMsg where
  cluster : Nat
  chan : Nat
  msg : Msg
  deriving DecidableEq, Repr

/-- A check channel's computation (R405–R409). -/
structure CheckSt where
  reg : Word := 0
  /-- CHK_CFG as it was at OPEN -/
  cfg : Reg := 0
  noFinal : Bool := false
  /-- no record has been seen since OPEN -/
  fresh : Bool := true
  deriving DecidableEq, Repr

/-- A debug session of a cluster (R399). -/
structure DebugSt where
  holder : Mid := 0
  attached : Bool := false
  deriving DecidableEq, Repr

/-! ### DMA movers (R354–R375) -/

/-- A DMA transfer in progress on a channel (R357–R371). -/
structure Xfer where
  desc : List Byte
  /-- MSG mode: the requesting channel -/
  req : Option Ureq := none
  /-- part of a host or peer read: offset and data that arrived ahead of its turn -/
  parts : List (Nat × Nat × List Byte) := []
  asked : Bool := false
  /-- source bytes whose writes are complete -/
  done : Nat := 0
  status : Nat := 0
  finished : Bool := false
  rflags : Nat := 0
  digest : Nat := 0
  offset : Nat := 0
  deriving DecidableEq, Repr

/-- A DMA channel: its producer index, the transfer in progress, and the read of a descriptor (R366, R372). -/
structure DmaChan where
  prod : Nat := 0
  halted : Bool := false
  xfer : Option Xfer := none
  /-- the entry at CONS had OWN = 0 -/
  stall : Bool := false
  stallAt : Option Ns := none
  deriving DecidableEq, Repr


/-! ### NVMe controllers (R449–R466) -/

/-- A submission queue. -/
structure NvSq where
  base : Nat
  size : Nat
  cq : Nat
  head : Nat := 0
  tail : Nat := 0
  /-- a Delete command waits in this slot for the queue's sent commands (R465) -/
  deleting : Option Nat := none
  deriving DecidableEq, Repr

/-- A completion queue. -/
structure NvCq where
  base : Nat
  size : Nat
  vector : Nat := 0
  ien : Bool := false
  head : Nat := 0
  tail : Nat := 0
  phase : Bool := true
  reserved : Nat := 0
  /-- moderation (R347, R456) -/
  armed : Bool := true
  unsig : Nat := 0
  oldest : Ns := 0
  deriving DecidableEq, Repr

/-- A command slot. -/
structure NvCmd where
  sq : Nat
  cid : Nat
  sqe : List Byte
  /-- sent to its backend (R464) -/
  sent : Bool := false
  sentAt : Ns := 0
  /-- reissued after a digest failure (R462) -/
  again : Bool := false
  /-- an admin command that waits: an asynchronous event request, or a queue deletion -/
  waits : Bool := false
  /-- what went to the backend with the command -/
  data : List Byte := []
  deriving DecidableEq, Repr

/-- A namespace attached to a controller (R457). -/
structure NvNs where
  session : Nat
  remote : Nat
  lbas : Nat
  /-- MSG6 of the request -/
  format : Nat
  xts : Nat
  /-- DETACH has stopped new commands; the channel that waits for the reply (R458) -/
  leaving : Option Nat := none
  deriving DecidableEq, Repr

/-- A controller. -/
structure NvCtl where
  sqs : List (Nat × NvSq) := []
  cqs : List (Nat × NvCq) := []
  slots : List (Nat × NvCmd) := []
  nss : List (Nat × NvNs) := []
  /-- the I/O queue served last (R452) -/
  last : Nat := 0
  /-- a read of an SQE in progress: queue and slot -/
  fetching : Option (Nat × Nat) := none
  /-- asynchronous events that wait for a request: type, information, log page -/
  events : List (Nat × Nat × Nat) := []
  /-- values of features 0x07, 0x08, 0x0B and, from 0x10000 on, of 0x09 by vector -/
  feats : List (Nat × Nat) := []
  /-- namespaces changed since the list was last read -/
  changed : List Nat := []
  /-- completions with an error status -/
  errors : Nat := 0
  /-- CC.SHN started the drain (R451) -/
  shn : Bool := false
  deriving DecidableEq, Repr



/-- The state of the whole part. -/
structure State where
  /-- commands waiting, first in, first out -/
  pending : List Instr := []
  /-- model clock in ns since reset: only grows -/
  clk : Ns := 0
  /-- package time of the master (R26) -/
  ptime : Word := 0
  /-- parts per trillion not yet added to package time (R97) -/
  ptFrac : Int := 0
  /-- visible registers, by `page * 4096 + offset` -/
  regs : List (Nat × Reg) := []
  /-- what fast logic has been told of the registers (R41) -/
  fast : List (Nat × Reg) := []
  /-- accepted writes not yet applied, oldest first -/
  ferry : List FerryWrite := []
  /-- 48-bit block counters, by `page * 2^24 + index` -/
  ctrs : List (Nat × Counter) := []
  /-- deferred reads in progress -/
  drw : List DrwRead := []
  /-- resets in progress, with the clock time they began -/
  resets : List (Scope × Ns) := []
  /-- fences in effect (R21) -/
  fences : List Scope := []
  /-- switched power domains, by number -/
  doms : List (Nat × Domain) := []
  /-- outstanding fabric barriers: master and whether from a word (R23) -/
  barriers : List Mid := []
  /-- reports held at reporters, oldest first (R473) -/
  reports : List FaultRep := []
  /-- fault collectors by page key -/
  colls : List (Nat × Collector) := []
  log : LogState := {}
  fuses : Fuses := {}
  sec : SecState := {}
  omc : OmcState := {}
  jtag : JtagState := {}
  pins : Pins := {}
  /-- configuration space, by `(endpoint * 256 + function) * 4096 + offset` -/
  cfg : List (Nat × Reg) := []
  /-- memories of the package, bytes by place (`memBase…`) -/
  mem : List Host.Cell := []
  /-- draws made so far from the free values of Config -/
  fresh : Nat := 0
  /-- what left the package, newest first -/
  out : List Output := []
  /-- packet buffers: frames by `die * 2^32 + handle` -/
  bufs : List (Nat × Buf) := []
  /-- next buffer handle of each core die -/
  nextBuf : List (Nat × Nat) := []
  /-- frames that wait to be spread, by source `region * 32 + local index` -/
  fifos : List (Nat × Fifo) := []
  /-- ferry sequencers, by source -/
  seqs : List (Nat × FerrySeq) := []
  /-- headers in pipelines, oldest first -/
  hdrs : List Hdr := []
  /-- links between core dies, by `source die * 4 + destination die` (R7, R136) -/
  links : List (Nat × List Transit) := []
  /-- landings: W by `die * 1024 + sequence`, and entries held by die -/
  landW : List (Nat × Nat) := []
  held : List (Nat × List Entry) := []
  /-- classification: rules by `(region * 2 + bank) * 131072 + index`, swaps by region -/
  rules : List (Nat × Rule) := []
  clsSt : List (Nat × ClsState) := []
  /-- action sets by `region * 16384 + set`, template lines by `region * 8192 + line` -/
  asets : List (Nat × List Byte) := []
  tpls : List (Nat × List Byte) := []
  /-- counter cache, by `region * 2^22 + pair` -/
  cnts : List (Nat × CntPair) := []
  /-- session sampling counts by `region * 16 + session`, identification by region, GRE sequence by
  `region * 8192 + line` -/
  sampling : List (Nat × Nat) := []
  ipId : List (Nat × Nat) := []
  greSeq : List (Nat × Nat) := []
  /-- scheduler nodes by `die * 2^20 + kind * 2^18 + index`, backlogs by `die * 2^20 + queue`, or
  `die * 2^20 + 2^18 + outlet` for express queues -/
  nodes : List (Nat × Node) := []
  queues : List (Nat × List Entry) := []
  /-- outlets by `die * 256 + outlet`, and the entry each has selected and not yet sent -/
  outlets : List (Nat × Outlet) := []
  sel : List (Nat × Entry) := []
  /-- gate store by `die * 8192 + entry` -/
  gates : List (Nat × Word) := []
  /-- policers by `die * 2^18 + index` -/
  plcrs : List (Nat × Plcr) := []
  /-- APL by peer port, reads outstanding by `peer * 1024 + tag`, card requests in progress -/
  apls : List (Nat × AplState) := []
  aplReads : List (Nat × AplRead) := []
  winReqs : List WinReq := []
  /-- endpoints; reads of host memory that wait, and by `endpoint * 16384 + tag` -/
  eps : List (Nat × EpState) := []
  hwait : List HRead := []
  arrived : List Arrived := []
  hreads : List (Nat × HRead) := []
  /-- mailbox pairs both FULL, by page and offset of the first half, since when (R321) -/
  bothFull : List (Nat × Ns) := []
  /-- BIND entries by channel -/
  binds : List (Nat × Reg) := []
  /-- rings by `(endpoint * 256 + function) * 65536 + handle` -/
  wrings : List (Nat × WorkRing) := []
  crings : List (Nat × CplRing) := []
  /-- transmit descriptors in progress, and the next number -/
  txs : List (Nat × TxRec) := []
  txNext : Nat := 0
  /-- completions owed, oldest first -/
  cqes : List CqeOut := []
  /-- near table memory by `die * 2^21 + slot`, overflow stores by `table * 4096 + index`, where
  `table = region * 8 + slot` -/
  near : List (Nat × TEnt) := []
  ovf : List (Nat × TEnt) := []
  /-- learners and engines by region; next due time of each table's aging pass -/
  learns : List (Nat × LearnState) := []
  tblSt : List (Nat × TblRegion) := []
  ageDue : List (Nat × Ns) := []
  /-- key contexts by number, and cipher events of a page, oldest first: kind and handle -/
  ctxs : List (Nat × KeyCtx) := []
  cuEvts : List (Nat × List (Nat × Nat)) := []
  /-- threads by `cluster * 64 + core * 8 + thread`, channels by `cluster * 64 + number` -/
  thrs : List (Nat × Thread) := []
  chans : List (Nat × Chan) := []
  /-- requests at units, oldest first, and replies not yet in their channels -/
  ureqs : List Ureq := []
  ureps : List Ureply := []
  /-- inbound queues by region, oldest first -/
  inq : List (Nat × List InMsg) := []
  /-- check channels by `cluster * 16 + number`; debug sessions by cluster -/
  checks : List (Nat × CheckSt) := []
  dbgs : List (Nat × DebugSt) := []
  /-- still-water: since when the conditions of R396 hold, by cluster, and whether the detector has fired since -/
  still : List (Nat × (Ns × Bool)) := []
  /-- control-store words with a parity error, by `cluster * 32768 + word` -/
  csBad : List Nat := []
  /-- staging registers of the control-store window, bytes 0–11, by cluster -/
  csStage : List (Nat × List Byte) := []
  /-- DMA channels by `region * 64 + number` -/
  dmas : List (Nat × DmaChan) := []
  /-- 8 ns ticks of package time whose gain the buckets have had (R247) -/
  tick : Nat := 0
  /-- lottery arbiters by `region * 4 + number` -/
  arbs : List (Nat × Arb) := []
  /-- the ring that a region's mover served last, round robin (R339) -/
  lastRing : List (Nat × Nat) := []
  /-- NVMe controllers by `endpoint * 256 + function` -/
  nvs : List (Nat × NvCtl) := []
  deriving DecidableEq, Repr

/-- Reasons a step can stop with a fault. No command of the table stops: every command has an
effect in every state, if only to be refused or to be counted, so no meaning raises this. -/
inductive Fault where
  /-- Raised by no meaning of this model: the type must have a constructor. Safe. -/
  | none
  deriving DecidableEq, Repr

/-- Reasons a command can be refused by the model. -/
inductive Refusal where
  /-- Raised only by an arm of `exec` whose command has no meaning yet. Safe: nothing is claimed
  of it. -/
  | notModelled (mnemonic : String)
  deriving DecidableEq, Repr

/-- The state right after reset: every register at its reset value, every store empty, no command
waiting. -/
def State.reset : State := {}

end Sys2Proof.Machine
end

