-- ==== Sys2Proof/Machine/Ops.lean ====
section
/-! DEFINITION. The named operations over registers, counters, interrupts, memories, scopes and the
log that every meaning uses. -/
namespace Sys2Proof.Machine

/-! ### Registers -/

/-- The key of a register. -/
def rkey (p : PageKey) (off : Nat) : Nat := p * 4096 + off

/-- The stored value of a visible register. -/
def State.rd (s : State) (p : PageKey) (off : Nat) : Reg := tabGet (regReset (rkey p off)) s.regs (rkey p off)

/-- What the fast logic of the block holds for the register (R41). -/
def State.fr (s : State) (p : PageKey) (off : Nat) : Reg := tabGet (regReset (rkey p off)) s.fast (rkey p off)

/-- Post a value into a page (R44). -/
def State.post (s : State) (p : PageKey) (off : Nat) (v : Reg) : State :=
  { s with regs := tabPut (regReset (rkey p off)) s.regs (rkey p off) v }

/-- Give the fast logic a value (R41). -/
def State.setFast (s : State) (p : PageKey) (off : Nat) (v : Reg) : State :=
  { s with fast := tabPut (regReset (rkey p off)) s.fast (rkey p off) v }

/-- Post a value that fast logic holds too. -/
def State.postBoth (s : State) (p : PageKey) (off : Nat) (v : Reg) : State :=
  (s.post p off v).setFast p off v

/-- Post one field. -/
def State.postFld (s : State) (p : PageKey) (off lo w v : Nat) : State :=
  s.post p off (setFld (s.rd p off) lo w v)

/-- Set or clear one posted bit. -/
def State.postBit (s : State) (p : PageKey) (off i : Nat) (b : Bool) : State :=
  s.post p off (setBit (s.rd p off) i b)

/-- A field of a visible register. -/
def State.rdFld (s : State) (p : PageKey) (off lo w : Nat) : Nat := fld (s.rd p off) lo w

/-- A field as fast logic holds it. -/
def State.frFld (s : State) (p : PageKey) (off lo w : Nat) : Nat := fld (s.fr p off) lo w

/-- Add to a saturating 32-bit count register. -/
def State.bumpReg (s : State) (p : PageKey) (off lo w : Nat) : State :=
  s.postFld p off lo w (satAdd (s.rdFld p off lo w) 1 w)

/-- Record something that leaves the package. -/
def State.emit (s : State) (o : Output) : State := { s with out := o :: s.out }

/-- A 64-bit number held by two registers, low first. -/
def State.rd64 (s : State) (p : PageKey) (off : Nat) : Nat :=
  (s.rd p off).toNat + 2 ^ 32 * (s.rd p (off + 4)).toNat

/-- Two registers as fast logic holds them. -/
def State.fr64 (s : State) (p : PageKey) (off : Nat) : Nat :=
  (s.fr p off).toNat + 2 ^ 32 * (s.fr p (off + 4)).toNat

/-- Post a 64-bit number in two registers. -/
def State.post64 (s : State) (p : PageKey) (off v : Nat) : State :=
  (s.post p off (BitVec.ofNat 32 v)).post p (off + 4) (BitVec.ofNat 32 (v / 2 ^ 32))

/-- The next draw from a free value: its number, and the state with the counter advanced. -/
def State.draw (s : State) : Nat × State := (s.fresh, { s with fresh := s.fresh + 1 })

/-! ### Configuration space (R270–R274; offsets inside a capability as PCIe Base 6.0 places them,
PRESUMED, log entry 8) -/

/-- The key of a configuration register. -/
def cfgKey (e f off : Nat) : Nat := (e * 256 + f) * 4096 + off

/-- The reset value of a configuration register of ARI function `f`; `nvme` says the function
belongs to PF1. -/
def cfgReset (f : Nat) (nvme : Bool) (off : Nat) : Reg :=
  let pf := f < 2
  match off with
  | 0x000 => if pf then (if nvme then 0xA6421F9C else 0xA6401F9C) else 0xFFFFFFFF
  | 0x004 => 0x00100000
  | 0x008 => if nvme then 0x01080210 else 0x02000010
  | 0x00C => if f = 0 then 0x00800000 else 0
  | 0x010 => if pf then 0x00000004 else 0
  | 0x034 => 0x00000040
  | 0x040 => 0xC8035001
  | 0x044 => 0x00000008
  | 0x050 => 0x00029010
  | 0x058 => 0x00002810
  | 0x090 => if pf then 0x007F0011 else 0x001F0011
  | 0x094 => 0x0001E100
  | 0x098 => 0x0001F100
  | 0x100 => if pf then 0x14810001 else 0x00010001
  | _ => 0

/-- Does function `f` of endpoint `e` belong to PF1 (R270, R271)? -/
def State.isNvme (s : State) (e f : Nat) : Bool :=
  if f = 0 then false else if f = 1 then true
  else decide (2 + s.rdFld (epPage e 0) 0x10C 0 8 ≤ f)

/-- A configuration register. -/
def State.cfgRd (s : State) (e f off : Nat) : Reg :=
  tabGet (cfgReset f (s.isNvme e f) off) s.cfg (cfgKey e f off)

/-- Store a configuration register. -/
def State.cfgPut (s : State) (e f off : Nat) (v : Reg) : State :=
  { s with cfg := tabPut (cfgReset f (s.isNvme e f) off) s.cfg (cfgKey e f off) v }

/-- A configuration field. -/
def State.cfgFld (s : State) (e f off lo w : Nat) : Nat := fld (s.cfgRd e f off) lo w

/-- The PF that a function belongs to. -/
def State.pfOf (s : State) (e f : Nat) : Nat := if s.isNvme e f then 1 else 0

/-- Is the function enabled: a PF, or a VF below its PF's NumVFs with VF Enable set (R271)? -/
def State.fnEnabled (s : State) (e f : Nat) : Bool :=
  if f < 2 then true
  else
    let t0 := s.rdFld (epPage e 0) 0x10C 0 8
    let pf := s.pfOf e f
    let first := if pf = 0 then 2 else 2 + t0
    (s.cfgRd e pf 0x168).getLsbD 0 && decide (f - first < s.cfgFld e pf 0x170 0 16)

/-- PowerState of the Power Management capability: 0 D0, 3 D3hot. -/
def State.dState (s : State) (e f : Nat) : Nat := s.cfgFld e f 0x044 0 2

/-- Bus Master Enable. -/
def State.busMaster (s : State) (e f : Nat) : Bool := (s.cfgRd e f 0x004).getLsbD 2

/-! ### Interrupts (R39, R45, R303, R484) -/

/-- Send MSI-X vector `v` of a function: masked vectors set their pending bit (R272, R348). -/
def State.msixSend (s : State) (e f v : Nat) : State :=
  let ctl := s.cfgRd e f 0x090
  if !ctl.getLsbD 31 then s
  else
    let t := instPage e f 30
    let vctl := s.rd t (0x100 + 16 * v + 12)
    if ctl.getLsbD 30 || vctl.getLsbD 0 then
      s.postBit (instPage e f 31) (0x100 + 4 * (v / 32)) (v % 32) true
    else
      s.emit (.msix e f v (BitVec.ofNat 64 (s.rd64 t (0x100 + 16 * v))) (s.rd t (0x100 + 16 * v + 8)))

/-- What a rise of a page's interrupt output does (R303, R484). -/
def State.irqOut (s : State) (p : PageKey) : State :=
  let s := s.emit (.omcIrq p)
  match pageType p with
  | some .ictl | some .imbx | some .cu | some .iadm | some .mbxw | some .gch =>
    s.msixSend (instEp p) (instFn p) 0
  | some .ep | some .epLink | some .epWakep => (s.msixSend (epOf p) 0 0).msixSend (epOf p) 1 0
  | some .tbl =>
    let m : Mid := BitVec.ofNat 16 (s.rdFld p 0x118 16 16)
    if midIsHost m then s.msixSend (midEp m) (midFn m) 0 else s
  | some .lrn =>
    let m : Mid := BitVec.ofNat 16 (s.frFld p 0x10C 16 16)
    if midIsHost m then s.msixSend (midEp m) (midFn m) 0 else s
  | _ => s

/-- Set bits of INT_RAW, with the page's output if it rises. -/
def State.raiseInt (s : State) (p : PageKey) (bits : Reg) : State :=
  let old := s.rd p 0x010
  let en := s.rd p 0x014
  let s1 := s.post p 0x010 (old ||| bits)
  if old &&& en = 0 ∧ (old ||| bits) &&& en ≠ 0 then s1.irqOut p else s1

/-- Set one interrupt bit. -/
def State.raiseBit (s : State) (p : PageKey) (i : Nat) : State := s.raiseInt p (bitR i)

/-! ### Block counters (R46, R92) -/

/-- The key of a counter. -/
def ctrKey (p : PageKey) (idx : Nat) : Nat := p * 2 ^ 24 + idx

/-- A block counter. -/
def State.ctr (s : State) (p : PageKey) (idx : Nat) : Counter := tabGet 0 s.ctrs (ctrKey p idx)

/-- Store a block counter. -/
def State.setCtr (s : State) (p : PageKey) (idx : Nat) (v : Counter) : State :=
  { s with ctrs := tabPut 0 s.ctrs (ctrKey p idx) v }

/-- The STAT_HALF bit of a page type's INT_RAW. -/
def statHalfBit : PageType → Nat
  | .mac => 1
  | .apl => 4
  | _ => 0

/-- Has the page type a STAT_HALF source? -/
def hasStatHalf : PageType → Bool
  | .mac | .apl | .pipe | .tbl | .lrn | .ciph | .sched | .plcr | .ep | .dma | .lease | .rflt
  | .dflt => true
  | _ => false

/-- The HALF register and bit of a counter, where the page has HALF registers (R92, R115, R141). -/
def halfBit (t : PageType) (idx : Nat) : Option (Nat × Nat) :=
  match t with
  | .mac =>
    if idx < 0x20 then some (0x120, idx)
    else if idx < 0x26 then some (0x124, idx - 0x20)
    else if 0x40 ≤ idx ∧ idx < 0x54 then some (0x128, idx - 0x40)
    else none
  | .apl => if idx < 15 then some (0x114, idx) else none
  | .pipe => if 1 ≤ idx ∧ idx < 20 then some (0x11C, idx) else none
  | _ => none

/-- When bit 47 of a counter rises, its HALF bit and STAT_HALF are set (R92). -/
def State.noteHalf (s : State) (p : PageKey) (idx : Nat) : State :=
  match pageType p with
  | none => s
  | some t =>
    match halfBit t idx with
    | some (off, b) =>
      if bit (s.rd p off) b then s else (s.postBit p off b true).raiseBit p (statHalfBit t)
    | none => if hasStatHalf t then s.raiseBit p (statHalfBit t) else s

/-- Advance a 48-bit block counter by `n`; it wraps in silence (R92). In A2408 mode a MAC keeps
none (R93). -/
def State.count (s : State) (p : PageKey) (idx n : Nat) : State :=
  if pageType p = some .mac ∧ s.frFld p 0x100 16 2 = 1 then s
  else
    let old := s.ctr p idx
    let new : Counter := old + BitVec.ofNat 48 n
    let s1 := s.setCtr p idx new
    if !old.getLsbD 47 && new.getLsbD 47 then s1.noteHalf p idx else s1

/-! ### Memories -/

/-- OMC memory, 8 MiB (R511). -/
def omcMem : Nat := 0
/-- Control store of cluster `c`: 32 Ki words of 16 bytes (R425). -/
def csBase (c : Nat) : Nat := 2 ^ 32 + c * 2 ^ 19
/-- Cluster memory of cluster `c`: 1 MiB (R10, R380). -/
def cmemBase (c : Nat) : Nat := 2 ^ 34 + c * 2 ^ 20
/-- External flash, 64 MiB (R511). -/
def flashBase : Nat := 2 ^ 36
/-- HBM3E stack `k`, 36 GiB (R6). -/
def hbmBase (k : Nat) : Nat := 2 ^ 40 + k * 2 ^ 36
/-- Bytes of an HBM3E stack. -/
def hbmSize : Nat := 36 * 2 ^ 30
/-- Bytes of OMC memory. -/
def omcMemSize : Nat := 8 * 2 ^ 20

/-- What a byte that nothing has written reads as: erased flash reads 0xFF (R512), every other
memory 0x00 (DESIGN CHOICE, log entry 4). -/
def memDefault (a : Nat) : Byte := if flashBase ≤ a ∧ a < flashBase + 2 ^ 26 then 0xFF else 0

/-- Read one byte. -/
def State.byte (s : State) (a : Nat) : Byte := tabGet (memDefault a) s.mem a

/-- Write one byte. -/
def State.setByte (s : State) (a : Nat) (b : Byte) : State :=
  { s with mem := tabPut (memDefault a) s.mem a b }

/-- Read `n` bytes. -/
def State.bytes (s : State) (a n : Nat) : List Byte := (List.range n).map fun i => s.byte (a + i)

/-- Write bytes in ascending order. -/
def State.setBytes (s : State) (a : Nat) : List Byte → State
  | [] => s
  | b :: bs => (s.setByte a b).setBytes (a + 1) bs

/-- A memory is in canonical form: addresses rise, and no byte is listed that reads the same
unlisted. -/
def Memory.wf : List Host.Cell → Bool
  | [] => true
  | [c] => decide (c.2 ≠ memDefault c.1)
  | c :: d :: m => decide (c.2 ≠ memDefault c.1) && decide (c.1 < d.1) && Memory.wf (d :: m)

/-! ### Scopes, fences and resets (R16, R18, R21) -/

/-- Does a page of an endpoint, or an instance page, belong to endpoint `e`? -/
def pageOfEp (e : Nat) (p : PageKey) : Bool :=
  if isInst p then instEp p == e
  else isHost (pgSite p) && decide (pgGroup p < 2) && epOf p == e

/-- The home region of a page, where it has one (R8). -/
def homeRegion (p : PageKey) : Option Nat :=
  if isInst p then some (epRegion (instEp p))
  else
    let s := pgSite p
    if isCore s && decide (pgGroup p < 10) then some (regionIdx p)
    else if isLine s && decide (pgGroup p < 3) then some ((s - 4) * 4 + pgRegion p)
    else if isHost s && decide (pgGroup p < 2) then some ((s - 8) * 4 + pgRegion p)
    else none

/-- The pages of one unit: the pages that share its block (R29). -/
def sameUnit (p q : PageKey) : Bool :=
  p == q ||
  (match pageType p, pageType q with
   | some .dma, some .dmach => regionIdx p == regionIdx q
   | some .dmach, some .dma => regionIdx p == regionIdx q
   | some .dmach, some .dmach => regionIdx p == regionIdx q
   | some .ep, some .epLink | some .ep, some .epWakep | some .ep, some .epIde
   | some .ep, some .epIwin => epOf p == epOf q
   | _, _ => false)

/-- Does a fence of the scope cover the page: the scope itself and what is homed in it (R21, R471)? -/
def fenceCovers (sc : Scope) (p : PageKey) : Bool :=
  match sc with
  | .unit q => sameUnit q p
  | .cluster c => isCore (pgSite p) && !isInst p && decide (pgGroup p < 8) && clusterOf p == c
  | .npg n => isLine (pgSite p) && !isInst p && decide (pgGroup p < 2) && npgOf p == n
  | .peer q => isLine (pgSite p) && !isInst p && pgGroup p == 2 && peerOf p == q
  | .endpoint e => pageOfEp e p
  | .region r => homeRegion p == some r
  | .die d =>
    (!isInst p && pgSite p == d) ||
    (if isCore d then
       match homeRegion p with
       | some r => r / 4 == d
       | none => false
     else isInst p && isHost d && instEp p / 8 == d - 8)

/-- Does a reset of the scope include the page (R16–R18)? What a fence of the scope covers, a reset of it resets. -/
def resetCovers (sc : Scope) (p : PageKey) : Bool := fenceCovers sc p

/-- Is the page's unit fenced? -/
def State.isFenced (s : State) (p : PageKey) : Bool := s.fences.any fun sc => fenceCovers sc p

/-- Is a reset of a scope that holds the page in progress? -/
def State.inReset (s : State) (p : PageKey) : Bool := s.resets.any fun r => resetCovers r.1 p

/-- Does one scope contain another (R16)? Used when a reset lifts a fence (R21). -/
def scopeContains (outer inner : Scope) : Bool :=
  outer == inner ||
  (match outer, inner with
   | .cluster c, .unit p => fenceCovers (.cluster c) p
   | .npg n, .unit p => fenceCovers (.npg n) p
   | .peer q, .unit p => fenceCovers (.peer q) p
   | .endpoint e, .unit p => fenceCovers (.endpoint e) p
   | .region r, .unit p => homeRegion p == some r
   | .region r, .cluster c => c / 8 == r
   | .region r, .npg n => npgRegion n == r
   | .region r, .peer q => q == r
   | .region r, .endpoint e => epRegion e == r
   | .die d, .unit p => pgSite p == d && !isInst p
   | .die d, .cluster c => c / 32 == d
   | .die d, .region r => r / 4 == d
   | .die d, .npg n => 4 + n / 8 == d
   | .die d, .peer q => 4 + q / 4 == d
   | .die d, .endpoint e => 8 + e / 8 == d
   | _, _ => false)

/-! ### Power domains -/

/-- A power domain. -/
def State.dom (s : State) (d : Nat) : Domain := tabGet {} s.doms d

/-- Store a power domain. -/
def State.setDom (s : State) (d : Nat) (v : Domain) : State := { s with doms := tabPut {} s.doms d v }

/-- Is the domain lit? -/
def State.litDom (s : State) (d : Nat) : Bool := (s.dom d).st == .lit

/-- Is the block of the page lit; a block in no switched domain always is (R42)? -/
def State.litPage (s : State) (p : PageKey) : Bool :=
  match domainOf p with
  | none => true
  | some d => s.litDom d

/-- Is the domain fenced (R65)? -/
def State.domFenced (s : State) (d : Nat) : Bool := s.isFenced (governing d)

/-- A wake request reaches the domain's wake controller (R66, R70). A fenced domain keeps its state
(R65); a lit or waking one is unchanged. -/
def State.wake (s : State) (d : Nat) : State :=
  if s.domFenced d then s
  else
    let x := s.dom d
    match x.st with
    | .lit | .wakingDim | .wakingDark => s
    | .dim => s.setDom d { x with st := .wakingDim, since := s.clk }
    | .enteringDark | .dark => s.setDom d { x with st := .wakingDark, since := s.clk }

/-- Work arrives for a domain: both idle counts restart, and a stopped domain wakes (R61, R66);
a cluster wakes on work only while WAKE_ON_WORK of its CLU page is 1 (R67). -/
def State.work (s : State) (d : Nat) : State :=
  let s := s.setDom d { s.dom d with lastWork := s.clk }
  if d < 128 && !bit (s.rd (governing d) 0x02C) 1 then s else s.wake d

/-! ### Log records (R480) -/

/-- A record enters staging, coalesces with an unwritten record of the same family, code and
source, or is dropped and counted by severity (R480). -/
def State.stageLog (s : State) (r : LogRec) : State :=
  let l := s.log
  match l.staged.findIdx? fun x => x.family == r.family && x.code == r.code && x.source == r.source with
  | some i =>
    let st := l.staged.modify i fun x => { x with count := x.count + r.count, coalesced := true }
    ({ s with log := { l with staged := st } }).count logPage 0x04 1
  | none =>
    let room := if r.severity = 0 then 256 else 224
    if l.staged.length < room then
      ({ s with log := { l with staged := l.staged ++ [r] } }).postFld logPage 0x110 0 9
        (l.staged.length + 1)
    else
      let first := if l.drops.sum = 0 then r.time else l.firstDrop
      ({ s with log := { l with
          drops := l.drops.modify r.severity (· + 1), firstDrop := first, lastDrop := r.time } }).count
        logPage r.severity 1

/-- A lock release worth a record (R51, R52, R482). -/
def State.logLock (s : State) (p : PageKey) (forced : Bool) (holder rel : Mid) (cause : Nat) : State :=
  s.stageLog {
    time := s.ptime, source := unitPath p, severity := if forced then 2 else 3
    family := 0x06, code := if forced then 0x01 else 0x02
    data := leBytes 2 holder.toNat ++ leBytes 2 (if forced then rel.toNat else 0) ++ leBytes 2 0x100 ++
      [BitVec.ofNat 8 cause] ++ zeros 33 }

/-- A record of OMC firmware's or the boot agent's own (family FIRMWARE). -/
def State.logFw (s : State) (code sev : Nat) (data : List Byte) : State :=
  s.stageLog { time := s.ptime, source := unitPath omcPage, severity := sev, family := 0x05,
               code := BitVec.ofNat 16 code, data := padTo data 40 }

/-! ### Fault reports (R471, R473) -/

/-- The collector of an accused unit (R474). -/
def collectorOf (u : UnitPath) : PageKey :=
  let p := pathPage u
  let site := pgSite p
  if site ≥ 12 then logPage
  else match homeRegion p with
    | some r => regPage r 13
    | none => diePage (site % 4) 5

/-- A reporter raises a report: it holds one at a time, and a further one is withheld and counted
in counter 0x03 of the collector that receives the pending one (R473). -/
def State.report (s : State) (accused reporter : PageKey) (code cls detail : Nat) : State :=
  let r : FaultRep := { accused := unitPath accused, reporter := unitPath reporter,
                        code := BitVec.ofNat 8 code, cls := BitVec.ofNat 8 cls,
                        detail := BitVec.ofNat 16 detail }
  match s.reports.find? fun x => x.reporter == r.reporter with
  | some x => let c := collectorOf x.accused
    if c = logPage then s else s.count c 0x03 1
  | none => { s with reports := s.reports ++ [r] }

end Sys2Proof.Machine
end

