-- ==== Sys2Proof/Machine/KeyRams.lean ====
section
/-! DEFINITION. AES-256-GCM as it protects keys and images, and what an eclipse and a relock reach outside the
security engine (R223, R235, R294, R399, R505). -/
namespace Sys2Proof.Machine

/-- AES-256-GCM text: each byte under the key stream of a key and an IV; encryption and decryption are one (R223). -/
def gcmText (k : BitVec 256) (iv text : List Byte) : List Byte :=
  text.zipIdx.map fun e => e.1 ^^^ Config.gcmStream k iv e.2

/-- AES-256-GCM decryption with the tag's first 16 bytes: `none` when the tag fails (R223). -/
def gcmOpen (k : BitVec 256) (iv aad text tag : List Byte) : Option (List Byte) :=
  if slice (Config.gcmTag k iv aad (gcmText k iv text)) 0 16 = tag then some (gcmText k iv text) else none

/-- Key derivation in counter mode (R225): K(1) … K(n), the first `l` bits. -/
def deriveKey (root label dctx : List Byte) (l : Nat) : List Byte :=
  let n := (l + 383) / 384
  let ks := (List.range n).flatMap fun i =>
    beBytes 48 (Config.hmacSha384 root (beBytes 4 (i + 1) ++ label ++ [0] ++ dctx ++ beBytes 4 l)).toNat
  ks.take (l / 8)

/-- The order of the group of ECDSA P-384 (the published standard that R495 names). -/
def p384Order : Nat :=
  0xFFFFFFFFFFFFFFFFFFFFFFFFFFFFFFFFFFFFFFFFFFFFFFFFC7634D81F4372DDF581A0DB248B0A77AECEC196ACCC52973

/-- A key that the security engine derives from a fused secret: LABEL padded to 20 bytes, DCTX, and `l` bits (R494). -/
def engineKey (secret : BitVec 256) (label dctx : List Byte) (l : Nat) : List Byte :=
  deriveKey (leBytes 32 secret.toNat) (padTo label 20) dctx l

/-- An ECDSA private scalar: the derivation output as a big-endian integer, mod the order less one, plus one (R495). -/
def ecdsaScalar (out : List Byte) : BitVec 384 := BitVec.ofNat 384 (beAt out 0 56 % (p384Order - 1) + 1)

/-- A TDI in CONFIG_LOCKED or RUN enters ERROR and its instance is quiesced (R296, R309 cause 0x3): the drain's work on
rings follows at the next DRAIN_END (`late`). -/
def State.tdiEclipse (s : State) (e f : Nat) : State :=
  let p := epPage e 3
  let st := s.rdFld p (0x200 + 4 * f) 28 4
  if st ≠ 1 ∧ st ≠ 2 then s
  else
    let s := (s.postFld p (0x200 + 4 * f) 28 4 3).raiseBit p 1
    let q := instPage e f 0
    let i := s.rdFld q 0x104 0 2
    if i = 0 ∨ i = 3 then s
    else
      let v := setFld (setFld (setFld (s.rd q 0x104) 24 2 1) 20 4 3) 0 2 3
      let s := (s.post q 0x104 (setBit v 31 true)).postBoth q 0x100 0
      let m := instPage e (s.pfOf e f) 17
      let s := (s.postBit m (0x160 + f / 32 * 4) (f % 32) true).raiseBit m 2
      let x := tabGet {} s.eps e
      { s with eps := tabPut {} s.eps e { x with late := x.late ++ [f] } }

/-- Every IDE stream of an endpoint goes to Insecure, its keys are gone, and its locked TDIs enter ERROR. -/
def State.ideEclipse (s : State) (e : Nat) : State :=
  let x := tabGet {} s.eps e
  let any := x.ide.any (fun i => i.2) || x.ideLink == some true
  let y := { x with ide := x.ide.map (fun i => (i.1, false)), ideLink := x.ideLink.map fun _ => false, ideKeys := [] }
  let s := { s with eps := tabPut {} s.eps e y }
  let s := s.post (epPage e 3) 0x100 0
  let s := if any then s.raiseBit (epPage e 3) 0 else s
  let fs := (s.regs.filter fun r => r.1 / 4096 == epPage e 3 && decide (0x200 ≤ r.1 % 4096)).map fun r =>
    (r.1 % 4096 - 0x200) / 4
  fs.foldl (fun s f => s.tdiEclipse e f) s

/-- Zeroize every key RAM outside the security engine: context caches, lane registers, IDE keys. -/
def State.zeroizeKeys (s : State) : State :=
  let s := { s with ctxs := s.ctxs.map fun c => (c.1, { c.2 with key := [], salt := [] }) }
  (List.range 32).foldl State.ideEclipse s

/-- End the debug session of a cluster: the threads it halted go on (R399). -/
def State.endSession (s : State) (c : Nat) : State :=
  let s := { s with dbgs := tabErase s.dbgs c }
  let s := s.postBoth (mkPage (c / 32) (c / 8 % 4) (c % 8) 12) 0x100 0
  let mine := s.thrs.filter fun t => t.1 / 64 == c && t.2.held
  mine.foldl (fun s t =>
    let i := t.1 % 64
    let p := mkPage (c / 32) (c / 8 % 4) (c % 8) (1 + i / 8)
    let halted := t.2.st == 5
    let x := { t.2 with st := if halted then 1 else t.2.st, held := false, step := false }
    let s := { s with thrs := tabPut {} s.thrs t.1 x }
    if halted then s.postFld p (0x120 + 4 * (i % 8)) 29 3 1 else s) s

/-- End every CDBG session of the debug port, as a detach does. -/
def State.endDebug (s : State) : State :=
  (s.dbgs.filter fun d => midIsDebug d.2.holder).foldl (fun s d => s.endSession d.1) s

end Sys2Proof.Machine
end

