-- ==== Sys2Proof/Machine/Alarm.lean ====
section
/-! DEFINITION. Alarm sources, levels, relock, eclipse and the isolation count (R501, R503–R509). -/
namespace Sys2Proof.Machine

/-- The package alarm level, 0–3 (R505). -/
def State.alarmLevel (s : State) : Nat := s.rdFld secPage 0x104 0 2

/-- Is a JTAG instruction open only under a token scope (R551)? -/
def irGated (op : Byte) : Bool :=
  op == 0x03 || op == 0x04 || op == 0x05 || op == 0x06 || op == 0x07 ||
    (decide (0x80 ≤ op.toNat) && decide (op.toNat ≤ 0xFE))

/-- Is a gated instruction admitted by the lifecycle or a token (R491, R551, R553)? EXTEST, the
IEEE 1149.6 instructions, HIGHZ and CLAMP are open in PROVISIONED too. -/
def State.irAdmits (s : State) (op : Byte) : Bool :=
  if !irGated op then true
  else if !s.sec.lcKnown then false
  else if s.sec.lc = 0 ∨ s.sec.lc = 3 then true
  else if s.sec.lc = 1 ∧ op.toNat < 0x80 then true
  else s.sec.scope.getLsbD 1

/-- TAPs that hold a gated instruction fall back to BYPASS when its admission ends (R553). -/
def State.dropTaps (s : State) : State :=
  { s with jtag := { s.jtag with
      taps := s.jtag.taps.map fun t => if s.irAdmits t.ir then t else { t with ir := 0xFF } } }

/-- Relock: the unlock and its scope end, with every CDBG session of the debug port (R399, R501),
and gated TAP instructions (R553). -/
def State.relock (s : State) : State :=
  let s := { s with sec := { s.sec with scope := 0 } }
  let s := (s.postBit secPage 0x11C 31 false).postFld secPage 0x11C 24 3 0
  (State.endDebug s).dropTaps

/-- Eclipse: the security engine zeroizes every key RAM in hardware (R235, R505, R507). -/
def State.eclipse (s : State) : State :=
  let s := { s with sec := { s.sec with
    kek := none, vaultKey := none, patchKey := none, devIdKey := none, aliasKey := none, spdm := [] } }
  (State.zeroizeKeys s).postBit secPage 0x104 2 true

/-- Raise the package level, with the effects of R505; it never falls. -/
def State.raiseLevel (s : State) (l : Nat) : State :=
  let old := s.alarmLevel
  if l ≤ old then s
  else
    let s := (s.postFld secPage 0x104 0 2 l).raiseBit secPage 2
    let s := if 2 ≤ l then { s.relock with pins := { s.relock.pins with alarmN := false } } else s
    let s := if 3 ≤ l then s.eclipse else s
    if s.omc.eventRecv && s.omc.running then s.emit (.event "alarm-level") else s

/-- A source fires: it latches with the level ALMAP_LEVEL gives it, or, latched already, only
counts the repeat (R479, R504, R506). -/
def State.fireAlarm (s : State) (src : Nat) : State :=
  let lvl := s.rdFld almapPage 0x100 (2 * src) 2
  if bit (s.rd almapPage 0x108) src then
    s.bumpReg almapPage (0x140 + 4 * src) 0 16
  else
    let s := s.postBit almapPage 0x108 src true
    let s := s.stageLog { time := s.ptime, source := unitPath almapPage, severity := 0,
                          family := 0x03, code := BitVec.ofNat 16 src,
                          data := zeros 40 }
    let s := if lvl = 1 && s.alarmLevel < 2 then
        { s with pins := { s.pins with alarmN := false }
                 sec := { s.sec with pulseEnd := some (s.clk + 1000) } }
      else s
    s.raiseLevel lvl

/-- One refusal counts toward the isolation alarm; the THRESH-th of a window fires ISOLATION, once
per window (R508). -/
def State.isoCount (s : State) : State :=
  let n := s.rdFld secPage 0x114 0 32 + 1
  let s := s.postFld secPage 0x114 0 32 n
  if n = s.rdFld secPage 0x110 0 16 && !s.sec.isoFired then
    { s with sec := { s.sec with isoFired := true } }.fireAlarm 7
  else s

end Sys2Proof.Machine
end

