-- ==== Sys2Proof/Machine/Work.lean ====
section
/-! DEFINITION. What counts as work of a power domain (R61, R72, R73). -/
namespace Sys2Proof.Machine

/-- CHAN_BIND of a channel, as fast logic holds it. -/
def State.bindKind (s : State) (c n : Nat) : Nat := s.frFld (cluPage c 11) (0x200 + 8 * n) 28 4

/-- Is the thread blocked reading an internal channel (R72, R383)? -/
def State.waitsInside (s : State) (c : Nat) (x : Thread) : Bool :=
  match x.wait with
  | .read n _ => x.st == 2 && bit (s.rd (cluPage c 11) (0x200 + 8 * n)) 27
  | _ => false

/-- Work of a cluster: a runnable thread, one in an access or a commit, a request at a unit or a reply owed, an attached
debugger, and the case of R72. -/
def State.cluBusy (s : State) (c : Nat) : Bool :=
  let ts := s.thrs.filter fun (t : Nat × Thread) => t.1 / 64 == c
  let wait := ts.filter fun (t : Nat × Thread) => t.2.st != 0 && t.2.st != 5 && t.2.st != 6
  (ts.any fun (t : Nat × Thread) => t.2.st == 1 || t.2.st == 3 || t.2.st == 4) ||
  (s.ureqs.any fun (r : Ureq) => r.cluster == c && !r.dead) || (s.ureps.any fun (r : Ureply) => r.cluster == c) ||
  (s.dmas.any fun (d : Nat × DmaChan) => match d.2.xfer with
    | some x => (match x.req with | some (q : Ureq) => q.cluster == c && !q.dead | none => false)
    | none => false) ||
  (tabGet ({} : DebugSt) s.dbgs c).attached ||
  (!wait.isEmpty && wait.all fun (t : Nat × Thread) => s.waitsInside c t.2)

/-- Requests of threads that wait at a unit of a kind in a region. -/
def State.unitAsked (s : State) (r kind : Nat) : Bool :=
  s.ureqs.any fun (q : Ureq) => q.cluster / 8 == r && s.bindKind q.cluster q.chan == kind

/-- Work of a region's mover: transfers, ring fetches and descriptors of its two endpoints, completions. -/
def State.moverBusy (s : State) (r : Nat) : Bool :=
  let mine := fun (e : Nat) => epRegion e == r
  (s.dmas.any fun (d : Nat × DmaChan) => d.1 / 64 == r && d.2.xfer.isSome) ||
  (s.wrings.any fun (w : Nat × WorkRing) => mine (w.1 / 2 ^ 24) && (w.2.inFetch != 0 || !w.2.fetched.isEmpty)) ||
  (s.txs.any fun (t : Nat × TxRec) => mine (t.2.ring / 2 ^ 24)) || (s.cqes.any fun (c : CqeOut) => mine (c.ring / 2 ^ 24)) ||
  (s.unitAsked r 4 || s.unitAsked r 6 || s.unitAsked r 7)

/-- Work of a region's shared units: the inbound queue, the learner, aging, clearing, a walk, a table command, draws. -/
def State.sharedBusy (s : State) (r : Nat) : Bool :=
  !(tabGet [] s.inq r).isEmpty || !(tabGet ({} : LearnState) s.learns r).queue.isEmpty ||
  (let x := tabGet ({} : TblRegion) s.tblSt r
   x.aging.isSome || !x.clearing.isEmpty || x.fetching) ||
  bit (s.rd (regPage r 0) 0x124) 31 || s.unitAsked r 3 ||
  (s.arbs.any fun (a : Nat × Arb) => a.1 / 4 == r && !a.2.reqs.isEmpty) || (tabGet ({} : ClsState) s.clsSt r).old.isSome

/-- Work of a core die's fabric and packet buffer: frames, queues, and entries under way. -/
def State.dieBusy (s : State) (d : Nat) : Bool :=
  (s.bufs.any fun (b : Nat × Buf) => b.1 / 2 ^ 32 == d) ||
  (s.queues.any fun (q : Nat × List Entry) => q.1 / 2 ^ 20 == d && !q.2.isEmpty) ||
  (s.sel.any fun (e : Nat × Entry) => e.1 / 256 == d) || !(tabGet [] s.held d).isEmpty ||
  (s.links.any fun (l : Nat × List Transit) => (l.1 / 4 == d || l.1 % 4 == d) && !l.2.isEmpty)

/-- Work of a peer port: held and waiting APL frames, reads owed either way. -/
def State.peerBusy (s : State) (q : Nat) : Bool :=
  let a := tabGet ({} : AplState) s.apls q
  !a.held.isEmpty || !a.sendq.isEmpty || (s.aplReads.any fun (r : Nat × AplRead) => r.1 / 1024 == q && r.2.quar.isNone) ||
  s.winReqs.any fun (w : WinReq) => w.peer == q

/-- Work of an endpoint: reads of host memory, a function-level reset. -/
def State.epBusy (s : State) (e : Nat) : Bool :=
  !(tabGet ({} : EpState) s.eps e).flr.isEmpty || (s.hwait.any fun (r : HRead) => r.ep == e) ||
  s.hreads.any fun (r : Nat × HRead) => r.1 / 16384 == e && r.2.quar.isNone

/-- Does the domain hold work, or has a unit of it a request outstanding, or is a debugger attached? The OMC's and the
security engine's work is done in the step that brings it. -/
def State.domBusy (s : State) (d : Nat) : Bool :=
  if d < 128 then s.cluBusy d
  else if d < 192 then s.hdrs.any fun (h : Hdr) => h.pipe == d - 128
  else if d < 208 then s.unitAsked (d - 192) 5 || s.hdrs.any fun (h : Hdr) => h.pipe / 4 == d - 192 && !h.checks.isEmpty
  else if d < 224 then s.moverBusy (d - 208)
  else if d < 240 then s.sharedBusy (d - 224)
  else if d < 244 then s.dieBusy (d - 240)
  else if d < 248 then s.hdrs.any fun (h : Hdr) => h.pipe / 16 == d - 244 && h.park.isSome
  else if d < 280 then s.sel.any fun (e : Nat × Entry) => e.1 / 8 == (d - 248) / 8 * 32 + (d - 248) % 8
  else if d < 296 then s.peerBusy (d - 280)
  else if d < 328 then s.epBusy (d - 296)
  else false

/-- At a tick, the domains that hold work restart their idle counts (R61). -/
def State.busyTick (s : State) : State :=
  ((List.range 338).filter s.domBusy).foldl (fun s d => s.setDom d { s.dom d with lastWork := s.clk }) s

end Sys2Proof.Machine
end

