-- ==== Sys2Proof/Machine/Power.lean ====
section
/-! DEFINITION. Power domains: policies, floors, entries and wakes (R60–R72). -/
namespace Sys2Proof.Machine

/-- How deep a domain may go: 0 lit only, 1 no darker than dim, 2 dark. -/
abbrev Depth := Nat

/-- The depth a PWR_POLICY allows (R62). -/
def policyDepth (pol : Nat) : Depth := if pol = 1 then 0 else if pol = 2 then 1 else 2

/-- Is any port or endpoint of a core region up (R63)? -/
def State.regionUp (s : State) (r : Nat) : Bool :=
  let die := r / 4
  let q := r % 4
  ([0, 1].any fun g =>
      [1, 2, 3, 4, 5, 6, 7, 8].any fun k => bit (s.rd (mkPage (4 + die) q g k) 0x10C) 31) ||
  bit (s.rd (mkPage (4 + die) q 2 3) 0x10C) 31 ||
  ([0, 1].any fun g => bit (s.rd (mkPage (8 + die) q g 0) 0x104) 29)

/-- PAGE_STS.READY: enabled, out of reset and accepting work (R39). -/
def State.ready (s : State) (p : PageKey) : Bool :=
  bit (s.fr p 0x008) 0 && !s.inReset p && !s.isFenced p

/-- Is any pattern of the endpoint armed (R280)? -/
def State.wakeArmed (s : State) (e : Nat) : Bool :=
  (List.range 32).any fun n => bit (s.fr (epPage e 2) (0x200 + 0x20 * n)) 31

/-- The floor hardware holds a domain at (R63). -/
def State.floorDepth (s : State) (d : Nat) : Depth :=
  if d < 128 then 2
  else if d < 192 then (if s.regionUp ((d - 128) / 4) then 1 else 2)
  else if d < 208 then (if s.regionUp (d - 192) then 1 else 2)
  else if d < 224 then (if s.regionUp (d - 208) then 1 else 2)
  else if d < 240 then (if s.regionUp (d - 224) then 0 else 2)
  else if d < 244 then (if s.ready (diePage (d - 240) 4) then 1 else 2)
  else if d < 248 then (if s.ready (diePage (d - 244) 4) then 1 else 2)
  else if d < 296 then (if bit (s.fr (governing d) 0x008) 0 then 0 else 2)
  else if d < 328 then
    let e := d - 296
    if bit (s.fr (epPage e 0) 0x008) 0 && (s.pins.perstN.getLsbD e || s.wakeArmed e) then
      (if s.rdFld (epPage e 1) 0x104 19 3 ≤ 1 then 0 else 1)
    else 2
  else if d < 332 then
    let die := 4 + (d - 328)
    if [0, 1, 2, 3].any fun q => [0, 1, 2].any fun g => bit (s.fr (mkPage die q g 0) 0x008) 0
    then 1 else 2
  else if d < 336 then
    let die := 8 + (d - 332)
    if [0, 1, 2, 3].any fun q => [0, 1].any fun g => bit (s.fr (mkPage die q g 0) 0x008) 0
    then 1 else 2
  else 1

/-- The PWR_POLICY in effect for a domain (R62). -/
def State.policy (s : State) (d : Nat) : Nat := s.rdFld (governing d) 0x008 4 2

/-- The deepest state a domain may take: the lighter of the policy's limit and the floor (R63). -/
def State.depth (s : State) (d : Nat) : Depth := min (policyDepth (s.policy d)) (s.floorDepth d)

/-- How dark a power state is. -/
def darkness : Power → Nat
  | .lit | .wakingDim | .wakingDark => 0
  | .dim => 1
  | .enteringDark | .dark => 2

/-- Wake the domain if it is darker than its policy and floor now allow (R62, R66). -/
def State.lift (s : State) (d : Nat) : State :=
  if s.depth d < darkness (s.dom d).st then s.wake d else s

/-- PAGE_STS.POWER (R39, R60, R70). -/
def State.powerCode (s : State) (p : PageKey) : Nat :=
  match domainOf p with
  | none => 0
  | some d => match (s.dom d).st with
    | .lit => 0
    | .dim | .enteringDark => 1
    | .dark => 2
    | .wakingDim | .wakingDark => 3

/-- Has the domain a ferry batch pending (R61)? -/
def State.ferryPending (s : State) (d : Nat) : Bool := s.ferry.any fun w => domainOf w.page == some d

/-- A domain is idle when it holds no work, no request is outstanding, no ferry batch is pending and
no debugger is attached (R61, R72, R73). -/
def State.domIdle (s : State) (d : Nat) : Bool :=
  !s.ferryPending d && !s.domBusy d

/-- IDLE_TO_DIM: after 64 consecutive idle cycles of its fast clock a domain whose policy and floor
allow it stops its clock (R61, R63, R65). The one-cycle entry is part of the step (R70). -/
def execIdleToDim (d : Nat) (s : State) : Host.Outcome State Fault Refusal :=
  let x := s.dom d
  if d < 338 ∧ x.st = .lit ∧ s.domIdle d ∧ !s.domFenced d ∧ 1 ≤ s.depth d ∧
      64 * 1000 ≤ (s.clk - x.lastWork) * clockMhz d then
    .next (s.setDom d { x with st := .dim, since := s.clk })
  else .next s

/-- DIM_TO_DARK: after 20 µs of continuous idleness a dim domain starts its 240 ns entry into dark
(R61, R70). Core fabric and packet buffer go dark only when the buffer is empty (R60). -/
def execDimToDark (d : Nat) (s : State) : Host.Outcome State Fault Refusal :=
  let x := s.dom d
  if d < 338 ∧ x.st = .dim ∧ s.domIdle d ∧ !s.domFenced d ∧ 2 ≤ s.depth d ∧
      20000 ≤ s.clk - x.lastWork then
    .next (s.setDom d { x with st := .enteringDark, since := s.clk })
  else .next s

/-- DARK_ENTRY_DONE: the rail switches are open and the domain is dark; with the HBM3E interface
dark its stack is in self-refresh (R64, R70). -/
def execDarkEntryDone (d : Nat) (s : State) : Host.Outcome State Fault Refusal :=
  let x := s.dom d
  if d < 338 ∧ x.st = .enteringDark ∧ 240 ≤ s.clk - x.since then
    .next (s.setDom d { x with st := .dark, since := s.clk })
  else .next s

/-- Whether a wake source reaches the wake controller (R66). -/
def State.wakeAdmits (s : State) (d : Nat) (src : WakeSource) : Bool :=
  match src with
  | .work => d ≥ 128 || bit (s.rd (governing d) 0x02C) 1
  | .ferry p => domainOf p == some d && bit (s.rd p 0x02C) 0 && s.ferry.any fun w => w.page == p
  | .wakeNow p => domainOf p == some d && bit (s.rd p 0x02C) 8
  | .policy | .floor => decide (s.depth d < darkness (s.dom d).st)
  | .reset => s.resets.any fun r => resetCovers r.1 (governing d)
  | .debugger => decide (d < 128) && bit (s.rd (cluPage d 12) 0x100) 31

/-- WAKE_REQUEST: a wake source of R66 starts a transition of the domain toward lit, or reverses an
entry under way (R70). -/
def execWakeRequest (d : Nat) (src : WakeSource) (s : State) : Host.Outcome State Fault Refusal :=
  if d < 338 ∧ s.wakeAdmits d src then .next (s.wake d) else .next s

/-- WAKE_COMPLETE: a waking domain becomes lit, WAKE_NOW clears in its pages, and idleness counts
from here (R66, R68, R71). Its pending writes form the next batch (FERRY_BATCH). -/
def State.wakeDone (s : State) (d : Nat) : State :=
  let s := s.setDom d { st := .lit, since := s.clk, lastWork := s.clk }
  let ks := s.regs.filter fun e => e.1 % 4096 == 0x02C && domainOf (e.1 / 4096) == some d
  ks.foldl (fun s e => s.postBit (e.1 / 4096) 0x02C 8 false) s

/-- WAKE_COMPLETE (R68). -/
def execWakeComplete (d : Nat) (s : State) : Host.Outcome State Fault Refusal :=
  match (s.dom d).st with
  | .wakingDim | .wakingDark => .next (s.wakeDone d)
  | _ => .next s

end Sys2Proof.Machine
end

