-- ==== Sys2Proof/Machine/Bus.lean ====
section
/-! DEFINITION. The lantern bus: who may access a page, what a write does at acceptance, the ferry,
locks, seals and the deferred-read window (R31–R53), and the commands of these rows. -/
namespace Sys2Proof.Machine

/-! ### Access classes (R35) -/

/-- The lease a flow thread runs under: the enabled lease of its cluster that holds its bit of
LSE_THR (R425, R428). -/
def State.leaseOf (s : State) (c k t : Nat) : Option Nat :=
  let p := cluPage c 10
  (List.range 16).find? fun l =>
    bit (s.rd p (0x200 + 0x40 * l)) 31 &&
    (if 8 * k + t < 32 then bit (s.rd p (0x208 + 0x40 * l)) (8 * k + t)
     else bit (s.rd p (0x20C + 0x40 * l)) (8 * k + t - 32))

/-- The debug port is admitted to class D pages in MANUFACTURE and RMA, or under scope
CLUSTER_DEBUG (R35, R501). -/
def State.debugOpen (s : State) (scopeBit : Nat) : Bool :=
  (s.sec.lcKnown && (s.sec.lc == 0 || s.sec.lc == 3)) || s.sec.scope.getLsbD scopeBit

/-- May the master use the cluster-memory and control-store windows: OMC firmware, a management agent, or the debug port
where the lifecycle or scope WINDOWS permits (R35, R381, R555)? -/
def State.windowAdmits (s : State) (mid : Mid) : Bool :=
  midIsOmc mid || midIsAgent mid || (midIsDebug mid && s.debugOpen 2)

/-- Does the access class of the page admit the master at this offset (R35, R422, R499)? -/
def State.classAdmits (s : State) (m : Mid) (p : PageKey) (off : Nat) : Bool :=
  match pageType p with
  | none => false
  | some t =>
    if midIsDebug m then
      if p = secPage then decide (0x200 ≤ off) && decide (off < 0x300)
      else classOf t == .d && s.debugOpen 0
    else if midIsOmc m || midIsAgent m then true
    else match classOf t with
      | .o | .d => false
      | .e =>
        midIsHost m && decide (midFn m < 2) &&
          (if t = .tbl ∨ t = .lrn then midEp m / 8 == pgSite p else midEp m == epOf p)
      | .i => midIsHost m && midEp m == instEp p && (decide (midFn m < 2) || midFn m == instFn p)
      | .c =>
        midIsThread m && midCluster m == clusterOf p &&
          (match s.leaseOf (midCluster m) (midCore m) (midThread m) with
           | none => true
           | some l =>
             decide (0x200 ≤ off) &&
               bit (s.rd (cluPage (clusterOf p) 10) (0x234 + 0x40 * l)) ((off - 0x200) / 0x20))

/-- A refusal by access class: counted in LBUS_ISOVIOL and toward the isolation alarm (R35). -/
def State.refuseClass (s : State) (m : Mid) (p : PageKey) : State :=
  let s := s.bumpReg lbusPage 0x108 0 32
  let s := s.post lbusPage 0x10C
    (BitVec.ofNat 32 (m.toNat * 65536 + (unitPath p).toNat))
  s.isoCount

/-! ### What a write leaves in a register (R4, R5, R48) -/

/-- Is the encoding of a field legal? -/
def legalIn (v : Nat) (rs : List (Nat × Nat)) : Bool := rs.any fun r => r.1 ≤ v && v ≤ r.2

/-- Put back the old bits of every field whose new encoding is reserved (R5). -/
def keepReserved (old : Reg) (v : Reg) : List (Nat × Nat × List (Nat × Nat)) → Reg
  | [] => v
  | (lo, w, rs) :: t =>
    let v := if legalIn (fld v lo w) rs then v else setFld v lo w (fld old lo w)
    keepReserved old v t

/-- Is a lane map a permutation of the 8 lanes (NPG_LANE_MAP)? -/
def isPermutation (v : Nat) : Bool :=
  (List.range 8).all fun l => (List.range 8).any fun i => natField v (3 * i) 3 == l

/-- The reserved encodings that no single range shows (R5): a lane map that is no permutation, TotalVFs
above 254, a LRN target that is no PF of the die, a lease range past the end, a channel of depth 0. -/
def specialKeep (p : PageKey) (off : Nat) (old v : Reg) : Reg :=
  match pageType p with
  | some .npg | some .peer =>
    if off = 0x104 && !isPermutation v.toNat then setFld v 0 24 (fld old 0 24) else v
  | some .ep =>
    if off = 0x10C && decide (254 < fld v 0 8 + fld v 8 8) then old else v
  | some .lrn =>
    if off = 0x10C then
      let m : Mid := BitVec.ofNat 16 (fld v 16 16)
      if m = 0 ∨ (midIsHost m ∧ midFn m < 2 ∧ midEp m / 8 = pgSite p) then v
      else setFld v 16 16 (fld old 16 16)
    else v
  | some .tbl =>
    -- EN reads 1 only once clearing ends, and the geometry stays while a table is enabled (R178)
    if 0x200 ≤ off ∧ off % 0x20 = 0 then
      let w := if bit old 31 || bit old 29 then setFld v 8 18 (fld old 8 18) else v
      if bit old 31 then w else setBit w 31 false
    else v
  | some .lease =>
    if off = 0x100 && bit old 31 then setFld v 0 8 (fld old 0 8)
    else if 0x200 ≤ off && (off % 0x40 == 4 || off % 0x40 == 0x10) &&
        decide (0xFF < fld v 0 8 + fld v 8 8) then setFld (setFld v 0 8 (fld old 0 8)) 8 8 (fld old 8 8)
    else v
  | some .chan =>
    if 0x200 ≤ off && off % 8 == 0 && fld v 16 7 = 0 && fld v 28 4 ≠ 0 then setFld v 16 7 (fld old 16 7)
    else if 0x200 ≤ off && off % 8 == 0 && decide (64 < fld v 16 7) then setFld v 16 7 (fld old 16 7)
    else v
  | some .dmach =>
    -- while EN is 1, MODE and LOG2_SIZE stay as they are (R375)
    if off % 0x40 = 0 && bit old 31 then setFld (setFld v 28 1 (fld old 28 1)) 22 4 (fld old 22 4) else v
  | some .rcfg =>
    if off = 0x140 && instIdx p ≠ 4 then setFld v 31 1 0 else v
  | _ => v

/-- The value a register holds after a write, field by field (R4). -/
def mergeWrite (d : RegDesc) (isSealed : Bool) (old v : Reg) : Reg :=
  let wm := d.rw ||| d.wo ||| (if isSealed then 0 else d.rwl)
  let x := (old &&& ~~~wm) ||| (v &&& wm)
  let x := x &&& ~~~(v &&& d.w1c)
  x ||| (v &&& d.w1s)

/-- Is the page sealed (R48)? -/
def State.isSealed (s : State) (p : PageKey) : Bool := bit (s.rd p 0x028) 0

/-- The visible value after a write of `v`, with reserved encodings keeping the previous value. -/
def State.written (s : State) (p : PageKey) (off : Nat) (v : Reg) : Reg :=
  match regDesc p off with
  | none => s.rd p off
  | some d =>
    let old := s.rd p off
    specialKeep p off old (keepReserved old (mergeWrite d (s.isSealed p) old v) d.legal)

/-- A write lands in one register of the page, visible at once; a sealed RWL field is left alone and
SEAL_WRITE raised (R41, R48). -/
def State.land (s : State) (p : PageKey) (off : Nat) (v : Reg) : State :=
  let s1 := s.post p off (s.written p off v)
  match regDesc p off with
  | none => s
  | some d => if s.isSealed p ∧ d.rwl ≠ 0 then s1.raiseBit p 30 else s1

/-! ### PAGE_SEQ and the ferry (R39, R41–R44) -/

/-- An accepted access advances PAGE_SEQ by 1 (R34). -/
def State.stamp (s : State) (p : PageKey) : State := s.post p 0x030 (s.rd p 0x030 + 1)

/-- Has the page accepted writes not yet applied (FERRY_STS.PENDING)? -/
def State.waiting (s : State) (p : PageKey) : Bool := s.ferry.any fun w => w.page == p

/-- Will fast logic apply a write of the page at once: nothing earlier is pending, the block is lit
and not in reset (R42, R44)? A page in no switched domain always does. -/
def State.fastReady (s : State) (p : PageKey) : Bool :=
  !switched p || (!s.waiting p && s.litPage p && !s.inReset p)

/-- Everything accepted by the page is in effect: APPLIED_SEQ follows PAGE_SEQ, unless earlier writes
are still pending (R43). -/
def State.applied (s : State) (p : PageKey) : State :=
  if s.waiting p then s else s.postFld p 0x034 16 16 (s.rdFld p 0x030 0 16)

/-- A write waits for the ferry; WAKE_ON_WRITE starts the wake of a stopped domain (R42, R66). -/
def State.pend (s : State) (mid : Mid) (p : PageKey) (off : Nat) (vals raw : List Reg) : State :=
  let s := { s with ferry := s.ferry ++
    [{ page := p, off := off, vals := vals, raw := raw, mid := mid, seq := s.rd p 0x030 }] }
  match domainOf p with
  | none => s
  | some d => if bit (s.rd p 0x02C) 0 then s.wake d else s

/-- Does a write to the register act in the lantern domain, at acceptance (R39, R43, R51)? Locks, the
common header but for PAGE_CTL, and the pages of R42's last row do; so do the instance pages other
than RCFG and CU, whose registers the lantern domain holds (R318, R347), and the IWIN selector. -/
def lanternReg (p : PageKey) (off : Nat) : Bool :=
  if off < 0x100 then true
  else match pageType p with
  | some .tbl => off ≤ 0x108
  | some .imbx | some .irqm | some .idb | some .iadm | some .mbxw | some .gch | some .imsix
  | some .ipba | some .epIwin | some .ictl => true
  | _ => !switched p

/-- The effect of an accepted write of one register that fast logic applies: it takes the value, then
acts (`act`). -/
def State.ferryWrite (s : State) (mid : Mid) (p : PageKey) (off : Nat) (v : Reg)
    (act : State → State) : State :=
  let s1 := (s.stamp p).land p off v
  if s1.fastReady p then (act (s1.setFast p off (s1.rd p off))).applied p
  else s1.pend mid p off [s1.rd p off] [v]

/-- The effect of an accepted write of one register of the lantern domain. -/
def State.lanternWrite (s : State) (p : PageKey) (off : Nat) (v : Reg) (act : State → State) : State :=
  let s1 := (s.stamp p).land p off v
  (act (s1.setFast p off (s1.rd p off))).applied p

/-! ### What stands between a host and its pages (R33, R284, R296, R314) -/

/-- Is the function under FLR? -/
def State.underFlr (s : State) (e f : Nat) : Bool := bit (s.rd (epPage e 0) (0x120 + 4 * (f / 32))) (f % 32)

/-- STATE of a TDI: 0 CONFIG_UNLOCKED, 1 CONFIG_LOCKED, 2 RUN, 3 ERROR. -/
def State.tdi (s : State) (e f : Nat) : Nat := s.rdFld (epPage e 3) (0x200 + 4 * f) 28 4

/-- What stops a request of a host function before it reaches the page: an FLR of the requester or of the instance
(counted), a TDI in ERROR or a request without the T bit to a TDI in RUN (counted), the hidden alias slot of a locked
TDI. The first part says whether the request completes with Unsupported Request. -/
def State.hostGate (s : State) (mid : Mid) (p : PageKey) (tee : Bool) : Option (Bool × State) :=
  if !midIsHost mid then none
  else
    let e := midEp mid
    let f := instFn p
    let own := f == midFn mid
    let tdi := if isInst p && decide (2 ≤ f) then s.tdi e f else 0
    if s.underFlr e (midFn mid) || (isInst p && s.underFlr e f) then some (true, s.count (epPage e 0) 0x05 1)
    else if tdi = 3 ∧ own then some (true, s.count (epPage e 0) 0x0C 1)
    else if tdi = 2 ∧ own ∧ !tee then some (true, (s.count (epPage e 0) 0x0C 1).isoCount)
    else if (tdi = 1 ∨ tdi = 2) ∧ !own then some (false, s)
    else none

/-- A write reaches a page: an unimplemented one ignores it, a refused one is counted, and an
accepted one takes effect by `eff` (R31, R35). -/
def State.accessWrite (s : State) (mid : Mid) (p : PageKey) (off : Nat) (eff : State → State) : State :=
  match pageType p, s.hostGate mid p true with
  | none, _ => if isInst p then s else s.bumpReg lbusPage 0x100 0 32
  | some _, some g => g.2
  | some _, none =>
    if !s.classAdmits mid p off then s.refuseClass mid p
    else match regDesc p off with
      | none => s
      | some _ => eff s

/-- A write of a register that has a row of its own, applied by fast logic. -/
def State.ownWrite (s : State) (mid : Mid) (p : PageKey) (off : Nat) (v : Reg)
    (act : State → State) : State :=
  s.accessWrite mid p off fun s => s.ferryWrite mid p off v act

/-- A write of a register that has a row of its own, effective at acceptance. -/
def State.nowWrite (s : State) (mid : Mid) (p : PageKey) (off : Nat) (v : Reg)
    (act : State → State) : State :=
  s.accessWrite mid p off fun s => s.lanternWrite p off v act

/-- A read with an effect reaches a page (R35, R36): refused, it returns 0. -/
def State.accessRead (s : State) (mid : Mid) (p : PageKey) (off : Nat) (eff : State → Reg × State) :
    State :=
  match pageType p, s.hostGate mid p true with
  | none, _ => s.emit (.readData mid (rkey p off) 0)
  | some _, some g => if g.1 then g.2.emit (.pcieMsg (midEp mid) (midFn mid) "UR")
    else g.2.emit (.readData mid (rkey p off) 0)
  | some _, none =>
    if !s.classAdmits mid p off then (s.refuseClass mid p).emit (.readData mid (rkey p off) 0)
    else match regDesc p off with
      | none => s.emit (.readData mid (rkey p off) 0)
      | some _ =>
        let r := eff s
        r.2.emit (.readData mid (rkey p off) (r.1.setWidth 64))

/-- Apply one accepted write: the fast logic takes the values, and each register acts by `act`. -/
def State.applyOne (act : PageKey → Nat → Reg → Mid → State → State) (s : State) (w : FerryWrite) : State :=
  let go := fun (s : State) (i : Nat) =>
    match w.vals[i]?, w.raw[i]? with
    | some v, some r => act w.page (w.off + 4 * i) r w.mid (s.setFast w.page (w.off + 4 * i) v)
    | _, _ => s
  let s := go (go s 0) 1
  s.postFld w.page 0x034 16 16 (w.seq.toNat % 65536)

/-- A batch holds every write accepted before it starts, applied in acceptance order (R41, R42). -/
def State.batch (act : PageKey → Nat → Reg → Mid → State → State) (s : State) (p : PageKey) : State :=
  if s.litPage p && !s.inReset p then
    let ws := s.ferry.filter fun w => w.page == p
    let s := { s with ferry := s.ferry.filter fun w => !(w.page == p) }
    ws.foldl (State.applyOne act) s
  else s

/-! ### Plain reads (R36, R39) -/

/-- The lock offset of a page, where it has one (R49, R54). -/
def lockOff (p : PageKey) : Option Nat :=
  match pageType p with
  | some t => if lockCount t = 0 then none else some 0x100
  | none => none

/-- Is any RWL field implemented in the page (PAGE_CAPS.SEALABLE)? -/
def sealable (p : PageKey) : Bool :=
  match pageType p with
  | none => false
  | some t => t == .bindp || (blockRegs t).any fun d => d.rwl ≠ 0

/-- PAGE_STS (R39). -/
def State.pageSts (s : State) (p : PageKey) : Reg :=
  let v : Nat := s.powerCode p
    + (if s.inReset p then 8 else 0)
    + (if s.ready p then 16 else 0)
    + (if s.isFenced p then 32 else 0)
    + (if s.isSealed p then 64 else 0)
  BitVec.ofNat 32 v

/-- The value a read of a register returns, without what the read may do to it. -/
def State.peek (s : State) (p : PageKey) (off : Nat) : Reg :=
  match regDesc p off with
  | none => 0
  | some d =>
    if off = 0x000 then BitVec.ofNat 32 (blockType p * 65536 + 0x1000 + pageInstance p)
    else if off = 0x004 then
      BitVec.ofNat 32 ((match pageType p with | some t => lockCount t * 256 | none => 0)
        + (if switched p then 4 else 0) + (if sealable p then 2 else 0) + (if hasDrw p then 1 else 0))
    else if off = 0x00C then s.pageSts p
    else if off = 0x018 then s.rd p 0x010 &&& s.rd p 0x014
    else if off = 0x01C then 0
    else if off = 0x034 then
      setBit (setBit (s.rd p 0x034) 0 (s.waiting p)) 1 (s.waiting p && !s.litPage p)
    else s.rd p off &&& ~~~d.wo

/-! ### Locks (R49–R53): PEEK holds the state; HOLDER may be MID 0x0000 -/

/-- A read of a lock register by a master: what it returns, and the lock after it (R50). -/
def State.lockRead (s : State) (mid : Mid) (p : PageKey) (l : Nat) : Reg × State :=
  let pk := s.rd p (l + 4)
  if fld pk 30 2 = 1 then
    let h := fld pk 0 16
    if h = mid.toNat then (BitVec.ofNat 32 (0x40000000 + h), s)
    else (BitVec.ofNat 32 (0x80000000 + h), s)
  else
    let v := BitVec.ofNat 32 (0x40000000 + mid.toNat)
    (v, (s.post p (l + 4) v).postFld p l 0 16 mid.toNat)

/-- Free a lock. -/
def State.lockFree (s : State) (p : PageKey) (l : Nat) : State := (s.post p (l + 4) 0).post p l 0

/-- A write to a lock register (R51): it releases the lock when its low half names the holder and the
writer is the holder or the OMC; otherwise it is counted. -/
def State.lockWrite (s : State) (mid : Mid) (p : PageKey) (l : Nat) (v : Reg) : State :=
  let pk := s.rd p (l + 4)
  let h := fld pk 0 16
  if fld pk 30 2 = 1 ∧ fld v 0 16 = h ∧ (mid.toNat = h ∨ midIsOmc mid) then
    let s1 := s.lockFree p l
    if mid.toNat = h then s1 else s1.logLock p true (BitVec.ofNat 16 h) mid 0
  else (s.bumpReg p (l + 8) 0 16).raiseBit p 29

/-- Release every lock whose holder satisfies `who`, or whose page satisfies `pages`, with a log
record that names the cause (R52). -/
def State.releaseLocks (s : State) (who : Mid → Bool) (pages : PageKey → Bool) (cause : Nat) : State :=
  let held := s.regs.filter fun e =>
    e.1 % 4096 == 0x104 && lockOff (e.1 / 4096) == some 0x100 && fld e.2 30 2 == 1 &&
      (who (BitVec.ofNat 16 (fld e.2 0 16)) || pages (e.1 / 4096))
  held.foldl (fun s e =>
    (s.lockFree (e.1 / 4096) 0x100).logLock (e.1 / 4096) false (BitVec.ofNat 16 (fld e.2 0 16)) 0 cause) s

/-! ### The deferred-read window (R46) -/

/-- A GO to DRW_REQ: refused while BUSY, else a read of the counter begins (R46). -/
def State.drwStart (s : State) (mid : Mid) (p : PageKey) (v : Reg) : State :=
  let s := s.postBit p 0x0E0 31 false
  if bit (s.rd p 0x0E4) 30 then s.postBit p 0x0E4 29 true
  else
    let s := s.post p 0x0E4 (BitVec.ofNat 32 (0x40000000 + mid.toNat))
    { s with drw := s.drw ++ [{ page := p, index := fld v 0 24, clear := bit v 30, start := s.clk }] }

/-- A PAGE_CTL write effective at acceptance: the power policy (R43, R62). -/
def State.applyPolicy (s : State) (p : PageKey) : State :=
  match domainOf p with
  | none => s
  | some d => if governing d = p then s.lift d else s

/-- WAKE_NOW: a request for the page's domain; it clears when the block is lit (R39, R66). -/
def State.applyWakeNow (s : State) (p : PageKey) : State :=
  if s.litPage p then s.postBit p 0x02C 8 false
  else match domainOf p with
    | none => s
    | some d => s.wake d

/-- A read of an RC register: the value, and the register cleared of its RC fields (R4, R45). -/
def State.rcRead (s : State) (p : PageKey) (off : Nat) : Reg × State :=
  match regDesc p off with
  | none => (0, s)
  | some d => (s.peek p off, s.post p off (s.rd p off &&& ~~~d.rc))

/-! ### The commands of the common header -/

/-- SOFT_RESET: a write of PAGE_CTL.SOFT_RESET = 1; by the ferry, the unit's reset starts (R18, R39),
and it wakes the domain (R66). -/
def State.startSoftReset (s : State) (p : PageKey) : State :=
  if s.resets.any fun r => r.1 == .unit p then s
  else
    let s := { s with resets := s.resets ++ [(.unit p, s.clk)] }
    match domainOf p with
    | none => s
    | some d => s.wake d

/-- PAGE_ENABLE: a PAGE_CTL write that changes ENABLE (R39). The domain's floor may rise with it
(R63). -/
def State.enabledNow (s : State) (p : PageKey) : State :=
  match domainOf p with
  | none => s
  | some d => s.lift d

/-- INT_SET (R39). -/
def execIntSet (mid : Mid) (p : PageKey) (v : Reg) (s : State) : Host.Outcome State Fault Refusal :=
  .next (s.accessWrite mid p 0x01C fun s => ((s.stamp p).raiseInt p v).applied p)

/-- The INT_RAW bits that stay set while what they report lasts: EVENT of the pages with cipher events
(R236). -/
def State.levelBits (s : State) (p : PageKey) : Reg :=
  if (tabFind s.cuEvts p).isNone then 0
  else if pageType p = some .ciph then bitR 2 else bitR 1

/-- INT_RAW_CLEAR: a write of 1 clears a W1C bit; `hw` holds the bits that fast logic sets in the same
cycle, which remain set (R45). -/
def execIntRawClear (mid : Mid) (p : PageKey) (v hw : Reg) (s : State) :
    Host.Outcome State Fault Refusal :=
  .next (s.nowWrite mid p 0x010 (v &&& ~~~hw) fun s => s.raiseInt p (hw ||| s.levelBits p))

/-- FAULT_COUNT_READ: returns and clears the count (R40). -/
def execFaultCountRead (mid : Mid) (p : PageKey) (s : State) : Host.Outcome State Fault Refusal :=
  .next (s.accessRead mid p 0x024 fun s => s.rcRead p 0x024)

/-- CFG_SEAL: RWL fields become read only until the seal scope is reset (R48). -/
def execCfgSeal (mid : Mid) (p : PageKey) (s : State) : Host.Outcome State Fault Refusal :=
  .next (s.nowWrite mid p 0x028 1 id)

/-- WAKE_NOW requests a wake of the page's domain (R66). -/
def execWakeNow (mid : Mid) (p : PageKey) (s : State) : Host.Outcome State Fault Refusal :=
  .next (s.nowWrite mid p 0x02C ((s.rd p 0x02C &&& 0x3) ||| 0x100) fun s => s.applyWakeNow p)

/-- PWR_POLICY: the policy of the whole domain when the page governs it (R62); a reserved encoding keeps
the previous policy (R5). -/
def execPwrPolicy (mid : Mid) (p : PageKey) (pol : BitVec 2) (s : State) :
    Host.Outcome State Fault Refusal :=
  .next (s.nowWrite mid p 0x008 (setFld (s.rd p 0x008 &&& ~~~(bitR 1)) 4 2 pol.toNat) fun s => s.applyPolicy p)

/-- DRW_GO: a GO to DRW_REQ (R46). -/
def execDrwGo (mid : Mid) (p : PageKey) (v : Reg) (s : State) : Host.Outcome State Fault Refusal :=
  .next (s.nowWrite mid p 0x0E0 (v ||| 0x80000000) fun s => s.drwStart mid p v)

/-- LOCK_ACQUIRE: a read of the page's lock register (R50). -/
def execLockAcquire (mid : Mid) (p : PageKey) (s : State) : Host.Outcome State Fault Refusal :=
  match lockOff p with
  | none => .next s
  | some l => .next (s.accessRead mid p l fun s => s.lockRead mid p l)

/-- LOCK_RELEASE: a write to the page's lock register (R51). -/
def execLockRelease (mid : Mid) (p : PageKey) (v : Reg) (s : State) : Host.Outcome State Fault Refusal :=
  match lockOff p with
  | none => .next s
  | some l => .next (s.accessWrite mid p l fun s => ((s.stamp p).lockWrite mid p l v).applied p)

/-- LOCK_BADREL_READ: returns and clears the count of ignored releases (R49). -/
def execLockBadrelRead (mid : Mid) (p : PageKey) (s : State) : Host.Outcome State Fault Refusal :=
  match lockOff p with
  | none => .next s
  | some l => .next (s.accessRead mid p (l + 8) fun s => s.rcRead p (l + 8))

end Sys2Proof.Machine
end

