-- ==== Sys2Proof/Machine/Hread.lean ====
section
/-! DEFINITION. Reads of host memory: splitting, tags, completions, timeouts and quarantine (R285–R289). Which
free tag a read takes is the command's operand (log entry 15). -/
namespace Sys2Proof.Machine

/-- Largest read request of a function in bytes. -/
def State.maxRead (s : State) (e f : Nat) : Nat := 128 * 2 ^ min 5 (s.cfgFld e f 0x058 12 3)

/-- Split a read at 4 KiB boundaries and at the maximum read request size. -/
def splitRead (m a n off : Nat) : Nat → List (Nat × Nat × Nat)
  | 0 => []
  | fuel + 1 =>
    if n = 0 then []
    else
      let k := min n (min m (4096 - a % 4096))
      (off, a, k) :: splitRead m (a + k) (n - k) (off + k) fuel

/-- Ask for host memory: the requests wait for tags (R286). -/
def State.askHost (s : State) (e f : Nat) (c : Client) (a n : Nat) : State :=
  let rs := (splitRead (s.maxRead e f) a n 0 (n + 1)).map fun (o, a, k) =>
    ({ ep := e, fn := f, addr := a, len := k, client := c, off := o } : HRead)
  { s with hwait := s.hwait ++ rs }

/-- Is a request of the client waiting or outstanding? -/
def State.reading (s : State) (c : Client) : Bool :=
  (s.hwait.any fun r => r.client == c) || (s.hreads.any fun r => r.2.client == c && r.2.quar.isNone)

/-- Take the outcome of a whole read of `n` bytes, once there is one: its status and data. -/
def State.takeRead (s : State) (c : Client) (n : Nat) : Option (Nat × List Byte) × State :=
  let mine := s.arrived.filter fun a => a.client == c
  let rest := { s with arrived := s.arrived.filter fun a => a.client != c }
  match mine.find? fun a => a.status != 0 with
  | some a => if s.reading c then (none, s) else (some (a.status, []), rest)
  | none =>
    if !mine.isEmpty && (mine.foldl (fun k a => k + a.data.length) 0) = n then
      (some (0, (sortBy Arrived.off mine).flatMap Arrived.data), rest)
    else (none, s)

/-- The reads of the clients that satisfy `p` are wanted no more: those that wait go, the others' data will be
discarded. -/
def State.forget (s : State) (p : Client → Bool) : State :=
  { s with
    hwait := s.hwait.filter fun r => !p r.client
    hreads := s.hreads.map fun r => if p r.2.client then (r.1, { r.2 with client := .dead }) else r
    arrived := s.arrived.filter fun a => !p a.client }

/-- The Completion Timeout of a function, in ns (R274). -/
def State.cplTimeout (s : State) (e f : Nat) : Nat :=
  match s.cfgFld e (s.pfOf e f) 0x078 0 4 with
  | 1 => 90000 | 2 => 9000000 | 5 => 50000000 | 6 => 200000000 | 9 => 850000000 | 10 => 3300000000
  | _ => 45000000

/-! ### Tags (R285) -/

/-- Key of a tag. -/
def tagKey (e t : Nat) : Nat := e * 16384 + t

/-- The tags of a function's reads: first and count. -/
def State.tagSpace (s : State) (e f : Nat) : Nat × Nat :=
  let pf := s.pfOf e f
  if (s.cfgRd e pf 0x2D8).getLsbD 2 then (0, 16384)
  else if (s.cfgRd e pf 0x078).getLsbD 12 then (256, 768)
  else (0, 256)

/-- The reads of an endpoint that hold tags. -/
def State.epReads (s : State) (e : Nat) : List (Nat × HRead) := s.hreads.filter fun r => r.1 / 16384 == e

/-- Set AER status bits of a function: an uncorrectable error, as an Advisory Non-Fatal Error where `adv` says so
(R287, R288; places PRESUMED, log entry 8). -/
def State.aer (s : State) (e f unc : Nat) (adv : Bool) : State :=
  let s := s.cfgPut e f 0x104 (s.cfgRd e f 0x104 ||| bitR unc)
  if adv then s.cfgPut e f 0x110 (s.cfgRd e f 0x110 ||| bitR 13) else s

/-- May the function read host memory now: link up, in D0, Bus Master Enable set (R278)? -/
def State.mayRead (s : State) (e f : Nat) : Bool :=
  bit (s.rd (epPage e 0) 0x104) 29 && s.dState e f == 0 && s.busMaster e f && !s.isFenced (epPage e 0)

/-- HOST_READ_ISSUE: the endpoint's oldest waiting read that may go takes the tag and reserves its buffer room, or
waits and is counted (R285, R286). -/
def execHostReadIssue (e : Fin 32) (tag : BitVec 14) (s : State) : Host.Outcome State Fault Refusal :=
  match s.hwait.zipIdx.find? fun r => r.1.ep == e.val && s.mayRead e r.1.fn with
  | none => .next s
  | some (r, i) =>
    let sp := s.tagSpace e r.fn
    let live := s.epReads e
    let out := live.filter fun x => x.2.quar.isNone
    let room := out.foldl (fun n x => n + x.2.len) 0
    if sp.2 ≤ live.length ∨ 4096 ≤ out.length ∨ 512 * 1024 < room + r.len then
      .next (if r.waited then s
        else { s with hwait := s.hwait.set i { r with waited := true } }.count (epPage e 0) 0x04 1)
    else if tag.toNat < sp.1 ∨ sp.1 + sp.2 ≤ tag.toNat ∨ (tabFind s.hreads (tagKey e tag.toNat)).isSome then .next s
    else
      let s := { s with
        hwait := s.hwait.eraseIdx i
        hreads := tabInsert s.hreads (tagKey e tag.toNat) { r with at_ := s.clk } }
      .next (s.emit (.hostRead e r.fn tag.toNat r.addr r.len))

/-- The outcome of a request goes to its client. -/
def State.readDone (s : State) (r : HRead) (status : Nat) (data : List Byte) : State :=
  if r.client = .dead then s
  else { s with arrived := s.arrived ++ [{ client := r.client, off := r.off, status := status, data := data }] }

/-- A completion that no read expects (R288). -/
def State.unexpected (s : State) (e fn : Nat) (hdr : BitVec 128) : State :=
  let f := if s.fnEnabled e fn then fn else 0
  let s := (s.count (epPage e 0) 0x01 1).aer e f 16 true
  let s := [0, 1, 2, 3].foldl (fun s i => s.cfgPut e f (0x11C + 4 * i) (BitVec.ofNat 32 (hdr.toNat / 2 ^ (32 * i)))) s
  s.raiseBit (epPage e 0) 5

/-- HOST_COMPLETION (R287–R289): `status` is the completion status (0 success, 1 Unsupported Request, 2 RRS,
4 Completer Abort), `fn` the function its Requester ID names, `hdr` its header. -/
def execHostCompletion (e : Fin 32) (tag : BitVec 14) (fn : BitVec 8) (status : BitVec 3) (poisoned : Bool)
    (hdr : BitVec 128) (data : List Byte) (s : State) : Host.Outcome State Fault Refusal :=
  let k := tagKey e tag.toNat
  if !bit (s.rd (epPage e 0) 0x104) 29 then .next s
  else match tabFind s.hreads k with
  | none => .next (s.unexpected e fn.toNat hdr)
  | some r =>
    if r.quar.isSome then .next (s.unexpected e fn.toNat hdr)
    else
      let gone := { s with hreads := tabErase s.hreads k }
      if status ≠ 0 then .next ((gone.count (epPage e 0) 0x02 1).readDone r 7 [])
      else if poisoned then .next (((gone.count (epPage e 0) 0x03 1).aer e r.fn 12 false).readDone r 8 [])
      else
        let got := (r.got ++ data).take r.len
        if got.length = r.len then .next (gone.readDone r 0 got)
        else .next { s with hreads := tabInsert (tabErase s.hreads k) k { r with got := got } }

/-- HOST_READ_TIMEOUT: part of a completion is still owed at the timeout: the read fails and its tag is quarantined
(R287). -/
def execHostReadTimeout (e : Fin 32) (tag : BitVec 14) (s : State) : Host.Outcome State Fault Refusal :=
  let k := tagKey e tag.toNat
  match tabFind s.hreads k with
  | none => .next s
  | some r =>
    let t := s.cplTimeout e r.fn
    if r.quar.isSome ∨ s.clk < r.at_ + t then .next s
    else
      let s := { s with hreads := tabInsert (tabErase s.hreads k) k { r with quar := some (s.clk, 2 * t), got := [] } }
      .next ((((s.count (epPage e 0) 0x00 1).aer e r.fn 14 false).raiseBit (epPage e 0) 6).readDone r 2 [])

/-- TAG_QUARANTINE_END: a quarantined tag is free after twice the timeout (R287). -/
def execTagQuarantineEnd (e : Fin 32) (tag : BitVec 14) (s : State) : Host.Outcome State Fault Refusal :=
  let k := tagKey e tag.toNat
  match tabFind s.hreads k with
  | none => .next s
  | some r =>
    match r.quar with
    | none => .next s
    | some (t, d) => if t + d ≤ s.clk then .next { s with hreads := tabErase s.hreads k } else .next s

end Sys2Proof.Machine
end

