-- ==== Sys2Proof/Machine/Frames.lean ====
section
/-! DEFINITION. The packet buffers, ferry sequencers, links between core dies and destinations that
the data path shares (R9, R22, R117–R120, R135–R139, R189, R190, R241, R245), and the completions of
transmit descriptors that follow a frame's end (R340). -/
namespace Sys2Proof.Machine

/-! ### Fences of dies -/

/-- Is the core die fenced (R21, R22)? -/
def State.dieFenced (s : State) (d : Nat) : Bool := s.fences.contains (.die d)

/-- A drop of die `d` because another core die is fenced (R22). The manual gives this counter no
index; it is kept under the CFAB page, index 0. -/
def State.countFenced (s : State) (d : Nat) : State := s.count (diePage d 0) 0 1

/-! ### Transmit completions (R330, R340, R349) -/

/-- The key of a ring. -/
def ringKey (e f h : Nat) : Nat := (e * 256 + f) * 65536 + h
/-- Endpoint of a ring key. -/
def ringEp (k : Nat) : Nat := k / 65536 / 256
/-- Function of a ring key. -/
def ringFn (k : Nat) : Nat := k / 65536 % 256
/-- Handle of a ring key. -/
def ringHandle (k : Nat) : Nat := k % 65536

/-- A work ring. -/
def State.wring (s : State) (k : Nat) : WorkRing := tabGet {} s.wrings k
/-- Store a work ring. -/
def State.setWring (s : State) (k : Nat) (r : WorkRing) : State := { s with wrings := tabPut {} s.wrings k r }
/-- A completion ring. -/
def State.cring (s : State) (k : Nat) : CplRing := tabGet {} s.crings k
/-- Store a completion ring. -/
def State.setCring (s : State) (k : Nat) (r : CplRing) : State := { s with crings := tabPut {} s.crings k r }

/-- Drain mode of an instance: 0 none, 1 finish, 2 abort, 3 discard (ICTL_STS, R309). -/
def State.drainMode (s : State) (e f : Nat) : Nat :=
  if s.rdFld (instPage e f 0) 0x104 0 2 = 3 then s.rdFld (instPage e f 0) 0x104 24 2 else 0

/-- Queue a descriptor's completion; in a discard drain its SQE write-back and its CQE are suppressed, and both are
counted (R309, R331, R349). -/
def State.queueCqe (s : State) (c : CqeOut) : State :=
  let e := ringEp c.ring
  let f := ringFn c.ring
  if s.drainMode e f = 3 then
    let r := s.wring c.ring
    (s.setWring c.ring { r with heldN := r.heldN - 1 }).count (instPage e f 0) 0x02 2
  else { s with cqes := s.cqes ++ [c] }

/-- A 32-byte CQE with OWN set (R330). -/
def cqeBytes (desc status flags len : Nat) (ts hash src tag csum ring types : Nat) : List Byte :=
  leBytes 2 desc ++ leBytes 1 status ++ leBytes 1 flags ++ leBytes 4 len ++ leBytes 8 ts ++
  leBytes 4 hash ++ leBytes 2 src ++ leBytes 1 tag ++ leBytes 1 csum ++ leBytes 2 ring ++
  leBytes 2 types ++ zeros 3 ++ [0x80]

/-- Queue the completion of a transmit descriptor (R330, R340, R349). -/
def State.txComplete (s : State) (t : Nat) : State :=
  match tabFind s.txs t with
  | none => s
  | some x =>
    if !x.owed then s
    else
      let abort := x.mode == 2
      let st := if abort then 1 else x.status
      let ts := if abort then none else x.ts
      let len := if leAt x.sqe 0 1 = 2 then x.bytesSent else leAt x.sqe 4 2
      let s := { s with txs := tabInsert (tabErase s.txs t) t { x with owed := false } }
      s.queueCqe { ring := x.ring, idx := x.idx,
                   cqe := cqeBytes (leAt x.sqe 2 2) st (if ts.isSome then 2 else 0) len (ts.getD 0) 0 0 0 0
                     (ringHandle x.ring) 0 }

/-- A frame of a transmit descriptor has left or ended; with the last one the completion of R340 that
waits for it is due, and the record goes. -/
def State.txFrameEnd (s : State) (t : Nat) : State :=
  match tabFind s.txs t with
  | none => s
  | some x =>
    let x := { x with left := x.left - 1 }
    let s := { s with txs := tabInsert (tabErase s.txs t) t x }
    if x.left = 0 ∧ x.sent then
      let s := s.txComplete t
      { s with txs := tabErase s.txs t }
    else s

/-! ### Packet buffers (R12, R245) -/

/-- The place of a buffer. -/
def bufKey (die h : Nat) : Nat := die * 2 ^ 32 + h
/-- Die of a buffer. -/
def bufDie (k : Nat) : Nat := k / 2 ^ 32
/-- Handle of a buffer. -/
def bufHandle (k : Nat) : Nat := k % 2 ^ 32

/-- A frame in the packet buffer. -/
def State.buf (s : State) (k : Nat) : Option Buf := tabFind s.bufs k
/-- Its bytes. -/
def State.bufBytes (s : State) (k : Nat) : List Byte := ((s.buf k).map Buf.bytes).getD []
/-- Has an uncorrectable error been met in the buffer? -/
def State.bufBad (s : State) (k : Nat) : Bool := ((s.buf k).map Buf.parity).getD false
/-- Store a buffer. -/
def State.setBuf (s : State) (k : Nat) (b : Buf) : State :=
  { s with bufs := tabInsert (tabErase s.bufs k) k b }

/-- Bytes in use of a die's express reservation or shared pool. -/
def State.poolUsed (s : State) (die : Nat) (express : Bool) : Nat :=
  (s.bufs.filter fun b => bufDie b.1 == die && b.2.express == express).foldl (fun n b => n + b.2.size) 0

/-- Room for a frame: the express reservation first for express frames, else the shared pool (R245).
Answers whether the reservation is used. -/
def State.poolFor (s : State) (die len : Nat) (express : Bool) : Option Bool :=
  if express ∧ s.poolUsed die true + len ≤ 2 * 2 ^ 20 then some true
  else if s.poolUsed die false + len ≤ 62 * 2 ^ 20 then some false
  else none

/-- Does a span of the 64 MiB packet buffer from `a` meet the buffer at handle `h`? -/
def spanMeets (a n h m : Nat) : Bool :=
  let q := 2 ^ 26
  decide ((h + q - a % q) % q < n) || decide ((a + q - h % q) % q < m)

/-- The place in a die's packet buffer of a frame of `n` bytes: the first free span from the last place on
(R393; DESIGN CHOICE, log entry 9). -/
def State.bufPlace (s : State) (die n : Nat) : Nat :=
  let live := s.bufs.filter fun b => bufDie b.1 == die
  let cands := tabGet 0 s.nextBuf die :: live.map fun b => (bufHandle b.1 + b.2.size) % 2 ^ 26
  let free := fun a => live.all fun b => !spanMeets a n (bufHandle b.1) b.2.size
  ((cands.find? free).getD ((cands.find? fun a => live.all fun b => bufHandle b.1 != a).getD 0))

/-- Write an arriving frame into the die's packet buffer: answers its place, or drops it and counts it
(BUFFER_ARRIVAL, R245). -/
def State.bufArrive (s : State) (die : Nat) (bytes : List Byte) (express : Bool) (owner tx : Option Nat) :
    Option Nat × State :=
  match s.poolFor die bytes.length express with
  | none => (none, s.count (diePage die 2) 0x06 1)
  | some resv =>
    let n := max 1 bytes.length
    let h := s.bufPlace die n
    let s := { s with nextBuf := tabPut 0 s.nextBuf die ((h + n) % 2 ^ 26) }
    let s := s.setBuf (bufKey die h)
      { bytes := bytes, size := n, express := resv, refs := 1, owner := owner, tx := tx }
    let s := if express && !resv then s.count (diePage die 2) 0x09 1 else s
    (some (bufKey die h), s)

/-- Further entries or passes need the buffer. -/
def State.bufHold (s : State) (k n : Nat) : State :=
  match s.buf k with
  | none => s
  | some b => s.setBuf k { b with refs := b.refs + n }

/-- One user of the buffer is done; its space is freed with the last (R245). -/
def State.bufDone (s : State) (k : Nat) : State :=
  match s.buf k with
  | none => s
  | some b =>
    if 1 < b.refs ∨ b.owner.isSome then s.setBuf k { b with refs := b.refs - 1 }
    else
      let s := { s with bufs := tabErase s.bufs k }
      match b.tx with
      | none => s
      | some t => s.txFrameEnd t

/-! ### Ingress sources (R8, R116, R117) -/

/-- The key of an ingress source. -/
def srcKey (region idx : Nat) : Nat := region * 32 + idx

/-- The ingress source of a MAC page. -/
def macSource (p : PageKey) : Nat :=
  srcKey ((pgSite p - 4) * 4 + pgRegion p) (if pgGroup p = 2 then 16 else pgGroup p * 8 + (pgPage p - 1))

/-- The ingress source of an endpoint. -/
def epSource (e : Nat) : Nat := srcKey (epRegion e) (17 + e % 2)

/-- Ports per group of a mode of NPG_MODE (R76). -/
def portsPer (mode : Nat) : Nat :=
  if mode = 1 then 1 else if mode = 2 then 2 else if mode = 3 then 4 else if mode = 4 then 8 else 0

/-- Does the port of a MAC page exist in the present mode (R77, R78)? -/
def State.macUsed (s : State) (p : PageKey) : Bool :=
  if pgGroup p = 2 then decide (s.frFld (peerPage (peerOf p) 0) 0x100 0 3 ≠ 0)
  else decide (pgPage p - 1 < portsPer (s.frFld (npgPage (npgOf p) 0) 0x100 0 3))

/-- Does the peer port of a MAC page run APL? -/
def State.macApl (s : State) (p : PageKey) : Bool :=
  pgGroup p == 2 && s.frFld (peerPage (peerOf p) 0) 0x100 0 3 == 2

/-- PRV.SRC of a port (R125). -/
def State.macSrc (s : State) (p : PageKey) : Nat :=
  if pgGroup p = 2 then 0x4000 + peerOf p
  else npgOf p * portsPer (s.frFld (npgPage (npgOf p) 0) 0x100 0 3) + (pgPage p - 1)

/-- PRV.SRC of a host function. -/
def hostSrc (e f : Nat) : Nat := 0x8000 + e * 256 + f

/-- The frames of a source that wait to be spread. -/
def State.fifo (s : State) (k : Nat) : Fifo := tabGet {} s.fifos k
/-- Store them. -/
def State.setFifo (s : State) (k : Nat) (f : Fifo) : State := { s with fifos := tabPut {} s.fifos k f }

/-! ### Destinations and outlets (R9, R189, R190, R241) -/

/-- A resolved destination. -/
inductive Target where
  /-- MAC page of a network or peer port -/
  | mac (p : PageKey)
  /-- endpoint, function and ring handle -/
  | host (e f h : Nat)
  deriving DecidableEq, Repr

/-- PAGE_CTL.ENABLE as fast logic holds it. -/
def State.enabled (s : State) (p : PageKey) : Bool := bit (s.fr p 0x008) 0

/-- The enabled network port with a number, in the lowest group (R190). -/
def State.netPort (s : State) (num : Nat) : Option PageKey :=
  (List.range 32).findSome? fun n =>
    let k := portsPer (s.frFld (npgPage n 0) 0x100 0 3)
    if k ≠ 0 ∧ num / k = n ∧ s.enabled (npgPage n 0) ∧ s.enabled (npgPage n (1 + num % k)) then
      some (npgPage n (1 + num % k))
    else none

/-- Resolve a DEST value; `none` is a bad destination (R189–R191). -/
def State.resolveDest (s : State) (d : Reg) : Option Target :=
  let kind := fld d 29 3
  if kind = 1 then (s.netPort (fld d 0 8)).map .mac
  else if kind = 2 then
    let q := fld d 0 4
    if s.enabled (peerPage q 0) ∧ s.frFld (peerPage q 0) 0x100 0 3 ≠ 0 ∧ s.enabled (peerPage q 3) then
      some (.mac (peerPage q 3))
    else none
  else if kind = 3 then
    let e := fld d 24 5
    if s.enabled (epPage e 0) then some (.host e (fld d 16 8) (fld d 0 16)) else none
  else none

/-- Die and outlet of a MAC page (R241). -/
def macOutlet (p : PageKey) : Nat × Nat :=
  let d := pgSite p - 4
  if pgGroup p = 2 then (d, 8 * (8 + pgRegion p)) else (d, 8 * (pgRegion p * 2 + pgGroup p) + (pgPage p - 1))

/-- Die and outlet of an endpoint. -/
def epOutlet (e : Nat) : Nat × Nat := (e / 8, 8 * (12 + e % 8))

/-- Die and outlet of a target. -/
def Target.outlet : Target → Nat × Nat
  | .mac p => macOutlet p
  | .host e _ _ => epOutlet e

/-- The MAC page of an outlet, or its endpoint. -/
def outletMac (d o : Nat) : Option PageKey :=
  let p := o / 8
  if p < 8 then some (npgPage (d * 8 + p) (1 + o % 8))
  else if p < 12 then (if o % 8 = 0 then some (peerPage (d * 4 + (p - 8)) 3) else none)
  else none

/-- The endpoint of an outlet. -/
def outletEp (d o : Nat) : Option Nat :=
  if 12 ≤ o / 8 ∧ o / 8 < 20 ∧ o % 8 = 0 then some (d * 8 + (o / 8 - 12)) else none

/-! ### Links between core dies (R7, R22, R136) -/

/-- Put something on the link from one core die to another (R136); nothing is sent to or from a fenced
die (R21, R22). -/
def State.linkSend (s : State) (a b : Nat) (t : Transit) : State :=
  if s.dieFenced a || s.dieFenced b then
    match t with
    | .entry e => (s.bufDone e.buf).countFenced a
    | .mark _ _ => s
  else
    let k := a * 4 + b
    { s with links := tabPut [] s.links k (tabGet [] s.links k ++ [t]) }

/-! ### Ferry sequencers (R119, R120, R135–R139) -/

/-- A ferry sequencer. -/
def State.seq (s : State) (k : Nat) : FerrySeq := tabGet {} s.seqs k
/-- Store a sequencer. -/
def State.setSeq (s : State) (k : Nat) (q : FerrySeq) : State := { s with seqs := tabPut {} s.seqs k q }

/-- Advance W to the newest number before the oldest unresolved frame, and send a new W to every core
die (R135, R136). -/
def State.seqAdvance (s : State) (k : Nat) : State :=
  let q := s.seq k
  let w := match q.unres with
    | [] => idxAdd q.next 65535
    | o :: _ => idxAdd o.f 65535
  if w = q.w then s
  else
    let s := s.setSeq k { q with w := w, wAt := s.clk }
    [0, 1, 2, 3].foldl (fun s d => s.linkSend (k / 128) d (.mark k w)) s

/-- A pass of frame `f` has ended, or a hole token replaces it: the frame is resolved when the original
and every copy have ended (R135, R206). -/
def State.seqResolve (s : State) (k f : Nat) : State :=
  let q := s.seq k
  let un := q.unres.filterMap fun o =>
    if o.f = f then (if o.left ≤ 1 then none else some { o with left := o.left - 1 }) else some o
  (s.setSeq k { q with unres := un }).seqAdvance k

/-- A copy of frame `f` starts a further pass (R206). -/
def State.seqFork (s : State) (k f : Nat) : State :=
  let q := s.seq k
  s.setSeq k { q with unres := q.unres.map fun o => if o.f = f then { o with left := o.left + 1 } else o }

/-- Give every unresolved frame of the sequence a hole token at once (R139). -/
def State.seqHoles (s : State) (k : Nat) (keep : OpenF → Bool) : State :=
  let q := s.seq k
  (s.setSeq k { q with unres := q.unres.filter keep }).seqAdvance k

/-- Is ferry number `f` at or below `w`, within the window of 8,192 (R137)? -/
def atOrBelow (f w : Nat) : Bool :=
  let d := idxDiff f w
  !(decide (1 ≤ d) && decide (d ≤ 8192))

end Sys2Proof.Machine
namespace Sys2Proof.Machine

/-! ### The scheduler's tree (R241, R242) -/

/-- The key of a node: kind 0 queue, 1 subscriber, 2 service node. -/
def nodeKey (d kind i : Nat) : Nat := d * 2 ^ 20 + kind * 2 ^ 18 + i
/-- A scheduler node. -/
def State.node (s : State) (d kind i : Nat) : Node := tabGet {} s.nodes (nodeKey d kind i)
/-- Store a node. -/
def State.setNode (s : State) (d kind i : Nat) (n : Node) : State :=
  { s with nodes := tabPut {} s.nodes (nodeKey d kind i) n }
/-- Key of a queue's backlog. -/
def queueKey (d q : Nat) : Nat := d * 2 ^ 20 + q
/-- Key of an outlet's express queue. -/
def expKey (d o : Nat) : Nat := d * 2 ^ 20 + 2 ^ 18 + o
/-- A backlog, oldest first. -/
def State.backlog (s : State) (k : Nat) : List Entry := tabGet [] s.queues k
/-- Store a backlog. -/
def State.setBacklog (s : State) (k : Nat) (l : List Entry) : State :=
  { s with queues := tabPut [] s.queues k l }
/-- The service node of a queue. -/
def State.queueService (s : State) (d q : Nat) : Nat := (s.node d 1 (s.node d 0 q).parent).parent
/-- The outlet that a backlog key feeds. -/
def State.keyOutlet (s : State) (k : Nat) : Nat :=
  let d := k / 2 ^ 20
  let i := k % 2 ^ 20
  if 2 ^ 18 ≤ i then i - 2 ^ 18 else s.queueService d i / 9

/-- Count an entry in its queue's drop counters (R267); an express queue has none. -/
def State.countQueueDrop (s : State) (k : Nat) (e : Entry) : State :=
  let d := k / 2 ^ 20
  let i := k % 2 ^ 20
  if 2 ^ 18 ≤ i then s
  else (s.count (diePage d 2) (0x100000 + 4 * i + 2) 1).count (diePage d 2) (0x100000 + 4 * i + 3) e.bytes.length

/-- Discard, from the head of a queue, the entries that satisfy `p`, each counted by the queue and by
`also` (R13). -/
def State.discardFrom (s : State) (k : Nat) (p : Entry → Bool) (also : State → Entry → State) : State :=
  let l := s.backlog k
  let s := s.setBacklog k (l.filter fun e => !p e)
  (l.filter p).foldl (fun s e => also ((s.countQueueDrop k e).bufDone e.buf) e) s

/-- Discard every entry queued toward an outlet that satisfies `p`, the selected one too. -/
def State.discardOutlet (s : State) (d o : Nat) (p : Entry → Bool) (also : State → Entry → State) : State :=
  let ks := s.queues.filter fun q => q.1 / 2 ^ 20 == d && s.keyOutlet q.1 == o
  let s := ks.foldl (fun s q => s.discardFrom q.1 p also) s
  match tabFind s.sel (d * 256 + o) with
  | none => s
  | some e =>
    if p e then also ({ s with sel := tabErase s.sel (d * 256 + o) }.bufDone e.buf) e else s

end Sys2Proof.Machine
end

