-- ==== Sys2Proof/Machine/Mac.lean ====
section
/-! DEFINITION. Ports: modes, links, preemption, statistics and package time (R76–R97). -/
namespace Sys2Proof.Machine

/-- Advance a MAC counter; in APL mode only 0x20–0x24 are kept (R93), and 0x53, which R112 names for frames
discarded at transmit toward a card (DEDUCED, log entry 12). -/
def State.macCount (s : State) (p : PageKey) (idx n : Nat) : State :=
  if s.macApl p && !(decide (0x20 ≤ idx) && decide (idx ≤ 0x24)) && idx != 0x53 then s else s.count p idx n

/-- An event of a summary kind in A2408-compatible mode sets its sticky bit (R93). -/
def State.a2408 (s : State) (p : PageKey) (b : Nat) : State :=
  if s.frFld p 0x100 16 2 = 1 ∧ !bit (s.rd p 0x130) b then (s.postBit p 0x130 b true).raiseBit p 2 else s

/-- The size bin of a frame length with FCS, counted from a base index (R91). -/
def sizeBin (len : Nat) : Option Nat :=
  if len < 64 then none else if len = 64 then some 0 else if len ≤ 127 then some 1
  else if len ≤ 255 then some 2 else if len ≤ 511 then some 3 else if len ≤ 1023 then some 4
  else if len ≤ 1518 then some 5 else if len ≤ 2047 then some 6 else if len ≤ 4095 then some 7
  else if len ≤ 8191 then some 8 else if len ≤ 9216 then some 9 else none

/-- Is the port's link up? -/
def State.linkUp (s : State) (p : PageKey) : Bool := bit (s.rd p 0x10C) 31

/-! ### Links -/

/-- The page that holds a MAC's group or peer registers. -/
def groupPage (p : PageKey) : PageKey := p - pgPage p

/-- RATE of a MAC's port: 1 200G … 4 1.6T (R76, R78). -/
def State.macRate (s : State) (p : PageKey) : Nat :=
  if pgGroup p = 2 then 5 - s.frFld (groupPage p) 0x100 4 3
  else 5 - s.frFld (groupPage p) 0x100 0 3

/-- Logical lanes of a MAC's port (R76, R78). -/
def State.macLanes (s : State) (p : PageKey) : List Nat :=
  let w := 2 ^ (s.macRate p - 1)
  let first := if pgGroup p = 2 then 0 else (pgPage p - 1) * w
  (List.range w).map (first + ·)

/-- Physical lanes of a MAC's port, by the lane map (R77). -/
def State.macPhys (s : State) (p : PageKey) : List Nat :=
  (s.macLanes p).map fun l => s.frFld (groupPage p) 0x104 (3 * l) 3

/-- Set or clear the lane status of a port's physical lanes. -/
def State.postLanes (s : State) (p : PageKey) (up trained : Bool) : State :=
  (s.macPhys p).foldl (fun s i =>
    (s.postBit (groupPage p) 0x10C i trained).postBit (groupPage p) 0x10C (8 + i) up) s

/-- Preemption starts over: off, active without verification, or verifying (R89). -/
def State.preemptStart (s : State) (p : PageKey) : State :=
  let c := s.fr p 0x110
  if !s.linkUp p || !bit c 1 || s.macApl p then s.post p 0x114 0
  else if bit c 2 then s.post p 0x114 0x100
  else s.post p 0x114 0x2

/-- Is preemption in use (R89)? -/
def State.preempts (s : State) (p : PageKey) : Bool := bit (s.rd p 0x114) 8

/-- Is the reference clock of the line die present (R59)? -/
def State.netRef (s : State) (p : PageKey) : Bool := s.pins.netref.getLsbD (pgSite p - 4)

/-- APL of a peer port. -/
def State.apl (s : State) (q : Nat) : AplState := tabGet {} s.apls q
/-- Store it. -/
def State.setApl (s : State) (q : Nat) (a : AplState) : State := { s with apls := tabPut {} s.apls q a }

/-- OLD_INFLIGHT of a peer port follows the requests that its old bank translated; at 0 WINDOW_IDLE is set
(R299). -/
def State.winIdle (s : State) (q : Nat) : State :=
  let p := peerPage q 2
  if bit (s.rd p 0x108) 31 then s
  else
    let n := (s.winReqs.filter fun r => r.peer == q && r.bank != s.rdFld p 0x100 0 1).length
    let s := s.postFld p 0x108 0 16 n
    if n = 0 then (s.postBit p 0x108 31 true).raiseBit p 1 else s

/-- APL goes down (R113): held frames and owed completions are discarded and counted, its reads end with
ABORTED and their tags are quarantined, credits and sequences start over. -/
def State.aplDown (s : State) (q : Nat) : State :=
  let p := peerPage q 1
  if s.rdFld p 0x108 30 2 = 0 then s
  else
    let a := s.apl q
    let wasUp := s.rdFld p 0x108 30 2 = 2
    let s := if wasUp then (s.count p 0x07 1).raiseBit p 0 else s
    let s := if a.held = [] then s else s.count p 0x08 a.held.length
    let cpls := a.sendq.filter fun u => u.1 == 4
    let quiet := s.winReqs.filter fun r => r.peer == q &&
      !(cpls.any fun u => natField (beAt u.2 0 16) 110 10 == r.tag)
    let owed := cpls.length + quiet.length
    let s := if owed = 0 then s else s.count p 0x0B owed
    let mine := s.aplReads.filter fun r => r.1 / 1024 == q && r.2.quar.isNone
    let s := { s with
      arrived := s.arrived ++ mine.map fun (r : Nat × AplRead) => ({ client := r.2.who, status := 1, data := [] } : Arrived)
      aplReads := s.aplReads.map fun (r : Nat × AplRead) =>
        if r.1 / 1024 == q && r.2.quar.isNone then (r.1, { r.2 with quar := some s.clk }) else r
      winReqs := s.winReqs.filter fun r => r.peer != q }
    let s := (s.setApl q {}).winIdle q
    let s := s.post p 0x108 0
    let o := macOutlet (peerPage q 3)
    s.discardOutlet o.1 o.2 (fun _ => true) fun s _ => s.macCount (peerPage q 3) 0x53 1

/-- A port's link goes down (R87, R113): status, counters, queued frames, and APL. -/
def State.linkDown (s : State) (p : PageKey) : State :=
  let was := s.linkUp p
  let s := if s.macApl p then s.aplDown (peerOf p) else s
  let s := s.postLanes p false false
  let s := s.post p 0x10C 0
  let s := s.post p 0x114 0
  let s := if was then ((s.macCount p 0x24 1).raiseBit p 0).a2408 p 0 else s
  let o := macOutlet p
  s.discardOutlet o.1 o.2 (fun _ => true) fun s _ => s.macCount p 0x53 1

/-- Is the port allowed to bring its link up: in use, enabled, not fenced or in reset, its reference
present (R59, R76, R190, R21)? -/
def State.linkAllowed (s : State) (p : PageKey) : Bool :=
  s.macUsed p && s.enabled (groupPage p) && s.enabled p && !s.isFenced p && !s.inReset p &&
    !s.isFenced (groupPage p) && !s.inReset (groupPage p) && s.netRef p && !s.pins.hiZ &&
    !s.jtag.tested.contains (pgSite p)

/-- LINK_UP: auto-negotiation and training, as the media and the enables ask, complete, and the link
comes up (R80). A peer port in APL mode starts APL bring-up (R112). -/
def execLinkUp (p : PageKey) (s : State) : Host.Outcome State Fault Refusal :=
  if pageType p = some .mac ∧ s.linkAllowed p ∧ !s.linkUp p then
    let phy := s.fr p 0x108
    let media := fld phy 8 4
    let apl := s.macApl p
    let an := media ≤ 1 && bit phy 0 && !apl
    let lt := media ≠ 2 && bit phy 4
    let v : Nat := 2 ^ 31 + (if an then 2 ^ 30 else 0) + (if lt then 2 ^ 29 else 0) + 2 ^ 28 + s.macRate p
    let s := (s.post p 0x10C (BitVec.ofNat 32 v)).postLanes p true lt
    let s := (s.raiseBit p 0).preemptStart p
    .next (if apl then (s.setApl (peerOf p) {}).post (peerPage (peerOf p) 1) 0x108 0x40000000 else s)
  else .next s

/-- LINK_DOWN: the PHY loses the link, locally or by a remote fault (R80, R87). -/
def execLinkDown (p : PageKey) (localFault remoteFault : Bool) (s : State) :
    Host.Outcome State Fault Refusal :=
  if pageType p = some .mac ∧ s.linkUp p then
    let s := s.linkDown p
    .next ((s.postBit p 0x10C 27 localFault).postBit p 0x10C 26 remoteFault)
  else .next s

/-- The ports of a group or peer page go link-down and start bring-up again (R81); a write of PEER_MODE
takes APL down too (R113). -/
def State.portsDown (s : State) (g : PageKey) : State :=
  let ms := if pgGroup g = 2 then [g + 3] else (List.range 8).map fun k => g + 1 + k
  let s := if pgGroup g = 2 then s.aplDown (peerOf g) else s
  ms.foldl State.linkDown s

/-- PORT_MODE_CHANGE: a write of NPG_MODE, PEER_MODE, the lane map or the polarity, by the ferry (R81). -/
def execPortModeChange (mid : Mid) (g : PageKey) (off : Nat) (v : Reg) (s : State) :
    Host.Outcome State Fault Refusal :=
  if (pageType g = some .npg ∨ pageType g = some .peer) ∧ (off = 0x100 ∨ off = 0x104 ∨ off = 0x108) then
    .next (s.ownWrite mid g off v fun s => s.portsDown g)
  else .next s

/-- STAT_MODE as fast logic takes it (R93): in A2408-compatible mode the MAC keeps no counter, so that native mode
starts with all of them at 0, and in native mode it keeps no summary bit. -/
def State.statMode (s : State) (p : PageKey) : State :=
  if s.frFld p 0x100 16 2 = 1 then { s with ctrs := s.ctrs.filter fun c => c.1 / 2 ^ 24 != p } else s.post p 0x130 0

/-- PREEMPT_VERIFY: the verify process ends (R89, R90). -/
def execPreemptVerify (p : PageKey) (ok : Bool) (s : State) : Host.Outcome State Fault Refusal :=
  if pageType p = some .mac ∧ s.rdFld p 0x114 0 3 = 2 then
    .next (if ok then s.post p 0x114 0x103 else (s.post p 0x114 0x4).raiseBit p 3)
  else .next s

/-- FEC_CODEWORD_RECEIVE: a codeword decoded with `symbols` corrected, or uncorrectable, and the errored
64B/66B blocks that followed (R91, R93). -/
def execFecCodewordReceive (p : PageKey) (symbols : Nat) (uncorrectable : Bool) (blocks : Nat)
    (s : State) : Host.Outcome State Fault Refusal :=
  if pageType p = some .mac ∧ s.linkAllowed p then
    let s := if uncorrectable then (s.macCount p 0x21 1).a2408 p 2
      else if symbols = 0 then s
      else (s.macCount p 0x20 1).macCount p 0x22 symbols
    .next (if blocks = 0 then s else s.macCount p 0x23 blocks)
  else .next s

/-! ### Package time (R94, R97, R544) -/

/-- PTIME_STEP_GO (R97): GO reads 1 until the step is applied. -/
def execPtimeStepGo (mid : Mid) (s : State) : Host.Outcome State Fault Refusal :=
  .next (s.nowWrite mid ptimePage 0x118 1 id)

/-- PTIME_STEP_APPLY: at a whole microsecond of package time the requested step is added, in the master
and in every die copy (R97). -/
def execPtimeStepApply (s : State) : Host.Outcome State Fault Refusal :=
  if bit (s.rd ptimePage 0x118) 0 ∧ s.ptime.toNat % 1000 = 0 then
    .next { s.postBit ptimePage 0x118 0 false with
            ptime := s.ptime + BitVec.ofNat 64 (s.rd64 ptimePage 0x110) }
  else .next s

/-- PTIME_RATE: a rate beyond 1,000 ppm is clamped and RATE_LIMIT shows it (R97). -/
def execPtimeRate (mid : Mid) (v : Reg) (s : State) : Host.Outcome State Fault Refusal :=
  let r := v.toInt
  let lim := decide (1000000000 < r) || decide (r < -1000000000)
  let c : Int := if 1000000000 < r then 1000000000 else if r < -1000000000 then -1000000000 else r
  .next (s.nowWrite mid ptimePage 0x108 (BitVec.ofInt 32 c) fun s => s.postBit ptimePage 0x11C 0 lim)

/-- PPS_OUT_PULSE: PPS_OUT rises when package time mod 10^9 is 0 (R97, R544). -/
def execPpsOutPulse (s : State) : Host.Outcome State Fault Refusal :=
  if bit (s.fr ptimePage 0x128) 31 ∧ s.ptime.toNat % 1000000000 = 0 ∧ !s.pins.ppsOut ∧ !s.pins.hiZ then
    .next ({ s with pins := { s.pins with ppsOut := true, ppsAt := s.ptime } }.emit (.pin "PPS_OUT" 0 true))
  else .next s

/-- PPS_IN_EDGE: a rising edge on PPS_IN is timestamped (R97). -/
def execPpsInEdge (s : State) : Host.Outcome State Fault Refusal :=
  .next ((s.post64 ptimePage 0x120 s.ptime.toNat).raiseBit ptimePage 0)

end Sys2Proof.Machine
end

