-- ==== Sys2Proof/Machine/Apl.lean ====
section
/-! DEFINITION. The Areano Peer Link (R98–R115) and the peer windows it uses (R297–R299). -/
namespace Sys2Proof.Machine

/-- The APL page of a peer port. -/
def aplPage (q : Nat) : PageKey := peerPage q 1
/-- The PWIN page of a peer port. -/
def pwinPage (q : Nat) : PageKey := peerPage q 2

/-- STATE of APL_STS: 0 down, 1 bring-up, 2 up. -/
def State.aplSt (s : State) (q : Nat) : Nat := s.rdFld (aplPage q) 0x108 30 2

/-- A frame with its LCRC, the IEEE 802.3 CRC-32 in network order (R98). -/
def aplWire (hdr : Nat) (body : List Byte) : List Byte :=
  let b := beBytes 8 hdr ++ body
  b ++ beBytes 4 (crc32 b).toNat

/-- A link header (R99). -/
def aplHdr (type seq ack ackv cls len : Nat) : Nat :=
  type * 2 ^ 60 + seq * 2 ^ 48 + ack * 2 ^ 36 + ackv * 2 ^ 35 + cls * 2 ^ 32 + len * 2 ^ 16

/-- The last DATA sequence number accepted in order. -/
def AplState.ackSeq (a : AplState) : Nat := (a.next + 4095) % 4096

/-- Send a control frame. -/
def State.aplSend (s : State) (q type seq ack : Nat) (body : List Byte) : State :=
  s.emit (.apl q (aplWire (aplHdr type seq ack (if type = 2 ∨ type = 3 then 1 else 0) 0 body.length) body))

/-- Post NEXT_TX_SEQ and NEXT_RX_SEQ. -/
def State.aplPost (s : State) (q : Nat) : State :=
  (s.postFld (aplPage q) 0x108 16 12 (s.apl q).txSeq).postFld (aplPage q) 0x108 0 12 (s.apl q).next

/-! ### Credits (R101, R107, R108) -/

/-- Headers and 64-byte units that the A6432 holds free per class (R108). -/
def aplRoomHdr : List Nat := [256, 32, 256, 1024]
/-- Data room in 64-byte units. -/
def aplRoomData : List Nat := [32768, 1024, 8192, 0]

/-- A CREDIT body from the limits (R101). -/
def creditBody (a : AplState) : List Byte :=
  (List.range 4).flatMap fun i =>
    beBytes 8 (((a.hdrGot.getD i 0 + aplRoomHdr.getD i 0) % 4096) * 2 ^ 48 +
      (a.dataGot.getD i 0 + aplRoomData.getD i 0) % 2 ^ 20)

/-- Send CREDIT. -/
def State.aplCredit (s : State) (q : Nat) : State :=
  let a := s.apl q
  (s.setApl q { a with lastCredit := s.clk }).aplSend q 4 0 0 (creditBody a)

/-- May a DATA frame of the class with `d` data units be sent (R107)? Class CPL is not credited (R108). -/
def AplState.mayS (a : AplState) (cls d : Nat) : Bool :=
  cls == 4 ||
  (decide ((a.hdrLim.getD cls 0 + 4096 - (a.hdrUsed.getD cls 0 + 1) % 4096) % 4096 ≤ 2048) &&
   decide ((a.dataLim.getD cls 0 + 2 ^ 20 - (a.dataUsed.getD cls 0 + d) % 2 ^ 20) % 2 ^ 20 ≤ 2 ^ 19))

/-! ### Sequence, acknowledgement and replay (R109–R111) -/

/-- Resend every held frame in SEQ order; without progress the replay count rises, and at REPLAY_MAX APL
goes down (R110, R111). -/
def State.aplResend (s : State) (q : Nat) (progress : Bool) : State :=
  let a := s.apl q
  if a.held = [] then s
  else
    let n := if progress then a.replays else a.replays + 1
    let s := s.setApl q { a with replays := n, timer := s.clk }
    let s := a.held.foldl (fun s h => s.emit (.apl q h.2)) (s.count (aplPage q) 0x05 1)
    if s.frFld (aplPage q) 0x100 0 4 ≤ n then
      let s := s.aplDown q
      if s.linkUp (peerPage q 3) then s.post (aplPage q) 0x108 0x40000000 else s
    else s

/-- An ACK or NAK frees the held frames up to ACK_SEQ; outside their range it is ignored and counted
(R110). Answers whether frames were freed. -/
def State.aplFree (s : State) (q ack : Nat) : Bool × State :=
  let a := s.apl q
  match a.held.findIdx? fun h => h.1 == ack with
  | none => (false, s.count (aplPage q) 0x0C 1)
  | some i => (true, s.setApl q { a with held := a.held.drop (i + 1), replays := 0, timer := s.clk })

/-- Discard a received frame with a NAK, at most one until a frame is accepted (R100, R109). -/
def State.aplNak (s : State) (q : Nat) : State :=
  let a := s.apl q
  if a.nakSent then s
  else ((s.setApl q { a with nakSent := true }).count (aplPage q) 0x03 1).aplSend q 3 0 a.ackSeq []

/-! ### Peer windows (R104, R105, R297, R298) -/

/-- Is a host function available as a window target (R297)? -/
def State.winHostOk (s : State) (e f : Nat) : Bool :=
  s.fnEnabled e f && s.dState e f == 0 && !bit (s.rd (epPage e 0) (0x120 + 4 * (f / 32))) (f % 32) &&
    s.busMaster e f && bit (s.rd (epPage e 0) 0x104) 29 && !s.isFenced (epPage e 0) &&
    (s.rdFld (epPage e 3) (0x200 + 4 * f) 28 4 == 0 || s.rdFld (epPage e 3) (0x200 + 4 * f) 28 4 == 3)

/-- Is a locked or running TDI named by a window request? It enters ERROR (R296). -/
def State.winTdi (s : State) (e f : Nat) : Bool :=
  let st := s.rdFld (epPage e 3) (0x200 + 4 * f) 28 4
  2 ≤ f && (st == 1 || st == 2)

/-- The translation of a window: bank, PWIN_CTL and address, or none (R297). -/
def State.winTranslate (s : State) (q addr len : Nat) (write : Bool) : Option (Nat × Reg × Nat) :=
  let p := pwinPage q
  let b := s.rdFld p 0x100 0 1
  let o := 0x400 + 0x400 * b + 0x10 * (addr / 2 ^ 58)
  let c := s.fr p o
  let off := addr % 2 ^ 58
  let base := s.fr64 p (o + 4)
  let ok := bit c 31 && (if write then bit c 29 else bit c 30) &&
    decide (off + len ≤ 2 ^ fld c 22 6) &&
    (if bit c 28 then s.ready (diePage (fld c 0 2) 4) && decide (base + off + len ≤ hbmSize)
     else s.winHostOk (fld c 16 5) (fld c 8 8))
  if ok then some (b, c, base + off) else none

/-- A request without a valid translation (R105); it may put a TDI in ERROR (R296): answered by the
caller. -/
def State.winMiss (s : State) (q : Nat) : State := (s.count (aplPage q) 0x0A 1).raiseBit (aplPage q) 3

/-- A memory TLU header (R103). -/
def tluHdr (op tag status len low : Nat) : List Byte :=
  beBytes 16 (op * 2 ^ 120 + tag * 2 ^ 110 + status * 2 ^ 96 + len * 2 ^ 83 + low)

/-- Queue a unit of the A6432 toward the card. -/
def State.aplQueue (s : State) (q cls : Nat) (tlu : List Byte) : State :=
  let a := s.apl q
  s.setApl q { a with sendq := a.sendq ++ [(cls, tlu)] }

/-- Split completion data so that every CPL but the last ends at a 512-byte-aligned address (R105). -/
def State.aplCpls (s : State) (q tag addr : Nat) : Nat → List Byte → State
  | 0, _ => s
  | fuel + 1, data =>
    let n := min data.length (512 - addr % 512)
    let rest := data.drop n
    let s := s.aplQueue q 4 (tluHdr 4 tag 0 n (rest.length * 2 ^ 51) ++ data.take n)
    if rest = [] then s else s.aplCpls q tag (addr + n) fuel rest

/-- A CPL without success: no payload, nothing to come (R105). -/
def State.aplCplErr (s : State) (q tag status : Nat) : State := s.aplQueue q 4 (tluHdr 4 tag status 0 0)

/-- The TDI of the window's function enters ERROR: a peer-window request names it (R296). -/
def State.winTdiError (s : State) (q addr : Nat) : Option (Nat × Nat) :=
  let p := pwinPage q
  let c := s.fr p (0x400 + 0x400 * s.rdFld p 0x100 0 1 + 0x10 * (addr / 2 ^ 58))
  if bit c 31 && !bit c 28 && s.winTdi (fld c 16 5) (fld c 8 8) then some (fld c 16 5, fld c 8 8) else none

/-- MWR: translated once and issued, or discarded (R103, R105, R297). `err` moves a TDI to ERROR. -/
def State.aplMwr (s : State) (err : Nat → Nat → State → State) (q addr : Nat) (data : List Byte) : State :=
  match s.winTranslate q addr data.length true with
  | none =>
    let t := s.winTdiError q addr
    let s := s.winMiss q
    match t with
    | some (e, f) => err e f s
    | none => s
  | some (_, c, a) =>
    if bit c 28 then s.setBytes (hbmBase (fld c 0 2) + a) data
    else s.emit (.hostWrite (fld c 16 5) (fld c 8 8) a data)

/-- MRD: translated and answered with CPLs, or with STATUS 0x1 (R105, R297). -/
def State.aplMrd (s : State) (err : Nat → Nat → State → State) (q tag addr len : Nat) : State :=
  match s.winTranslate q addr len false with
  | none =>
    let t := s.winTdiError q addr
    let s := (s.winMiss q).aplCplErr q tag 1
    match t with
    | some (e, f) => err e f s
    | none => s
  | some (b, c, a) =>
    let w : WinReq := { peer := q, win := addr / 2 ^ 58, bank := b, tag := tag, addr := addr, len := len }
    let s := { s with winReqs := s.winReqs ++ [w] }
    if bit c 28 then s.aplCpls q tag addr len (s.bytes (hbmBase (fld c 0 2) + a) len)
    else s.askHost (fld c 16 5) (fld c 8 8) (.apl q tag) a len

/-- CPL: data for a read of the A6432, or discarded when its tag is quarantined or unknown (R105, R113). -/
def State.aplCpl (s : State) (q tag status remaining : Nat) (data : List Byte) : State :=
  let k := q * 1024 + tag
  match tabFind s.aplReads k with
  | none => (s.count (aplPage q) 0x09 1).raiseBit (aplPage q) 2
  | some r =>
    if r.quar.isSome then (s.count (aplPage q) 0x09 1).raiseBit (aplPage q) 2
    else if status ≠ 0 then
      let a : Arrived := { client := r.who, data := [],
                           status := if status = 4 then 2 else if status = 3 then 8 else 7 }
      { s with aplReads := tabErase s.aplReads k, arrived := s.arrived ++ [a] }
    else
      let got := r.got ++ data
      if remaining = 0 then
        let a : Arrived := { client := r.who, status := 0, data := got }
        { s with aplReads := tabErase s.aplReads k, arrived := s.arrived ++ [a] }
      else { s with aplReads := tabInsert (tabErase s.aplReads k) k { r with got := got } }

/-- PKT or XPKT: the Ethernet frame behind the 8-byte packet header enters the pipelines of the region
(R102, R118, R122). Peer ports in APL mode take no timestamps (R96). -/
def State.aplPacket (s : State) (q : Nat) (express : Bool) (body : List Byte) : State :=
  let h := beAt body 0 8
  let csum := if h.testBit 38 then 0x60 else if h.testBit 39 then 0x50 else 0
  let r := s.bufArrive (peerRegion q / 4) (body.drop 8) express none none
  match r.1 with
  | none => r.2
  | some k =>
    let f : Frame := { buf := k, src := 0x4000 + q, ts := 0, csum := csum, vport := natField h 40 12,
                       express := express }
    let src := srcKey (peerRegion q) 16
    let x := r.2.fifo src
    let s := r.2.setFifo src (if express then { x with exp := x.exp ++ [f] } else { x with ord := x.ord ++ [f] })
    [0, 1, 2, 3].foldl (fun s k => s.work (128 + q * 4 + k)) s

/-- A DATA frame that passes R100 (R109): accepted in order, a duplicate, or out of sequence. -/
def State.aplData (s : State) (err : Nat → Nat → State → State) (q seq cls : Nat) (body : List Byte) : State :=
  let a := s.apl q
  if s.aplSt q ≠ 2 then s
  else if seq = a.next then
    let d := if cls = 3 then 0 else (body.length + 63) / 64
    let s := s.setApl q { a with
      next := (a.next + 1) % 4096, nakSent := false
      hdrGot := a.hdrGot.modify cls (fun n => (n + 1) % 4096)
      dataGot := a.dataGot.modify cls (fun n => (n + d) % 2 ^ 20) }
    let s := (s.count (aplPage q) 0x01 1).aplPost q
    let s := s.aplSend q 2 0 (s.apl q).ackSeq []
    let h := beAt body 0 16
    let tag := natField h 110 10
    let len := natField h 83 13
    if cls = 0 then s.aplPacket q false body
    else if cls = 1 then s.aplPacket q true body
    else if cls = 2 then s.aplMwr err q (natField h 0 64) (body.drop 16)
    else if cls = 3 then s.aplMrd err q tag (natField h 0 64) len
    else s.aplCpl q tag (natField h 96 4) (natField h 51 13) (body.drop 16)
  else if (a.next + 4096 - seq) % 4096 ≤ 2048 then s.aplSend q 2 0 a.ackSeq []
  else s.aplNak q

/-- Is the body of a DATA frame well formed for its class (R100, R102, R103)? -/
def aplBodyOk (cls : Nat) (body : List Byte) : Bool :=
  let n := body.length
  if cls ≤ 1 then
    let h := beAt body 0 8
    decide (68 ≤ n) && decide (n ≤ 9220) && natField h 56 8 == 1 &&
      (if cls = 0 then decide (natField h 52 4 ≤ 7) else natField h 52 4 == 15)
  else
    let h := beAt body 0 16
    let len := natField h 83 13
    let addr := natField h 0 64
    let st := natField h 96 4
    decide (16 ≤ n) &&
    (if cls = 2 then
      natField h 120 8 == 2 && n == 16 + len && decide (1 ≤ len) && decide (len ≤ 4096) && st == 0 &&
        natField h 110 10 == 0 && decide (addr % 4096 + len ≤ 4096)
     else if cls = 3 then
      natField h 120 8 == 3 && n == 16 && decide (1 ≤ len) && decide (len ≤ 4096) && st == 0 &&
        decide (addr % 4096 + len ≤ 4096)
     else
      natField h 120 8 == 4 && n == 16 + len && decide (len ≤ 4096) && decide (st ≤ 4) &&
        (st == 0 || (len == 0 && natField h 51 13 == 0)))

/-- Both sides have seen each other: APL is up, and CREDIT goes out at once (R112). -/
def State.aplMaybeUp (s : State) (q : Nat) : State :=
  let a := s.apl q
  if s.aplSt q = 1 ∧ a.sentSeen ∧ a.gotSeen then
    let s := (s.post (aplPage q) 0x108 0x80000000).raiseBit (aplPage q) 0
    s.aplCredit q
  else s

/-- An INIT frame (R112, R113). -/
def State.aplInit (s : State) (q : Nat) (body : List Byte) : State :=
  let v := beAt body 0 8
  let ver := natField v 56 8
  let tlu := natField v 0 16
  let p := aplPage q
  if s.aplSt q = 2 then
    let s := s.aplDown q
    if s.linkUp (peerPage q 3) then s.post p 0x108 0x40000000 else s
  else if s.aplSt q = 0 then s
  else
    let s := s.post p 0x10C (BitVec.ofNat 32 (ver * 2 ^ 24 + natField v 24 24))
    if ver ≠ 1 then (s.count p 0x0D 1).raiseBit p 1
    else if tlu < 4112 then (s.count p 0x0E 1).raiseBit p 5
    else
      let a := s.apl q
      (s.setApl q { a with gotInit := true, gotSeen := a.gotSeen || v.testBit 55, maxTlu := tlu }).aplMaybeUp q

/-- A CREDIT frame sets the limits of the four classes (R101, R107). -/
def State.aplCreditIn (s : State) (q : Nat) (body : List Byte) : State :=
  if s.aplSt q ≠ 2 then s
  else
    let es := (List.range 4).map fun i => beAt body (8 * i) 8
    s.setApl q { s.apl q with gotCredit := true, hdrLim := es.map fun e => natField e 48 12
                              dataLim := es.map fun e => natField e 0 20 }

/-- An ACK frame (R110). -/
def State.aplAck (s : State) (q ack : Nat) : State := if s.aplSt q ≠ 2 then s else (s.aplFree q ack).2

/-- A NAK frame (R110). -/
def State.aplNakIn (s : State) (q ack : Nat) : State :=
  if s.aplSt q ≠ 2 then s
  else
    let r := (s.count (aplPage q) 0x04 1).aplFree q ack
    r.2.aplResend q r.1

/-- An APL frame from the wire: discarded with a NAK under R100, or handled by its TYPE. -/
def State.aplReceive (s : State) (err : Nat → Nat → State → State) (q : Nat) (delim : Byte)
    (b : List Byte) : State :=
  let n := b.length
  let h := beAt b 0 8
  let type := natField h 60 4
  let cls := natField h 32 3
  let len := natField h 16 16
  let body := slice b 8 len
  let ok := decide (12 ≤ n) && delim == 0xA7 && n == 12 + len &&
    beAt b (n - 4) 4 == (crc32 (b.take (n - 4))).toNat &&
    (if type = 1 then decide (cls ≤ 4) && aplBodyOk cls body
     else if type = 2 ∨ type = 3 then len == 0
     else if type = 4 then len == 32
     else type == 5 && len == 8)
  if !ok then (s.count (aplPage q) 0x02 1).aplNak q
  else
    let ack := natField h 36 12
    if type = 1 then
      let s := if h.testBit 35 then s.aplAck q ack else s
      s.aplData err q (natField h 48 12) cls body
    else if type = 2 then s.aplAck q ack
    else if type = 3 then s.aplNakIn q ack
    else if type = 4 then s.aplCreditIn q body
    else s.aplInit q body

/-- Is the peer port's PHY up in APL mode, and its unit working? -/
def State.aplLive (s : State) (q : Nat) : Bool :=
  decide (q < 16) && s.macApl (peerPage q 3) && s.linkUp (peerPage q 3)

/-- INIT frames of bring-up, every 1 µs (R112). -/
def execAplInitTick (q : Nat) (s : State) : Host.Outcome State Fault Refusal :=
  if s.aplLive q ∧ s.aplSt q = 1 then
    let a := s.apl q
    let v := 2 ^ 56 + (if a.gotInit then 2 ^ 55 else 0) + s.frFld (aplPage q) 0x110 0 24 * 2 ^ 24 + 9220
    let s := s.aplSend q 5 0 0 (beBytes 8 v)
    .next ((s.setApl q { a with sentSeen := a.sentSeen || a.gotInit }).aplMaybeUp q)
  else .next s

/-- CREDIT frames while up (R108). -/
def execAplCreditTick (q : Nat) (s : State) : Host.Outcome State Fault Refusal :=
  if s.aplLive q ∧ s.aplSt q = 2 then .next (s.aplCredit q) else .next s

/-- The replay timer, which runs while a frame is held, expires: every held frame is resent (R110). -/
def execAplReplayTimeout (q : Nat) (s : State) : Host.Outcome State Fault Refusal :=
  let a := s.apl q
  if s.aplLive q ∧ s.aplSt q = 2 ∧ a.held ≠ [] ∧ s.frFld (aplPage q) 0x100 16 8 * 1000 ≤ s.clk - a.timer then
    .next ((s.count (aplPage q) 0x06 1).aplResend q false)
  else .next s

/-- ACK (R110). -/
def execAck (q : Nat) (ackSeq : BitVec 12) (s : State) : Host.Outcome State Fault Refusal :=
  if s.aplLive q then .next (s.aplAck q ackSeq.toNat) else .next s

/-- NAK (R110). -/
def execNak (q : Nat) (ackSeq : BitVec 12) (s : State) : Host.Outcome State Fault Refusal :=
  if s.aplLive q then .next (s.aplNakIn q ackSeq.toNat) else .next s

/-- CREDIT (R107). -/
def execCredit (q : Nat) (body : List Byte) (s : State) : Host.Outcome State Fault Refusal :=
  if s.aplLive q then
    .next (if body.length = 32 then s.aplCreditIn q body else (s.count (aplPage q) 0x02 1).aplNak q)
  else .next s

/-- INIT (R112). -/
def execInit (q : Nat) (body : List Byte) (s : State) : Host.Outcome State Fault Refusal :=
  if s.aplLive q then
    .next (if body.length = 8 then s.aplInit q body else (s.count (aplPage q) 0x02 1).aplNak q)
  else .next s

/-- APL_DOWN (R113): PHY loss, the replay limit, an INIT while up or a write of PEER_MODE, as the link
state or the sender's count gives; the PHY, when still up, starts bring-up again. -/
def execAplDown (q : Nat) (s : State) : Host.Outcome State Fault Refusal :=
  if q < 16 ∧ s.macApl (peerPage q 3) then
    let s := s.aplDown q
    .next (if s.linkUp (peerPage q 3) then s.post (aplPage q) 0x108 0x40000000 else s)
  else .next s

/-- CPL (R105). -/
def execCpl (q : Nat) (tag : BitVec 10) (status : BitVec 4) (remaining : Nat) (data : List Byte) (s : State) :
    Host.Outcome State Fault Refusal :=
  if s.aplLive q ∧ s.aplSt q = 2 then .next (s.aplCpl q tag.toNat status.toNat remaining data) else .next s

/-- APL_MRD_TIMEOUT: a read of the A6432 in the card exceeds APL_CPL_TO; its tag is quarantined (R113). -/
def execAplMrdTimeout (q : Nat) (tag : BitVec 10) (s : State) : Host.Outcome State Fault Refusal :=
  let k := q * 1024 + tag.toNat
  match tabFind s.aplReads k with
  | none => .next s
  | some r =>
    if r.quar.isNone ∧ s.frFld (aplPage q) 0x104 0 16 * 1000 ≤ s.clk - r.at_ then
      let a : Arrived := { client := r.who, status := 2, data := [] }
      .next { s with
        aplReads := tabInsert (tabErase s.aplReads k) k { r with quar := some s.clk }
        arrived := s.arrived ++ [a] }
    else .next s

/-- APL_TAG_QUARANTINE_END: twice APL_CPL_TO after it began (R113). -/
def execAplTagQuarantineEnd (q : Nat) (tag : BitVec 10) (s : State) : Host.Outcome State Fault Refusal :=
  let k := q * 1024 + tag.toNat
  match tabFind s.aplReads k with
  | none => .next s
  | some r =>
    match r.quar with
    | none => .next s
    | some t =>
      if 2 * s.frFld (aplPage q) 0x104 0 16 * 1000 ≤ s.clk - t then
        .next { s with aplReads := tabErase s.aplReads k }
      else .next s

end Sys2Proof.Machine
end

