-- ==== Sys2Proof/Machine/Rx.lean ====
section
/-! DEFINITION. A frame received by a MAC (R82–R86, R91, R118, R245). -/
namespace Sys2Proof.Machine

/-- The parser configuration of a pipeline (R122, R140). -/
def State.parseCfg (s : State) (p : PageKey) : ParseCfg :=
  { vxlan := s.frFld p 0x100 16 16, geneve := s.frFld p 0x100 0 16
    roce := s.frFld p 0x104 16 16, nvme := s.frFld p 0x104 0 16 }

/-- Does the destination address pass the filter (R83)? The broadcast address is decided by BCAST and the
filter entries, not by ALL_MCAST. -/
def State.macFilter (s : State) (p : PageKey) (da : Nat) : Bool :=
  let c := s.fr p 0x104
  ((List.range 32).any fun n =>
    bit (s.fr p 0x118) n && da == (s.fr p (0x200 + 8 * n)).toNat + 2 ^ 32 * fld (s.fr p (0x204 + 8 * n)) 0 16) ||
  (da == 0xFFFFFFFFFFFF && bit c 0) ||
  (da != 0xFFFFFFFFFFFF && da.testBit 40 && bit c 1) || bit c 2

/-- Is a frame express on arrival (R118)? -/
def State.macExpress (s : State) (p : PageKey) (m : RxMerge) (b : List Byte) : Bool :=
  (m == .express && s.preempts p) ||
  (let src := macSource p
   let et := beAt b 12 2
   (et == 0x8100 || et == 0x88A8) &&
     [0, 1, 2, 3].any fun k =>
       let g := pipePage (src / 32) k
       bit (s.fr g 0x110) (src % 32) && (s.frFld g 0x114 0 8).testBit (byteAt b 14 / 32))

/-- Bytes a FIFO part holds, counted with FCS (R86). -/
def State.fifoBytes (s : State) (fs : List Frame) : Nat :=
  fs.foldl (fun n f => n + (s.bufBytes f.buf).length + 4) 0

/-- The accepted frame's counters (R91). -/
def State.countRxOk (s : State) (p : PageKey) (b : List Byte) (r : Parsed) : State :=
  let da := beAt b 0 6
  let s := (s.macCount p 0x00 1).macCount p 0x01 (b.length + 4)
  let s := s.macCount p (if da = 0xFFFFFFFFFFFF then 0x0B else if da.testBit 40 then 0x0A else 0x09) 1
  let et := beAt b 12 2
  let s := if et = 0x8100 ∨ et = 0x88A8 then s.macCount p 0x25 1 else s
  if (ptpEvent b r).isSome then s.macCount p 0x1F 1 else s

/-- An accepted frame goes to its part of the receive FIFO and into the packet buffer of the home die, or is
dropped there and counted (R86, R245). -/
def State.macAccept (s : State) (p : PageKey) (m : RxMerge) (b : List Byte) : State :=
  let src := macSource p
  let c := s.fr p 0x104
  let r := parseFrame { s.parseCfg (pipePage (src / 32) 0) with chk3 := bit c 3, chk4 := bit c 4 } b
  let s := s.countRxOk p b r
  let bad3 := r.c3 == 2 || r.ic3 == 2
  let bad4 := r.c4 == 2 || r.ic4 == 2
  let s := if bad3 then s.macCount p 0x18 1 else s
  let s := if bad4 then s.macCount p 0x19 1 else s
  let s := if bad3 || bad4 then s.a2408 p 4 else s
  let ex := s.macExpress p m b
  let x := s.fifo src
  let room := if ex then s.fifoBytes x.exp + b.length + 4 ≤ 2048 else s.fifoBytes x.ord + b.length + 4 ≤ 16384
  if ¬ room then (s.macCount p 0x1A 1).raiseBit p 4
  else
    let a := s.bufArrive (src / 128) b ex none none
    match a.1 with
    | none => a.2
    | some k =>
      let f : Frame := { buf := k, src := s.macSrc p, ts := s.ptime.toNat, csum := r.csumByte, express := ex }
      let s := a.2.setFifo src (if ex then { x with exp := x.exp ++ [f] } else { x with ord := x.ord ++ [f] })
      [0, 1, 2, 3].foldl (fun s k => s.work (128 + src / 32 * 4 + k)) s

/-- The tests of R82 in order, the first failing one counted. `b` is the frame without its FCS. -/
def State.macTests (s : State) (p : PageKey) (m : RxMerge) (b : List Byte) (fcsOk : Bool) : State :=
  let len := b.length + 4
  let maxf := s.frFld p 0x100 0 14
  let s := (s.macCount p 0x02 len).macCount p 0x03 1
  let s := match sizeBin len with
    | some i => s.macCount p (0x0C + i) 1
    | none => s
  if !fcsOk then
    let s := s.a2408 p 7
    if len < 64 then (s.macCount p 0x06 1).a2408 p 6
    else if maxf < len then (s.macCount p 0x08 1).a2408 p 5
    else s.macCount p 0x04 1
  else if len < 64 then (s.macCount p 0x05 1).a2408 p 6
  else if maxf < len then (s.macCount p 0x07 1).a2408 p 5
  else if beAt b 12 2 = 0x8808 then s.macCount p 0x16 1
  else if !s.macFilter p (beAt b 0 6) then (s.macCount p 0x17 1).a2408 p 3
  else s.macAccept p m b

/-- FRAME_RECEIVE: `b` is the frame from the destination address through the FCS as it stood on the wire
(R82–R86). On a peer port in APL mode an Ethernet frame is discarded as R100 says. -/
def execFrameReceive (p : PageKey) (m : RxMerge) (b : List Byte) (s : State) :
    Host.Outcome State Fault Refusal :=
  if pageType p ≠ some .mac ∨ !s.linkUp p ∨ s.isFenced p ∨ s.inReset p then .next s
  else if s.macApl p then .next ((s.count (aplPage (peerOf p)) 0x02 1).aplNak (peerOf p))
  else
    let body := b.take (b.length - 4)
    let ok := decide (4 ≤ b.length) && b.drop (b.length - 4) == fcsBytes body
    .next (match m with
      | .assemblyError => s.macCount p 0x1B 1
      | .smdError => s.macCount p 0x1C 1
      | .fragments n => ((s.macCount p 0x1D 1).macCount p 0x1E n).macTests p m body ok
      | _ => s.macTests p m body ok)

end Sys2Proof.Machine
end

