-- ==== Sys2Proof/Machine/Chan.lean ====
section
/-! DEFINITION. Threads, channels, thread faults, lease stops and the inbound queues (R376–R404, R424, R433–R440):
the operations that the pipelines, the units and the Holquasol words share. -/
namespace Sys2Proof.Machine

/-! ### Threads -/

/-- Number of a thread in its cluster. -/
def thrIdx (core t : Nat) : Nat := core * 8 + t
/-- A thread, by cluster and number. -/
def State.thr (s : State) (c i : Nat) : Thread := tabGet {} s.thrs (c * 64 + i)
/-- The FCORE page of a thread. -/
def fcorePage (c i : Nat) : PageKey := cluPage c (1 + i / 8)
/-- Store a thread, and post its state and program counter (R44). -/
def State.setThr (s : State) (c i : Nat) (x : Thread) : State :=
  ({ s with thrs := tabPut {} s.thrs (c * 64 + i) x }).post (fcorePage c i) (0x120 + 4 * (i % 8))
    (BitVec.ofNat 32 (x.st * 2 ^ 29 + x.pc))
/-- The MID of a thread, by cluster and number. -/
def thrMid (c i : Nat) : Mid := threadMid c (i / 8) (i % 8)
/-- Threads per core (R376). -/
def State.tPer (s : State) : Nat := if s.omc.t8 then 8 else 4
/-- Does the thread exist? -/
def State.thrExists (s : State) (i : Nat) : Bool := decide (i < 64) && decide (i % 8 < s.tPer)
/-- The lease of a thread (R425). -/
def State.thrLease (s : State) (c i : Nat) : Option Nat := s.leaseOf c (i / 8) (i % 8)
/-- FCORE_THR_CTL.EN. -/
def State.thrEn (s : State) (c i : Nat) : Bool := bit (s.fr (fcorePage c i) (0x100 + 4 * (i % 8))) 31
/-- Cycles of 2.0 GHz since a thread began to wait. -/
def State.waited (s : State) (x : Thread) : Nat := 2 * (s.clk - x.since)

/-! ### Bindings (R382, R383, R390) -/

/-- The CHAN page of a cluster. -/
def chanPage (c : Nat) : PageKey := cluPage c 11
/-- CHAN_BIND. -/
def State.bind (s : State) (c n : Nat) : Reg := s.fr (chanPage c) (0x200 + 8 * n)
/-- CHAN_BIND2. -/
def State.bind2 (s : State) (c n : Nat) : Reg := s.fr (chanPage c) (0x204 + 8 * n)
/-- KIND. -/
def State.kind (s : State) (c n : Nat) : Nat := fld (s.bind c n) 28 4
/-- The lease that a channel belongs to. -/
def State.chanLease (s : State) (c n : Nat) : Option Nat :=
  if bit (s.bind2 c n) 19 then some (fld (s.bind2 c n) 20 4) else none
/-- A channel's FIFO. -/
def State.chan (s : State) (c n : Nat) : Chan := tabGet {} s.chans (c * 64 + n)
/-- Store a channel. -/
def State.setChan (s : State) (c n : Nat) (x : Chan) : State := { s with chans := tabPut {} s.chans (c * 64 + n) x }
/-- Free message slots (R387). -/
def State.room (s : State) (c n : Nat) : Nat :=
  fld (s.bind c n) 16 7 - ((s.chan c n).fifo.length + (s.chan c n).owed)
/-- A CHAN counter: 0 committed, 1 read, 2 blocked, 3 discarded (R411). -/
def State.chanCount (s : State) (c n k v : Nat) : State := s.count (chanPage c) (4 * n + k) v

/-- Does a binding make an internal channel (R383)? -/
def internal (b : Reg) : Bool :=
  fld b 28 4 == 1 && bit b 26 && !bit b 25 && !bit b 24 && !bit b 23

/-- LEASE page of a cluster. -/
def leasePage (c : Nat) : PageKey := cluPage c 10
/-- Offset of a lease's block of registers. -/
def leaseOff (l : Nat) : Nat := 0x200 + 0x40 * l

/-- Is the lease of a channel stopped (R437)? -/
def State.leaseStopped (s : State) (c l : Nat) : Bool := s.rdFld (cluPage c 10) (0x200 + 0x40 * l) 26 2 == 3
/-- Does the channel belong to a stopped lease? -/
def State.chanStopped (s : State) (c n : Nat) : Bool :=
  match s.chanLease c n with
  | none => false
  | some l => s.leaseStopped c l

/-! ### Threads that stop (R377, R379, R437) -/

/-- Drop a thread's staged words, counted, and its place among readers and writers. -/
def State.thrDrop (s : State) (c i : Nat) : State :=
  let x := s.thr c i
  let s := x.staged.foldl (fun s e => s.chanCount c e.1 3 e.2.length) s
  let s := s.setThr c i { x with staged := [] }
  match x.wait with
  | .read n _ => s.setChan c n { s.chan c n with readers := (s.chan c n).readers.erase i }
  | .commit n _ => s.setChan c n { s.chan c n with writers := (s.chan c n).writers.erase i }
  | _ => s

/-- A thread leaves its wait for a state in which it does not run. -/
def State.thrPark (s : State) (c i st : Nat) : State :=
  let s := s.thrDrop c i
  let s := { s with barriers := s.barriers.erase (thrMid c i) }
  let x := s.thr c i
  s.setThr c i { x with st := st, wait := .none, begun := false, ucalled := false, step := false, held := false }

/-- Free every packet buffer that a cluster, or a lease of it, owns; answers how many. -/
def State.freeOwned (s : State) (c : Nat) (l : Option Nat) : Nat × State :=
  let mine := fun (b : Buf) => b.owner == some c && (l.isNone || b.lease == l)
  let bs := s.bufs.filter fun b => mine b.2
  (bs.length, bs.foldl (fun s b => (s.setBuf b.1 { b.2 with owner := none }).bufDone b.1) s)

/-- Discard the messages waiting in a channel, counted, with the frames of work messages. -/
def State.chanEmpty (s : State) (c n : Nat) : State :=
  let x := s.chan c n
  let s := x.fifo.foldl (fun s m => match m.frame with
    | none => s
    | some b => match s.buf b with
      | none => s
      | some v => (s.setBuf b { v with owner := none }).bufDone b) s
  (s.setChan c n { x with fifo := [] }).chanCount c n 3 x.fifo.length

/-- Requests and replies of a channel that satisfy `p` go nowhere any more; replies that wait are counted as
discarded. -/
def State.killRequests (s : State) (c : Nat) (p : Nat → Option Nat → Bool) : State :=
  let kill := fun (r : Ureq) => if r.cluster == c && p r.chan r.lease then { r with dead := true } else r
  { s with
    ureqs := s.ureqs.map kill
    ureps := s.ureps.map fun r => if r.cluster == c && p r.chan (s.chanLease c r.chan) then { r with dead := true } else r
    dmas := s.dmas.map fun (d : Nat × DmaChan) =>
      (d.1, { d.2 with xfer := d.2.xfer.map fun x => { x with req := x.req.map kill } }) }

/-- Threads of a lease's set (R428). -/
def State.leaseThreads (s : State) (c l : Nat) : List Nat :=
  (List.range 64).filter fun i => s.thrExists i &&
    bit (s.rd (cluPage c 10) (0x208 + 0x40 * l + 4 * (i / 32))) (i % 32)

/-- What the stop of a lease does to its threads, channels, requests, locks and buffers (R437); the threads enter
state `st`. -/
def State.leaseEnds (s : State) (c l st : Nat) : State :=
  let ts := s.leaseThreads c l
  let s := ts.foldl (fun s i => if (s.thr c i).st ≠ 0 then s.thrPark c i st else s) s
  let s := (List.range 64).foldl (fun s n => if s.chanLease c n == some l then s.chanEmpty c n else s) s
  let s := s.killRequests c fun n r => r == some l || s.chanLease c n == some l
  let s := s.releaseLocks (fun m => midIsThread m && midCluster m == c && ts.contains (m.toNat % 64)) (fun _ => false) 7
  (s.freeOwned c (some l)).2

/-- A failure of a lease's thread or unit request, or an OMC stop (R436, R437, R440): the first stops the
lease, a further one is only counted. -/
def State.leaseStop (s : State) (c l cause code : Nat) (mid : Mid) (pc : Nat) : State :=
  let p := cluPage c 10
  let o := 0x200 + 0x40 * l
  let st := s.rdFld p o 26 2
  if st ≠ 1 ∧ st ≠ 2 then s.count p (4 * l + 2) 1
  else
    let s := ((s.postFld p o 26 2 3).postFld p o 20 4 cause).postFld p o 8 8 code
    let s := s.post p (o + 0x38) (BitVec.ofNat 32 (mid.toNat * 65536 + pc))
    let s := s.raiseBit p 1
    let s := s.report p p 0x16 5 (l * 4096 + cause * 256 + code)
    s.leaseEnds c l 6

/-- THREAD_FAULT: the thread enters STOPPED, its staged words are discarded and the fault is reported; a
lease thread's fault stops its lease (R379, R424, R445). -/
def State.thrFault (s : State) (c i code detail : Nat) : State :=
  let pc := (s.thr c i).pc
  let l := s.thrLease c i
  let s := s.thrPark c i 6
  let s := s.count (fcorePage c i) (4 * (i % 8) + 3) 1
  let s := s.report (fcorePage c i) (fcorePage c i) code 4 detail
  match l with
  | none => s
  | some l => s.leaseStop c l (if code = 0x4B then 8 else 1) code (thrMid c i) pc

/-- A unit refuses a lease's request: it counts toward the isolation alarm and stops the lease (R433). -/
def State.leaseRefuse (s : State) (c l cause code : Nat) (mid : Mid) : State :=
  (s.isoCount).leaseStop c l cause code mid (s.thr c (mid.toNat % 64)).pc

/-! ### Words that end (R415, R423, R435) -/

/-- The word of a thread is complete: the program counter moves on, STOP ends the work item, BARRIER holds the
thread, and a step halts it again. -/
def State.endWord (s : State) (c i : Nat) : State :=
  let x := s.thr c i
  let cyc := if x.st = 3 ∨ x.st = 4 then x.cycles + s.waited x else x.cycles
  let s := if x.st = 2 then s.count (fcorePage c i) (4 * (i % 8) + 1) (s.waited x)
    else if x.st = 3 then s.count (fcorePage c i) (4 * (i % 8) + 2) (s.waited x) else s
  let x := { x with cycles := cyc }
  if x.bar then
    let s := s.setThr c i { x with st := 4, wait := .barrier, since := s.clk }
    { s with barriers := s.barriers ++ [thrMid c i] }
  else
    let s := match x.stop, s.thrLease c i with
      | true, some l => s.count (cluPage c 10) (4 * l + 1) 1
      | _, _ => s
    s.setThr c i { x with
      st := if x.step then 5 else 1, pc := x.next, cycles := if x.stop then 0 else cyc,
      wait := .none, begun := false, ucalled := false, step := false, stop := false }

/-! ### Messages (R385–R388) -/

/-- CHS after a read (R386). -/
def chsOf (m : Msg) : Word :=
  BitVec.ofNat 64 (m.mid.toNat * 2 ^ 48 + m.src * 64 + (if m.err then 32 else 0) + (m.words.length - 1))

/-- Registers after words are written from g`d` on. -/
def putWords (g : List Word) (d : Nat) (ws : List Word) : List Word :=
  g.mapIdx fun i v => if d ≤ i ∧ i < d + ws.length then ws.getD (i - d) 0 else v

/-- A thread takes a message into its registers, and its word ends. -/
def State.takeMsg (s : State) (c i d : Nat) (m : Msg) : State :=
  let x := s.thr c i
  (s.setThr c i { x with g := putWords x.g d m.words, chs := chsOf m }).endWord c i

/-- Does a request have a reply: all but OPEN, FEED and FEED_MEM on a check channel (R391)? -/
def hasReply (kind : Nat) (ws : List Word) : Bool :=
  let op := (ws.headD 0).toNat / 2 ^ 56
  if kind = 2 then !(op == 1 || op == 2 || op == 3) else true

/-- Words of the usual reply of a request (R382, R388, R392). -/
def replyLen (kind : Nat) (ws : List Word) : Nat :=
  if kind = 2 ∨ kind = 5 then 2
  else if kind = 3 ∨ kind = 4 then 8
  else if kind = 6 then
    let w := (ws.headD 0).toNat
    if w / 2 ^ 56 = 1 then max 1 ((min 64 (w / 2 ^ 48 % 256) + 7) / 8) else 1
  else 1

/-- The page of the unit that a unit channel reaches. -/
def State.unitOf (s : State) (c n : Nat) : PageKey :=
  let r := c / 8
  match s.kind c n with
  | 2 => cluPage c 9
  | 3 => regPage r 0
  | 4 => regPage r 3
  | 5 => regPage r 2
  | _ => regPage r 3

/-- May a request be committed on a unit channel now: a slot for its reply, and room at the unit (R387,
R406)? -/
def State.unitRoom (s : State) (c n : Nat) (ws : List Word) : Bool :=
  (!hasReply (s.kind c n) ws || decide (0 < s.room c n)) &&
  (s.kind c n != 2 ||
    decide ((s.ureqs.filter fun r => r.cluster == c && s.kind c r.chan == 2 &&
      fld (s.bind c r.chan) 0 4 == fld (s.bind c n) 0 4).length < 4))

/-- Commit a message of `mid` on a local inbound or a unit channel that has room (R385, R387, R388). A fenced
unit answers with ones. -/
def State.commit (s : State) (c n : Nat) (mid : Mid) (ws : List Word) (lease : Option Nat) : State :=
  let s := s.chanCount c n 0 1
  let x := s.chan c n
  if s.kind c n = 1 then
    if s.chanStopped c n then s.count (regPage (c / 8) 14) (4 * (c % 8) + 1) 1
    else s.setChan c n { x with fifo := x.fifo ++ [{ words := ws, mid := mid }] }
  else
    let s := if hasReply (s.kind c n) ws then s.setChan c n { x with owed := x.owed + 1 } else s
    if s.isFenced (s.unitOf c n) then
      if hasReply (s.kind c n) ws then
        let ones := List.replicate (replyLen (s.kind c n) ws) (BitVec.allOnes 64)
        { s with ureps := s.ureps ++ [{ cluster := c, chan := n, err := true, words := ones }] }
      else s
    else { s with ureqs := s.ureqs ++ [{ cluster := c, chan := n, mid := mid, lease := lease, words := ws }] }

/-- Is there room for a commit of these words now? -/
def State.commitRoom (s : State) (c n : Nat) (ws : List Word) : Bool :=
  if s.kind c n = 1 then s.chanStopped c n || decide (0 < s.room c n) else s.unitRoom c n ws

/-- The staged words of a thread for a channel. -/
def Thread.stagedFor (x : Thread) (n : Nat) : List Word := (tabFind x.staged n).getD []

/-- Make a thread wait for a message (R386): it joins the back of the readers. -/
def State.waitRead (s : State) (c i n d : Nat) : State :=
  let x := s.thr c i
  let s := s.setThr c i { x with st := 2, wait := .read n d, since := s.clk }
  s.setChan c n { s.chan c n with readers := (s.chan c n).readers ++ [i] }

/-- A thread's commit is made: its staging slot is free, and its word ends or waits for the reply. -/
def State.committed (s : State) (c i n : Nat) (ucall : Option Nat) : State :=
  let x := s.thr c i
  let s := if x.st = 3 then s.count (fcorePage c i) (4 * (i % 8) + 2) (s.waited x) else s
  let x := { x with staged := tabErase x.staged n,
                    cycles := if x.st = 3 then x.cycles + s.waited x else x.cycles, st := 1 }
  let s := s.setThr c i x
  match ucall with
  | none => s.endWord c i
  | some d => s.waitRead c i n d

/-- One step of a channel: the head message goes to the thread that has read longest, or the thread that has
waited longest to commit commits. -/
def State.pumpOne (s : State) (c n : Nat) : Option State :=
  let x := s.chan c n
  match x.fifo, x.readers, x.writers with
  | m :: ms, i :: is, _ =>
    let s := (s.setChan c n { x with fifo := ms, readers := is }).chanCount c n 1 1
    match (s.thr c i).wait with
    | .read _ d => some (s.takeMsg c i d m)
    | _ => some s
  | _, _, i :: is =>
    let t := s.thr c i
    let ws := t.stagedFor n
    if s.commitRoom c n ws then
      let s := (s.setChan c n { x with writers := is }).commit c n (thrMid c i) ws (s.thrLease c i)
      match t.wait with
      | .commit _ u => some (s.committed c i n u)
      | _ => some s
    else none
  | _, _, _ => none

/-- Serve readers and writers of a channel as long as one can go on. -/
def State.pumpFuel (s : State) (c n : Nat) : Nat → State
  | 0 => s
  | k + 1 => match s.pumpOne c n with
    | none => s
    | some s => s.pumpFuel c n k

/-- Serve a channel. -/
def State.pump (s : State) (c n : Nat) : State :=
  s.pumpFuel c n ((s.chan c n).fifo.length + 3 * ((s.chan c n).readers.length + (s.chan c n).writers.length) + 1)

/-- A unit answers a request (R391): the reply waits for its slot; a dead one is discarded and counted. -/
def State.reply (s : State) (r : Ureq) (ws : List Word) (err : Bool) : State :=
  { s with ureps := s.ureps ++ [{ cluster := r.cluster, chan := r.chan, words := ws, err := err, dead := r.dead }] }

/-- A reply of one status word. -/
def State.replyStatus (s : State) (r : Ureq) (status rest : Nat) : State :=
  s.reply r [BitVec.ofNat 64 (status * 2 ^ 56 + rest)] false

/-- The oldest request of a channel at its unit. -/
def State.request (s : State) (c n : Nat) : Option Ureq := s.ureqs.find? fun r => r.cluster == c && r.chan == n

/-- The unit takes the request. -/
def State.dropRequest (s : State) (r : Ureq) : State := { s with ureqs := s.ureqs.erase r }

/-! ### The inbound queue (R395) -/

/-- The INQ page of a cluster's region. -/
def inqPage (c : Nat) : PageKey := regPage (c / 8) 14
/-- The inbound queue of a region. -/
def State.inQueue (s : State) (r : Nat) : List InMsg := tabGet [] s.inq r
/-- Store it and post the depths. -/
def State.setInQueue (s : State) (r : Nat) (l : List InMsg) : State :=
  let s := { s with inq := tabPut [] s.inq r l }
  let s := (List.range 8).foldl (fun s k => s.post (regPage r 14) (0x120 + 4 * k)
    (BitVec.ofNat 32 (l.filter fun m => m.cluster == r * 8 + k).length)) s
  s.post (regPage r 14) 0x140 (BitVec.ofNat 32 l.length)

/-- Is a cluster able to take messages: lit, not in reset? -/
def State.cluReady (s : State) (c : Nat) : Bool := s.litDom c && !s.inReset (cluPage c 0)

/-- Offer a message to an inbound channel (R395): delivered directly, queued, or not admitted (`none`). A
fenced cluster accepts and discards it (R388), and so does a stopped lease's channel (R437). -/
def State.offer (s : State) (c n : Nat) (m : Msg) : Option State :=
  if s.isFenced (cluPage c 0) then some (s.chanCount c n 3 1)
  else if s.chanStopped c n then some (s.count (inqPage c) (4 * (c % 8) + 1) 1)
  else
    let q := s.inQueue (c / 8)
    let behind := q.any fun x => x.cluster == c && x.chan == n
    let w := s.work c
    if s.cluReady c && !behind && decide (0 < s.room c n) then
      let x := w.chan c n
      some (((w.setChan c n { x with fifo := x.fifo ++ [m] }).chanCount c n 0 1).pump c n)
    else if (q.filter fun x => x.cluster == c).length < s.frFld (inqPage c) (0x100 + 4 * (c % 8)) 0 14 ∧
        q.length < 8192 then
      some ((w.setInQueue (c / 8) (q ++ [{ cluster := c, chan := n, msg := m }])).count (inqPage c) (4 * (c % 8)) 1)
    else none

/-- Give up a frame whose work message was not accepted. -/
def State.dropOwned (s : State) (k : Nat) : State :=
  match s.buf k with
  | none => s
  | some b => (s.setBuf k { b with owner := none, lease := none }).bufDone k

/-- WORK_MESSAGE: the 8 words of a steered frame go to an inbound channel of cluster `c`; refused, the frame is
dropped and counted (R394, R395). The buffer's present user becomes the cluster. -/
def State.workMsg (s : State) (c n : Nat) (prv : List Byte) (k : Nat) : State :=
  let ws := (List.range 8).map fun i =>
    BitVec.ofNat 64 (if i < 6 then leAt prv (8 * i) 8 else leAt prv (108 + 8 * (i - 6)) 8)
  let s := match s.buf k with
    | none => s
    | some b => s.setBuf k { b with owner := some c, lease := s.chanLease c n }
  let lost := fun (s : State) => (s.dropOwned k).count (inqPage c) (4 * (c % 8) + 1) 1
  if s.kind c n ≠ 1 ∨ !bit (s.bind c n) 25 then lost s
  else if s.isFenced (cluPage c 0) then (s.dropOwned k).chanCount c n 3 1
  else if s.chanStopped c n then lost s
  else match s.offer c n { words := ws, src := 1, frame := some k } with
    | some s => s
    | none => lost s

end Sys2Proof.Machine
end

