-- ==== Sys2Proof/Machine/Cipher.lean ====
section
/-! DEFINITION. Key contexts, blobs and invocations of the cipher blocks, and the cipher user commands
(R208–R240). -/
namespace Sys2Proof.Machine

/-- The CIPH page of a region. -/
def ciphPage (r : Nat) : PageKey := regPage r 2
/-- A key context. -/
def State.ctx (s : State) (c : Nat) : KeyCtx := tabGet {} s.ctxs c
/-- Store a context. -/
def State.setCtx (s : State) (c : Nat) (x : KeyCtx) : State := { s with ctxs := tabPut {} s.ctxs c x }
/-- Keys are zeroized since alarm level A3 (R235). -/
def State.eclipsed (s : State) : Bool := bit (s.rd secPage 0x104) 2
/-- Is the vault area of a context's die in use (R239)? -/
def State.vaultOn (s : State) (c : Nat) : Bool :=
  [0, 1, 2, 3].all fun q => bit (s.fr (ciphPage (c / 2 ^ 22 * 4 + q)) 0x104) 31

/-! ### Caches (R219, R220, R236) -/

/-- Contexts that a region holds. -/
def State.heldBy (s : State) (r : Nat) : List (Nat × KeyCtx) := s.ctxs.filter fun e => e.2.holder == some r
/-- Of them, the pinned ones. -/
def State.pinnedBy (s : State) (r : Nat) : Nat := ((s.heldBy r).filter fun e => e.2.pin).length
/-- CIPH_CACHE_STS and CIPH_PIN_STS. -/
def State.postCache (s : State) (r : Nat) : State :=
  (s.post (ciphPage r) 0x108 (BitVec.ofNat 32 (s.heldBy r).length)).post (ciphPage r) 0x10C
    (BitVec.ofNat 32 (s.pinnedBy r))

/-- Write a context back to the vault; one whose holder is fenced is lost there and marked EXHAUSTED
(R220, R236). -/
def State.ctxRelease (s : State) (c : Nat) : State :=
  let x := s.ctx c
  match x.holder with
  | none => s
  | some r =>
    let lost := s.isFenced (ciphPage r)
    (s.setCtx c { x with holder := none, st := if lost then 3 else x.st }).postCache r

/-- A context with PIN = 1 is not evicted while ACTIVE or SOFT. -/
def KeyCtx.stays (x : KeyCtx) : Bool := x.pin && (x.st == 1 || x.st == 2)

/-- Make room in a full cache: the lowest context that may leave is written back (R219; DESIGN CHOICE,
log entry 10). -/
def State.evict (s : State) (r : Nat) : State :=
  if (s.heldBy r).length < 65536 then s
  else match (s.heldBy r).find? fun e => !e.2.stays with
    | none => s
    | some e => s.ctxRelease e.1

/-- CONTEXT_FILL: the region takes a context that no region holds (R219). -/
def State.ctxFill (s : State) (r c : Nat) : State :=
  let s := (s.evict r).count (ciphPage r) 0x05 1
  (s.setCtx c { s.ctx c with holder := some r }).postCache r

/-- CONTEXT_MIGRATE: the holder writes the context back and the new region fills it (R220). -/
def State.ctxMigrate (s : State) (r c : Nat) : State :=
  let s := (s.ctxRelease c).count (ciphPage r) 0x06 1
  if (s.ctx c).st = 3 then s else s.ctxFill r c

/-- A region reset: every context that the region holds is written back and its cache cleared (R236). -/
def State.ciphReset (s : State) (r : Nat) : State :=
  ((s.heldBy r).foldl (fun s e => s.ctxRelease e.1) s).postCache r

/-- An uncorrectable error in a cached context: EXHAUSTED, and a fault against the cipher block (R236). -/
def State.ctxUe (s : State) (r c : Nat) : State :=
  (s.setCtx c { s.ctx c with st := 3 }).report (ciphPage r) (ciphPage r) 0x12 3 (c % 65536)

/-! ### Events (R226–R228, CU_EVT) -/

/-- Offset of the cipher user registers in a page: the CIPH page holds them 0x100 further on. -/
def cuBase (p : PageKey) : Nat := if pageType p = some .ciph then 0x100 else 0

/-- Is it a page with the cipher user registers? -/
def isCuPage (p : PageKey) : Bool := pageType p == some .cu || pageType p == some .ciph

/-- Region of a cipher user page: the home region of the endpoint, or the page's own. -/
def cuRegion (p : PageKey) : Nat := if isInst p then epRegion (instEp p) else regionIdx p

/-- The page that hears of a context, and the number it knows it by: the owner instance's, with the
instance-local handle, or the CIPH page of the region concerned (DESIGN CHOICE, log entry 11). -/
def State.evtPage (s : State) (r c : Nat) : PageKey × Nat :=
  let o := (s.ctx c).owner
  let p := instPage (fld o 16 5) (fld o 8 8) 2
  let b := (s.rd p 0x100).toNat
  if fld o 28 4 = 1 ∧ b ≤ c ∧ c < b + (s.rd p 0x104).toNat then (p, c - b) else (ciphPage r, c)

/-- Show the oldest event of a page and the count of events. -/
def State.postEvt (s : State) (p : PageKey) : State :=
  let l := tabGet [] s.cuEvts p
  let o := cuBase p
  let v := match l with
    | [] => 0
    | e :: _ => BitVec.ofNat 32 (0x80000000 + e.1 * 2 ^ 28 + e.2)
  (s.post p (o + 0x114) v).postFld p (o + 0x11C) 0 7 l.length

/-- The INT_RAW bit of EVENT. -/
def evtBit (p : PageKey) : Nat := if pageType p = some .ciph then 2 else 1

/-- Write a cipher event: 1 SOFT, 2 EXHAUSTED, 3 SWITCHED, 4 FREED; a full queue of 64 loses it. -/
def State.cuEvent (s : State) (r c kind : Nat) : State :=
  let t := s.evtPage r c
  let l := tabGet [] s.cuEvts t.1
  if 64 ≤ l.length then
    let s := s.postBit t.1 (cuBase t.1 + 0x11C) 31 true
    if pageType t.1 = some .cu then s.raiseBit t.1 2 else s
  else
    let s := { s with cuEvts := tabPut [] s.cuEvts t.1 (l ++ [(kind, t.2)]) }
    (s.postEvt t.1).raiseBit t.1 (evtBit t.1)

/-- A read of CU_EVT pops the oldest event. -/
def State.cuPop (s : State) (p : PageKey) : Reg × State :=
  let v := s.rd p (cuBase p + 0x114)
  let l := (tabGet [] s.cuEvts p).drop 1
  let s := ({ s with cuEvts := tabPut [] s.cuEvts p l }).postEvt p
  (v, if l.isEmpty then s.postBit p 0x010 (evtBit p) false else s)

/-! ### Invocations (R211–R231) -/

/-- Refusals of an invocation: by scope, protocol or pinning; of a context that may not be used; in
eclipse. -/
inductive Refused where
  | scope
  | spent
  | eclipse
  deriving DecidableEq, Repr

/-- The completion status of a refused invocation (R222, R227, R235). -/
def Refused.status : Refused → Nat
  | .scope => 0x07
  | .spent => 0x04
  | .eclipse => 0x0F

/-- Count a refusal in the region whose cipher block was asked. -/
def State.countRefused (s : State) (r : Nat) : Refused → State
  | .scope => s.count (ciphPage r) 0x04 1
  | .spent => s.count (ciphPage r) 0x03 1
  | .eclipse => s.count (ciphPage r) 0x0A 1

/-- A refusal by owner scope counts toward the isolation alarm too (R222). -/
def State.scopeRefused (s : State) (r : Nat) : State :=
  ((s.countRefused r .scope).bumpReg lbusPage 0x108 0 32).isoCount

/-- May a state be invoked (R227)? RESYNC is a TLS receive context's own affair. -/
def KeyCtx.usable (x : KeyCtx) : Bool := x.st == 1 || x.st == 2 || x.st == 5

/-- The context that an invocation of `c` runs on: itself, or for an encrypt its successor (R227). -/
def State.redirect (s : State) (r c : Nat) (enc : Bool) : Option Nat × State :=
  let x := s.ctx c
  if x.usable then (some c, s)
  else match x.next with
    | none => (none, s)
    | some n =>
      if enc ∧ ((s.ctx n).st = 1 ∨ (s.ctx n).st = 2) then
        (some n, if x.switched then s else (s.setCtx c { x with switched := true }).cuEvent r c 3)
      else (none, s)

/-- Bring a context into a region's cache: refused when another region holds it pinned (R219, R220). -/
def State.ctxHold (s : State) (r c : Nat) : Bool × State :=
  match (s.ctx c).holder with
  | none => (true, s.ctxFill r c)
  | some h =>
    if h = r then (true, s)
    else if (s.ctx c).pin then (false, s)
    else (true, s.ctxMigrate r c)

/-- Start an invocation in region `r` of context `c` (R220, R226, R227, R235, R239): the context it runs on, or
why it is refused; it has counted against USAGE. -/
def State.ctxStart (s : State) (r c : Nat) (enc : Bool) : (Refused ⊕ Nat) × State :=
  if s.eclipsed then (.inl .eclipse, s.countRefused r .eclipse)
  else if !s.vaultOn c then (.inl .spent, s.countRefused r .spent)
  else match s.redirect r c enc with
    | (none, s) => (.inl .spent, s.countRefused r .spent)
    | (some n, s) =>
      if !s.vaultOn n then (.inl .spent, s.countRefused r .spent)
      else
        let h := s.ctxHold r n
        let s := h.2
        let x := s.ctx n
        if !h.1 then (.inl .scope, s.countRefused r .scope)
        else if x.st = 3 ∨ x.limit ≤ x.usage then (.inl .spent, s.countRefused r .spent)
        else
          let u := x.usage + 1
          let soft := x.st == 1 && u == x.soft
          let last := u == x.limit
          let s := s.setCtx n { x with usage := u, st := if last then 3 else if soft then 2 else x.st }
          let s := if soft then s.cuEvent r n 1 else s
          let s := if last then s.cuEvent r n 2 else s
          (.inr n, s.count (ciphPage r) 0x00 1)

/-- Does the algorithm belong to the protocol (R214)? -/
def algFits (proto alg : Nat) : Bool :=
  match proto with
  | 1 => alg == 2
  | 2 | 3 | 4 | 6 => alg == 1 || alg == 2 || alg == 3
  | 5 => alg == 4
  | 7 => alg == 5
  | _ => false

/-- Bits of the key of an algorithm. -/
def keyBits (alg : Nat) : Nat :=
  match alg with
  | 1 => 128
  | 2 | 3 => 256
  | 4 => 512
  | _ => 384

/-- The key of a context: its own, or derived at the fill from its root (R225). -/
def State.ctxKey (s : State) (c : Nat) : List Byte :=
  let x := s.ctx c
  if x.derived then
    let rt := s.ctx (x.root.getD 0)
    deriveKey (rt.key.take 48) rt.label x.dctx (keyBits x.alg)
  else x.key.take (keyBits x.alg / 8)

/-- PSTATE.FLAGS bit 0 of MACsec (byte 21) and ESP (byte 12): a receive context (R218). -/
def KeyCtx.receive (x : KeyCtx) : Bool :=
  if x.proto = 1 then leAt x.pstate 21 1 % 2 == 1 else if x.proto = 2 then leAt x.pstate 12 1 % 2 == 1
  else x.proto == 4

/-- 64-bit numbers: MACsec XPN, ESP ESN. -/
def KeyCtx.wide (x : KeyCtx) : Bool :=
  if x.proto = 1 then (leAt x.pstate 21 1).testBit 1 else (leAt x.pstate 12 1).testBit 2

/-- Place of the number in PSTATE. -/
def KeyCtx.numOff (x : KeyCtx) : Nat := if x.proto = 1 then 8 else 4
/-- PN or SEQ. -/
def KeyCtx.number (x : KeyCtx) : Nat := leAt x.pstate x.numOff 8
/-- Set PN or SEQ. -/
def KeyCtx.setNumber (x : KeyCtx) (n : Nat) : KeyCtx :=
  { x with pstate := overlay x.pstate x.numOff (leBytes 8 n) }
/-- Replay window. -/
def KeyCtx.window (x : KeyCtx) : Nat := if x.proto = 1 then leAt x.pstate 24 2 else leAt x.pstate 14 2

/-- Assign the next packet number of a transmit context; the last one makes it EXHAUSTED (R212, R226). -/
def State.ctxNumber (s : State) (r c : Nat) : Nat × State :=
  let x := s.ctx c
  let n := x.number
  let last := n == (if x.wide then 2 ^ 64 - 1 else 2 ^ 32 - 1)
  let y := x.setNumber ((n + 1) % 2 ^ 64)
  if last then
    (n, (s.setCtx c { y with st := 3 }).cuEvent r c 2)
  else (n, s.setCtx c y)

/-- The full number of a received frame from its low 32 bits (IEEE 802.1AE for XPN, RFC 4303 for ESN). -/
def KeyCtx.fullNumber (x : KeyCtx) (low : Nat) : Nat :=
  if !x.wide then low
  else
    let t := x.number
    let hi := t / 2 ^ 32
    let lo := t % 2 ^ 32
    if x.proto = 1 then
      (if 2 ^ 31 ≤ lo ∧ low < 2 ^ 31 then hi + 1 else hi) * 2 ^ 32 + low
    else
      let w := max 1 x.window
      if w - 1 ≤ lo then (if lo - (w - 1) ≤ low then hi else hi + 1) * 2 ^ 32 + low
      else (if lo + 2 ^ 32 - (w - 1) ≤ low then hi - 1 else hi) * 2 ^ 32 + low

/-- Is the number below the window, or marked (R231)? MACsec keeps the lowest acceptable number, ESP the
highest received. -/
def KeyCtx.replayed (x : KeyCtx) (n : Nat) : Bool :=
  let below := if x.proto = 1 then decide (n < x.number)
    else decide (n ≤ x.number) && decide (x.window ≤ x.number - n)
  below || (x.replay.getLsbD (n % 512) &&
    (if x.proto = 1 then decide (n < x.number + 512) else decide (n ≤ x.number)))

/-- Clear the marks of `k` numbers from `a` on. -/
def clearMarks (m : BitVec 512) (a k : Nat) : BitVec 512 :=
  if 512 ≤ k then 0
  else (List.range k).foldl (fun m i => m &&& ~~~(BitVec.ofNat 512 (2 ^ ((a + i) % 512)))) m

/-- The second replay check's update: mark the number and move the window (R231). -/
def KeyCtx.accept (x : KeyCtx) (n : Nat) : KeyCtx :=
  let b := BitVec.ofNat 512 (2 ^ (n % 512))
  let t := x.number
  if x.proto = 1 then
    let l := max t (n + 1 - x.window)
    { (x.setNumber l) with replay := clearMarks (x.replay ||| b) t (l - t) }
  else if n ≤ t then { x with replay := x.replay ||| b }
  else { (x.setNumber n) with replay := clearMarks x.replay (t + 1) (n - t) ||| b }

/-- The verdict of a decrypt (TAG_VERDICT): a good tag and a fresh number accept the frame and move the window;
anything else is a failed verdict, counted as a tag failure (R229–R231). -/
def State.verdict (s : State) (k : Check) : Bool × State :=
  let x := s.ctx k.ctx
  if k.good ∧ !x.replayed k.number then (true, s.setCtx k.ctx (x.accept k.number))
  else (false, s.count (ciphPage k.region) 0x01 1)

/-- Run a MACsec or ESP decrypt: the check that is owed, and the frame as it is released. -/
def State.ctxOpen (s : State) (r c number : Nat) (bytes : List Byte) : Check × List Byte :=
  let x := s.ctx c
  let k := s.ctxKey c
  ({ ctx := c, region := r, number := number, good := Config.frameTagOk x.proto x.alg k x.salt x.pstate number bytes },
   Config.frameText x.proto x.alg k x.salt x.pstate number bytes)

/-- Run a MACsec or ESP encrypt of a frame at dequeue: it takes the next number (R212). -/
def State.ctxSeal (s : State) (r c : Nat) (bytes : List Byte) : List Byte × State :=
  let x := s.ctx c
  let k := s.ctxKey c
  let n := s.ctxNumber r c
  (Config.frameSeal x.proto x.alg k x.salt x.pstate n.1 bytes, n.2)

/-! ### Owners (R221, R222) -/

/-- The owner scope of an instance. -/
def instScope (e f : Nat) : Reg := BitVec.ofNat 32 (0x10000000 + e * 65536 + f * 256)
/-- The owner scope of a lease. -/
def leaseScope (c l : Nat) : Reg := BitVec.ofNat 32 (0x20000000 + c * 65536 + l)

/-- May a pipeline invocation use a context: an operator's, or that of the function which sent the frame or
receives it (R222)? -/
def scopeAdmits (owner : Reg) (src : Nat) (dest : Option (Nat × Nat)) : Bool :=
  let k := fld owner 28 4
  if k = 0 then true
  else if k = 1 then
    let e := fld owner 16 5
    let f := fld owner 8 8
    decide (src = 0x8000 + e * 256 + f) || dest == some (e, f)
  else false

/-! ### Key blobs (R223, R224) -/

/-- Blob bytes of a cipher user page. -/
def State.cuBytes (s : State) (p : PageKey) (off n : Nat) : List Byte :=
  (List.range n).flatMap fun i => leBytes 4 (s.fr p (cuBase p + off + 4 * i)).toNat

/-- Store bytes into registers of a cipher user page. -/
def State.putCuBytes (s : State) (p : PageKey) (off : Nat) (b : List Byte) : State :=
  (List.range (b.length / 4)).foldl
    (fun s i => s.postBoth p (cuBase p + off + 4 * i) (BitVec.ofNat 32 (leAt b (4 * i) 4))) s

/-- Wrap a key under the KEK with a fresh nonce (R223, R224). -/
def wrapBlob (kek : BitVec 256) (hdr key nonce : List Byte) : List Byte :=
  let aad := overlay (slice hdr 0 48) 16 nonce
  aad ++ gcmText kek nonce (slice key 0 64) ++
    slice (Config.gcmTag kek nonce aad (slice key 0 64)) 0 16

/-- Is the header of a blob legal for the protocol asked for (R223, R224)? -/
def blobHdrOk (b : List Byte) (proto : Nat) : Bool :=
  let alg := leAt b 1 1
  let use := leAt b 2 1
  let kind := leAt b 12 4 / 2 ^ 28
  leAt b 0 1 == 1 && decide (1 ≤ alg) && decide (alg ≤ 5) && decide (leAt b 4 2 * 8 = keyBits alg) &&
    (if proto = 7 then use == 2 else use == 1) && decide (kind ≤ 2)

/-- Unwrap a blob: its key of 64 bytes, or none for BAD_BLOB (R224). -/
def State.unwrapBlob (s : State) (b : List Byte) (proto : Nat) : Option (List Byte) :=
  if !blobHdrOk b proto then none
  else match s.sec.kek with
    | none => none
    | some k =>
      match gcmOpen k (slice b 16 12) (slice b 0 48) (slice b 48 64) (slice b 112 16) with
      | none => none
      | some key => if (key.drop (leAt b 4 2)).all (· == 0) then some (slice key 0 64) else none

/-- A 48-bit limit field as a number of invocations. -/
def limitOf (v : Nat) : Nat := if v = 0 then 2 ^ 48 else v

/-! ### Commands (R235–R238) -/

/-- End a command with its result: CU_KEY clears and CMD_DONE is raised. -/
def State.cuDone (s : State) (p : PageKey) (res : Nat) : State :=
  let s := s.putCuBytes p 0x1C0 (zeros 64)
  let s := s.post p (cuBase p + 0x10C) (BitVec.ofNat 32 (0x40000000 + res))
  s.raiseBit p (if pageType p = some .ciph then 1 else 0)

/-- The context that a handle of a page names (R222, R228). -/
def State.cuCtx (s : State) (p : PageKey) (h : Nat) : Option Nat :=
  if pageType p = some .ciph then some h
  else if h < (s.rd p 0x104).toNat then some (((s.rd p 0x100).toNat + h) % 2 ^ 24) else none

/-- The page's own scope; the CIPH page may load any. -/
def cuScopeOk (p : PageKey) (owner : Reg) : Bool :=
  pageType p == some .ciph || owner == instScope (instEp p) (instFn p)

/-- IMPORT and GENERATE: wrap a key under the header in CU_BLOB (R224, R237). -/
def State.cuWrap (s : State) (p : PageKey) (random : Bool) : State :=
  match s.sec.kek with
  | none => s.cuDone p 5
  | some k =>
    let h := s.cuBytes p 0x140 12
    let h := if isInst p then overlay h 12 (leBytes 4 (instScope (instEp p) (instFn p)).toNat) else h
    let n := s.draw
    let a := n.2.draw
    let b := a.2.draw
    let key := if random then
        padTo ((leBytes 32 (Config.random256 a.1).toNat ++ leBytes 32 (Config.random256 b.1).toNat).take
          (leAt h 4 2)) 64
      else s.cuBytes p 0x1C0 16
    let s := if random then b.2 else n.2
    (s.putCuBytes p 0x140 (wrapBlob k h key (leBytes 12 (Config.random256 n.1).toNat))).cuDone p 0

/-- Count one invocation against a root (R225, R226). -/
def State.chargeRoot (s : State) (r c : Nat) : State :=
  let x := s.ctx c
  let u := x.usage + 1
  let soft := x.st == 1 && u == x.soft
  let last := u == x.limit
  let s := s.setCtx c { x with usage := u, st := if last then 3 else if soft then 2 else x.st }
  let s := if soft then s.cuEvent r c 1 else s
  if last then s.cuEvent r c 2 else s

/-- LOAD into context `c` (R224, R225). -/
def State.cuLoad (s : State) (p : PageKey) (c : Nat) : State :=
  let o := cuBase p
  let ctl := s.fr p (o + 0x118)
  let proto := fld ctl 24 4
  let blob := s.cuBytes p 0x140 32
  let derive := bit ctl 22
  let owner : Reg := BitVec.ofNat 32 (leAt blob 12 4)
  let r := cuRegion p
  if proto = 0 ∨ 7 < proto then s.cuDone p 6
  else
    let key : Option (List Byte) :=
      if derive then (if blobHdrOk blob proto && proto != 7 then some [] else none) else s.unwrapBlob blob proto
    match key with
    | none => s.cuDone p 2
    | some key =>
      if !cuScopeOk p owner then s.cuDone p 3
      else if (s.ctx c).st ≠ 0 then s.cuDone p 4
      else
        let root := s.cuCtx p (fld (s.fr p (o + 0x110)) 0 24)
        let rx := (root.map s.ctx).getD {}
        if derive ∧ root.isNone then s.cuDone p 1
        else if derive ∧ ¬(rx.proto = 7 ∧ (rx.st = 1 ∨ rx.st = 2) ∧ rx.owner = owner ∧ rx.usage < rx.limit) then
          s.cuDone p 8
        else if bit ctl 23 ∧ 4096 ≤ s.pinnedBy r then s.cuDone p 7
        else
          let lim := min (limitOf (leAt blob 6 6))
            (limitOf ((s.fr p (o + 0x120)).toNat + 2 ^ 32 * fld (s.fr p (o + 0x124)) 0 16))
          let soft := (s.fr p (o + 0x128)).toNat + 2 ^ 32 * fld (s.fr p (o + 0x12C)) 0 16
          let s := if derive then s.chargeRoot r (root.getD 0) else s
          let s := s.setCtx c
            { st := 1, proto := proto, alg := leAt blob 1 1, pin := bit ctl 23, derived := derive, owner := owner
              limit := lim, soft := if soft = 0 then lim - lim / 16 else soft
              root := if derive then root else none
              dctx := s.cuBytes p 0x240 4, salt := s.cuBytes p 0x250 3, pstate := s.cuBytes p 0x200 16
              key := key, label := slice blob 28 20 }
          let s := if bit ctl 23 then s.ctxFill r c else s
          s.cuDone p 0

/-- SET_NEXT (R228, R237). -/
def State.cuSetNext (s : State) (p : PageKey) (h c : Nat) : State :=
  let a := fld (s.fr p (cuBase p + 0x110)) 0 24
  match s.cuCtx p a with
  | none => s.cuDone p 1
  | some n =>
    if a = h then (s.setCtx c { s.ctx c with next := none }).cuDone p 0
    else if (s.ctx n).owner ≠ (s.ctx c).owner then s.cuDone p 1
    else (s.setCtx c { s.ctx c with next := some n, switched := false }).cuDone p 0

/-- RETIRE (R228); a FREE context has nothing to retire and stays FREE. -/
def State.cuRetire (s : State) (p : PageKey) (c : Nat) : State :=
  let x := s.ctx c
  (if x.st = 0 then s else s.setCtx c { x with st := 4 }).cuDone p 0

/-- QUERY (R237). -/
def State.cuQuery (s : State) (p : PageKey) (c : Nat) : State :=
  let x := s.ctx c
  let o := cuBase p
  let s := s.post p (o + 0x130) (BitVec.ofNat 32 x.usage)
  let s := s.post p (o + 0x134) (BitVec.ofNat 32 (x.st * 2 ^ 28 + x.usage / 2 ^ 32 % 65536))
  (s.putCuBytes p 0x200 (slice x.pstate 0 64)).cuDone p 0

/-- RESYNC of a TLS receive context; another context completes with BAD_PARAM (R215, R237). -/
def State.cuResync (s : State) (p : PageKey) (c : Nat) : State :=
  let x := s.ctx c
  if x.proto ≠ 4 ∨ (x.st ≠ 5 ∧ x.st ≠ 1 ∧ x.st ≠ 2) then s.cuDone p 6
  else
    let ps := overlay (overlay x.pstate 0 ((s.cuBytes p 0x200 16).take 12)) 12 (zeros 4)
    let st := if x.st ≠ 5 then x.st else if x.soft ≤ x.usage then 2 else 1
    (s.setCtx c { x with st := st, pstate := ps, record := [] }).cuDone p 0

/-- GO of CU_CMD: run its command (R235, R237, R238). -/
def State.cuRun (s : State) (p : PageKey) : State :=
  let o := cuBase p
  let cmd := s.fr p (o + 0x108)
  let op := fld cmd 24 7
  let h := fld cmd 0 24
  let s := (s.post p (o + 0x108) (setBit (s.rd p (o + 0x108)) 31 false)).postBit p (o + 0x10C) 30 false
  let s := s.setFast p (o + 0x108) (setBit cmd 31 false)
  if 2 ≤ s.alarmLevel ∧ op ≠ 5 ∧ op ≠ 6 then s.cuDone p 5
  else if op = 1 then s.cuWrap p false
  else if op = 2 then s.cuWrap p true
  else if op = 0 ∨ 7 < op then s.cuDone p 6
  else match s.cuCtx p h with
    | none => s.cuDone p 1
    | some c =>
      if op = 3 then s.cuLoad p c
      else if op = 4 then s.cuSetNext p h c
      else if op = 5 then s.cuRetire p c
      else if op = 6 then s.cuQuery p c
      else s.cuResync p c

/-- A write of CU_CMD: GO starts a command; while one is BUSY it is ignored and counted (R237, R241). -/
def State.cuWrite (s : State) (mid : Mid) (p : PageKey) (v : Reg) : State :=
  let o := cuBase p + 0x108
  s.accessWrite mid p o fun s =>
    if bit v 31 && bit (s.rd p (o + 4)) 31 then
      let r := if isInst p then epRegion (instEp p) else regionIdx p
      ((s.stamp p).count (ciphPage r) 0x09 1).applied p
    else
      let s := s.ferryWrite mid p o v fun s => if bit v 31 then s.cuRun p else s
      if bit v 31 && s.ferry.any (fun w => w.page == p && w.off == o) then s.postBit p (o + 4) 31 true else s

/-- A write of CU_CMD with GO and an OP. -/
def State.cuGo (s : State) (mid : Mid) (p : PageKey) (op : Nat) (h : BitVec 24) : State :=
  if !isCuPage p then s else s.cuWrite mid p (BitVec.ofNat 32 (0x80000000 + op * 2 ^ 24 + h.toNat))

/-- IMPORT wraps the plaintext key in CU_KEY into a blob (R224, R237). -/
def execImport (mid : Mid) (p : PageKey) (h : BitVec 24) (s : State) : Host.Outcome State Fault Refusal :=
  .next (s.cuGo mid p 1 h)

/-- GENERATE wraps a random key into a blob (R224, R237). -/
def execGenerate (mid : Mid) (p : PageKey) (h : BitVec 24) (s : State) : Host.Outcome State Fault Refusal :=
  .next (s.cuGo mid p 2 h)

/-- LOAD (R224, R225). -/
def execCuLoad (mid : Mid) (p : PageKey) (h : BitVec 24) (s : State) : Host.Outcome State Fault Refusal :=
  .next (s.cuGo mid p 3 h)

/-- SET_NEXT (R228, R237). -/
def execSetNext (mid : Mid) (p : PageKey) (h : BitVec 24) (s : State) : Host.Outcome State Fault Refusal :=
  .next (s.cuGo mid p 4 h)

/-- RETIRE (R228). -/
def execRetire (mid : Mid) (p : PageKey) (h : BitVec 24) (s : State) : Host.Outcome State Fault Refusal :=
  .next (s.cuGo mid p 5 h)

/-- QUERY (R237). -/
def execQuery (mid : Mid) (p : PageKey) (h : BitVec 24) (s : State) : Host.Outcome State Fault Refusal :=
  .next (s.cuGo mid p 6 h)

/-- RESYNC (R215, R237). -/
def execResync (mid : Mid) (p : PageKey) (h : BitVec 24) (s : State) : Host.Outcome State Fault Refusal :=
  .next (s.cuGo mid p 7 h)

/-- Is an invocation of the context in flight: a decrypt whose verdict is owed? -/
def State.ctxBusy (s : State) (c : Nat) : Bool := s.hdrs.any fun h => h.checks.any fun k => k.ctx == c

/-- CONTEXT_FREED: a retired context with no invocation in flight is written back, becomes FREE and its
page gets a FREED event (R228). -/
def execContextFreed (c : BitVec 24) (s : State) : Host.Outcome State Fault Refusal :=
  let x := s.ctx c.toNat
  if x.st = 4 ∧ !s.ctxBusy c.toNat then
    let r := x.holder.getD (c.toNat / 2 ^ 22 * 4)
    let s := s.cuEvent r c.toNat 4
    let s := s.setCtx c.toNat {}
    .next (match x.holder with
      | none => s
      | some h => s.postCache h)
  else .next s

/-- CONTEXT_FILL: region `r` fills a context that no region holds (R219). -/
def execContextFill (r : Fin 16) (c : BitVec 24) (s : State) : Host.Outcome State Fault Refusal :=
  if !s.eclipsed ∧ s.vaultOn c.toNat ∧ (s.ctx c.toNat).usable ∧ (s.ctx c.toNat).holder = none then
    .next (s.ctxFill r c.toNat)
  else .next s

/-- CONTEXT_MIGRATE: region `r` takes over a context that another region holds and that is not pinned
(R220). -/
def execContextMigrate (r : Fin 16) (c : BitVec 24) (s : State) : Host.Outcome State Fault Refusal :=
  let x := s.ctx c.toNat
  if !s.eclipsed ∧ s.vaultOn c.toNat ∧ x.usable ∧ x.holder.isSome ∧ x.holder ≠ some r.val ∧ !x.pin then
    .next (s.ctxMigrate r c.toNat)
  else .next s

/-- CU_EVT_POP: a read of CU_EVT (R237). -/
def execCuEvtPop (mid : Mid) (p : PageKey) (s : State) : Host.Outcome State Fault Refusal :=
  if isCuPage p then .next (s.accessRead mid p (cuBase p + 0x114) fun s => s.cuPop p) else .next s

end Sys2Proof.Machine
end

