-- ==== Sys2Proof/Machine/Editor.lean ====
section
/-! DEFINITION. The pipeline's editor: decapsulation, rewrites, encapsulation and checksum work on the
bytes of a frame (R194–R198). -/
namespace Sys2Proof.Machine

/-- A frame under edit: the places of the headers of the current parse that are still there. -/
structure Ed where
  b : List Byte
  /-- Ethernet headers, outer and inner, and their tag counts -/
  eo : Option Nat := some 0
  ei : Option Nat := none
  no : Nat := 0
  ni : Nat := 0
  /-- L3 headers and types (1 IPv4, 2 IPv6) -/
  l3o : Option Nat := none
  l3i : Option Nat := none
  to_ : Nat := 0
  ti : Nat := 0
  /-- L4 headers and types (1 TCP, 2 UDP) -/
  l4o : Option Nat := none
  l4i : Option Nat := none
  t4o : Nat := 0
  t4i : Nat := 0
  deriving DecidableEq, Repr

/-- The L3 places of a parse: ARP and PTP are no L3 header here. -/
def Ed.start (b : List Byte) (p : Parsed) : Ed :=
  { b := b, ei := p.oIL2, no := p.tags, ni := p.iTags
    l3o := if p.tL3 ≤ 2 then p.oL3 else none, l3i := p.oIL3, to_ := p.tL3, ti := p.tIL3
    l4o := p.oL4, l4i := p.oIL4, t4o := p.tL4, t4i := p.tIL4 }

/-- Replace `n` bytes at `o` by `new`. -/
def splice (b : List Byte) (o n : Nat) (new : List Byte) : List Byte := b.take o ++ new ++ b.drop (o + n)

/-- Move a place at or behind `o` by `add − sub`. -/
def movePlace (o add sub : Nat) (x : Option Nat) : Option Nat :=
  x.map fun v => if o ≤ v then v + add - sub else v

/-- Move every place at or behind `o`. -/
def Ed.move (e : Ed) (o add sub : Nat) : Ed :=
  let m := movePlace o add sub
  { e with eo := m e.eo, ei := m e.ei, l3o := m e.l3o, l3i := m e.l3i, l4o := m e.l4o, l4i := m e.l4i }

/-- The innermost L3 header, or the outer one: place and type. -/
def Ed.l3 (e : Ed) (outer : Bool) : Option (Nat × Nat) :=
  match outer, e.l3i with
  | false, some o => some (o, e.ti)
  | _, _ => e.l3o.map fun o => (o, e.to_)

/-- Incremental update of a 16-bit ones-complement checksum at `c` for the word at `o` (R195). -/
def csumFix (b : List Byte) (c old new : Nat) : List Byte :=
  let hc := beAt b c 2
  let x := (65535 - hc) + (65535 - old) + new
  let x := x % 65536 + x / 65536
  let x := x % 65536 + x / 65536
  overlay b c (beBytes 2 (65535 - x))

/-- TTL or hop limit of an L3 header. -/
def ttlAt (b : List Byte) (o t : Nat) : Nat := if t = 1 then byteAt b (o + 8) else byteAt b (o + 7)

/-- DSCP and ECN byte of an L3 header. -/
def tosAt (b : List Byte) (o t : Nat) : Nat :=
  if t = 1 then byteAt b (o + 1) else beAt b o 2 / 16 % 256

/-- Write the DSCP and ECN byte, with the checksum of IPv4. -/
def setTos (b : List Byte) (o t v : Nat) : List Byte :=
  if t = 1 then
    let w := beAt b o 2
    csumFix (overlay b (o + 1) (beBytes 1 v)) (o + 10) w (w / 256 * 256 + v)
  else
    let w := beAt b o 2
    overlay b o (beBytes 2 (w / 4096 * 4096 + v * 16 + w % 16))

/-- Apply one recorded edit (R187, R195); one whose target is absent or was removed is void. -/
def Ed.edit (e : Ed) (x : Edit) : Ed :=
  let eth := fun (inner : Bool) => if inner then e.ei else e.eo
  match x with
  | .dmac inner m => match eth inner with
    | some o => { e with b := overlay e.b o (beBytes 6 m) }
    | none => e
  | .smac inner m => match eth inner with
    | some o => { e with b := overlay e.b (o + 6) (beBytes 6 m) }
    | none => e
  | .push inner stag tci => match eth inner with
    | some o =>
      if 2 ≤ (if inner then e.ni else e.no) then e
      else
        let e' := { e with b := splice e.b (o + 12) 0 (beBytes 2 (if stag then 0x88A8 else 0x8100) ++ beBytes 2 tci) }
        let e' := e'.move (o + 12) 4 0
        if inner then { e' with ni := e.ni + 1 } else { e' with no := e.no + 1 }
    | none => e
  | .pop inner => match eth inner with
    | some o =>
      if (if inner then e.ni else e.no) = 0 then e
      else
        let e' := ({ e with b := splice e.b (o + 12) 4 [] }).move (o + 13) 0 4
        if inner then { e' with ni := e.ni - 1 } else { e' with no := e.no - 1 }
    | none => e
  | .vset inner setPcp pcp vid => match eth inner with
    | some o =>
      if (if inner then e.ni else e.no) = 0 then e
      else
        let t := beAt e.b (o + 14) 2
        let t := t / 4096 * 4096 + vid
        let t := if setPcp then t % 8192 + pcp * 8192 else t
        { e with b := overlay e.b (o + 14) (beBytes 2 t) }
    | none => e
  | .ttl outer _ => match e.l3 outer with
    | some (o, t) =>
      let v := ttlAt e.b o t
      if t = 1 then
        let w := beAt e.b (o + 8) 2
        { e with b := csumFix (overlay e.b (o + 8) (beBytes 1 (v - 1))) (o + 10) w (w - 256) }
      else { e with b := overlay e.b (o + 7) (beBytes 1 (v - 1)) }
    | none => e
  | .dscp outer d => match e.l3 outer with
    | some (o, t) => { e with b := setTos e.b o t (d * 4 + tosAt e.b o t % 4) }
    | none => e

/-- Has DECAP a tunnel whose inner part was parsed (R198)? -/
def decapOk (p : Parsed) : Bool := p.tTun != 0 && (p.oIL2.isSome || p.oIL3.isSome)

/-- ECN of an outer and an inner header combined under RFC 6040 normal mode: the inner ECN, or none for a
drop (R198). -/
def ecnCombine (outer inner : Nat) : Option Nat :=
  if outer = 3 then (if inner = 0 then none else some 3) else some inner

/-- DECAP (R198): none for the ECN drop. -/
def Ed.decap (e : Ed) : Option Ed :=
  let ecn : Option (List Byte) :=
    match e.l3o, e.l3i with
    | some o, some i =>
      (ecnCombine (tosAt e.b o e.to_ % 4) (tosAt e.b i e.ti % 4)).map fun v =>
        if v = tosAt e.b i e.ti % 4 then e.b else setTos e.b i e.ti (tosAt e.b i e.ti / 4 * 4 + v)
    | _, _ => some e.b
  match ecn with
  | none => none
  | some b =>
    match e.ei with
    | some o =>
      let m := fun (x : Option Nat) => x.map fun v => v - o
      some { b := b.drop o, eo := none, ei := some 0, no := 0, ni := e.ni
             l3o := none, l3i := m e.l3i, to_ := 0, ti := e.ti, l4o := none, l4i := m e.l4i
             t4o := 0, t4i := e.t4i }
    | none =>
      match e.l3o, e.l3i with
      | some o, some i =>
        let et := if e.ti = 1 then 0x0800 else 0x86DD
        let m := fun (x : Option Nat) => x.map fun v => v - (i - o)
        some { b := overlay (b.take o) (o - 2) (beBytes 2 et) ++ b.drop i
               eo := e.eo, ei := none, no := e.no, ni := 0
               l3o := none, l3i := m e.l3i, to_ := 0, ti := e.ti, l4o := none, l4i := m e.l4i
               t4o := 0, t4i := e.t4i }
      | _, _ => some { e with b := b }

/-! ### Encapsulation (R196, R197) -/

/-- A template read from its lines. -/
structure Tpl where
  len : Nat
  type : Nat
  flags : Nat
  l3 : Nat
  l4 : Nat
  tun : Nat
  hdr : List Byte
  deriving DecidableEq, Repr

/-- Bytes of an IP header of the template: 20 or 40. -/
def Tpl.ipLen (t : Tpl) : Nat := if byteAt t.hdr t.l3 / 16 = 6 then 40 else 20

/-- Flag `i` of the template. -/
def Tpl.flag (t : Tpl) (i : Nat) : Bool := t.flags.testBit i

/-- GRE flags of the template's GRE header: C, K, S. -/
def Tpl.gre (t : Tpl) : Nat := beAt t.hdr t.tun 2

/-- Read and check a template from its bytes (R196): none when it breaks the table. -/
def readTpl (b : List Byte) : Option Tpl :=
  let t : Tpl := { len := leAt b 0 2, type := leAt b 2 1, flags := leAt b 3 1, l3 := leAt b 4 2,
                   l4 := leAt b 6 2, tun := leAt b 8 2, hdr := slice b 16 (leAt b 0 2) }
  let h := t.hdr
  let tag := fun (o : Nat) => beAt h o 2 == 0x8100 || beAt h o 2 == 0x88A8
  let eth := if !tag 12 then 14 else if !tag 16 then 18 else 22
  let v := byteAt h t.l3 / 16
  let ipOk := (v == 4 && byteAt h t.l3 == 0x45 && beAt h (t.l3 - 2) 2 == 0x0800) ||
    (v == 6 && beAt h (t.l3 - 2) 2 == 0x86DD)
  let l3end := t.l3 + t.ipLen
  let proto := if v = 4 then byteAt h (t.l3 + 9) else byteAt h (t.l3 + 6)
  let c := if t.gre.testBit 15 then 4 else 0
  let k := if t.gre.testBit 13 then 4 else 0
  let n := if t.gre.testBit 12 then 4 else 0
  let shape :=
    if t.type = 1 then t.l4 == l3end && t.tun == t.l4 + 8 && t.len == t.tun + 8 && proto == 17 &&
      (byteAt h t.tun).testBit 3
    else if t.type = 2 then t.l4 == l3end && t.tun == t.l4 + 8 && proto == 17 &&
      byteAt h t.tun / 64 == 0 && t.len == t.tun + 8 + 4 * (byteAt h t.tun % 64) && beAt h (t.tun + 2) 2 == 0x6558
    else if t.type = 3 then t.l4 == 0xFFFF && t.tun == l3end && proto == 47 && t.gre &&& 0x4FFF == 0 &&
      t.len == t.tun + 4 + c + k + n && (!t.flag 4 || c == 4) && (!t.flag 5 || n == 4) &&
      (!t.flag 6 || beAt h (t.tun + 2) 2 == 0x6558)
    else t.type == 4 && t.l4 == 0xFFFF && t.tun == t.len && t.len == l3end
  if decide (34 ≤ t.len) && decide (t.len ≤ 352) && !t.flag 7 && slice b 10 6 == zeros 6 &&
      t.l3 == eth && ipOk && shape then some t else none

/-- The outermost L3 header that is left: place and type. -/
def Ed.outerL3 (e : Ed) : Option (Nat × Nat) :=
  match e.l3o with
  | some o => some (o, e.to_)
  | none => e.l3i.map fun o => (o, e.ti)

/-- ENCAP (R197): the edited frame behind the template's bytes, or none for a bad template. `key` is KEY or
ACTION_DATA, `hash` the PRV HASH, `id` the IPv4 identification and `seq` the GRE sequence number. -/
def Ed.encap (e : Ed) (t : Tpl) (key hash id seq : Nat) : Option Ed :=
  let keep := t.type ≤ 2 || (t.type == 3 && t.flag 6)
  match e.outerL3, keep || e.outerL3.isSome with
  | _, false => none
  | l3, true =>
    let cut := if keep then 0 else (l3.map Prod.fst).getD 0
    let innerT := (l3.map Prod.snd).getD 0
    let tos := (l3.map fun x => tosAt e.b x.1 x.2).getD 0
    let inner := e.b.drop cut
    let total := t.len + inner.length
    let v6 := byteAt t.hdr t.l3 / 16 == 6
    let h := t.hdr
    -- VNI or key
    let h := if t.type ≤ 2 then overlay h (t.tun + 4) (beBytes 3 key) else h
    let c := if t.gre.testBit 15 then 4 else 0
    let k := if t.gre.testBit 13 then 4 else 0
    let h := if t.type = 3 && k == 4 then overlay h (t.tun + 4 + c) (beBytes 4 key) else h
    let h := if t.type = 3 && t.flag 5 then overlay h (t.tun + 4 + c + k) (beBytes 4 seq) else h
    let h := if t.type = 3 && !t.flag 6 then
        overlay h (t.tun + 2) (beBytes 2 (if innerT = 1 then 0x0800 else 0x86DD)) else h
    -- IP
    let h := if t.type = 4 then
        overlay h (if v6 then t.l3 + 6 else t.l3 + 9) (beBytes 1 (if innerT = 1 then 4 else 41)) else h
    let h := overlay h (t.l3 - 2) (beBytes 2 (if v6 then 0x86DD else 0x0800))
    let old := tosAt h t.l3 (if v6 then 2 else 1)
    let new := (if t.flag 1 then tos / 4 * 4 else old / 4 * 4) + (if t.flag 2 then tos % 4 else old % 4)
    let h := setTos h t.l3 (if v6 then 2 else 1) new
    let h := if v6 then overlay h (t.l3 + 4) (beBytes 2 (total - t.l3 - 40))
      else
        let h := overlay (overlay h (t.l3 + 2) (beBytes 2 (total - t.l3))) (t.l3 + 4) (beBytes 2 id)
        let h := overlay h (t.l3 + 10) [0, 0]
        overlay h (t.l3 + 10) (beBytes 2 (csumOf (slice h t.l3 20)))
    -- UDP
    let h := if t.type ≤ 2 then
        overlay (overlay (overlay h t.l4 (beBytes 2 (0xC000 + hash % 2 ^ 14))) (t.l4 + 4)
          (beBytes 2 (total - t.l4))) (t.l4 + 6) [0, 0] else h
    let h := if t.type = 3 && t.flag 4 then overlay h (t.tun + 4) [0, 0, 0, 0] else h
    let f := h ++ inner
    let f := if t.type ≤ 2 && v6 && !t.flag 3 then
        let c := csumOf (slice f (t.l3 + 8) 32 ++ beBytes 4 (total - t.l4) ++ beBytes 4 17 ++ f.drop t.l4)
        overlay f (t.l4 + 6) (beBytes 2 (if c = 0 then 0xFFFF else c)) else f
    let f := if t.type = 3 && t.flag 4 then
        overlay f (t.tun + 4) (beBytes 2 (csumOf (f.drop t.tun))) else f
    let m := fun (x : Option Nat) => x.bind fun v => if cut ≤ v then some (v - cut + t.len) else none
    some { e with b := f, eo := m e.eo, ei := m e.ei, l3o := m e.l3o, l3i := m e.l3i,
                  l4o := m e.l4o, l4i := m e.l4i }

/-! ### Checksum work (R87, R195) -/

/-- Insert the IPv4 header checksum at `o`. -/
def insL3 (b : List Byte) (o : Nat) : List Byte :=
  let h := 4 * (byteAt b o % 16)
  let b := overlay b (o + 10) [0, 0]
  overlay b (o + 10) (beBytes 2 (csumOf (slice b o h)))

/-- Is the L3 header at `o` a fragment, whose L4 checksum is left as it is? -/
def isFrag (b : List Byte) (o t : Nat) : Bool := t == 1 && beAt b (o + 6) 2 % 16384 != 0

/-- Insert the TCP or UDP checksum of the header at `q` behind the L3 header at `o`. -/
def insL4 (b : List Byte) (o t q t4 : Nat) : List Byte :=
  let stop := if t = 1 then o + beAt b (o + 2) 2 else o + 40 + beAt b (o + 4) 2
  let c := if t4 = 1 then q + 16 else q + 6
  let b := overlay b c [0, 0]
  let addr := if t = 1 then slice b (o + 12) 8 else slice b (o + 8) 32
  let l4 := slice b q (stop - q)
  let v := csumOf (addr ++ beBytes 4 l4.length ++ beBytes 4 (if t4 = 1 then 6 else 17) ++ l4)
  overlay b c (beBytes 2 (if v = 0 ∧ t4 = 2 then 0xFFFF else v))

/-- CSUM_INS: bit 2 INNER, bit 1 L4, bit 0 L3 (R187, R195). -/
def Ed.csum (e : Ed) (req : Nat) : Ed :=
  let inner := req.testBit 2
  let l3 := if inner then e.l3i.map fun o => (o, e.ti) else e.l3o.map fun o => (o, e.to_)
  let l4 := if inner then e.l4i.map fun o => (o, e.t4i) else e.l4o.map fun o => (o, e.t4o)
  match l3 with
  | none => e
  | some (o, t) =>
    let b := match l4 with
      | some (q, t4) =>
        if req.testBit 1 && (t4 == 1 || t4 == 2) && !isFrag e.b o t then insL4 e.b o t q t4 else e.b
      | none => e.b
    { e with b := if req.testBit 0 && t == 1 then insL3 b o else b }

end Sys2Proof.Machine
end

