-- ==== Sys2Proof/Machine/Tables.lean ====
section
/-! DEFINITION. Exact-match tables: placement, lookup, mutations, learning, aging and the mirror walk
(R143–R178, R560). -/
namespace Sys2Proof.Machine

/-! ### Descriptors (R143–R145, R178) -/

/-- The TBL page of a table `t = region * 8 + slot`. -/
def tblPage (t : Nat) : PageKey := regPage (t / 8) 0
/-- Offset of the table's descriptor. -/
def descOff (t : Nat) : Nat := 0x200 + 0x20 * (t % 8)

/-- A table's geometry. -/
structure Geo where
  far : Bool
  s2 : Bool
  stack : Nat
  keyBytes : Nat
  log2 : Nat
  base : Nat
  seed0 : Reg
  seed1 : Reg
  deriving DecidableEq, Repr

/-- The geometry that fast logic holds. -/
def State.geo (s : State) (t : Nat) : Geo :=
  let p := tblPage t
  let o := descOff t
  let c := s.fr p o
  { far := bit c 25, s2 := bit c 24, stack := fld c 22 2, keyBytes := fld c 16 6, log2 := fld c 8 5
    base := (s.fr p (o + 4)).toNat, seed0 := s.fr p (o + 8), seed1 := s.fr p (o + 12) }

/-- May lookups find entries: enabled, and the owning region neither fenced nor in reset (R143)? -/
def State.tblLive (s : State) (t : Nat) : Bool :=
  bit (s.fr (tblPage t) (descOff t)) 31 && !s.isFenced (tblPage t) && !s.inReset (tblPage t)

/-! ### Places of entries (R146, R148): way `w` of bucket `b` is place `4 b + w`; overflow index `i` is
`2^28 + i` -/

/-- First overflow place. -/
def ovfPlace : Nat := 2 ^ 28

/-- A far entry in its 32 bytes. -/
def TEnt.bytes (e : TEnt) : List Byte :=
  slice e.key 0 16 ++ leBytes 4 e.result.toNat ++ leBytes 8 e.data.toNat ++ leBytes 4 e.ectl.toNat

/-- A far entry from its 32 bytes. -/
def entOf (b : List Byte) : TEnt :=
  { key := slice b 0 16, result := BitVec.ofNat 32 (leAt b 16 4), data := BitVec.ofNat 64 (leAt b 20 8)
    ectl := BitVec.ofNat 32 (leAt b 28 4) }

/-- Where a far way lies. -/
def farAddr (g : Geo) (place : Nat) : Nat := hbmBase g.stack + g.base * 4096 + place * 32
/-- Where a near way lies in its die's near memory. -/
def nearKey (t : Nat) (g : Geo) (place : Nat) : Nat :=
  t / 32 * 2 ^ 21 + g.base + place * (if g.s2 then 2 else 1)

/-- The entry at a place. -/
def State.entAt (s : State) (t place : Nat) : TEnt :=
  let g := s.geo t
  if ovfPlace ≤ place then tabGet {} s.ovf (t * 4096 + (place - ovfPlace))
  else if g.far then entOf (s.bytes (farAddr g place) 32)
  else tabGet {} s.near (nearKey t g place)

/-- Write the entry at a place. -/
def State.putEnt (s : State) (t place : Nat) (e : TEnt) : State :=
  let g := s.geo t
  if ovfPlace ≤ place then { s with ovf := tabPut {} s.ovf (t * 4096 + (place - ovfPlace)) e }
  else if g.far then s.setBytes (farAddr g place) e.bytes
  else { s with near := tabPut {} s.near (nearKey t g place) e }

/-- VALID. -/
def TEnt.valid (e : TEnt) : Bool := bit e.ectl 31
/-- PINNED. -/
def TEnt.pinned (e : TEnt) : Bool := bit e.ectl 27
/-- STATIC. -/
def TEnt.static (e : TEnt) : Bool := bit e.ectl 28
/-- LEARNED. -/
def TEnt.learned (e : TEnt) : Bool := bit e.ectl 26
/-- GEN. -/
def TEnt.gen (e : TEnt) : Nat := fld e.ectl 0 24

/-! ### Hashing and lookup (R148–R152) -/

/-- A table hash (R148, R405). -/
def tblHash (seed : Reg) (key : List Byte) : Nat := (key.foldl (crcStep 0x82F63B78) seed).toNat

/-- The two candidate buckets of a key. -/
def buckets (g : Geo) (key : List Byte) : Nat × Nat :=
  let k := slice key 0 g.keyBytes
  let b0 := tblHash g.seed0 k % 2 ^ g.log2
  let b1 := tblHash g.seed1 k % 2 ^ g.log2
  (b0, if b1 = b0 then Nat.xor b0 1 else b1)

/-- The places of the two buckets. -/
def bucketPlaces (b0 b1 : Nat) : List Nat :=
  (List.range 4).map (4 * b0 + ·) ++ (List.range 4).map (4 * b1 + ·)

/-- Does an entry hold a key (R149)? -/
def entHit (g : Geo) (key : List Byte) (e : TEnt) : Bool :=
  e.valid && slice e.key 0 g.keyBytes == slice key 0 g.keyBytes

/-- The overflow places of a table in use, ascending. -/
def State.ovfPlaces (s : State) (t : Nat) : List Nat :=
  (s.ovf.filter fun e => e.1 / 4096 == t).map fun e => ovfPlace + e.1 % 4096

/-- The places that hold a key. -/
def State.findKey (s : State) (t : Nat) (key : List Byte) : List Nat :=
  let g := s.geo t
  let b := buckets g key
  (bucketPlaces b.1 b.2 ++ s.ovfPlaces t).filter fun pl => entHit g key (s.entAt t pl)

/-- A lookup: the entry or a miss, ACT set in every copy, counted (R149–R152, R179). -/
def State.tblLookup (s : State) (t : Nat) (key : List Byte) : Option TEnt × State :=
  if !s.tblLive t then (none, s)
  else
    let g := s.geo t
    if g.far && s.dieFenced g.stack then (none, (s.count (tblPage t) (16 * (t % 8) + 1) 1).countFenced (t / 32))
    else
      match s.findKey t key with
      | [] => (none, s.count (tblPage t) (16 * (t % 8) + 1) 1)
      | pl :: more =>
        let s := (pl :: more).foldl (fun s q =>
          let e := s.entAt t q
          s.putEnt t q { e with ectl := setBit e.ectl 30 true }) s
        let s := s.count (tblPage t) (16 * (t % 8)) 1
        let s := if more = [] then s else s.count (tblPage t) (16 * (t % 8) + 8) 1
        (some (s.entAt t pl), s)

/-! ### The learn ring (R172, R173) -/

/-- The LRN page of a region. -/
def lrnPage (r : Nat) : PageKey := regPage r 1
/-- The learner of a region. -/
def State.learn (s : State) (r : Nat) : LearnState := tabGet {} s.learns r
/-- Store it. -/
def State.setLearn (s : State) (r : Nat) (l : LearnState) : State := { s with learns := tabPut {} s.learns r l }
/-- LRN_STS.STATE: 0 off, 1 running, 2 paused, 3 stopped. -/
def State.ringSt (s : State) (r : Nat) : Nat := s.rdFld (lrnPage r) 0x114 30 2

/-- A record without OWN and SEQ (R172). -/
def learnRec (key : List Byte) (result : Nat) (data ectl loc event slot : Nat) (newer : Bool) : List Byte :=
  slice key 0 40 ++ leBytes 4 result ++ leBytes 8 data ++ leBytes 4 ectl ++ leBytes 4 loc ++
  leBytes 4 (event * 2 ^ 27 + slot * 2 ^ 24 + (if newer then 2 ^ 16 else 0))

/-- Write to the memory of a MID: OMC memory, or a host function's address space (R165). -/
def State.midWrite (s : State) (m : Mid) (addr : Nat) (b : List Byte) : State :=
  if midIsHost m then s.emit (.hostWrite (midEp m) (midFn m) addr b) else s.setBytes (omcMem + addr) b

/-- Write one record at PROD and advance it; a full ring pauses (R173). -/
def State.ringPut (s : State) (r : Nat) (rec : List Byte) : State :=
  let p := lrnPage r
  let prod := s.rdFld p 0x110 0 16
  let l2 := s.frFld p 0x10C 0 4
  let l := s.learn r
  let hdr := leAt rec 60 4 + 2 ^ 31 + l.seq
  let base := s.fr64 p 0x104 / 64 * 64
  let s := s.midWrite (BitVec.ofNat 16 (s.frFld p 0x10C 16 16)) (base + prod % 2 ^ l2 * 64)
    (rec.take 60 ++ leBytes 4 hdr)
  let s := (s.setLearn r { l with seq := idxAdd l.seq 1 }).count p 0x06 1
  let s := s.postFld p 0x110 0 16 (idxAdd prod 1)
  if 2 ^ l2 ≤ idxDiff (idxAdd prod 1) (s.rdFld p 0x110 16 16) then
    let s := s.setLearn r { s.learn r with fullAt := s.clk }
    (s.postFld p 0x114 30 2 2).raiseBit p 1
  else s

/-- A record that cannot be written is counted toward the next LOST record. -/
def State.ringLose (s : State) (r n : Nat) : State :=
  let l := s.learn r
  (s.setLearn r { l with lost := l.lost + n }).count (lrnPage r) 0x07 n

/-- Write the LOST record that is due, if any. -/
def State.ringLost (s : State) (r : Nat) : State :=
  let l := s.learn r
  if l.lost = 0 ∧ !l.restart then s
  else
    let s := s.setLearn r { l with lost := 0, restart := false }
    s.ringPut r (learnRec [] 0 0 0 l.lost 8 0 false)

/-- A record of the engine enters the ring, waits while it is paused, or is lost (R173). -/
def State.ringRecord (s : State) (r : Nat) (rec : List Byte) : State :=
  let st := s.ringSt r
  if st = 0 then s
  else if st = 3 then s.ringLose r 1
  else if st = 2 then s.setLearn r { s.learn r with pend := (s.learn r).pend ++ [rec] }
  else
    let s := s.ringLost r
    if s.ringSt r = 1 then s.ringPut r rec
    else s.setLearn r { s.learn r with pend := (s.learn r).pend ++ [rec] }

/-- Write waiting records while the ring runs. -/
def State.ringFlush (s : State) (r : Nat) : Nat → State
  | 0 => s
  | n + 1 =>
    match (s.learn r).pend with
    | [] => s
    | rec :: more =>
      if s.ringSt r ≠ 1 then s
      else ((s.setLearn r { s.learn r with pend := more }).ringRecord r rec).ringFlush r n

/-- LOC of a record (R172). -/
def locOf (place : Nat) : Nat :=
  if ovfPlace ≤ place then place - ovfPlace else place / 4 + place % 4 * 2 ^ 30

/-- Is a GEN newer than another (R174)? -/
def newerGen (gen g : Nat) : Bool :=
  let d := (gen + 2 ^ 24 - g % 2 ^ 24) % 2 ^ 24
  decide (1 ≤ d) && decide (d ≤ 2 ^ 23)

/-- A record about an entry at a place. -/
def State.entRecord (s : State) (t place : Nat) (e : TEnt) (event : Nat) (newer : Bool) : State :=
  s.ringRecord (t / 8) (learnRec e.key e.result.toNat e.data.toNat e.ectl.toNat (locOf place) event (t % 8) newer)

/-! ### Walks (R175–R177) -/

/-- The engine of a region. -/
def State.tblR (s : State) (r : Nat) : TblRegion := tabGet {} s.tblSt r
/-- Store it. -/
def State.setTblR (s : State) (r : Nat) (x : TblRegion) : State := { s with tblSt := tabPut {} s.tblSt r x }
/-- TBL_GEN. -/
def State.tblGen (s : State) (t : Nat) : Nat := s.rdFld (tblPage t) (descOff t + 0x1C) 0 24
/-- Advance TBL_GEN by 1 and answer it. -/
def State.nextGen (s : State) (t : Nat) : Nat × State :=
  let g := (s.tblGen t + 1) % 2 ^ 24
  (g, s.postFld (tblPage t) (descOff t + 0x1C) 0 24 g)

/-- Is a walk running on the table? -/
def State.walking (s : State) (t : Nat) : Bool :=
  bit (s.rd (tblPage t) 0x124) 31 && s.rdFld (tblPage t) 0x124 24 3 == t % 8

/-- Has the walk passed a place? -/
def State.walkPassed (s : State) (t place : Nat) : Bool :=
  let p := tblPage t
  let cur := s.rdFld p 0x128 0 25
  if bit (s.rd p 0x128) 31 then decide (place < ovfPlace) || decide (place - ovfPlace < cur)
  else decide (place < ovfPlace) && decide (place / 4 < cur)

/-- The walk emits an entry: a full walk every valid one, a delta walk only newer ones (R175). -/
def State.walkEmit (s : State) (t place : Nat) : State :=
  let e := s.entAt t place
  let n := newerGen e.gen (s.tblR (t / 8)).walkFrom
  if e.valid && (n || !bit (s.rd (tblPage t) 0x124) 29) then s.entRecord t place e 0 n else s

/-- A move from a place the walk has not reached to one it has passed writes a WALK record at once (R176). -/
def State.moveRecord (s : State) (t src dst : Nat) : State :=
  if s.walking t && !s.walkPassed t src && s.walkPassed t dst then s.walkEmit t dst else s

/-- A walk ends, with WALK_END (R175). -/
def State.walkEnd (s : State) (r : Nat) : State :=
  let p := regPage r 0
  if !bit (s.rd p 0x124) 31 then s
  else
    let slot := s.rdFld p 0x124 24 3
    let t := r * 8 + slot
    let s := s.ringRecord r (learnRec [] 0 0 (s.tblGen t) 0 2 slot false)
    ((s.postBit p 0x124 31 false).postBit p 0x124 30 false).raiseBit p 2

/-- Start a walk (R175). -/
def State.walkStart (s : State) (t from_ : Nat) (delta : Bool) : State :=
  let p := tblPage t
  let s := s.post p 0x124 (BitVec.ofNat 32 (2 ^ 31 + (if delta then 2 ^ 29 else 0) + t % 8 * 2 ^ 24))
  let s := (s.post p 0x128 0).setTblR (t / 8) { s.tblR (t / 8) with walkFrom := from_ }
  s.ringRecord (t / 8) (learnRec [] 0 0 (s.tblGen t) 0 1 (t % 8) false)

/-! ### Mutations (R154–R156, R161, R174, R560) -/

/-- Post the change of the entry count. -/
def State.occ (s : State) (t : Nat) (d : Int) : State :=
  let n := (s.rdFld (tblPage t) (descOff t + 0x14) 0 27 : Int) + d
  s.postFld (tblPage t) (descOff t + 0x14) 0 27 n.toNat
/-- Post the number of overflow entries. -/
def State.postOvf (s : State) (t : Nat) : State :=
  s.postFld (tblPage t) (descOff t + 0x18) 0 13 (s.ovfPlaces t).length

/-- The first free way of a bucket. -/
def State.freeWay (s : State) (t b : Nat) : Option Nat :=
  ((List.range 4).map (4 * b + ·)).find? fun pl => !(s.entAt t pl).valid

/-- The other candidate bucket of the entry at a place. -/
def State.altBucket (s : State) (t place : Nat) : Nat :=
  let b := buckets (s.geo t) (s.entAt t place).key
  if b.1 = place / 4 then b.2 else b.1

/-- The first movable resident of the two buckets and the way it moves to (R154). -/
def State.movable (s : State) (t b0 b1 : Nat) : Option (Nat × Nat) :=
  (bucketPlaces b0 b1).findSome? fun pl =>
    if (s.entAt t pl).pinned then none
    else (s.freeWay t (s.altBucket t pl)).map fun w => (pl, w)

/-- The lowest free overflow index (R154). -/
def State.freeOvf (s : State) (t : Nat) : Option Nat :=
  let used := s.ovfPlaces t
  if 4096 ≤ used.length then none
  else (List.range (used.length + 1)).find? fun i => !used.contains (ovfPlace + i)

/-- Insert an absent key (R154): answers the place, or none for TABLE_FULL. -/
def State.tblPlace (s : State) (t : Nat) (e : TEnt) : Option Nat × State :=
  let g := s.geo t
  let b := buckets g e.key
  let p := tblPage t
  let c := 16 * (t % 8)
  let put := fun (s : State) (pl : Nat) (e : TEnt) => ((s.putEnt t pl e).occ t 1).count p (c + 2) 1
  match s.freeWay t b.1 with
  | some pl => (some pl, put s pl e)
  | none =>
    match s.freeWay t b.2 with
    | some pl => (some pl, put s pl e)
    | none =>
      match s.movable t b.1 b.2 with
      | some (src, dst) =>
        let s := (s.putEnt t dst (s.entAt t src)).moveRecord t src dst
        let s := s.count p (c + 3) 1
        (some src, put s src e)
      | none =>
        match s.freeOvf t with
        | some i =>
          let pl := ovfPlace + i
          let s := put s pl { e with ectl := setBit e.ectl 25 true }
          (some pl, (s.count p (c + 4) 1).postOvf t)
        | none => (none, (s.count p (c + 5) 1).raiseBit p 3)

/-- A freed way pulls back the overflow entry of the lowest index that has its bucket as a candidate
(R156). -/
def State.migrate (s : State) (t place : Nat) : State :=
  if ovfPlace ≤ place then s
  else
    let g := s.geo t
    let cand := (s.ovfPlaces t).find? fun o =>
      let e := s.entAt t o
      let b := buckets g e.key
      !e.pinned && (b.1 == place / 4 || b.2 == place / 4)
    match cand with
    | none => s
    | some o =>
      let e := s.entAt t o
      let s := (s.putEnt t place { e with ectl := setBit e.ectl 25 false }).moveRecord t o place
      (s.putEnt t o {}).postOvf t

/-- Remove the entry at a place and migrate into the freed way. -/
def State.tblRemove (s : State) (t place : Nat) : State :=
  let s := (s.putEnt t place {}).occ t (-1)
  let s := if ovfPlace ≤ place then s.postOvf t else s
  s.migrate t place

/-- The first way, or overflow entry, of a table that satisfies `p`, with fuel over its places. -/
def State.placesOf (s : State) (t : Nat) : List Nat :=
  let g := s.geo t
  if g.far then
    let a := farAddr g 0
    let hi := a + 2 ^ g.log2 * 128
    ((s.mem.filter fun c => decide (a ≤ c.1) && decide (c.1 < hi) && (c.1 - a) % 32 == 31).map
      fun c => (c.1 - a) / 32) ++ s.ovfPlaces t
  else
    let a := nearKey t g 0
    let k := if g.s2 then 2 else 1
    ((s.near.filter fun c => decide (a ≤ c.1) && decide (c.1 < a + 2 ^ g.log2 * 4 * k)).map
      fun c => (c.1 - a) / k) ++ s.ovfPlaces t

/-- Remove every entry of a table's near or far memory. -/
def State.tblWipe (s : State) (t : Nat) : State :=
  let g := s.geo t
  if g.far then
    let a := farAddr g 0
    let hi := a + 2 ^ g.log2 * 128
    { s with mem := s.mem.filter fun c => !(decide (a ≤ c.1) && decide (c.1 < hi)) }
  else
    let a := nearKey t g 0
    let hi := a + 2 ^ g.log2 * 4 * (if g.s2 then 2 else 1)
    { s with near := s.near.filter fun c => !(decide (a ≤ c.1) && decide (c.1 < hi)) }

/-- Clear a table: every entry and the overflow store, the generation back to 0 (R178). -/
def State.tblClear (s : State) (t : Nat) : State :=
  let s := s.tblWipe t
  let s := { s with ovf := s.ovf.filter fun c => c.1 / 4096 != t }
  let p := tblPage t
  let o := descOff t
  ((s.post p (o + 0x14) 0).post p (o + 0x18) 0).post p (o + 0x1C) 0

/-- A key as entries store it: bytes beyond KEY_BYTES are 0 (R146). -/
def State.keyOf (s : State) (t : Nat) (key : List Byte) : List Byte :=
  let g := s.geo t
  padTo (slice key 0 g.keyBytes) (if g.s2 then 40 else 16)

/-- INSERT an absent or present key with the given flags: STATUS and GEN (R154, R174). -/
def State.tblInsert (s : State) (t : Nat) (key : List Byte) (result : Reg) (data : Word) (flags : Nat) :
    Nat × Nat × State :=
  if s.findKey t key ≠ [] then (0x01, 0, s)
  else
    let gen := (s.tblGen t + 1) % 2 ^ 24
    let e : TEnt := { key := s.keyOf t key, result := result, data := data,
                      ectl := BitVec.ofNat 32 (2 ^ 31 + flags + gen) }
    match s.tblPlace t e with
    | (none, s) => (0x03, 0, s)
    | (some _, s) => (0x00, gen, (s.nextGen t).2)

/-- UPDATE a present key in place: STATUS and GEN (R161, R174). -/
def State.tblUpdate (s : State) (t : Nat) (key : List Byte) (result : Reg) (data : Word) (flags : Nat) :
    Nat × Nat × State :=
  match s.findKey t key with
  | [] => (0x02, 0, s)
  | pl :: _ =>
    let e := s.entAt t pl
    let n := s.nextGen t
    let x := setFld (setFld e.ectl 27 2 (flags / 2 ^ 27)) 0 24 n.1
    (0x00, n.1, n.2.putEnt t pl { e with result := result, data := data, ectl := x })

/-- DELETE a key: STATUS and GEN. -/
def State.tblDelete (s : State) (t : Nat) (key : List Byte) : Nat × Nat × State :=
  match s.findKey t key with
  | [] => (0x02, 0, s)
  | pl :: _ =>
    let n := s.nextGen t
    (0x00, n.1, (n.2.tblRemove t pl).count (tblPage t) (16 * (t % 8) + 6) 1)

/-! ### Learning (R168–R171) -/

/-- Post the number of held requests. -/
def State.postQueued (s : State) (r : Nat) : State :=
  s.postFld (lrnPage r) 0x114 0 11 (s.learn r).queue.length

/-- A source-learn lookup posts a request (R168, R170). -/
def State.learnPost (s : State) (t : Nat) (key : List Byte) (src : Nat) : State :=
  let r := t / 8
  let p := lrnPage r
  let s := s.count p 0x00 1
  let drop := fun (s : State) => (s.count p 0x02 1).raiseBit p 3
  if !bit (s.fr p 0x100) 31 then drop s
  else
    let l := s.learn r
    let k := s.keyOf t key
    if l.queue.any fun q => q.slot == t % 8 && q.key == k then
      (s.setLearn r { l with queue := l.queue.map fun q =>
        if q.slot == t % 8 && q.key == k then { q with src := src } else q }).count p 0x01 1
    else if 1024 ≤ l.queue.length then drop s
    else (s.setLearn r { l with queue := l.queue ++ [{ slot := t % 8, key := k, src := src }] }).postQueued r

/-- The learner executes one request (R169): insert, move, or LEARN_FULL. -/
def State.learnOne (s : State) (r : Nat) (q : LearnReq) : State :=
  let t := r * 8 + q.slot
  let p := lrnPage r
  if !s.tblLive t || !bit (s.fr (tblPage t) (descOff t)) 26 then (s.count p 0x02 1).raiseBit p 3
  else
    match s.findKey t q.key with
    | [] =>
      let set := s.fr p 0x118
      let data : Word := BitVec.ofNat 64
        ((s.fr p 0x120).toNat * 2 ^ 32 + s.frFld p 0x11C 16 16 * 2 ^ 16 + q.src)
      let x := s.tblInsert t q.key set data (2 ^ 30 + 2 ^ 26)
      if x.1 = 0 then
        match x.2.2.findKey t q.key with
        | pl :: _ => (x.2.2.count p 0x03 1).entRecord t pl (x.2.2.entAt t pl) 3 false
        | [] => x.2.2
      else
        let s := x.2.2.count p 0x05 1
        s.ringRecord r (learnRec q.key set.toNat data.toNat (2 ^ 30 + 2 ^ 26 + s.tblGen t) 0 6 q.slot false)
    | pl :: _ =>
      let e := s.entAt t pl
      if e.static || e.pinned || !e.learned || natField e.data.toNat 0 16 == q.src then s
      else
        let n := s.nextGen t
        let e' := { e with data := BitVec.ofNat 64 (e.data.toNat / 65536 * 65536 + q.src)
                           ectl := setFld e.ectl 0 24 n.1 }
        ((n.2.putEnt t pl e').count p 0x04 1).entRecord t pl e' 4 false

/-- LEARN_EXECUTE: the oldest held request, unless learning is held or the ring paused (R169–R171). -/
def execLearnExecute (r : Nat) (s : State) : Host.Outcome State Fault Refusal :=
  let p := lrnPage r
  if r < 16 ∧ bit (s.fr p 0x100) 31 ∧ !bit (s.fr p 0x100) 30 ∧ s.ringSt r ≠ 2 ∧ !s.isFenced (regPage r 0) then
    match (s.learn r).queue with
    | [] => .next s
    | q :: more => .next (((s.setLearn r { s.learn r with queue := more }).postQueued r).learnOne r q)
  else .next s

/-! ### The ring's registers (R173) -/

/-- LEARN_RING_STALL: full for STALL_MS, the ring stops; what waited is lost (R173). -/
def execLearnRingStall (r : Nat) (s : State) : Host.Outcome State Fault Refusal :=
  let p := lrnPage r
  if r < 16 ∧ s.ringSt r = 2 ∧ s.frFld p 0x100 0 16 * 1000000 ≤ s.clk - (s.learn r).fullAt then
    let n := (s.learn r).pend.length
    let s := (s.postFld p 0x114 30 2 3).raiseBit p 2
    .next (if n = 0 then s else (s.setLearn r { s.learn r with pend := [] }).ringLose r n)
  else .next s

/-- The ring stops with its target function (R173). -/
def State.ringTargetGone (s : State) (r : Nat) : State :=
  let p := lrnPage r
  if s.ringSt r = 1 ∨ s.ringSt r = 2 then
    let n := (s.learn r).pend.length
    let s := (s.postFld p 0x114 30 2 3).raiseBit p 2
    if n = 0 then s else (s.setLearn r { s.learn r with pend := [] }).ringLose r n
  else s

/-- A write of LRN_RING_LO restarts the ring (R173). -/
def State.ringRestart (s : State) (r : Nat) : State :=
  let p := lrnPage r
  let n := (s.learn r).pend.length
  let s := s.postBoth p 0x110 0
  let s := s.postFld p 0x114 30 2 (if bit (s.fr p 0x100) 31 then 1 else 0)
  let s := s.setLearn r { s.learn r with pend := [], restart := true }
  if n = 0 then s else s.ringLose r n

/-- Software advances CONS: a paused ring with room runs on (R173). -/
def State.ringCons (s : State) (r : Nat) : State :=
  let p := lrnPage r
  let s := if s.ringSt r = 2 ∧
      idxDiff (s.rdFld p 0x110 0 16) (s.rdFld p 0x110 16 16) < 2 ^ s.frFld p 0x10C 0 4
    then s.postFld p 0x114 30 2 1 else s
  s.ringFlush r (s.learn r).pend.length

/-- LRN_RING_RESTART: a write of LRN_RING_LO (R173). -/
def execLrnRingRestart (mid : Mid) (r : Nat) (v : Reg) (s : State) : Host.Outcome State Fault Refusal :=
  .next (s.ownWrite mid (lrnPage (r % 16)) 0x104 v fun s => s.ringRestart (r % 16))

/-- LRN_CONS_WRITE: a write of LRN_RING_IDX (R173). -/
def execLrnConsWrite (mid : Mid) (r : Nat) (v : Reg) (s : State) : Host.Outcome State Fault Refusal :=
  .next (s.ownWrite mid (lrnPage (r % 16)) 0x110 v fun s => s.ringCons (r % 16))

/-! ### Aging (R157–R159) -/

/-- The next due pass of a region: earliest due time, then lowest slot (R158). -/
def State.duePass (s : State) (r : Nat) : Option (Nat × Ns) :=
  let ds := (s.ageDue.filter fun d => d.1 / 8 == r && decide (d.2 ≤ s.clk))
  ds.foldl (fun best d => match best with
    | none => some (d.1 % 8, d.2)
    | some b => if d.2 < b.2 then some (d.1 % 8, d.2) else best) none

/-- AGING_PASS_START (R158): a due pass starts when the scanner is free; a late one is counted. -/
def execAgingPassStart (r : Nat) (s : State) : Host.Outcome State Fault Refusal :=
  if r < 16 ∧ (s.tblR r).aging.isNone then
    match s.duePass r with
    | none => .next s
    | some (slot, due) =>
      let p := regPage r 0
      let s := s.setTblR r { s.tblR r with aging := some (slot, 0) }
      let iv := s.frFld p (0x200 + 0x20 * slot + 0x10) 0 16 * 1000000
      let s := { s with ageDue := tabInsert (tabErase s.ageDue (r * 8 + slot)) (r * 8 + slot) (due + iv) }
      .next (if due < s.clk then (s.count p 0x83 1).raiseBit p 5 else s)
  else .next s

/-- Examine one entry (R157); answers whether the scanner moves on. -/
def State.ageOne (s : State) (t place : Nat) : Bool × State :=
  let e := s.entAt t place
  if !e.valid then (true, s)
  else if bit e.ectl 30 then (true, s.putEnt t place { e with ectl := setBit (setBit e.ectl 30 false) 29 false })
  else if !bit e.ectl 29 then (true, s.putEnt t place { e with ectl := setBit e.ectl 29 true })
  else if e.static || e.pinned || !bit (s.fr (tblPage t) (descOff t)) 27 then (true, s)
  else if s.ringSt (t / 8) = 2 then (false, s)
  else
    let n := s.nextGen t
    let s := (n.2.tblRemove t place).count (tblPage t) (16 * (t % 8) + 7) 1
    (true, s.entRecord t place { e with ectl := setFld e.ectl 0 24 n.1 } 5 false)

/-- AGING_VISIT: the next way, then the next overflow entry, of the pass in progress (R157). -/
def execAgingVisit (r : Nat) (s : State) : Host.Outcome State Fault Refusal :=
  match (s.tblR r).aging with
  | none => .next s
  | some (slot, cur) =>
    let t := r * 8 + slot
    let ways := 4 * 2 ^ (s.geo t).log2
    if !s.tblLive t ∨ ways + 4096 ≤ cur then .next (s.setTblR r { s.tblR r with aging := none })
    else
      let x := s.ageOne t (if cur < ways then cur else ovfPlace + (cur - ways))
      if x.1 then .next (x.2.setTblR r { x.2.tblR r with aging := some (slot, cur + 1) }) else .next x.2

/-! ### Walk steps (R175, R176) -/

/-- WALK_VISIT: the next bucket or overflow entry; a paused ring holds the walk at its cursor. -/
def execWalkVisit (r : Nat) (s : State) : Host.Outcome State Fault Refusal :=
  let p := regPage r 0
  if r < 16 ∧ bit (s.rd p 0x124) 31 ∧ s.ringSt r ≠ 2 then
    let t := r * 8 + s.rdFld p 0x124 24 3
    let cur := s.rdFld p 0x128 0 25
    if bit (s.rd p 0x128) 31 then
      if 4096 ≤ cur then .next (s.walkEnd r)
      else .next ((s.walkEmit t (ovfPlace + cur)).postFld p 0x128 0 25 (cur + 1))
    else
      let s := (List.range 4).foldl (fun s w => s.walkEmit t (4 * cur + w)) s
      .next (if 2 ^ (s.geo t).log2 ≤ cur + 1 then s.post p 0x128 0x80000000
        else s.postFld p 0x128 0 25 (cur + 1))
  else .next s

/-- WALK_ABORT: a write of TBL_WALK.ABORT ends the walk at once with WALK_END (R175). -/
def execWalkAbort (mid : Mid) (r : Nat) (s : State) : Host.Outcome State Fault Refusal :=
  .next (s.ownWrite mid (regPage (r % 16) 0) 0x124 0x40000000 fun s =>
    (s.walkEnd (r % 16)).postBit (regPage (r % 16) 0) 0x124 30 false)

/-! ### Enabling and disabling (R178) -/

/-- Bytes or slots a table occupies: far, stack or die, first and last (R144, R145). -/
def geoRange (t : Nat) (g : Geo) : Bool × Nat × Nat × Nat :=
  if g.far then (true, g.stack, g.base * 4096, g.base * 4096 + 2 ^ g.log2 * 128)
  else (false, t / 32, g.base, g.base + 2 ^ g.log2 * 4 * (if g.s2 then 2 else 1))

/-- Does the geometry keep R145, its alignment and its memory (R178)? -/
def geoOk (t : Nat) (g : Geo) : Bool :=
  let r := geoRange t g
  decide (1 ≤ g.keyBytes) && decide (6 ≤ g.log2) && g.seed0 != g.seed1 &&
  (if g.far then
     !g.s2 && decide (g.keyBytes ≤ 16) && decide (g.log2 ≤ 24) && decide (g.base < 2 ^ 24) &&
       decide (r.2.2.2 ≤ hbmSize)
   else
     (if g.s2 then decide (17 ≤ g.keyBytes) && decide (g.keyBytes ≤ 40) && decide (g.log2 ≤ 18)
      else decide (g.keyBytes ≤ 16) && decide (g.log2 ≤ 19)) &&
     decide (g.base < 2 ^ 21) && g.base % (4 * (if g.s2 then 2 else 1)) == 0 && decide (r.2.2.2 ≤ 2 ^ 21))

/-- Does the range overlap an enabled or clearing table of the die, or a far table of the same stack? -/
def State.geoOverlap (s : State) (t : Nat) : Bool :=
  let a := geoRange t (s.geo t)
  (List.range 128).any fun u =>
    let c := s.fr (tblPage u) (descOff u)
    let on := u != t && (bit c 31 || bit (s.rd (tblPage u) (descOff u)) 29)
    let b := geoRange u (s.geo u)
    on && a.1 == b.1 && a.2.1 == b.2.1 && decide (a.2.2.1 < b.2.2.2) && decide (b.2.2.1 < a.2.2.2)

/-- A write of EN = 1 (R178): refused, or clearing starts. -/
def State.tableEnable (s : State) (t : Nat) : State :=
  let p := tblPage t
  let o := descOff t
  if bit (s.rd p o) 31 || bit (s.rd p o) 29 then s
  else
    let off := fun (s : State) (ref clr : Bool) =>
      let v := setBit (setBit (setBit (s.rd p o) 31 false) 30 ref) 29 clr
      s.postBoth p o v
    if !geoOk t (s.geo t) || s.geoOverlap t then off s true false
    else
      let s := (off s false true).tblClear t
      let x := s.tblR (t / 8)
      s.setTblR (t / 8) { x with clearing := if x.clearing.contains (t % 8) then x.clearing else x.clearing ++ [t % 8] }

/-- A write of EN = 0: lookups miss, the learner drops the table's requests (R178). -/
def State.tableDisable (s : State) (t : Nat) : State :=
  let p := tblPage t
  let r := t / 8
  let s := s.postBoth p (descOff t) (setBit (setBit (s.rd p (descOff t)) 31 false) 29 false)
  let x := s.tblR r
  let s := s.setTblR r { x with
    clearing := x.clearing.filter (· != t % 8)
    aging := match x.aging with | some (sl, c) => if sl = t % 8 then none else some (sl, c) | none => none }
  let s := { s with ageDue := tabErase s.ageDue t }
  let s := if s.walking t then s.walkEnd r else s
  let l := s.learn r
  let gone := (l.queue.filter fun q => q.slot == t % 8).length
  let s := (s.setLearn r { l with queue := l.queue.filter fun q => q.slot != t % 8 }).postQueued r
  if gone = 0 then s else (s.count (lrnPage r) 0x02 gone).raiseBit (lrnPage r) 3

/-- TABLE_ENABLE: a write of TBL_DESC_CTL with EN = 1 (R178). A table already enabled stays as it is. -/
def execTableEnable (mid : Mid) (r slot : Nat) (v : Reg) (s : State) : Host.Outcome State Fault Refusal :=
  let t := r % 16 * 8 + slot % 8
  .next (s.ownWrite mid (tblPage t) (descOff t) (v ||| 0x80000000) fun s => s.tableEnable t)

/-- TABLE_CLEAR_DONE: clearing ends, EN reads 1, and the first aging pass is due an interval later
(R158, R178). -/
def execTableClearDone (r slot : Nat) (s : State) : Host.Outcome State Fault Refusal :=
  let x := s.tblR r
  if x.clearing.contains slot then
    let t := r * 8 + slot
    let p := tblPage t
    let s := s.setTblR r { x with clearing := x.clearing.filter (· != slot) }
    let s := s.postBoth p (descOff t) (setBit (setBit (s.rd p (descOff t)) 31 true) 29 false)
    let due := s.clk + s.frFld p (descOff t + 0x10) 0 16 * 1000000
    .next { s with ageDue := tabInsert (tabErase s.ageDue t) t due }
  else .next s

/-- TABLE_DISABLE: a write of TBL_DESC_CTL with EN = 0 (R178). -/
def execTableDisable (mid : Mid) (r slot : Nat) (v : Reg) (s : State) : Host.Outcome State Fault Refusal :=
  let t := r % 16 * 8 + slot % 8
  .next (s.ownWrite mid (tblPage t) (descOff t) (v &&& 0x7FFFFFFF) fun s => s.tableDisable t)

end Sys2Proof.Machine
end

