-- ==== Sys2Proof/Machine/Pipe.lean ====
section
/-! DEFINITION. A pass through a pipeline: parser, stages, action sets, editor and the entries, steers and
further passes it ends in (R117–R139, R181–R206, R211–R213, R222, R229–R231, R251, R252). -/
namespace Sys2Proof.Machine

/-! ### Event counts and counter pairs (R201, R202) -/

/-- Region of a pipeline page. -/
def pipeRegion (p : Nat) : Nat := p / 4
/-- The PIPE page of pipeline 0–63. -/
def pipeKey (p : Nat) : PageKey := pipePage (p / 4) (p % 4)

/-- Write a counter pair's updates to HBM3E (R202). -/
def State.cntFlush (s : State) (r pair : Nat) : State :=
  match tabFind s.cnts (r * 2 ^ 22 + pair) with
  | none => s
  | some c =>
    let g := pipePage r 0
    let a := hbmBase (r / 4) + s.frFld g 0x120 0 24 * 4096 + 16 * pair
    let old := s.bytes a 16
    let s := s.setBytes a (leBytes 8 ((leAt old 0 8 + c.packets) % 2 ^ 64) ++
      leBytes 8 ((leAt old 8 8 + c.octets) % 2 ^ 64))
    { s with cnts := tabErase s.cnts (r * 2 ^ 22 + pair) }

/-- Is counting on: EN is 1 and the HBM page shows READY? -/
def State.cntOn (s : State) (pg : PageKey) : Bool :=
  bit (s.fr pg 0x124) 31 && s.ready (diePage (pgSite pg) 4)

/-- Add a frame to a counter pair, in the region's cache of 4,096 pairs (R201, R202). -/
def State.cntAdd (s : State) (pg : PageKey) (pair len : Nat) : State :=
  if !s.cntOn pg then s
  else
    let r := regionIdx pg
    let k := r * 2 ^ 22 + pair
    let mine := s.cnts.filter fun e => e.1 / 2 ^ 22 == r
    let s := if (tabFind s.cnts k).isNone ∧ 4096 ≤ mine.length then
        match mine with
        | e :: _ => s.cntFlush r (e.1 % 2 ^ 22)
        | [] => s
      else s
    let c := (tabFind s.cnts k).getD { since := s.clk }
    let c := { c with packets := c.packets + 1, octets := c.octets + len }
    { s with cnts := tabInsert (tabErase s.cnts k) k c }

/-- An event of the table of R201; codes 0x06 and 0x07 raise their interrupts too (R185, R186). -/
def State.pipeEvent (s : State) (pg : PageKey) (code len : Nat) : State :=
  let s := s.cntAdd pg code len
  if code = 0x07 then s.raiseBit pg 1 else if code = 0x06 then s.raiseBit pg 2 else s

/-! ### Policers (R203, R247, R251–R253) -/

/-- Policer key. -/
def plcrKey (d i : Nat) : Nat := d * 2 ^ 18 + i

/-- The verdict of a meter on `l` millibytes with an input colour: the colour and the buckets (R251, R252). -/
def meter (p : Plcr) (l colour : Nat) (aware : Bool) : Nat × Plcr :=
  let inp := if aware then min colour 2 else 0
  if inp = 2 then (2, p)
  else if p.pir = 0 then
    (if inp = 1 then (2, p) else if l ≤ p.ctok then (0, { p with ctok := p.ctok - l }) else (2, p))
  else if p.ptok < l then (2, p)
  else if p.cir = 0 ∨ inp = 1 ∨ p.ctok < l then (1, { p with ptok := p.ptok - l })
  else (0, { p with ctok := p.ctok - l, ptok := p.ptok - l })

/-- Meter a frame against a policer of a die: the colour, whether its red action drops it, and the state
(R203, R251). -/
def State.police (s : State) (d i len colour : Nat) (aware : Bool) : Nat × Bool × State :=
  let p := tabGet {} s.plcrs (plcrKey d i)
  if !p.en then (colour, false, s)
  else
    let l := (max 0 ((len : Int) + signedOf 8 p.adj.toNat)).toNat * 1000
    let r := meter p l colour aware
    let s := { s with plcrs := tabPut {} s.plcrs (plcrKey d i) r.2 }
    let s := s.count (diePage d 3) r.1 1
    if r.1 = 2 ∧ p.redDrop then (2, true, s.count (diePage d 3) 3 1) else (r.1, false, s)

/-! ### Classification (R128–R130, R182) -/

/-- The CLS page of a region. -/
def clsPage (r : Nat) : PageKey := pipePage r 4

/-- The 40-byte key of a profile of a bank (R128). -/
def State.clsKey (s : State) (r bank prof : Nat) (prv : List Byte) : List Byte :=
  (List.range 10).flatMap fun i =>
    let v := s.fr (clsPage r) (0x400 + 0x400 * bank + 0x40 * prof + 4 * i)
    if bit v 31 then slice prv (fld v 0 7) 4 else zeros 4

/-- Does a rule match a key (R129)? -/
def Rule.hits (u : Rule) (key : List Byte) : Bool :=
  u.valid && (List.range 40).all fun i => (key.getD i 0 &&& u.mask.getD i 0) == (u.value.getD i 0 &&& u.mask.getD i 0)

/-- A ternary lookup: RESULT of the matching rule with the lowest index (R129). -/
def State.ternary (s : State) (r bank : Nat) (key : List Byte) : Option Nat :=
  let base := (r * 2 + bank) * 131072
  (s.rules.find? fun e => decide (base ≤ e.1) && decide (e.1 < base + 131072) && e.2.hits key).map
    fun e => e.2.result.toNat

/-! ### META (R188) -/

/-- Write PRV bytes. -/
def PassSt.put (x : PassSt) (o : Nat) (b : List Byte) : PassSt := { x with prv := overlay x.prv o b }
/-- A PRV field. -/
def PassSt.at_ (x : PassSt) (o n : Nat) : Nat := leAt x.prv o n
/-- FRAME_LEN. -/
def PassSt.len (x : PassSt) : Nat := leAt x.prv 8 2
/-- CLASS of META.QCTL. -/
def PassSt.cls (x : PassSt) : Nat := leAt x.prv 112 1 % 8
/-- COLOUR of META.QCTL. -/
def PassSt.colour (x : PassSt) : Nat := leAt x.prv 112 1 / 8 % 4
/-- Set COLOUR. -/
def PassSt.setColour (x : PassSt) (c : Nat) : PassSt :=
  let q := leAt x.prv 112 1
  x.put 112 (leBytes 1 (q / 32 * 32 + c * 8 + q % 8))
/-- Set META.DEST and its HAIRPIN. -/
def PassSt.fwd (x : PassSt) (dest : Nat) (hair : Bool) : PassSt := { x.put 108 (leBytes 4 dest) with hair := hair }

/-- FWD_SRC: a PRV SRC as a DEST; kind 0b11 gives a reserved KIND (R191). -/
def destOfSrc (v : Nat) : Nat :=
  match v / 2 ^ 14 % 4 with
  | 0 => 0x20000000 + v % 256
  | 1 => 0x40000000 + v % 16
  | 2 => 0x60000000 + v / 256 % 32 * 2 ^ 24 + v % 256 * 2 ^ 16 + 0xFFFF
  | _ => 0xE0000000

/-! ### Action sets (R186, R187, R200, R201, R203) -/

/-- What a primitive does to the pass; `none` is an action fault. `g` is the PIPE page, `st` the stage and `ad`
ACTION_DATA. -/
def State.prim (s : State) (g : PageKey) (st op arg ad : Nat) (x : PassSt) : Option PassSt × State :=
  let r := regionIdx g
  let f := fun (lo w : Nat) => natField arg lo w
  let ok := fun (x : PassSt) => (some x, s)
  match op with
  | 0x00 => ok x
  | 0x01 => ok (x.fwd (f 0 32) (arg.testBit 32))
  | 0x02 => ok (x.fwd (ad % 2 ^ 32) (arg.testBit 32))
  | 0x03 => ok (x.fwd (destOfSrc (ad % 65536)) (arg.testBit 32))
  | 0x04 =>
    if 8 ≤ x.copies.length + (if x.at_ 108 4 = 0 then 0 else 1) then (some x, s.pipeEvent g 0x09 x.len)
    else if f 0 32 = 0 then ok x
    else ok { x with copies := x.copies ++ [{ dest := BitVec.ofNat 32 (f 0 32), hair := arg.testBit 32 }] }
  | 0x05 =>
    if f 0 8 < 0x80 then (none, s)
    else ok { x with drop := some (x.drop.getD (f 0 8)) }
  | 0x06 => ok (x.put 112 (leBytes 1 (x.at_ 112 1 / 8 * 8 + f 0 3)))
  | 0x07 =>
    let i := if arg.testBit 18 then ad % 2 ^ 18 else f 0 18
    let v := s.police (pgSite g) i x.len x.colour (arg.testBit 19)
    let y := x.setColour v.1
    (some (if v.2.1 then { y with drop := some (y.drop.getD 0x0A) } else y), v.2.2)
  | 0x08 =>
    let pair := if arg.testBit 22 then ad % 2 ^ 22 else f 0 22
    if pair < 256 ∨ 2 ^ s.frFld g 0x124 0 5 ≤ pair then (none, s)
    else (some x, s.cntAdd g pair x.len)
  | 0x09 =>
    let o := 108 + f 20 5
    let n := f 16 3 + 1
    if 128 < o + n then (none, s)
    else
      let base := x.at_ (32 + 2 * f 0 3) 2
      let a := base + f 8 8
      ok (x.put o ((List.range n).map fun i =>
        if base ≠ 0xFFFF ∧ a + i < 512 then x.head.getD (a + i) 0 else 0))
  | 0x0A =>
    let o := 108 + f 0 5
    if 128 < o + 2 then (none, s)
    else ok (x.put o (leBytes 2 (if arg.testBit 5 then ad % 65536 else f 16 16)))
  | 0x10 => ok { x with edits := x.edits ++ [.dmac (arg.testBit 49) (if arg.testBit 48 then ad % 2 ^ 48 else f 0 48)] }
  | 0x11 => ok { x with edits := x.edits ++ [.smac (arg.testBit 49) (if arg.testBit 48 then ad % 2 ^ 48 else f 0 48)] }
  | 0x12 => ok { x with edits := x.edits ++ [.push (arg.testBit 17) (arg.testBit 16) (f 0 16)] }
  | 0x13 => ok { x with edits := x.edits ++ [.pop (arg.testBit 17)] }
  | 0x14 => ok { x with edits := x.edits ++ [.vset (arg.testBit 17) (arg.testBit 15) (f 12 3) (f 0 12)] }
  | 0x15 => ok { x with edits := x.edits ++ [.ttl (arg.testBit 0) (arg.testBit 1)] }
  | 0x16 => ok { x with edits := x.edits ++ [.dscp (arg.testBit 6) (f 0 6)] }
  | 0x17 => ok { x with csumReq := Nat.lor x.csumReq (f 0 3) }
  | 0x18 => ok { x with tsMode := f 0 2 }
  | 0x20 => ok { x with encap := some (f 0 13, f 16 32, ad) }
  | 0x21 => if decapOk x.parsed then ok { x with decap := true } else (none, s)
  | 0x22 => ok { x with ciphers := x.ciphers ++ [(f 25 2, if arg.testBit 24 then ad % 2 ^ 24 else f 0 24)] }
  | 0x28 => ok { x with steer := some (f 0 3, f 8 6) }
  | 0x29 => ok { x with recirc := true }
  | 0x2A =>
    if x.at_ 6 1 / 16 % 4 = 3 then ok x
    else if 2 ≤ x.rcopies.length then (some x, s.pipeEvent g 0x09 x.len)
    else ok { x with rcopies := x.rcopies ++ [f 0 16] }
  | 0x2B =>
    if 4 ≤ x.sess.length then (some x, s.pipeEvent g 0x09 x.len)
    else
      let c := f 0 4
      if !bit (s.fr g (0x304 + 0x10 * c)) 31 then ok x
      else
        let n := tabGet 0 s.sampling (r * 16 + c) + 1
        let rate := s.frFld g (0x308 + 0x10 * c) 0 16
        let s := { s with sampling := tabPut 0 s.sampling (r * 16 + c) (if n < rate then n else 0) }
        if rate ≤ n then (some { x with sess := x.sess ++ [(c, ad)] }, s) else (some x, s)
  | 0x2C => ok (x.put 6 (leBytes 1 (Nat.lor (x.at_ 6 1) 8)))
  | 0x30 => if st < f 0 4 ∧ f 0 4 ≤ 11 then ok { x with goto_ := some (f 0 4) } else (none, s)
  | 0x31 => ok { x with quit := true }
  | _ => (none, s)

/-- Run the four primitives of a set in slot order; EXIT ends it, an action fault drops the frame. -/
def State.runSet (s : State) (g : PageKey) (st ad : Nat) (x : PassSt) : List Nat → PassSt × State
  | [] => (x, s)
  | w :: ws =>
    match s.prim g st (w / 2 ^ 58) (w % 2 ^ 58) ad x with
    | (none, s) => ({ x with drop := some 0x07 }, s)
    | (some y, s) => if y.quit then (y, s) else s.runSet g st ad y ws

/-- The primitives of an action set (R186). -/
def State.actionSet (s : State) (r i : Nat) : List Nat :=
  let b := tabGet [] s.asets (r * 16384 + i)
  (List.range 4).map fun p => leAt b (8 * p) 8

/-- Run an action set by number (R183, R186). -/
def State.action (s : State) (g : PageKey) (st set ad : Nat) (x : PassSt) : PassSt × State :=
  if set = 0 then (x, s)
  else if 16384 ≤ set then ({ x with drop := some 0x07 }, s)
  else s.runSet g st ad x (s.actionSet (regionIdx g) set)

/-! ### Stages (R181–R185) -/

/-- Select and run the action set of a stage from the lookups' results: RESULT and ACTION_DATA of the
exact-match hit, RESULT of the ternary hit (R183). -/
def State.selectSet (s : State) (g : PageKey) (st : Nat) (em : Option (Nat × Nat)) (tern : Option Nat) (x : PassSt) :
    PassSt × State :=
  let c := s.fr g (0x200 + 0x10 * st)
  let th := tern.map fun t => (t, 0)
  let x := if bit c 29 ∧ em.isSome then x.put 112 (leBytes 1 (Nat.lor (x.at_ 112 1) 0x20)) else x
  let em := if bit c 29 then none else em
  let pick := if bit c 28 then (match th with | some t => some t | none => em)
    else (match em with | some e => some e | none => th)
  match pick with
  | none => s.action g st (s.frFld g (0x204 + 0x10 * st) 0 24) 0 x
  | some (res, ad) => s.action g st (res / 256) ad (x.put 113 (leBytes 1 res))

/-- Where a pass goes after the action set of a stage: to a stage below 12, or to the editor. -/
def PassSt.nextStage (x : PassSt) (st : Nat) : Nat :=
  if x.quit || x.drop.isSome || x.steer.isSome then 12 else (x.goto_.getD (st + 1))

/-- The table that a stage looks up. -/
def stageTable (g : PageKey) (c : Reg) : Nat := pgSite g * 32 + fld c 8 5

/-- Run the stages from `st` on; a far lookup stops with what the header parks with (R185). -/
def State.stages (s : State) (g : PageKey) (st : Nat) (x : PassSt) : Nat → (PassSt × Option Park) × State
  | 0 => ((x, none), s)
  | k + 1 =>
    if 12 ≤ st then ((x, none), s)
    else
      let c := s.fr g (0x200 + 0x10 * st)
      let r := regionIdx g
      let bank := x.at_ 6 1 / 64 % 2
      let tern := if bit c 30 then s.ternary r bank (s.clsKey r bank (fld c 16 4) x.prv) else none
      let go := fun (s : State) (em : Option (Nat × Nat)) =>
        let y := s.selectSet g st em tern x
        y.2.stages g (y.1.nextStage st) { y.1 with goto_ := none } k
      if !bit c 31 then go s none
      else
        let t := stageTable g c
        let key := s.clsKey r bank (fld c 20 4) x.prv
        let l := s.tblLookup t key
        let s := l.2
        let src := x.at_ 0 2
        let post := bit c 29 && s.tblLive t && bit (s.fr (tblPage t) (descOff t)) 26 &&
          (match l.1 with
           | none => true
           | some e => e.learned && e.data.toNat % 65536 != src)
        let s := if post then s.learnPost t key src else s
        let em := l.1.map fun e => (e.result.toNat, e.data.toNat)
        if s.tblLive t && (s.geo t).far then
          ((x, some { stage := st, since := s.clk, pass := x, reply := em, tern := tern }),
           s.count g 0x12 1)
        else go s em

/-! ### The editor (R194–R198) -/

/-- Apply the recorded rewrites: an expired TTL ends the pass with event 0x03, or steers it (R195). -/
def applyEdits (e : Ed) : List Edit → Ed ⊕ Bool
  | [] => .inl e
  | x :: xs =>
    let expired := match x with
      | .ttl o _ => (match e.l3 o with | some (p, t) => decide (ttlAt e.b p t ≤ 1) | none => false)
      | _ => false
    let exc := match x with
      | .ttl _ b => b
      | _ => false
    if expired then .inr exc else applyEdits (e.edit x) xs

/-- Encapsulate with the template at a line: the edited frame, or none for a bad template (R196, R197). -/
def State.encapAt (s : State) (r line key ad hash : Nat) (e : Ed) : Option Ed × State :=
  if line = 0 then (none, s)
  else
    let bytes := (List.range 6).flatMap fun i =>
      if line + i < 8192 then padTo (tabGet [] s.tpls (r * 8192 + line + i)) 64 else zeros 64
    match readTpl bytes with
    | none => (none, s)
    | some t =>
      let id := tabGet 0 s.ipId r
      let sq := tabGet 0 s.greSeq (r * 8192 + line)
      match e.encap t (if t.flag 0 then ad % 2 ^ 32 else key) hash id sq with
      | none => (none, s)
      | some y =>
        let v4 := byteAt t.hdr t.l3 / 16 == 4
        let s := if v4 then { s with ipId := tabPut 0 s.ipId r ((id + 1) % 65536) } else s
        let s := if t.type = 3 ∧ t.flag 5 then
            { s with greSeq := tabPut 0 s.greSeq (r * 8192 + line) ((sq + 1) % 2 ^ 32) } else s
        (some y, s)

/-- The result of the editor: the frame, an event that drops it, or a steer to the exception channel. -/
inductive Edited where
  | frame (b : List Byte)
  | drop (code : Nat)
  | exc
  deriving DecidableEq, Repr

/-- The editor (R194). -/
def State.edit (s : State) (r : Nat) (x : PassSt) (b : List Byte) : Edited × State :=
  let e := Ed.start b x.parsed
  let d := if x.decap then e.decap else some e
  match d with
  | none => (.drop 0x04, s)
  | some e =>
    match applyEdits e x.edits with
    | .inr true => (.exc, s)
    | .inr false => (.drop 0x03, s)
    | .inl e =>
      let t := match x.encap with
        | none => (some e, s)
        | some (line, key, ad) => s.encapAt r line key ad (x.at_ 28 4) e
      match t.1 with
      | none => (.drop 0x0B, t.2)
      | some e => (.frame (if x.csumReq % 4 = 0 then e.b else (e.csum x.csumReq).b), t.2)

/-! ### Decrypts at the end of a pass (R211–R213, R222) -/

/-- Where the protected header of a decrypt stands: MACsec after the addresses, or ESP (R122). -/
def protPlace (proto : Nat) (p : Parsed) : Option Nat :=
  if proto = 1 then (if p.secTag then some 14 else none)
  else if p.tL4 = 5 then p.oL4 else if p.tIL4 = 5 then p.oIL4 else none

/-- Does the SecTAG belong to the receive context: its AN, and its SCI where it carries one (R218)? -/
def macsecFits (x : KeyCtx) (b : List Byte) (o : Nat) : Bool :=
  let tci := byteAt b o
  tci % 4 == leAt x.pstate 20 1 % 4 && (!tci.testBit 5 || beAt b (o + 6) 8 == leAt x.pstate 0 8)

/-- The result of a decrypt at the end of a pass. -/
inductive Decrypted where
  /-- the invocation is void: a later fragment, or ESP in a fragment (R213) -/
  | void
  | refused
  | owes (k : Check) (b : List Byte)
  deriving DecidableEq, Repr

/-- Start the decrypt of a frame by context `c` (R211–R213, R222, R226, R227, R231). -/
def State.decrypt (s : State) (cfg : ParseCfg) (r src c : Nat) (b : List Byte) : Decrypted × State :=
  if s.eclipsed then (.refused, s.countRefused r .eclipse)
  else
    let x := s.ctx c
    let p := parseFrame cfg b
    let frag := p.fragLater || p.firstFrag
    if p.fragLater ∨ (x.proto = 2 ∧ p.esp ∧ frag) then (.void, s)
    else if x.st ≠ 0 ∧ !scopeAdmits x.owner src none then (.refused, s.scopeRefused r)
    else match protPlace x.proto p with
      | none => (.refused, if x.st = 0 then s.countRefused r .spent else s.countRefused r .scope)
      | some o =>
        if !((x.proto = 1 ∨ x.proto = 2) ∧ x.receive ∧ algFits x.proto x.alg ∧
            (x.proto = 2 ∨ macsecFits x b o)) then (.refused, s.countRefused r .scope)
        else
          let n := x.fullNumber (if x.proto = 1 then beAt b (o + 2) 4 else beAt b (o + 4) 4)
          match s.ctxStart r c false with
          | (.inl _, s) => (.refused, s)
          | (.inr c, s) =>
            if (s.ctx c).replayed n then (.refused, s.count (ciphPage r) 0x02 1)
            else
              let d := s.ctxOpen r c n b
              (.owes d.1 d.2, s)

/-- Run the decrypts of a pass in order; a refused one drops the frame. Contexts of TLS receive run at
dequeue. -/
def State.decrypts (s : State) (cfg : ParseCfg) (r src : Nat) (b : List Byte) (ks : List Check) :
    List (Nat × Nat) → Option (List Check × List Byte) × State
  | [] => (some (ks, b), s)
  | (dir, c) :: cs =>
    if dir ≠ 2 ∨ (s.ctx c).proto = 4 then s.decrypts cfg r src b ks cs
    else match s.decrypt cfg r src c b with
      | (.void, s) => s.decrypts cfg r src b ks cs
      | (.refused, s) => (none, s)
      | (.owes k b, s) => s.decrypts cfg r src b (ks ++ [k]) cs

/-! ### The end of a pass -/

/-- Is a destination the frame's own source (R191)? -/
def isHairpin (d : Reg) (src : Nat) : Bool :=
  match fld d 29 3 with
  | 1 => src == fld d 0 8
  | 2 => src == 0x4000 + fld d 0 4
  | 3 => src == 0x8000 + fld d 24 5 * 256 + fld d 16 8
  | _ => false

/-- Release of a decrypt toward a destination is early: an express frame to a host or an Ethernet port, or a
receive ring with the early-release option (R229). -/
def State.earlyRelease (s : State) (express : Bool) (d : Reg) : Bool :=
  match s.resolveDest d with
  | none => false
  | some (.mac p) => express && !s.macApl p
  | some (.host e f h) => express || (s.wring (ringKey e f h)).earlyRel

/-- A queue entry of the pass (R189–R193). -/
def State.entryOf (s : State) (h : Hdr) (x : PassSt) (b : List Byte) (d : Reg) (bad early copy : Bool) : Entry :=
  let sqe := match h.frame.tx with
    | none => []
    | some t => ((tabFind s.txs t).map TxRec.sqe).getD []
  let fl := leAt sqe 1 1
  let host := !copy && !sqe.isEmpty && leAt sqe 0 1 == 1
  let own := match h.frame.tx with
    | none => 0
    | some t => (s.rd (instPage (ringEp (((tabFind s.txs t).map TxRec.ring).getD 0))
        (ringFn (((tabFind s.txs t).map TxRec.ring).getD 0)) 2) 0x100).toNat + leAt sqe 8 2
  { seq := h.seq, ferry := h.ferry, unordered := (x.at_ 6 1).testBit 3 || h.seq.isNone
    express := h.frame.express, dest := d, cls := x.cls, colour := min x.colour 2, bytes := b
    buf := h.frame.buf, prv := x.prv
    tsMode := if x.tsMode ≠ 0 then x.tsMode else if host && fl.testBit 3 then 1 else 0
    enc := if copy then [] else ((x.ciphers.filter fun c => c.1 == 1).map Prod.snd) ++
      (if host && fl.testBit 4 then [own] else [])
    dec := if copy then none else (x.ciphers.find? fun c => c.1 == 2 && (s.ctx c.2).proto == 4).map Prod.snd
    bad := bad, early := early, tx := h.frame.tx }

/-- Send an entry toward the landing of its egress die (R136, R190). -/
def State.sendEntry (s : State) (e : Entry) : State :=
  match s.resolveDest e.dest with
  | none => s
  | some t => (s.bufHold e.buf 1).linkSend (bufDie e.buf) t.outlet.1 (.entry e)

/-- Session copies of the edited frame (R200). -/
def State.sendSessions (s : State) (g : PageKey) (h : Hdr) (x : PassSt) (b : List Byte) : State :=
  x.sess.foldl (fun s c =>
    let o := 0x300 + 0x10 * c.1
    let ctl := s.fr g (o + 4)
    let cp := if fld ctl 0 10 = 0 then b else b.take (fld ctl 0 10)
    let t := if fld ctl 16 13 = 0 then (some cp, s)
      else
        let e := s.encapAt (regionIdx g) (fld ctl 16 13) 0 c.2 (x.at_ 28 4)
          (Ed.start cp (parseFrame (s.parseCfg g) cp))
        (e.1.map Ed.b, e.2)
    match t.1 with
    | none => t.2.pipeEvent g 0x0B x.len
    | some cp =>
      let d := t.2.fr g o
      if (t.2.resolveDest d).isNone then t.2.pipeEvent g 0x08 x.len
      else t.2.sendEntry (t.2.entryOf h x cp d false false true)) s

/-- The destinations of a pass that are left after R191, the suppressed ones counted. -/
def State.destinations (s : State) (g : PageKey) (x : PassSt) : List Reg × State :=
  let prim := x.at_ 108 4
  let all : List Dest := (if prim = 0 then [] else [{ dest := BitVec.ofNat 32 prim, hair := x.hair }]) ++ x.copies
  let s := (all.drop 8).foldl (fun s _ => s.pipeEvent g 0x09 x.len) s
  (all.take 8).foldl (fun a d =>
    if (a.2.resolveDest d.dest).isNone then (a.1, a.2.pipeEvent g 0x08 x.len)
    else if !d.hair && isHairpin d.dest (x.at_ 0 2) then (a.1, a.2.pipeEvent g 0x02 x.len)
    else (a.1 ++ [d.dest], a.2)) ([], s)

/-- The header of a further pass of a frame (R205, R206). -/
def again (h : Hdr) (x : PassSt) (b : List Byte) (value : Option Nat) : Hdr :=
  let m := overlay (slice x.prv 108 20) 0 (zeros 4)
  let m := match value with
    | none => m
    | some v => overlay m 6 (leBytes 2 v)
  { h with pass := min 3 (h.pass + 1), bytes := some b, metab := m, park := none, checks := [], owed := none
           frame := { h.frame with unordered := (x.at_ 6 1).testBit 3 } }

/-- Has the frame received a forced hole (R138)? -/
def State.isLate (s : State) (h : Hdr) : Bool :=
  match h.seq with
  | none => false
  | some k => (s.seq k).late.contains h.ferry

/-- A pass that does not continue has ended: its ferry number is resolved, and its use of the buffer is over
unless a cluster took it (R135, R206). -/
def State.passEnd (s : State) (h : Hdr) (keep : Bool) : State :=
  let s := if keep then s else s.bufDone h.frame.buf
  match h.seq with
  | none => s
  | some k =>
    if s.isLate h then
      if s.hdrs.any fun o => o.seq == some k && o.ferry == h.ferry then s
      else s.setSeq k { s.seq k with late := (s.seq k).late.erase h.ferry }
    else s.seqResolve k h.ferry

/-- Steer the frame to a cluster of the region: its bytes so far stay in the buffer (R204, R394). -/
def State.steerTo (s : State) (g : PageKey) (h : Hdr) (x : PassSt) (b : List Byte) (c ch : Nat) : State :=
  let s := s.pipeEvent g 0x0C x.len
  let s := match s.buf h.frame.buf with
    | none => s
    | some v => s.setBuf h.frame.buf { v with bytes := b }
  (s.workMsg (regionIdx g * 8 + c) ch x.prv h.frame.buf).passEnd h true

/-- The end of a pass after its decrypts: `ok` says that every verdict owed was good. Entries, further passes,
or the drop (R191, R200, R204–R206, R229). -/
def State.emitPass (s : State) (g : PageKey) (h : Hdr) (x : PassSt) (b : List Byte) (ok dec : Bool) : State :=
  let s := if ok then s.sendSessions g h x b else s
  match x.steer, ok with
  | some (c, ch), true => s.steerTo g h x b c ch
  | some _, false => s.passEnd h false
  | none, _ =>
    let cps := if ok then x.rcopies else []
    let s := cps.foldl (fun s v =>
      let s := (s.bufHold h.frame.buf 1).pipeEvent g 0x0D x.len
      let s := match h.seq with
        | none => s
        | some k => s.seqFork k h.ferry
      { s with hdrs := s.hdrs ++ [again h x b (some v)] }) s
    if x.recirc ∧ !ok then s.passEnd h false
    else if x.recirc ∧ h.pass = 3 then (s.pipeEvent g 0x05 x.len).passEnd h false
    else if x.recirc then
      let s := s.pipeEvent g 0x0D x.len
      { s with hdrs := s.hdrs ++ [again h x b none] }
    else
      let ds := s.destinations g x
      let s := ds.2
      let go := if ok then ds.1 else ds.1.filter fun d => s.earlyRelease h.frame.express d
      let s := if ds.1 = [] then s.pipeEvent g 0x01 x.len else s
      let s := go.foldl (fun s d => s.sendEntry (s.entryOf h x b d (!ok) (dec && s.earlyRelease h.frame.express d) false)) s
      s.passEnd h false

/-- The end of the last stage: event, editor, decrypts, and what follows (R194, R201, R204, R211). -/
def State.finishPass (s : State) (h : Hdr) (x : PassSt) : State :=
  let g := pipeKey h.pipe
  let r := regionIdx g
  let b := h.bytes.getD (s.bufBytes h.frame.buf)
  let s := s.pipeEvent g 0x00 x.len
  if s.isLate h then (s.count (diePage (pgSite g) 6) 0x01 1).passEnd h false
  else
    let host := match h.frame.tx with
      | none => 0
      | some t => leAt (((tabFind s.txs t).map TxRec.sqe).getD []) 1 1 % 8
    let x := if h.pass = 0 then { x with csumReq := Nat.lor x.csumReq host } else x
    match x.drop with
    | some code => ((s.sendSessions g h x b).pipeEvent g code x.len).passEnd h false
    | none =>
      let ed := if x.steer.isSome then (Edited.frame b, s) else s.edit r x b
      match ed with
      | (.drop code, s) => ((s.sendSessions g h x b).pipeEvent g code x.len).passEnd h false
      | (.exc, s) =>
        let s := s.sendSessions g h x b
        s.steerTo g h x b (s.frFld g 0x10C 8 3) (s.frFld g 0x10C 0 6)
      | (.frame b', s) =>
        match s.decrypts (s.parseCfg g) r (x.at_ 0 2) b' [] x.ciphers with
        | (none, s) => (s.sendSessions g h x b').passEnd h false
        | (some ([], _), s) => s.emitPass g h x b' true false
        | (some (ks, b''), s) =>
          { s with hdrs := s.hdrs ++ [{ h with park := none, bytes := some b'', checks := ks, owed := some x }] }

/-- Run the stages of a header from `st` on, to the editor or to its next far lookup. -/
def State.runFrom (s : State) (h : Hdr) (st : Nat) (x : PassSt) : State :=
  match s.stages (pipeKey h.pipe) st x 13 with
  | ((x, none), s) => s.finishPass h x
  | ((_, some p), s) => { s with hdrs := s.hdrs ++ [{ h with park := some p }] }

/-- The parser's part of a pass (R122–R127, R130): malformed frames are dropped, steered or flagged. -/
def State.startPass (s : State) (h : Hdr) : State :=
  let g := pipeKey h.pipe
  let r := regionIdx g
  let b := h.bytes.getD (s.bufBytes h.frame.buf)
  let bank := h.bank.getD (s.rdFld (clsPage r) 0x100 0 1)
  let h := { h with bank := some bank }
  let cfg := { s.parseCfg g with csum := some (if h.pass = 0 then h.frame.csum else 0) }
  let p := parseFrame cfg b
  let ctl := (if h.frame.express then 128 else 0) + bank * 64 + h.pass * 16 + (if h.frame.unordered then 8 else 0)
  let prv := p.vector h.frame.src h.ferry h.frame.vport ctl b.length h.frame.ts (bufHandle h.frame.buf) (padTo h.metab 20)
  let x : PassSt := { prv := prv, parsed := p, head := b.take 512 }
  let s := s.count g 0x10 1
  let s := if h.frame.express then s.count g 0x11 1 else s
  let s := if h.pass ≠ 0 then s.count g 0x13 1 else s
  let s := if p.malf ≠ 0 then s.count g p.malf 1 else s
  let prof : Nat := if p.malf = 0 then 1 else s.frFld g 0x108 (2 * p.malf - 2) 2
  if prof = 0 ∨ prof = 2 then
    if s.isLate h then (s.count (diePage (pgSite g) 6) 0x01 1).passEnd h false
    else if prof = 0 then s.passEnd h false
    else s.steerTo g h x b (s.frFld g 0x10C 8 3) (s.frFld g 0x10C 0 6)
  else s.runFrom h 0 x

/-! ### The pipeline's commands -/

/-- Do two PRV SRC values name one ingress source: all functions of an endpoint share it (R117)? -/
def sameSource (a b : Nat) : Bool := if a / 2 ^ 14 = 2 then a / 256 == b / 256 else a == b

/-- May a header start its pass now: it is in the pipeline's entry and, if express, no earlier express header of
its source is still in the pipeline (R121)? -/
def Hdr.ready (h : Hdr) (earlier : List Hdr) : Bool :=
  h.park.isNone && h.owed.isNone &&
    !(h.frame.express && earlier.any fun o => o.pipe == h.pipe && o.frame.express && sameSource o.frame.src h.frame.src)

/-- The index of the first header of pipeline `p` that is ready and satisfies `q`. -/
def firstHdr (p : Nat) (q : Hdr → Bool) (earlier : List Hdr) (i : Nat) : List Hdr → Option Nat
  | [] => none
  | h :: hs =>
    if h.pipe = p ∧ q h ∧ h.ready earlier then some i else firstHdr p q (earlier ++ [h]) (i + 1) hs

/-- The header that enters next: express, then recirculated, then the others (R121, R205). -/
def State.nextHdr (s : State) (p : Nat) : Option Nat :=
  match firstHdr p (fun h => h.frame.express) [] 0 s.hdrs with
  | some i => some i
  | none => match firstHdr p (fun h => h.pass != 0) [] 0 s.hdrs with
    | some i => some i
    | none => firstHdr p (fun _ => true) [] 0 s.hdrs

/-- Can the pipeline work: lit, not fenced, not in reset? -/
def State.pipeOn (s : State) (p : Nat) : Bool :=
  s.litDom (128 + p) && !s.isFenced (pipeKey p) && !s.inReset (pipeKey p)

/-- PIPELINE_PASS: the next header of the pipeline is parsed and passes the stages to the editor or to a far
lookup (R184). -/
def execPipelinePass (p : Fin 64) (s : State) : Host.Outcome State Fault Refusal :=
  if !s.pipeOn p then .next s
  else match s.nextHdr p with
    | none => .next s
    | some i => match s.hdrs[i]? with
      | none => .next s
      | some h => .next (({ s with hdrs := s.hdrs.eraseIdx i }).startPass h)

/-- The headers parked in a pipeline, in the order in which they parked. -/
def State.parked (s : State) (p : Nat) : List (Nat × Hdr × Park) :=
  (s.hdrs.zipIdx.filterMap fun e => match e.1.park with
    | some k => if e.1.pipe = p then some (e.2, e.1, k) else none
    | none => none)

/-- FAR_RESUME: the far reply of the `k`-th parked header arrives within 880 ns, and the header resumes at its
stage (R185). -/
def execFarResume (p : Fin 64) (k : Nat) (s : State) : Host.Outcome State Fault Refusal :=
  match (s.parked p)[k]? with
  | none => .next s
  | some (i, h, q) =>
    if !s.pipeOn p ∨ 880 ≤ s.clk - q.since then .next s
    else
      let s := { s with hdrs := s.hdrs.eraseIdx i }
      let y := s.selectSet (pipeKey p) q.stage q.reply q.tern q.pass
      .next (y.2.runFrom { h with park := none } (y.1.nextStage q.stage) { y.1 with goto_ := none })

/-- FAR_TIMEOUT: 880 ns after the `k`-th parked header parked its reply has not arrived: a miss, counted at event
code 0x06 (R185). -/
def execFarTimeout (p : Fin 64) (k : Nat) (s : State) : Host.Outcome State Fault Refusal :=
  match (s.parked p)[k]? with
  | none => .next s
  | some (i, h, q) =>
    if !s.pipeOn p ∨ s.clk - q.since < 880 then .next s
    else
      let s := ({ s with hdrs := s.hdrs.eraseIdx i }).pipeEvent (pipeKey p) 0x06 q.pass.len
      let y := s.selectSet (pipeKey p) q.stage none q.tern q.pass
      .next (y.2.runFrom { h with park := none } (y.1.nextStage q.stage) { y.1 with goto_ := none })

/-- The verdicts of a list of checks, in order: all good? -/
def State.verdicts (s : State) : List Check → Bool × State
  | [] => (true, s)
  | k :: ks =>
    let v := s.verdict k
    let r := v.2.verdicts ks
    (v.1 && r.1, r.2)

/-- TAG_VERDICT: the tag checks of the first header of the pipeline that waits for them complete; a good one moves
the replay window, a failed one is carried or drops the frame (R229–R231). -/
def execTagVerdict (p : Fin 64) (s : State) : Host.Outcome State Fault Refusal :=
  match s.hdrs.zipIdx.find? fun e => e.1.pipe == p.val && e.1.owed.isSome with
  | none => .next s
  | some (h, i) =>
    match h.owed with
    | none => .next s
    | some x =>
      let s := { s with hdrs := s.hdrs.eraseIdx i }
      let v := s.verdicts h.checks
      let b := h.bytes.getD []
      .next (v.2.emitPass (pipeKey p) { h with checks := [], owed := none } x b v.1 true)

/-! ### Spreading (R118–R121) -/

/-- The pipelines of a region that are not fenced, ascending. -/
def State.openPipes (s : State) (r : Nat) : List Nat :=
  ([0, 1, 2, 3].map (4 * r + ·)).filter fun p => !s.isFenced (pipeKey p)

/-- Frames of a sequence above its watermark (R120). -/
def FerrySeq.above (q : FerrySeq) : Nat := idxDiff (idxAdd q.next 65535) q.w

/-- Hand a header to a pipeline. -/
def State.enter (s : State) (h : Hdr) : State := ({ s with hdrs := s.hdrs ++ [h] }).work (128 + h.pipe)

/-- The pinned pipeline of a source, or the fallback past fenced ones (R121). -/
def State.pinnedPipe (s : State) (src : Nat) : Option Nat :=
  let r := src / 32
  let l := src % 32
  let p := ([0, 1, 2, 3].find? fun k => bit (s.fr (pipePage r k) 0x110) l).getD (l % 4)
  ([0, 1, 2, 3].map fun k => 4 * r + (p + k) % 4).find? fun q => !s.isFenced (pipeKey q)

/-- SPREAD: the oldest non-express frame of a source receives a ferry number and goes to a pipeline; at a full
window spreading pauses (R119, R120). -/
def execSpread (src : Nat) (s : State) : Host.Outcome State Fault Refusal :=
  let x := s.fifo src
  let q := s.seq src
  match x.ord with
  | [] => .next s
  | f :: fs =>
    if 8192 ≤ q.above then
      .next (if q.paused then s
        else (s.setSeq src { q with paused := true }).count (diePage (src / 128) 6) 0x03 1)
    else
      match s.openPipes (src / 32) with
      | [] => .next s
      | p :: ps =>
        let n := q.next
        let m := (p :: ps).length
        let pipe := (p :: ps).getD ((n + src % 32) % m) p
        let q := { q with next := idxAdd n 1, paused := false
                          unres := q.unres ++ [{ f := n, left := 1, pipe := pipe, at_ := s.clk }] }
        let s := (s.setFifo src { x with ord := fs }).setSeq src q
        .next (s.enter { pipe := pipe, frame := f, seq := some src, ferry := n })

/-- EXPRESS_SPREAD: the oldest express frame of a source goes without a ferry number to the pinned pipeline
(R121). -/
def execExpressSpread (src : Nat) (s : State) : Host.Outcome State Fault Refusal :=
  let x := s.fifo src
  match x.exp with
  | [] => .next s
  | f :: fs =>
    match s.pinnedPipe src with
    | none => .next s
    | some p =>
      .next ((s.setFifo src { x with exp := fs }).enter { pipe := p, frame := f, seq := none })

/-- FORCED_HOLE: the oldest unresolved frame of a sequence has waited FERRY_TO_US since it was spread and since
W last advanced: it receives a hole, and its pipeline is accused (R138). -/
def execForcedHole (src : Nat) (s : State) : Host.Outcome State Fault Refusal :=
  let q := s.seq src
  let land := diePage (src / 128) 6
  match q.unres with
  | [] => .next s
  | o :: us =>
    if s.frFld land 0x100 0 16 * 1000 ≤ s.clk - max o.at_ q.wAt then
      let s := s.setSeq src { q with unres := us, late := q.late ++ [o.f] }
      let s := (s.count land 0x00 1).report (pipeKey o.pipe) land 0x15 3 (src % 32)
      .next (s.seqAdvance src)
    else .next s

end Sys2Proof.Machine
end

