-- ==== Sys2Proof/Machine/PipeStore.lean ====
section
/-! DEFINITION. The stores of a region's pipelines: classification banks, action sets, templates and the
counter cache (R131–R133, R199, R202, R207). -/
namespace Sys2Proof.Machine

/-- Bytes of consecutive 32-bit registers as fast logic holds them. -/
def State.frBytes (s : State) (p : PageKey) (off n : Nat) : List Byte :=
  (List.range n).flatMap fun i => leBytes 4 (s.fr p (off + 4 * i)).toNat

/-- Load bytes into consecutive registers. -/
def State.putRegBytes (s : State) (p : PageKey) (off : Nat) (b : List Byte) : State :=
  (List.range (b.length / 4)).foldl
    (fun s i => s.postBoth p (off + 4 * i) (BitVec.ofNat 32 (leAt b (4 * i) 4))) s

/-- The effect of a command register with BUSY in bit 31: it is applied at once, or pends with BUSY set; while
BUSY is 1 a further command is ignored (R131, R207, R266). -/
def State.busyCmd (s : State) (mid : Mid) (p : PageKey) (off : Nat) (v : Reg) (act : State → State) : State :=
  if bit (s.rd p off) 31 then (s.stamp p).applied p
  else
    let s := s.ferryWrite mid p off v fun s => (act s).postBit p off 31 false
    if s.ferry.any fun w => w.page == p && w.off == off then s.postBit p off 31 true else s

/-! ### Classification banks (R131–R133) -/

/-- May the bank not be written: it is active, or the old one of a swap that is not DONE (R131)? -/
def State.bankLocked (s : State) (r bank : Nat) : Bool :=
  bank == s.rdFld (clsPage r) 0x100 0 1 || (tabGet {} s.clsSt r).old == some bank

/-- A refused command or profile write (R131). -/
def State.clsRefuse (s : State) (r : Nat) : State :=
  (((s.stamp (clsPage r)).postBit (clsPage r) 0x110 30 true).raiseBit (clsPage r) 1).applied (clsPage r)

/-- A rule of a bank. -/
def ruleKey (r bank i : Nat) : Nat := (r * 2 + bank) * 131072 + i

/-- CLS_RULE_CMD as the ferry applies it: WRITE replaces the rule, READ loads it (R131). -/
def State.clsRuleAct (s : State) (r : Nat) (v : Reg) : State :=
  let p := clsPage r
  let ix := s.fr p 0x10C
  let k := ruleKey r (fld ix 17 1) (fld ix 0 17)
  let u : Rule := { value := s.frBytes p 0x120 10, mask := s.frBytes p 0x150 10, valid := bit v 2, result := s.fr p 0x180 }
  let s := if bit v 0 then { s with rules := tabPut {} s.rules k u } else s
  let s := if bit v 1 then
      let u := tabGet {} s.rules k
      let s := (s.putRegBytes p 0x120 (padTo u.value 40)).putRegBytes p 0x150 (padTo u.mask 40)
      (s.postBoth p 0x180 u.result).postBit p 0x110 2 u.valid
    else s
  (s.postBit p 0x110 0 false).postBit p 0x110 1 false

/-- A write of CLS_RULE_CMD reaches the page. -/
def State.clsRuleCmd (s : State) (mid : Mid) (r : Nat) (v : Reg) : State :=
  if bit v 0 && s.bankLocked r (s.rdFld (clsPage r) 0x10C 17 1) then s.clsRefuse r
  else s.busyCmd mid (clsPage r) 0x110 v fun s => s.clsRuleAct r v

/-- A write of a CLS_PROF selector reaches the page (R131). -/
def State.clsProf (s : State) (mid : Mid) (r off : Nat) (v : Reg) : State :=
  if s.bankLocked r ((off - 0x400) / 0x400) then s.clsRefuse r
  else s.ferryWrite mid (clsPage r) off v id

/-- The boundary of a swap: from here every pipeline of the region stamps the new bank (R132). -/
def State.clsSwapAct (s : State) (r : Nat) : State :=
  let old := s.rdFld (clsPage r) 0x100 0 1
  let s := { s with clsSt := tabPut {} s.clsSt r { old := some old } }
  (s.post (clsPage r) 0x100 (BitVec.ofNat 32 (1 - old))).postBit (clsPage r) 0x104 0 false

/-- A GO to CLS_SWAP reaches the page (R132). -/
def State.clsSwap (s : State) (mid : Mid) (r : Nat) (v : Reg) : State :=
  let p := clsPage r
  if !bit v 0 then (s.stamp p).applied p
  else if bit (s.rd p 0x108) 31 then
    let s := (s.postBit p 0x108 31 false).postBit p 0x108 30 true
    s.ferryWrite mid p 0x104 v fun s => s.clsSwapAct r
  else ((s.stamp p).postBit p 0x108 29 true).applied p

/-- Headers of a region stamped with a bank. -/
def State.stamped (s : State) (r bank : Nat) : Nat :=
  (s.hdrs.filter fun h => pipeRegion h.pipe == r && h.bank == some bank).length

/-- CLS_RULE_WRITE (R131). -/
def execClsRuleWrite (mid : Mid) (r : Fin 16) (valid : Bool) (s : State) : Host.Outcome State Fault Refusal :=
  .next (s.accessWrite mid (clsPage r) 0x110 fun s => s.clsRuleCmd mid r (if valid then 5 else 1))

/-- CLS_RULE_READ (R131). -/
def execClsRuleRead (mid : Mid) (r : Fin 16) (s : State) : Host.Outcome State Fault Refusal :=
  .next (s.accessWrite mid (clsPage r) 0x110 fun s => s.clsRuleCmd mid r 2)

/-- CLS_PROF_WRITE: selector `i` of profile `prof` of a bank (R128, R131). -/
def execClsProfWrite (mid : Mid) (r : Fin 16) (bank : Fin 2) (prof : Fin 16) (i : Fin 10) (v : Reg) (s : State) :
    Host.Outcome State Fault Refusal :=
  let off := 0x400 + 0x400 * bank.val + 0x40 * prof.val + 4 * i.val
  .next (s.accessWrite mid (clsPage r) off fun s => s.clsProf mid r off v)

/-- CLS_SWAP (R132). -/
def execClsSwap (mid : Mid) (r : Fin 16) (s : State) : Host.Outcome State Fault Refusal :=
  .next (s.accessWrite mid (clsPage r) 0x104 fun s => s.clsSwap mid r 1)

/-- SWAP_DONE: no header stamped with the old bank remains in any pipeline of the region (R133). -/
def execSwapDone (r : Fin 16) (s : State) : Host.Outcome State Fault Refusal :=
  match (tabGet {} s.clsSt r.val).old with
  | none => .next s
  | some b =>
    if s.stamped r b = 0 then
      let p := clsPage r
      let s := { s with clsSt := tabPut {} s.clsSt r.val {} }
      .next (((s.postBit p 0x108 31 true).postBit p 0x108 30 false).raiseBit p 0)
    else .next s

/-! ### Action sets and templates (R199, R207) -/

/-- Bytes of a store entry; an entry of zeros is not listed. -/
def storeBytes (b : List Byte) : List Byte := if b.all (· == 0) then [] else b

/-- PIPE_AS_CMD as the ferry applies it. -/
def State.asAct (s : State) (p : PageKey) (v : Reg) : State :=
  let k := regionIdx p * 16384 + s.frFld p 0x130 0 14
  let s := if bit v 0 then { s with asets := tabPut [] s.asets k (storeBytes (s.frBytes p 0x140 8)) } else s
  let s := if bit v 1 then s.putRegBytes p 0x140 (padTo (tabGet [] s.asets k) 32) else s
  s.post p 0x134 0

/-- PIPE_TPL_CMD as the ferry applies it; line 0 holds no template (R196). -/
def State.tplAct (s : State) (p : PageKey) (v : Reg) : State :=
  let line := s.frFld p 0x160 0 13
  let k := regionIdx p * 8192 + line
  let s := if bit v 0 ∧ line ≠ 0 then { s with tpls := tabPut [] s.tpls k (storeBytes (s.frBytes p 0x180 16)) } else s
  let s := if bit v 1 ∧ line ≠ 0 then s.putRegBytes p 0x180 (padTo (tabGet [] s.tpls k) 64) else s
  s.post p 0x164 0

/-- PIPE_CNT_FLUSH.GO as the ferry applies it (R202). -/
def State.cntFlushAct (s : State) (p : PageKey) : State :=
  let r := regionIdx p
  let mine := s.cnts.filter fun e => e.1 / 2 ^ 22 == r
  (mine.foldl (fun s e => s.cntFlush r (e.1 % 2 ^ 22)) s).post p 0x128 0

/-- A write of a command register of a PIPE page. -/
def State.pipeCmd (s : State) (mid : Mid) (p : Fin 64) (off : Nat) (v : Reg)
    (act : State → PageKey → Reg → State) : State :=
  s.accessWrite mid (pipeKey p) off fun s => s.busyCmd mid (pipeKey p) off v fun s => act s (pipeKey p) v

/-- PIPE_AS_WRITE (R199, R207). -/
def execPipeAsWrite (mid : Mid) (p : Fin 64) (s : State) : Host.Outcome State Fault Refusal :=
  .next (s.pipeCmd mid p 0x134 1 State.asAct)

/-- PIPE_AS_READ (R207). -/
def execPipeAsRead (mid : Mid) (p : Fin 64) (s : State) : Host.Outcome State Fault Refusal :=
  .next (s.pipeCmd mid p 0x134 2 State.asAct)

/-- PIPE_TPL_WRITE (R199, R207). -/
def execPipeTplWrite (mid : Mid) (p : Fin 64) (s : State) : Host.Outcome State Fault Refusal :=
  .next (s.pipeCmd mid p 0x164 1 State.tplAct)

/-- PIPE_TPL_READ (R207). -/
def execPipeTplRead (mid : Mid) (p : Fin 64) (s : State) : Host.Outcome State Fault Refusal :=
  .next (s.pipeCmd mid p 0x164 2 State.tplAct)

/-- PIPE_CNT_FLUSH (R202). -/
def execPipeCntFlush (mid : Mid) (p : Fin 64) (s : State) : Host.Outcome State Fault Refusal :=
  .next (s.ownWrite mid (pipeKey p) 0x128 1 fun s => s.cntFlushAct (pipeKey p))

/-- COUNTER_WRITEBACK: a changed counter pair goes to HBM3E, within 10 µs of its change (R202). -/
def execCounterWriteback (r : Fin 16) (pair : BitVec 22) (s : State) : Host.Outcome State Fault Refusal :=
  .next (s.cntFlush r pair.toNat)

end Sys2Proof.Machine
end

