-- ==== Sys2Proof/Machine/Sched.lean ====
section
/-! DEFINITION. Landings, queue admission, the scheduler's tree and shapers, and time gates
(R137, R241–R257, R266–R268, R278, R280, R342, R343). -/
namespace Sys2Proof.Machine

/-- The SCHED page of a core die. -/
def schedPage (d : Nat) : PageKey := diePage d 2
/-- The PLCR page of a core die. -/
def plcrPage (d : Nat) : PageKey := diePage d 3
/-- The LAND page of a core die. -/
def landPage (d : Nat) : PageKey := diePage d 6

/-! ### Outlets -/

/-- An outlet. -/
def State.outlet (s : State) (d o : Nat) : Outlet := tabGet {} s.outlets (d * 256 + o)
/-- Store an outlet. -/
def State.setOutlet (s : State) (d o : Nat) (x : Outlet) : State :=
  { s with outlets := tabPut {} s.outlets (d * 256 + o) x }

/-- ADJ of an outlet in bytes (R266). -/
def outletAdj (o : Nat) (x : Outlet) : Int :=
  match x.adj with
  | none => if o / 8 < 12 then 24 else 0
  | some b => signedOf 8 b.toNat

/-- GT/s of a SPEED code of EP_LINK_STS, in Mbit/s per lane. -/
def speedMbit (c : Nat) : Nat :=
  match c with
  | 0 => 64000 | 1 => 32000 | 2 => 16000 | 3 => 8000 | 4 => 5000 | _ => 2500

/-- The current rate of an outlet in Mbit/s: the port's, or the endpoint link's lanes at their speed. -/
def State.outletRate (s : State) (d o : Nat) : Nat :=
  match outletMac d o, outletEp d o with
  | some p, _ => 100000 * 2 ^ s.macRate p
  | none, some e =>
    let v := s.rd (epPage e 1) 0x104
    fld v 22 5 * speedMbit (fld v 27 3)
  | none, none => 0

/-- The millibytes that a frame of `len` bytes costs at an outlet (R246, R248). -/
def cost (o : Nat) (x : Outlet) (len : Nat) : Nat := ((len : Int) + outletAdj o x).toNat * 1000

/-! ### Wake patterns (R278, R280) -/

/-- The bytes of a frame that a pattern's CRC covers. -/
def State.wakeBytes (s : State) (p : PageKey) (n : Nat) (b : List Byte) : List Byte :=
  let o := 0x200 + 0x20 * n
  let start := s.frFld p o 0 9
  ((List.range 128).filter fun i =>
      bit (s.fr p (o + 0x10 + 4 * (i / 32))) (i % 32) && decide (start + i < b.length)).map
    fun i => b.getD (start + i) 0

/-- Does pattern `n` match a frame for function `f`? -/
def State.wakeMatch (s : State) (e f n : Nat) (b : List Byte) : Bool :=
  let p := epPage e 2
  let o := 0x200 + 0x20 * n
  bit (s.fr p o) 31 && s.frFld p o 16 8 == f &&
    (crcT10 (s.wakeBytes p n b)).toNat == s.frFld p (o + 4) 0 16

/-- A function raises PME: PME_Status, then a PM_PME message, or WAKE_N while the link is down. -/
def State.pme (s : State) (e f : Nat) : State :=
  let c := s.cfgRd e f 0x044
  if !c.getLsbD 8 then s
  else
    let s := s.cfgPut e f 0x044 (c ||| bitR 15)
    let s := s.count (epPage e 0) 0x08 1
    if bit (s.rd (epPage e 0) 0x104) 29 then (s.emit (.pcieMsg e f "PM_PME")).raiseBit (epPage e 0) 7
    else ({ s with pins := { s.pins with wakeN := s.pins.wakeN &&& ~~~(BitVec.ofNat 32 (2 ^ e)) } }).emit
      (.pin "WAKE_N" e false)

/-- Is the function one that R278 names: in D3, or behind an asserted PERST_N? -/
def State.asleep (s : State) (e f : Nat) : Bool :=
  !s.pins.perstN.getLsbD e || s.dState e f != 0

/-- Test a frame for a sleeping function against the endpoint's patterns. -/
def State.wakeTest (s : State) (e f : Nat) (b : List Byte) : State :=
  (List.range 32).foldl (fun s n =>
    if s.wakeMatch e f n b then
      let s := ((s.postBit (epPage e 2) 0x100 n true).raiseBit (epPage e 2) 0).count (epPage e 0) 0x07 1
      s.pme e f
    else s) s

/-! ### Receive rings (R325, R342, R343) -/

/-- STATE of an instance (R308). -/
def State.instSt (s : State) (e f : Nat) : Nat := s.rdFld (instPage e f 0) 0x104 0 2

/-- The enabled RX ring that a handle names, directly or through RCFG_DEFRX. -/
def State.rxRing (s : State) (e f h : Nat) : Option Nat :=
  let h := if h = 0xFFFF then
      (if bit (s.fr (instPage e f 4) 0x140) 31 then s.frFld (instPage e f 4) 0x140 0 16 else 0xFFFF)
    else h
  let r := s.wring (ringKey e f h)
  if r.en ∧ r.rx then some (ringKey e f h) else none

/-- Has a ring prefetched buffers for a frame? -/
def WorkRing.holds (r : WorkRing) (len : Nat) : Bool :=
  decide (len ≤ r.pref.foldl (fun n b => n + b.len) 0)

/-! ### Queue admission (R243, R244, R246) -/

/-- Drop an entry at admission, counted in SCHED counter `c`. -/
def State.dropEntry (s : State) (d c : Nat) (e : Entry) : State :=
  (s.count (schedPage d) c 1).bufDone e.buf

/-- Bytes of a backlog. -/
def backlogBytes (l : List Entry) : Nat := l.foldl (fun n e => n + e.bytes.length) 0

/-- Admit a service-class entry to queue `q` by the limit of its colour (R244). -/
def State.admitTo (s : State) (d q : Nat) (e : Entry) : State :=
  let n := s.node d 0 q
  let k := queueKey d q
  let l := s.backlog k
  let lim := if e.colour = 0 then n.limit else if e.colour = 1 then n.ylimit else n.rlimit
  if !n.en then (s.countQueueDrop k e).dropEntry d 0x00 e
  else if lim * 1024 < backlogBytes l + e.bytes.length then
    (s.countQueueDrop k e).dropEntry d (0x01 + min e.colour 2) e
  else s.setBacklog k (l ++ [e])

/-- The queue of an entry that no ring binds: QSEL when it is valid and fits, else the outlet's default queue
(R243). -/
def State.chooseQueue (s : State) (d o : Nat) (e : Entry) : Nat × State :=
  let dflt := ((s.outlet d o).defq + e.cls) % 131072
  let qsel := leAt e.prv 124 4
  if !qsel.testBit 31 then (dflt, s)
  else
    let q := qsel % 131072
    if (s.node d 0 q).en ∧ s.queueService d q = 9 * o + e.cls then (q, s)
    else (dflt, s.count (schedPage d) 0x0A 1)

/-- The express policer of an outlet (R246). -/
def State.admitExpress (s : State) (d o : Nat) (e : Entry) : State :=
  let x := s.outlet d o
  let c := cost o x e.bytes.length
  if x.expBurst = 0 ∨ x.etok < c then s.dropEntry d 0x04 e
  else
    let k := expKey d o
    (s.setOutlet d o { x with etok := x.etok - c }).setBacklog k (s.backlog k ++ [e])

/-- Queue admission of an entry at its egress die (R243, R244, R246, R278, R342). -/
def State.takeIn (s : State) (d : Nat) (e : Entry) : State :=
  match s.resolveDest e.dest with
  | none => s.dropEntry d 0x00 e
  | some (.mac p) =>
    let o := (macOutlet p).2
    if e.express then s.admitExpress d o e
    else
      let q := s.chooseQueue d o e
      q.2.admitTo d q.1 e
  | some (.host ep f h) =>
    let o := (epOutlet ep).2
    if s.asleep ep f then
      (((s.wakeTest ep f e.bytes).count (epPage ep 0) 0x06 1).count (instPage ep f 0) 0x03 1).bufDone e.buf
    else if s.instSt ep f ≠ 2 then (s.count (instPage ep f 0) 0x03 1).bufDone e.buf
    else match s.rxRing ep f h with
      | none => (s.count (instPage ep f 4) 0x06 1).bufDone e.buf
      | some k =>
        let r := s.wring k
        if e.express then s.admitExpress d o e
        else if r.qvalid then s.admitTo d r.queue e
        else s.admitTo d (((s.outlet d o).defq + e.cls) % 131072) e

/-! ### Landings (R137) -/

/-- The watermark of a sequence at a landing. -/
def State.landMark (s : State) (d k : Nat) : Nat := tabGet 65535 s.landW (d * 1024 + k)

/-- Pass an entry that its watermark covers. -/
def State.passHeld (s : State) (d : Nat) (e : Entry) : State := (s.count (landPage d) 0x02 1).takeIn d e

/-- An entry arrives at a landing. -/
def State.landEntry (s : State) (d : Nat) (e : Entry) : State :=
  match e.seq with
  | none => s.takeIn d e
  | some k =>
    if e.express || e.unordered then s.takeIn d e
    else if atOrBelow e.ferry (s.landMark d k) then s.passHeld d e
    else { s with held := tabPut [] s.held d (tabGet [] s.held d ++ [e]) }

/-- A watermark arrives at a landing: held entries that it covers pass in ascending ferry order. -/
def State.landWater (s : State) (d k w : Nat) : State :=
  let s := { s with landW := tabPut 65535 s.landW (d * 1024 + k) w }
  let hs := tabGet [] s.held d
  let go := fun (e : Entry) => e.seq == some k && atOrBelow e.ferry w
  let s := { s with held := tabPut [] s.held d (hs.filter fun e => !go e) }
  (sortBy (fun e => 65535 - idxDiff w e.ferry) (hs.filter go)).foldl (fun s e => s.passHeld d e) s

/-- LANDING_ENTRY_ARRIVE: a queue entry at the head of the link from die `a` arrives at die `d`. -/
def execLandingEntryArrive (a d : Fin 4) (s : State) : Host.Outcome State Fault Refusal :=
  let k := a.val * 4 + d.val
  match tabGet [] s.links k with
  | .entry e :: ts => .next (({ s with links := tabPut [] s.links k ts }).landEntry d e)
  | _ => .next s

/-- LANDING_WATERMARK_ARRIVE: a watermark at the head of the link arrives (R136, R137). -/
def execLandingWatermarkArrive (a d : Fin 4) (s : State) : Host.Outcome State Fault Refusal :=
  let k := a.val * 4 + d.val
  match tabGet [] s.links k with
  | .mark q w :: ts => .next (({ s with links := tabPut [] s.links k ts }).landWater d q w)
  | _ => .next s

/-! ### Buckets (R247, R248, R252) -/

/-- A signed bucket after `n` ticks at a rate, no fuller than its depth. -/
def gain (tok : Int) (rate depth n : Nat) : Int := min (tok + (rate * n : Nat)) ((depth * 1000 : Nat) : Int)

/-- A node after `n` ticks. -/
def Node.tick (x : Node) (n : Nat) : Node :=
  { x with ctok := gain x.ctok x.cir x.cbs n, ptok := gain x.ptok x.pir x.pbs n }

/-- A policer after `n` ticks. -/
def Plcr.tick (x : Plcr) (n : Nat) : Plcr :=
  { x with ctok := min (x.ctok + x.cir * n) (x.cbs * 1000), ptok := min (x.ptok + x.pir * n) (x.pbs * 1000) }

/-- The rate of an outlet's express policer (R246). -/
def State.expRate (s : State) (d o : Nat) (x : Outlet) : Nat :=
  let eighth := s.outletRate d o / 8
  if x.expRate = 0 then eighth else min x.expRate eighth

/-- An outlet's express policer after `n` ticks. -/
def State.tickOutlet (s : State) (k : Nat) (x : Outlet) (n : Nat) : Outlet :=
  { x with etok := gain x.etok (s.expRate (k / 256) (k % 256) x) x.expBurst n }

/-- TOKEN_TICK: every bucket gains its rate for the 8 ns ticks of package time since it last did (R247). -/
def execTokenTick (s : State) : Host.Outcome State Fault Refusal :=
  let now := s.ptime.toNat / 8
  let n := now - s.tick
  let s := { s with tick := now }
  if n = 0 then .next s
  else
    let nodes := s.nodes.foldl (fun t e => tabPut {} t e.1 (e.2.tick n)) s.nodes
    let outs := s.outlets.foldl (fun t e => tabPut {} t e.1 (s.tickOutlet e.1 e.2 n)) s.outlets
    let ps := s.plcrs.foldl (fun t e => tabPut {} t e.1 (e.2.tick n)) s.plcrs
    .next { s with nodes := nodes, outlets := outs, plcrs := ps }

/-- State of a node: 0 COMMITTED, 1 EXCESS, 2 BLOCKED (R248). -/
def Node.grade (x : Node) : Nat :=
  let peak := x.pir = 0 ∨ 0 ≤ x.ptok
  if x.cir ≠ 0 ∧ 0 ≤ x.ctok ∧ peak then 0 else if peak then 1 else 2

/-- Debit a node's buckets, an absent one excepted. -/
def Node.debit (x : Node) (c : Nat) : Node :=
  { x with ctok := if x.cir = 0 then x.ctok else x.ctok - c
           ptok := if x.pir = 0 then x.ptok else x.ptok - c }

/-! ### Time gates (R254–R257) -/

/-- The entries of a bank: gate bits and durations in one cycle; the last entry lasts until the cycle ends, and the
list is cut there (R254). -/
def State.gateList (s : State) (d : Nat) (bank : Reg) (cycle : Nat) : List (Nat × Nat) :=
  let n := fld bank 16 9
  let go := (List.range n).foldl (fun (a : Nat × List (Nat × Nat)) i =>
    let w := (tabGet 0 s.gates (d * 8192 + (fld bank 0 13 + i) % 8192)).toNat
    let len := if i + 1 = n then cycle - a.1 else min (w / 2 ^ 32) (cycle - a.1)
    (a.1 + len, a.2 ++ [(w % 2 ^ 32, len)])) (0, [])
  go.2.filter fun e => e.2 ≠ 0

/-- Time the gate of a class stays open from offset `x` of a list on; `none` is for ever. -/
def openFor (l : List (Nat × Nat)) (c x : Nat) : Option Nat :=
  let go := (l ++ l ++ l).foldl (fun (a : Nat × Nat × Bool) e =>
    let stop := a.1 + e.2
    if a.2.2 ∨ stop ≤ x then (stop, a.2.1, a.2.2)
    else if e.1.testBit c then (stop, a.2.1 + (stop - max x a.1), false) else (stop, a.2.1, true)) (0, 0, false)
  if l.all fun e => e.1.testBit c then none else some go.2.1

/-- The longest open window of a class in a list; `none` is for ever. -/
def longest (l : List (Nat × Nat)) (c : Nat) : Option Nat :=
  if l.all fun e => e.1.testBit c then none
  else
    let go := (l ++ l).foldl (fun (a : Nat × Nat) e =>
      if e.1.testBit c then (a.1 + e.2, max a.2 (a.1 + e.2)) else (0, a.2)) (0, 0)
    some go.2

/-- The bytes of a frame whose time must fit the gate: its minimum fragment for a preemptable class of a port that
preempts (R256). -/
def State.gateBytes (s : State) (d o c len : Nat) : Nat :=
  match outletMac d o with
  | none => len
  | some p => if c < 8 ∧ s.preempts p then min len ((s.frFld p 0x110 4 2 + 1) * 64) else len

/-- Does a frame fit a window of `w` ns at the outlet's rate (R256)? -/
def State.fitsIn (s : State) (d o c len : Nat) : Option Nat → Bool
  | none => true
  | some w => decide (cost o (s.outlet d o) (s.gateBytes d o c len) * 8 ≤ w * s.outletRate d o)

/-- The gate list that an outlet runs, once it has started; `none` leaves every gate open. -/
def State.gateRun (s : State) (d o : Nat) : Option (List (Nat × Nat)) :=
  let x := s.outlet d o
  if x.gateEn ∧ x.running ∧ fld x.run 16 9 ≠ 0 ∧ x.runCycle ≠ 0 then some (s.gateList d x.run x.runCycle) else none

/-- May a frame of class `c` (8 is express) start now (R256)? -/
def State.gateOk (s : State) (d o c len : Nat) : Bool :=
  match s.gateRun d o with
  | none => true
  | some l =>
    let x := s.outlet d o
    s.fitsIn d o c len (openFor l c ((s.ptime.toNat - x.cycStart) % x.runCycle))

/-- A frame that no window of its class can hold (R257). -/
def State.gateNever (s : State) (d o c len : Nat) : Bool :=
  match s.gateRun d o with
  | none => false
  | some l => !s.fitsIn d o c len (longest l c)

/-- Drop the frames at a queue's head that can never fit (R257). -/
def State.dropOversize (s : State) (d o k : Nat) : List Entry → State
  | [] => s.setBacklog k []
  | e :: es =>
    let c := if e.express then 8 else e.cls
    if s.gateNever d o c e.bytes.length then
      (((s.countQueueDrop k e).count (schedPage d) 0x07 1).bufDone e.buf).dropOversize d o k es
    else s.setBacklog k (e :: es)

/-- Drop every head of the outlet's queues that can never fit. -/
def State.dropHeads (s : State) (d o : Nat) : State :=
  if (s.gateRun d o).isNone then s
  else
    let ks := s.queues.filter fun q => q.1 / 2 ^ 20 == d && s.keyOutlet q.1 == o
    ks.foldl (fun s q => s.dropOversize d o q.1 q.2) s

/-- The first cycle start at or after `t` of cycles from `base` on. -/
def cycleAt (base cycle t : Nat) : Nat :=
  if t ≤ base ∨ cycle = 0 then base else base + (t - base + cycle - 1) / cycle * cycle

/-- GATE_ENTRY_ADVANCE: the list starts, or its entry's interval ends and the next entry or cycle starts (R254). -/
def execGateEntryAdvance (d : Fin 4) (o : Nat) (s : State) : Host.Outcome State Fault Refusal :=
  let x := s.outlet d o
  let now := s.ptime.toNat
  if !x.gateEn ∨ fld x.run 16 9 = 0 ∨ x.runCycle = 0 ∨ now < x.cycStart then .next s
  else if !x.running then
    .next ((s.setOutlet d o { x with running := true, entry := 0, entStart := x.cycStart }).dropHeads d o)
  else
    let l := s.gateList d x.run x.runCycle
    let len := (l.getD x.entry (0, 0)).2
    if now < x.entStart + len then .next s
    else if x.entry + 1 < l.length then
      .next (s.setOutlet d o { x with entry := x.entry + 1, entStart := x.entStart + len })
    else
      let c := x.cycStart + x.runCycle
      .next (s.setOutlet d o { x with entry := 0, cycStart := c, entStart := c })

/-- GATE_BANK_CHANGE: a requested bank takes effect at the first cycle start at or after CHANGE_TIME (R255). -/
def execGateBankChange (d : Fin 4) (o : Nat) (s : State) : Host.Outcome State Fault Refusal :=
  let x := s.outlet d o
  if x.pending ∧ x.changeAt ≤ s.ptime.toNat then
    let y := { x with pending := false, operBank := x.adminBank
                      run := if x.adminBank = 0 then x.bank0 else x.bank1
                      runCycle := x.cycle, cycStart := x.changeAt, entry := 0, entStart := x.changeAt
                      running := x.gateEn }
    let s := ((s.setOutlet d o y).count (schedPage d) 0x08 1).raiseBit (schedPage d) 1
    .next (s.dropHeads d o)
  else .next s

/-! ### Selection (R249) -/

/-- A child that can be served: its number, deficit, weight and the length of its frame. -/
structure Cand where
  idx : Nat
  deficit : Int
  weight : Nat
  len : Nat
  deriving DecidableEq, Repr

/-- The quantum of a child (R249); a WEIGHT of 0, which only a node never written has, acts as 1. -/
def Cand.quantum (c : Cand) : Nat := max 1 c.weight * 64

/-- The number of visits after which a child may send its frame. -/
def Cand.visits (c : Cand) : Nat :=
  if (c.len : Int) ≤ c.deficit then 0 else (((c.len : Int) - c.deficit).toNat + c.quantum - 1) / c.quantum

/-- Deficit round robin among children in ascending number, from the child served last on: the child served, and the
new deficits. -/
def drr (last : Nat) (cs : List Cand) : Option (Nat × List (Nat × Int)) :=
  match cs.find? fun c => c.idx == last && c.visits == 0 with
  | some c => some (c.idx, [(c.idx, c.deficit - c.len)])
  | none =>
    let order := (cs.filter fun c => decide (last < c.idx)) ++ (cs.filter fun c => decide (c.idx ≤ last))
    match order with
    | [] => none
    | c :: t =>
      let best := t.foldl (fun (b : Cand) c => if max 1 c.visits < max 1 b.visits then c else b) c
      let r := max 1 best.visits
      let upto := (order.takeWhile fun c => c.idx != best.idx).map Cand.idx
      some (best.idx, order.map fun c =>
        let n := if c.idx = best.idx ∨ upto.contains c.idx then r else r - 1
        (c.idx, c.deficit + (n * c.quantum : Nat) - (if c.idx = best.idx then (c.len : Int) else 0)))

/-- A queue that can be served, with its ancestors. -/
structure Avail where
  q : Nat
  sub : Nat
  svc : Nat
  entry : Entry
  deriving DecidableEq, Repr

/-- The better tier of children: COMMITTED if any, else EXCESS. -/
def State.tier (s : State) (d kind : Nat) (is : List Nat) : List Nat :=
  let c := is.filter fun i => (s.node d kind i).grade == 0
  if c.isEmpty then is else c

/-- Candidates of a level. -/
def State.cands (s : State) (d kind : Nat) (is : List (Nat × Nat)) : List Cand :=
  (s.tier d kind (is.map Prod.fst)).map fun i =>
    let n := s.node d kind i
    { idx := i, deficit := n.deficit, weight := n.weight, len := ((is.find? fun e => e.1 == i).map Prod.snd).getD 0 }

/-- The children of a level without repeats, each with the length of its frame. -/
def distinct : List Nat → List Nat
  | [] => []
  | x :: xs => x :: (distinct xs).filter (· != x)

/-- The queue that a subscriber would serve. -/
def State.pickQueue (s : State) (d sub : Nat) (av : List Avail) : Option (Avail × List (Nat × Int)) :=
  let mine := sortBy Avail.q (av.filter fun a => a.sub == sub)
  match drr (s.node d 1 sub).last (s.cands d 0 (mine.map fun a => (a.q, a.entry.bytes.length))) with
  | none => none
  | some (q, ds) => (mine.find? fun a => a.q == q).map fun a => (a, ds)

/-- The subscriber that a service node would serve, and its queue. -/
def State.pickSub (s : State) (d svc : Nat) (av : List Avail) :
    Option (Avail × List (Nat × Int) × List (Nat × Int)) :=
  let mine := av.filter fun a => a.svc == svc
  let subs := sortBy id (distinct (mine.map Avail.sub))
  let lens := subs.map fun u => (u, ((s.pickQueue d u mine).map fun r => r.1.entry.bytes.length).getD 0)
  match drr (s.node d 2 svc).last (s.cands d 1 lens) with
  | none => none
  | some (u, ds) => (s.pickQueue d u mine).map fun r => (r.1, r.2, ds)

/-- The queues of an outlet that can be served now: enabled up the tree, none BLOCKED, gate open, and the buffers of
a dedicated receive queue there (R249, R343). -/
def State.available (s : State) (d o : Nat) : List Avail :=
  let ks := s.queues.filter fun q => q.1 / 2 ^ 20 == d && decide (q.1 % 2 ^ 20 < 2 ^ 18) && s.keyOutlet q.1 == o
  ks.filterMap fun k =>
    match k.2 with
    | [] => none
    | e :: _ =>
      let q := k.1 % 2 ^ 20
      let sub := (s.node d 0 q).parent
      let svc := (s.node d 1 sub).parent
      let ns := [s.node d 0 q, s.node d 1 sub, s.node d 2 svc]
      let bufs := match s.resolveDest e.dest with
        | some (.host ep f h) =>
          (match s.rxRing ep f h with
           | some r => !((s.wring r).qvalid && (s.wring r).queue == q) || (s.wring r).holds e.bytes.length
           | none => true)
        | _ => true
      if ns.all (fun n => n.en && n.grade != 2) && s.gateOk d o (svc % 9) e.bytes.length && bufs
      then some { q := q, sub := sub, svc := svc, entry := e } else none

/-- Store new deficits of a level. -/
def State.setDeficits (s : State) (d kind : Nat) (ds : List (Nat × Int)) : State :=
  ds.foldl (fun s e => s.setNode d kind e.1 { s.node d kind e.1 with deficit := e.2 }) s

/-- Note the child served last. -/
def State.setLast (s : State) (d kind i last : Nat) : State :=
  s.setNode d kind i { s.node d kind i with last := last }

/-- Debit a node. -/
def State.debitNode (s : State) (d kind i c : Nat) : State := s.setNode d kind i ((s.node d kind i).debit c)

/-- A receive entry that is selected from a default or express queue while its ring lacks buffers is dropped
(R343). -/
def State.lacksBufs (s : State) (q : Option Nat) (e : Entry) : Option State :=
  match s.resolveDest e.dest with
  | some (.host ep f h) =>
    match s.rxRing ep f h with
    | none => some ((s.count (instPage ep f 4) 0x06 1).bufDone e.buf)
    | some k =>
      let r := s.wring k
      if (r.qvalid ∧ q = some r.queue) ∨ r.holds e.bytes.length then none
      else some ((s.count (instPage ep f 4) 0x05 1).bufDone e.buf)
  | _ => none

/-- Take the chosen frame from its queue (R248, R249, R267). -/
def State.serve (s : State) (d o : Nat) (a : Avail) (qs us : List (Nat × Int)) : State :=
  let k := queueKey d a.q
  let len := a.entry.bytes.length
  let c := cost o (s.outlet d o) len
  let s := s.setBacklog k ((s.backlog k).drop 1)
  let s := ((s.setDeficits d 0 qs).setDeficits d 1 us)
  let s := ((s.setLast d 1 a.sub a.q).setLast d 2 a.svc a.sub)
  let s := if s.backlog k = [] then s.setNode d 0 a.q { s.node d 0 a.q with deficit := 0 } else s
  let s := ((s.debitNode d 0 a.q c).debitNode d 1 a.sub c).debitNode d 2 a.svc c
  let s := (s.count (schedPage d) (0x100000 + 4 * a.q) 1).count (schedPage d) (0x100000 + 4 * a.q + 1) len
  match s.lacksBufs (some a.q) a.entry with
  | some s => s
  | none => { s with sel := tabInsert (tabErase s.sel (d * 256 + o)) (d * 256 + o) a.entry }

/-- Select among the service nodes of an outlet (R249, points 2–4). -/
def State.selectService (s : State) (d o : Nat) : State :=
  let av := s.available d o
  let svcs := distinct (av.map Avail.svc)
  let strict := sortBy (fun i => 8 - i % 9) (svcs.filter fun i => (s.node d 2 i).strict)
  let pick : Option (Nat × List (Nat × Int)) := match strict with
    | i :: _ => some (i, [])
    | [] =>
      let lens := (sortBy id svcs).map fun i => (i, ((s.pickSub d i av).map fun r => r.1.entry.bytes.length).getD 0)
      drr (s.node d 3 o).last (s.cands d 2 lens)
  match pick with
  | none => s
  | some (i, ds) =>
    match s.pickSub d i av with
    | none => s
    | some (a, qs, us) =>
      let s := if (s.node d 2 i).strict then s else (s.setDeficits d 2 ds).setLast d 3 o i
      s.serve d o a qs us

/-- Can the outlet start a frame: nothing selected waits, and its link is up? -/
def State.outletFree (s : State) (d o : Nat) : Bool :=
  (tabFind s.sel (d * 256 + o)).isNone &&
  (match outletMac d o, outletEp d o with
   | some p, _ => s.linkUp p && !s.isFenced p
   | none, some e => bit (s.rd (epPage e 0) 0x104) 29
   | none, none => false)

/-- OUTLET_SELECT (R249): entries toward a link that is down are discarded instead (R87, R250). -/
def execOutletSelect (d : Fin 4) (o : Nat) (s : State) : Host.Outcome State Fault Refusal :=
  match outletMac d o with
  | some p =>
    if !s.linkUp p then .next (s.discardOutlet d o (fun _ => true) fun s _ => s.macCount p 0x53 1)
    else .next (go s)
  | none => .next (go s)
where
  /-- The selection proper. -/
  go (s : State) : State :=
    let s := s.dropHeads d o
    if !s.outletFree d o then s
    else match s.backlog (expKey d o) with
      | e :: es =>
        if s.gateOk d o 8 e.bytes.length then
          let s := (s.setBacklog (expKey d o) es).count (schedPage d) 0x05 1
          (match s.lacksBufs none e with
           | some s => s
           | none => { s with sel := tabInsert (tabErase s.sel (d * 256 + o)) (d * 256 + o) e })
        else s.selectService d o
      | [] => s.selectService d o

/-! ### Record commands (R250, R253, R255, R266) -/

/-- The end of a record command: RESULT, and BUSY and the command bits clear. -/
def State.recordDone (s : State) (p : PageKey) (off res : Nat) : State := s.post p off (BitVec.ofNat 32 (res * 256))

/-- A peak rate below the committed one (R248). -/
def badRate (cir pir : Nat) : Bool := decide (pir ≠ 0 ∧ pir < cir)

/-- The largest index of a node kind on a die. -/
def nodeCount (kind : Nat) : Nat := if kind = 0 then 131072 else if kind = 1 then 16384 else 1440

/-- May a node have this parent (R266)? -/
def State.parentOk (s : State) (d kind par : Nat) : Bool :=
  if kind = 0 then decide (par < 16384) && (s.node d 1 par).en
  else if kind = 1 then decide (par < 1440) && par % 9 != 8 && (s.node d 2 par).en
  else par == 0

/-- Has a node entries queued under it, or, for a subscriber, enabled queues? -/
def State.nodeBusy (s : State) (d kind i : Nat) : Bool :=
  if kind = 0 then s.backlog (queueKey d i) != []
  else s.nodes.any fun n => decide (n.1 / 2 ^ 20 = d) && decide (n.1 / 2 ^ 18 % 4 = kind - 1) && n.2.en && n.2.parent == i

/-- Write a node record: RESULT and the state (R250, R266). A WEIGHT of 0 is reserved and leaves the weight (R5). -/
def State.nodeWrite (s : State) (d kind i : Nat) (b : List Byte) : Nat × State :=
  let ctl := leAt b 0 4
  let old := s.node d kind i
  let cir := leAt b 8 4 % 2 ^ 22
  let pir := leAt b 16 4 % 2 ^ 22
  let cbs := leAt b 12 4 % 2 ^ 24
  let pbs := leAt b 20 4 % 2 ^ 24
  let en := ctl.testBit 31
  let par := ctl % 2 ^ 17
  if nodeCount kind ≤ i then (1, s)
  else if !s.parentOk d kind par then (2, s)
  else if old.en ∧ kind ≤ 1 ∧ old.parent ≠ par then (3, s)
  else if kind = 1 ∧ old.en ∧ !en ∧ s.nodeBusy d 1 i then (3, s)
  else if badRate cir pir then (4, s)
  else
    let first := old == {}
    let x : Node := {
      en := en, strict := kind == 2 && ctl.testBit 30, parent := if kind = 2 then 0 else par
      weight := if leAt b 4 2 = 0 then old.weight else leAt b 4 2
      cir := cir, cbs := cbs, pir := pir, pbs := pbs
      limit := if kind = 0 then leAt b 24 2 else 0, ylimit := if kind = 0 then leAt b 26 2 else 0
      rlimit := if kind = 0 then leAt b 28 2 else 0
      ctok := if first then ((cbs * 1000 : Nat) : Int) else old.ctok
      ptok := if first then ((pbs * 1000 : Nat) : Int) else old.ptok
      deficit := old.deficit, last := old.last }
    let s := s.setNode d kind i x
    (0, if kind = 0 ∧ old.en ∧ !en then s.discardFrom (queueKey d i) (fun _ => true) fun s _ => s else s)

/-- A node as its record reads. -/
def nodeBytes (x : Node) : List Byte :=
  leBytes 4 (x.parent + (if x.strict then 2 ^ 30 else 0) + (if x.en then 2 ^ 31 else 0)) ++ leBytes 2 x.weight ++
  zeros 2 ++ leBytes 4 x.cir ++ leBytes 4 x.cbs ++ leBytes 4 x.pir ++ leBytes 4 x.pbs ++
  leBytes 2 x.limit ++ leBytes 2 x.ylimit ++ leBytes 4 x.rlimit

/-- SCHED_NODE_CMD as the ferry applies it. -/
def State.nodeAct (s : State) (d : Nat) (v : Reg) : State :=
  let p := schedPage d
  let kind := s.frFld p 0x100 30 2
  let i := s.frFld p 0x100 0 17
  let r := if bit v 0 then s.nodeWrite d kind i (s.frBytes p 0x110 8)
    else (if nodeCount kind ≤ i then 1 else 0, s)
  let s := if bit v 1 ∧ r.1 = 0 then r.2.putRegBytes p 0x110 (nodeBytes (r.2.node d kind i)) else r.2
  s.recordDone p 0x104 r.1

/-- Is an outlet number one of the die's: a slot of its port (R241)? -/
def outletExists (o : Nat) : Bool := decide (o < 160) && (decide (o < 64) || o % 8 == 0)

/-- A bank that a change may name (R255): it lies in the gate store, and has entries when gates are on. -/
def bankOk (gateEn : Bool) (bank : Reg) (cycle : Nat) : Bool :=
  let n := fld bank 16 9
  decide (n ≤ 256) && decide (fld bank 0 13 + n ≤ 8192) && !(gateEn && n == 0) && cycle != 0

/-- Write an outlet record: RESULT and the state (R246, R255, R266). -/
def State.outWrite (s : State) (d o : Nat) (b : List Byte) : Nat × State :=
  let ctl := leAt b 0 4
  let old := s.outlet d o
  let en := ctl.testBit 31
  let req := ctl.testBit 30
  let adm := if ctl.testBit 29 then 1 else 0
  let b0 := BitVec.ofNat 32 (leAt b 12 4)
  let b1 := BitVec.ofNat 32 (leAt b 16 4)
  let cycle := leAt b 20 4
  let base := leAt b 24 8
  let chg := leAt b 32 8
  let named := if req then (if adm = 0 then b0 else b1) else (if old.operBank = 0 then b0 else b1)
  let starts := en && !old.gateEn
  if !outletExists o then (1, s)
  else if 65536 < leAt b 8 4 % 2 ^ 17 then (4, s)
  else if (req ∨ starts) ∧ !bankOk en named cycle then (5, s)
  else
    let x : Outlet := { old with
      gateEn := en, adminBank := if req then adm else old.adminBank
      adj := some (BitVec.ofNat 8 ctl), expRate := leAt b 4 4 % 2 ^ 22, expBurst := leAt b 8 4 % 2 ^ 17
      bank0 := b0, bank1 := b1, cycle := cycle, base := base, change := chg, defq := leAt b 40 4 % 2 ^ 17 }
    let x := if req then { x with pending := true, changeAt := cycleAt base cycle (max chg s.ptime.toNat) } else x
    let x := if !en then { x with running := false }
      else if starts ∧ !req then
        { x with running := false, run := named, runCycle := cycle, entry := 0
                 cycStart := cycleAt base cycle s.ptime.toNat }
      else x
    (0, s.setOutlet d o x)

/-- An outlet as its record reads. -/
def outBytes (o : Nat) (x : Outlet) : List Byte :=
  leBytes 4 ((outletAdj o x % 256).toNat + (if x.pending then 2 ^ 27 else 0) + x.operBank * 2 ^ 28 +
    x.adminBank * 2 ^ 29 + (if x.gateEn then 2 ^ 31 else 0)) ++
  leBytes 4 x.expRate ++ leBytes 4 x.expBurst ++ leBytes 4 x.bank0.toNat ++ leBytes 4 x.bank1.toNat ++
  leBytes 4 x.cycle ++ leBytes 8 x.base ++ leBytes 8 x.change ++ leBytes 4 x.defq ++ zeros 4

/-- SCHED_OUT_CMD as the ferry applies it. -/
def State.outAct (s : State) (d : Nat) (v : Reg) : State :=
  let p := schedPage d
  let o := s.frFld p 0x140 0 8
  let r := if bit v 0 then s.outWrite d o (s.frBytes p 0x150 12) else (if outletExists o then 0 else 1, s)
  let s := if bit v 1 ∧ r.1 = 0 then r.2.putRegBytes p 0x150 (outBytes o (r.2.outlet d o)) else r.2
  s.recordDone p 0x144 r.1

/-- SCHED_GATE_CMD as the ferry applies it; an interval of 0 is reserved and leaves the entry's interval (R5, R254). -/
def State.gateAct (s : State) (d : Nat) (v : Reg) : State :=
  let p := schedPage d
  let k := d * 8192 + s.frFld p 0x180 0 13
  let lo := (s.fr p 0x188).toNat % 512
  let given := (s.fr p 0x18C).toNat
  let hi := if given = 0 then (tabGet 0 s.gates k).toNat / 2 ^ 32 else given
  let s := if bit v 0 then { s with gates := tabPut 0 s.gates k (BitVec.ofNat 64 (hi * 2 ^ 32 + lo)) } else s
  let w := (tabGet 0 s.gates k).toNat
  let s := if bit v 1 then
      (s.postBoth p 0x188 (BitVec.ofNat 32 w)).postBoth p 0x18C (BitVec.ofNat 32 (w / 2 ^ 32)) else s
  s.recordDone p 0x184 0

/-- Write a policer record: it refills both buckets (R253). -/
def State.plcrWrite (s : State) (d i : Nat) (b : List Byte) : Nat × State :=
  let ctl := leAt b 0 4
  let cir := leAt b 4 4 % 2 ^ 22
  let pir := leAt b 12 4 % 2 ^ 22
  if badRate cir pir ∨ (ctl.testBit 31 ∧ cir = 0 ∧ pir = 0) then (4, s)
  else
    let x : Plcr := {
      en := ctl.testBit 31, redDrop := ctl.testBit 30, adj := BitVec.ofNat 8 ctl
      cir := cir, cbs := leAt b 8 4 % 2 ^ 24, pir := pir, pbs := leAt b 16 4 % 2 ^ 24
      ctok := leAt b 8 4 % 2 ^ 24 * 1000, ptok := leAt b 16 4 % 2 ^ 24 * 1000 }
    (0, { s with plcrs := tabPut {} s.plcrs (plcrKey d i) x })

/-- A policer as its record reads. -/
def plcrBytes (x : Plcr) : List Byte :=
  leBytes 4 (x.adj.toNat + (if x.redDrop then 2 ^ 30 else 0) + (if x.en then 2 ^ 31 else 0)) ++
  leBytes 4 x.cir ++ leBytes 4 x.cbs ++ leBytes 4 x.pir ++ leBytes 4 x.pbs ++
  leBytes 4 (x.ctok / 1000) ++ leBytes 4 (x.ptok / 1000) ++ zeros 4

/-- PLCR_CMD as the ferry applies it. -/
def State.plcrAct (s : State) (d : Nat) (v : Reg) : State :=
  let p := plcrPage d
  let i := s.frFld p 0x100 0 18
  let r := if bit v 0 then s.plcrWrite d i (s.frBytes p 0x110 8) else (0, s)
  let s := if bit v 1 ∧ r.1 = 0 then
      r.2.putRegBytes p 0x110 (plcrBytes (tabGet {} r.2.plcrs (plcrKey d i))) else r.2
  s.recordDone p 0x104 r.1

/-- A write of a record command register. -/
def State.recordCmd (s : State) (mid : Mid) (p : PageKey) (off : Nat) (v : Reg) (act : State → State) : State :=
  s.accessWrite mid p off fun s => s.busyCmd mid p off v act

/-- SCHED_NODE_WRITE (R250, R266). -/
def execSchedNodeWrite (mid : Mid) (d : Fin 4) (s : State) : Host.Outcome State Fault Refusal :=
  .next (s.recordCmd mid (schedPage d) 0x104 1 fun s => s.nodeAct d 1)

/-- SCHED_NODE_READ (R266). -/
def execSchedNodeRead (mid : Mid) (d : Fin 4) (s : State) : Host.Outcome State Fault Refusal :=
  .next (s.recordCmd mid (schedPage d) 0x104 2 fun s => s.nodeAct d 2)

/-- SCHED_OUT_WRITE (R246, R255, R266). -/
def execSchedOutWrite (mid : Mid) (d : Fin 4) (s : State) : Host.Outcome State Fault Refusal :=
  .next (s.recordCmd mid (schedPage d) 0x144 1 fun s => s.outAct d 1)

/-- SCHED_OUT_READ (R266). -/
def execSchedOutRead (mid : Mid) (d : Fin 4) (s : State) : Host.Outcome State Fault Refusal :=
  .next (s.recordCmd mid (schedPage d) 0x144 2 fun s => s.outAct d 2)

/-- SCHED_GATE_WRITE (R254, R266). -/
def execSchedGateWrite (mid : Mid) (d : Fin 4) (s : State) : Host.Outcome State Fault Refusal :=
  .next (s.recordCmd mid (schedPage d) 0x184 1 fun s => s.gateAct d 1)

/-- SCHED_GATE_READ (R266). -/
def execSchedGateRead (mid : Mid) (d : Fin 4) (s : State) : Host.Outcome State Fault Refusal :=
  .next (s.recordCmd mid (schedPage d) 0x184 2 fun s => s.gateAct d 2)

/-- PLCR_WRITE (R253). -/
def execPlcrWrite (mid : Mid) (d : Fin 4) (s : State) : Host.Outcome State Fault Refusal :=
  .next (s.recordCmd mid (plcrPage d) 0x104 1 fun s => s.plcrAct d 1)

/-- PLCR_READ (R267). -/
def execPlcrRead (mid : Mid) (d : Fin 4) (s : State) : Host.Outcome State Fault Refusal :=
  .next (s.recordCmd mid (plcrPage d) 0x104 2 fun s => s.plcrAct d 2)

end Sys2Proof.Machine
end

