-- ==== Sys2Proof/Machine/MacTx.lean ====
section
/-! DEFINITION. What happens to a selected entry at dequeue and on the wire: encryption, transmit timestamps,
padding, FCS, stomping, and DATA frames of a peer link (R87, R88, R96, R110, R112, R211–R213, R222, R227). -/
namespace Sys2Proof.Machine

/-- Give a transmit descriptor its status; the first one that is not OK stays (R340). -/
def State.txStatus (s : State) (e : Entry) (st : Nat) : State :=
  match e.tx with
  | none => s
  | some t =>
    match tabFind s.txs t with
    | none => s
    | some x => { s with txs := tabInsert (tabErase s.txs t) t { x with status := if x.status = 0 then st else x.status } }

/-- One encrypt invocation at dequeue toward a destination (R211–R213, R222, R227): the frame, or the status of a
refusal. -/
def State.sealOne (s : State) (r src : Nat) (dest : Option (Nat × Nat)) (c : Nat) (b : List Byte) :
    (Nat ⊕ List Byte) × State :=
  let x := s.ctx c
  if s.eclipsed then (.inl 0x0F, s.countRefused r .eclipse)
  else if x.st ≠ 0 ∧ !scopeAdmits x.owner src dest then (.inl 0x07, s.scopeRefused r)
  else if x.st ≠ 0 ∧ !((x.proto = 1 ∨ x.proto = 2) ∧ !x.receive ∧ algFits x.proto x.alg) then
    (.inl 0x07, s.countRefused r .scope)
  else match s.ctxStart r c true with
    | (.inl e, s) => (.inl e.status, s)
    | (.inr n, s) =>
      let y := s.ctxSeal r n b
      (.inr y.1, y.2)

/-- The encrypt invocations of an entry in order; a refused one drops the frame (R213, R227). -/
def State.sealAll (s : State) (r : Nat) (e : Entry) (dest : Option (Nat × Nat)) (b : List Byte) :
    List Nat → Option (List Byte) × State
  | [] => (some b, s)
  | c :: cs =>
    match s.sealOne r (leAt e.prv 0 2) dest c b with
    | (.inl st, s) => (none, s.txStatus e st)
    | (.inr b, s) => s.sealAll r e dest b cs

/-- What an entry carries after its invocations at dequeue toward a port; a TLS receive decrypt belongs to a host
destination only (R211, R213). -/
def State.dequeue (s : State) (r : Nat) (e : Entry) : Option (List Byte) × State :=
  if e.dec.isSome then (none, s.countRefused r .scope) else s.sealAll r e none e.bytes e.enc

/-! ### Transmit timestamps (R96) -/

/-- The UDP checksum of a PTP message is updated for new bytes; a checksum of 0 stays. -/
def ptpCsum (b new : List Byte) (p : Parsed) : List Byte :=
  match (if p.tIL4 = 2 then p.oIL4 else if p.tL4 = 2 then p.oL4 else none),
        (if p.tIL4 = 2 then p.oIL3 else p.oL3), (if p.tIL4 = 2 then p.tIL3 else p.tL3) with
  | some q, some o, t => if beAt b (q + 6) 2 = 0 then new else insL4 new o t q 2
  | _, _, _ => new

/-- One-step insertion: originTimestamp, or the residence time in correctionField (R96). -/
def ptpWrite (mode now rx : Nat) (b : List Byte) (p : Parsed) (o : Nat) : List Byte :=
  let new := if mode = 2 then
      overlay b (o + 34) (beBytes 6 (now / 1000000000) ++ beBytes 4 (now % 1000000000))
    else overlay b (o + 8) (beBytes 8 ((beAt b (o + 8) 8 + (now + 2 ^ 64 - rx) % 2 ^ 64 * 65536) % 2 ^ 64))
  ptpCsum b new p

/-- The transmit timestamp of a frame: a two-step capture returns with the completion, a one-step one is written
into a PTP event message (R91, R96). -/
def State.txStamp (s : State) (p : PageKey) (e : Entry) (b : List Byte) : List Byte × State :=
  let now := s.ptime.toNat
  if e.tsMode = 0 ∨ 3 < e.tsMode then (b, s)
  else if e.tsMode = 1 then
    let s := s.macCount p 0x52 1
    match e.tx with
    | none => (b, s)
    | some t =>
      match tabFind s.txs t with
      | none => (b, s)
      | some x => (b, { s with txs := tabInsert (tabErase s.txs t) t { x with ts := some now } })
  else
    let r := parseFrame (s.parseCfg (pipePage (macSource p / 32) 0)) b
    match ptpEvent b r with
    | none => (b, s)
    | some o => (ptpWrite e.tsMode now (leAt e.prv 16 8) b r o, s.macCount p 0x52 1)

/-! ### The wire (R87, R88, R91) -/

/-- Counters of a transmitted frame: `b` without its FCS. A stomped frame counts in its size bin and in 0x4F
only. -/
def State.countTx (s : State) (p : PageKey) (b : List Byte) (bad : Bool) : State :=
  let len := b.length + 4
  let s := match sizeBin len with
    | some i => s.macCount p (0x45 + i) 1
    | none => s
  if bad then (s.macCount p 0x4F 1).a2408 p 1
  else
    let da := beAt b 0 6
    let s := (s.macCount p 0x40 1).macCount p 0x41 len
    s.macCount p (if da = 0xFFFFFFFFFFFF then 0x44 else if da.testBit 40 then 0x43 else 0x42) 1

/-- Send an entry on an Ethernet port. -/
def State.macSend (s : State) (p : PageKey) (e : Entry) : State :=
  let e := { e with bad := e.bad || s.bufBad e.buf }
  match s.dequeue (macSource p / 32) e with
  | (none, s) => s.bufDone e.buf
  | (some b, s) =>
    let b := padTo b 60
    if s.frFld p 0x100 0 14 < b.length + 4 then (s.macCount p 0x53 1).bufDone e.buf
    else
      let t := s.txStamp p e b
      let fcs := crc32 t.1
      let wire := t.1 ++ leBytes 4 (if e.bad then ~~~fcs else fcs).toNat
      ((t.2.countTx p t.1 e.bad).emit (.frame p wire (!e.bad))).bufDone e.buf

/-- MAC_TRANSMIT: the MAC sends the frame that the scheduler selected for its outlet. -/
def execMacTransmit (p : PageKey) (s : State) : Host.Outcome State Fault Refusal :=
  if pageType p = some .mac ∧ s.linkUp p ∧ !s.macApl p ∧ !s.isFenced p then
    let o := macOutlet p
    match tabFind s.sel (o.1 * 256 + o.2) with
    | none => .next s
    | some e => .next (({ s with sel := tabErase s.sel (o.1 * 256 + o.2) }).macSend p e)
  else .next s

/-! ### DATA frames toward a peer card (R102, R107–R112) -/

/-- Host data, or its failure, that answers a card's reads (R114, R298). -/
def State.aplArrive (s : State) (q : Nat) : State :=
  (s.winReqs.filter fun r => r.peer == q).foldl (fun s r =>
    match s.takeRead (.apl q r.tag) r.len with
    | (none, s) => s
    | (some (0, data), s) => s.aplCpls q r.tag r.addr r.len data
    | (some (2, _), s) => s.aplCplErr q r.tag 4
    | (some (8, _), s) => s.aplCplErr q r.tag 3
    | (some _, s) => s.aplCplErr q r.tag 2) s

/-- The packet header of a frame toward a card (R102). -/
def pktHdr (e : Entry) : List Byte :=
  let c := leAt e.prv 12 1
  let bad := c / 64 % 4 == 2 || c / 16 % 4 == 2
  let ok := c / 64 % 4 == 1 && c / 16 % 4 == 1
  beBytes 8 (2 ^ 56 + (if e.express then 15 else e.cls) * 2 ^ 52 + fld e.dest 16 12 * 2 ^ 40 +
    (if ok then 2 ^ 39 else 0) + (if bad then 2 ^ 38 else 0))

/-- Has the sender credits, and its replay buffer room, for a unit of `len` bytes (R107, R110)? -/
def AplState.roomFor (a : AplState) (cls len : Nat) : Bool :=
  a.gotCredit && a.mayS cls ((len + 63) / 64) && decide (a.held.length < 2048) &&
    decide (a.held.foldl (fun n h => n + h.2.length) 0 + len + 12 ≤ 2 ^ 20)

/-- Send one unit as a DATA frame: it takes the next SEQ and acknowledges what has arrived (R99, R109, R110). -/
def State.aplStart (s : State) (q cls : Nat) (tlu : List Byte) : State :=
  let a := s.apl q
  let w := aplWire (aplHdr 1 a.txSeq a.ackSeq 1 cls tlu.length) tlu
  let used := fun (l : List Nat) (n m : Nat) => l.modify cls fun v => (v + n) % m
  let b := { a with
    txSeq := (a.txSeq + 1) % 4096, held := a.held ++ [(a.txSeq, w)]
    timer := if a.held = [] then s.clk else a.timer
    hdrUsed := used a.hdrUsed 1 4096, dataUsed := used a.dataUsed ((tlu.length + 63) / 64) (2 ^ 20) }
  (((s.setApl q b).count (aplPage q) 0x00 1).emit (.apl q w)).aplPost q

/-- The frame selected for a peer outlet goes as a PKT or XPKT unit; one longer than the card's MAX_TLU is
discarded (R112). -/
def State.aplPkt (s : State) (q : Nat) (e : Entry) : State :=
  let o := macOutlet (peerPage q 3)
  let cls := if e.express then 1 else 0
  let a := s.apl q
  let room := a.roomFor cls (8 + max 60 e.bytes.length + (if e.enc = [] then 0 else 64))
  if !room then s
  else
    let s := { s with sel := tabErase s.sel (o.1 * 256 + o.2) }
    let e := { e with bad := e.bad || s.bufBad e.buf }
    match s.dequeue (peerRegion q) e with
    | (none, s) => s.bufDone e.buf
    | (some b, s) =>
      let tlu := pktHdr e ++ padTo b 60
      if a.maxTlu < tlu.length ∨ e.bad then (s.macCount (peerPage q 3) 0x53 1).bufDone e.buf
      else (s.aplStart q cls tlu).bufDone e.buf

/-- A read of the A6432 that goes out starts its timeout; the last completion of a card's read ends the request
(R105, R113). -/
def State.aplSent (s : State) (q cls : Nat) (tlu : List Byte) : State :=
  let h := beAt tlu 0 16
  let tag := natField h 110 10
  if cls = 3 then
    match tabFind s.aplReads (q * 1024 + tag) with
    | none => s
    | some r => { s with aplReads := tabInsert (tabErase s.aplReads (q * 1024 + tag)) (q * 1024 + tag) { r with at_ := s.clk } }
  else if cls = 4 ∧ natField h 51 13 = 0 then
    let done := s.winReqs.find? fun r => r.peer == q && r.tag == tag
    let s := { s with winReqs := match done with
                                 | none => s.winReqs
                                 | some r => s.winReqs.erase r }
    s.winIdle q
  else s

/-- APL_DATA_SEND: the sender starts a DATA frame of a class when credits, frame count and replay buffer allow
(R107, R110). Which class goes first when several wait is the command's choice (log entry 13). -/
def execAplDataSend (q : Fin 16) (cls : Fin 5) (s : State) : Host.Outcome State Fault Refusal :=
  let s := s.aplArrive q
  if s.aplSt q ≠ 2 ∨ s.isFenced (aplPage q) then .next s
  else if cls.val ≤ 1 then
    let o := macOutlet (peerPage q 3)
    match tabFind s.sel (o.1 * 256 + o.2) with
    | none => .next s
    | some e => .next (if e.express = (cls.val = 1) then s.aplPkt q e else s)
  else
    let a := s.apl q
    match a.sendq.find? fun u => u.1 == cls.val with
    | none => .next s
    | some u =>
      if a.roomFor cls u.2.length then
        let s := s.setApl q { a with sendq := a.sendq.erase u }
        .next ((s.aplStart q cls u.2).aplSent q cls u.2)
      else .next s

end Sys2Proof.Machine
end

