-- ==== Sys2Proof/Machine/Rings.lean ====
section
/-! DEFINITION. Work rings, completion rings, doorbells, completion credit, moderation, and what a drain does to
ring work (R325–R353). -/
namespace Sys2Proof.Machine

/-- Work rings granted to an instance (R325). -/
def State.grantWr (s : State) (e f : Nat) : Nat := s.rdFld (instPage e f 0) 0x108 16 13
/-- Completion rings granted to an instance. -/
def State.grantCr (s : State) (e f : Nat) : Nat := s.rdFld (instPage e f 0) 0x108 0 12
/-- MSI-X vectors of a function (R272). -/
def vectors (f : Nat) : Nat := if f < 2 then 128 else 32
/-- Entries of a ring. -/
def WorkRing.size (r : WorkRing) : Nat := 2 ^ r.log2
/-- Entries of a completion ring. -/
def CplRing.size (r : CplRing) : Nat := 2 ^ r.log2
/-- The work rings of an instance. -/
def State.instRings (s : State) (e f : Nat) : List (Nat × WorkRing) :=
  s.wrings.filter fun r => r.1 / 65536 == e * 256 + f
/-- Key of the completion ring that a work ring reports to. -/
def cqOf (k : Nat) (r : WorkRing) : Nat := k / 65536 * 65536 + r.cq
/-- BOUND of a completion ring (R337). -/
def State.bound (s : State) (k : Nat) : Nat :=
  ((s.instRings (ringEp k) (ringFn k)).filter fun r =>
    r.2.cq == ringHandle k && (r.2.en || !r.2.idle)).foldl (fun n r => n + r.2.size) 0
/-- Free slots of a completion ring (R336). -/
def CplRing.slots (r : CplRing) : Nat := r.size - idxDiff r.p r.c - r.reserved

/-! ### Moderation (R347) -/

/-- Send the vector of a completion ring and disarm it. -/
def State.cqSend (s : State) (k : Nat) : State :=
  let r := s.cring k
  (s.setCring k { r with armed := false, unsig := 0 }).msixSend (ringEp k) (ringFn k) r.vector

/-- Send the vector if the count of unsignalled CQEs has been reached. -/
def State.cqSignal (s : State) (k : Nat) : State :=
  let r := s.cring k
  let n := s.rdFld (instPage (ringEp k) (ringFn k) 3) (0x200 + 8 * r.slot) 0 16
  if r.armed ∧ max 1 n ≤ r.unsig then s.cqSend k else s

/-- COUNT and TIME of an NVMe completion queue: features 0x08 and 0x09; the admin queue is never coalesced (R456). -/
def NvCtl.coalesce (x : NvCtl) (q : Nat) (c : NvCq) : Nat × Nat :=
  let v := tabGet 0 x.feats 0x08
  if q = 0 ∨ (tabGet 0 x.feats (0x10000 + c.vector)).testBit 16 then (0, 0)
  else (v % 256 + 1, v / 256 % 256 * 1000)

/-- Send the vector of an NVMe completion queue and disarm it. -/
def State.nvSend (s : State) (e f q : Nat) (c : NvCq) : State :=
  let x := tabGet {} s.nvs (e * 256 + f)
  let cqs := tabInsert (tabErase x.cqs q) q { c with armed := false, unsig := 0 }
  let s := { s with nvs := tabPut {} s.nvs (e * 256 + f) { x with cqs := cqs } }
  s.msixSend e f c.vector

/-- Send the vector if the count of unsignalled CQEs has been reached. -/
def State.nvSignal (s : State) (e f q : Nat) : State :=
  let x := tabGet {} s.nvs (e * 256 + f)
  match tabFind x.cqs q with
  | none => s
  | some c => if c.ien ∧ c.armed ∧ c.unsig ≠ 0 ∧ max 1 (x.coalesce q c).1 ≤ c.unsig then s.nvSend e f q c else s

/-- The aggregation time of an NVMe completion queue has passed. -/
def State.nvTimer (s : State) (e f q : Nat) : State :=
  let x := tabGet {} s.nvs (e * 256 + f)
  match tabFind x.cqs q with
  | none => s
  | some c =>
    let t := (x.coalesce q c).2
    if c.ien ∧ c.armed ∧ c.unsig ≠ 0 ∧ t ≠ 0 ∧ c.oldest + t * 100 ≤ s.clk then s.nvSend e f q c else s

/-- IRQ_TIMER: TIME has passed since the oldest unsignalled CQE of a ring (R347), or of completion queue `h` of an NVMe
function (R456). -/
def execIrqTimer (e : Fin 32) (f : BitVec 8) (h : BitVec 16) (s : State) : Host.Outcome State Fault Refusal :=
  let k := ringKey e f.toNat h.toNat
  let r := s.cring k
  let t := s.rdFld (instPage e f.toNat 3) (0x204 + 8 * r.slot) 0 24
  .next (if s.isNvme e f.toNat then s.nvTimer e f.toNat h.toNat
    else if r.en ∧ r.armed ∧ r.unsig ≠ 0 ∧ t ≠ 0 ∧ r.oldest + t * 100 ≤ s.clk then s.cqSend k else s)

/-! ### Completions (R330, R331) -/

/-- Complete a descriptor that no frame or payload belongs to any more. -/
def State.cplDesc (s : State) (k idx : Nat) (sqe : List Byte) (status : Nat) : State :=
  let len := if leAt sqe 0 1 = 1 then leAt sqe 4 2 else 0
  s.queueCqe { ring := k, idx := idx, cqe := cqeBytes (leAt sqe 2 2) status 0 len 0 0 0 0 0 (ringHandle k) 0 }

/-- Complete a prefetched receive buffer without a frame. -/
def State.cplBuf (s : State) (k : Nat) (b : RxBuf) (status : Nat) : State :=
  s.queueCqe { ring := k, idx := b.idx, cqe := cqeBytes b.desc status 0 0 0 0 0 0 0 (ringHandle k) 0 }

/-- C advances over completed entries (R332). -/
def advanceC (r : WorkRing) : Nat → WorkRing
  | 0 => r
  | n + 1 => if r.doneIdx.contains r.c then
      advanceC { r with doneIdx := r.doneIdx.erase r.c, c := idxAdd r.c 1 } n else r

/-- CQE_WRITE: the oldest completion owed by the endpoint is written: SQE write-back, CQE, MSI-X (R331). -/
def execCqeWrite (e : Fin 32) (s : State) : Host.Outcome State Fault Refusal :=
  match s.cqes.zipIdx.find? fun c => ringEp c.1.ring == e.val && s.mayRead e (ringFn c.1.ring) with
  | none => .next s
  | some (c, i) =>
    let f := ringFn c.ring
    let w := s.wring c.ring
    let q := cqOf c.ring w
    let r := s.cring q
    let s := { s with cqes := s.cqes.eraseIdx i }
    let s := s.emit (.hostWrite e f (w.base + c.idx % w.size * 64 + 63) [0])
    let s := s.emit (.hostWrite e f (r.base + r.p % r.size * 32) c.cqe)
    let w := advanceC { w with heldN := w.heldN - 1, doneIdx := w.doneIdx ++ [c.idx] } (w.doneIdx.length + 1)
    let s := s.setWring c.ring w
    let s := s.setCring q { r with
      p := idxAdd r.p 1, reserved := r.reserved - 1, unsig := r.unsig + 1
      oldest := if r.unsig = 0 then s.clk else r.oldest }
    let p := instPage e f 4
    let st := leAt c.cqe 2 1
    let s := s.count p 0x01 1
    let s := if st = 5 then s.count p 0x08 1 else if st = 3 then s.count p 0x09 1 else s
    .next (s.cqSignal q)

/-! ### Ring records (R327, R350) -/

/-- A work ring as its record reads. -/
def workBytes (r : WorkRing) : List Byte :=
  leBytes 8 r.base ++
  leBytes 4 (r.cq + r.log2 * 2 ^ 20 + r.bufMin * 2 ^ 24 + (if r.earlyRel then 2 ^ 26 else 0) +
    (if r.express then 2 ^ 27 else 0) + (if r.rx then 2 ^ 28 else 0) + (if r.idle then 2 ^ 30 else 0) +
    (if r.en then 2 ^ 31 else 0)) ++
  leBytes 4 (r.queue + (if r.qvalid then 2 ^ 31 else 0)) ++
  leBytes 2 r.p ++ leBytes 2 r.f ++ leBytes 2 r.c ++ leBytes 2 r.heldN ++ zeros 8

/-- A completion ring as its record reads. -/
def State.cplBytes (s : State) (k : Nat) : List Byte :=
  let r := s.cring k
  leBytes 8 r.base ++
  leBytes 4 (r.slot + (if r.armed then 2 ^ 7 else 0) + r.vector * 2 ^ 8 + r.log2 * 2 ^ 20 +
    (if r.en then 0 else 2 ^ 30) + (if r.en then 2 ^ 31 else 0)) ++
  leBytes 4 (s.bound k) ++ leBytes 2 r.p ++ leBytes 2 r.c ++ leBytes 2 r.reserved ++ zeros 10

/-- Let a fetch in progress go: its slots are free again. -/
def State.dropFetch (s : State) (k : Nat) : State :=
  let w := s.wring k
  if w.inFetch = 0 then s
  else
    let q := cqOf k w
    let r := s.cring q
    let s := (s.setWring k { w with inFetch := 0 }).setCring q { r with reserved := r.reserved - w.inFetch }
    s.forget fun c => match c with
      | .desc k' _ _ => k' == k
      | _ => false

/-- Complete a receive ring's unused buffers and unworked descriptors with ABORTED. -/
def State.abortRx (s : State) (k : Nat) : State :=
  let w := s.wring k
  let s := s.setWring k { w with pref := [], fetched := [] }
  let s := w.pref.foldl (fun s b => s.cplBuf k b 1) s
  w.fetched.foldl (fun s d => s.cplDesc k d.idx d.bytes 1) s

/-- A work ring is disabled while its instance runs (R350). -/
def State.ringStop (s : State) (k : Nat) : State :=
  let s := s.dropFetch k
  let w := s.wring k
  if !w.rx then s
  else
    let s := s.abortRx k
    if !w.qvalid then s
    else
      let d := ringEp k / 8
      let mine := fun (e : Entry) => match s.resolveDest e.dest with
        | some (.host e' f' h) => s.rxRing e' f' h == some k || ringKey e' f' h == k
        | _ => false
      s.discardFrom (queueKey d w.queue) mine fun s _ => s.count (instPage (ringEp k) (ringFn k) 4) 0x06 1

/-- Write a ring record: RESULT and the state (R327). `omc` says that OMC firmware writes. -/
def State.ringWrite (s : State) (omc : Bool) (e f h : Nat) (b : List Byte) : Nat × State :=
  let k := ringKey e f h
  let base := leAt b 0 8
  let ctl := leAt b 8 4
  let en := ctl.testBit 31
  let log2 := ctl / 2 ^ 20 % 16
  let st := s.instSt e f
  let badBase := base % 4096 ≠ 0 ∨ log2 < 6
  if h < s.grantWr e f then
    let old := s.wring k
    let kind := ctl / 2 ^ 28 % 4
    let new : WorkRing := { old with
      base := base, en := en, rx := kind == 1, express := ctl.testBit 27, earlyRel := ctl.testBit 26
      bufMin := ctl / 2 ^ 24 % 4, log2 := log2, cq := ctl % 65536
      qvalid := if omc then leAt b 12 4 / 2 ^ 31 % 2 == 1 else old.qvalid
      queue := if omc then leAt b 12 4 % 2 ^ 17 else old.queue }
    let q := s.cring (cqOf k new)
    if st = 0 ∨ st = 3 then (6, s)
    else if badBase ∨ 1 < kind ∨ ctl / 2 ^ 16 % 16 ≠ 0 ∨ (kind = 0 ∧ (ctl / 2 ^ 24 % 8 ≠ 0)) then (4, s)
    else if new.express ∧ !bit (s.rd (instPage e f 0) 0x10C) 0 then (5, s)
    else if old.en ∧ { new with en := true } ≠ old then (3, s)
    else if !old.en ∧ en ∧ !old.idle then (3, s)
    else if !old.en ∧ en ∧ !(decide (0x8000 ≤ new.cq) && decide (new.cq < 0x8000 + s.grantCr e f) && q.en &&
        decide (s.bound (cqOf k new) + new.size ≤ q.size)) then (2, s)
    else if !old.en ∧ en then
      (0, s.setWring k { new with p := 0, f := 0, c := 0, heldN := 0, doneIdx := [], fetched := [], pref := []
                                  inFetch := 0, idle := false, stall := false, stallAt := none, retried := false })
    else
      let s := s.setWring k new
      (0, if old.en ∧ !en then s.ringStop k else s)
  else if 0x8000 ≤ h ∧ h < 0x8000 + s.grantCr e f then
    let old := s.cring k
    let vec := ctl / 2 ^ 8 % 256
    let new : CplRing := { old with base := base, en := en, log2 := log2, vector := vec, slot := ctl % 64 }
    if st = 0 ∨ st = 3 then (6, s)
    else if badBase ∨ vec = 0 ∨ vectors f ≤ vec ∨ ctl.testBit 6 ∨ ctl / 2 ^ 16 % 16 ≠ 0 ∨ ctl / 2 ^ 24 % 64 ≠ 0 then (4, s)
    else if old.en ∧ { new with en := true } ≠ old then (3, s)
    else if old.en ∧ !en ∧ s.bound k ≠ 0 then (3, s)
    else if !old.en ∧ en then
      (0, s.setCring k { new with p := 0, c := 0, reserved := 0, armed := true, unsig := 0, stopped := false })
    else (0, s.setCring k (if en then new else { new with armed := false }))
  else (1, s)

/-- RCFG_CMD as the ferry applies it: `p` is one of RCFG0–RCFG3. -/
def State.rcfgAct (s : State) (mid : Mid) (p : PageKey) (v : Reg) : State :=
  let e := instEp p
  let f := instFn p
  let h := s.frFld p 0x100 0 16
  let r := if bit v 0 then s.ringWrite (midIsOmc mid) e f h (s.frBytes p 0x110 8)
    else if h < s.grantWr e f ∨ (0x8000 ≤ h ∧ h < 0x8000 + s.grantCr e f) then (0, s) else (1, s)
  let s := if bit v 1 ∧ r.1 = 0 then
      r.2.putRegBytes p 0x110 (if h < 0x8000 then workBytes (r.2.wring (ringKey e f h)) else r.2.cplBytes (ringKey e f h))
    else r.2
  (s.recordDone p 0x104 r.1).raiseBit p 0

/-- RCFG_WRITE through port 0–3 (R327). -/
def execRcfgWrite (mid : Mid) (e : Fin 32) (f : BitVec 8) (port : Fin 4) (s : State) : Host.Outcome State Fault Refusal :=
  let p := instPage e f.toNat (4 + port.val)
  .next (s.recordCmd mid p 0x104 1 fun s => s.rcfgAct mid p 1)

/-- RCFG_READ (R327). -/
def execRcfgRead (mid : Mid) (e : Fin 32) (f : BitVec 8) (port : Fin 4) (s : State) : Host.Outcome State Fault Refusal :=
  let p := instPage e f.toNat (4 + port.val)
  .next (s.recordCmd mid p 0x104 2 fun s => s.rcfgAct mid p 2)

/-- RING_IDLE: a disabled ring's HELD is 0: IDLE is set and it leaves BOUND (R337, R350). -/
def execRingIdle (e : Fin 32) (f : BitVec 8) (h : BitVec 16) (s : State) : Host.Outcome State Fault Refusal :=
  let k := ringKey e f.toNat h.toNat
  let w := s.wring k
  .next (if !w.en ∧ !w.idle ∧ w.heldN = 0 ∧ w.inFetch = 0 then s.setWring k { w with idle := true } else s)

/-! ### Doorbells (R333–R335, R347, R351) -/

/-- The verdict on index `v` (R334): 0 advance, 1 stale, 2 overrun. -/
def doorbellCase (a q b v size : Nat) : Nat :=
  if idxDiff v a ≤ idxDiff b a ∧ idxDiff q a ≤ idxDiff v a then 0
  else if idxDiff a v ≤ size ∨ idxDiff v a ≤ idxDiff q a then 1
  else 2

/-- A doorbell on an instance: index `v` for the ring with handle `h`. -/
def State.doorbell (s : State) (e f h v : Nat) : State :=
  let k := ringKey e f h
  let ictl := instPage e f 0
  let w := s.wring k
  let c := s.cring k
  let tooMany := fun (s : State) => (s.count ictl 0x04 1).raiseBit ictl 2
  if s.instSt e f = 3 then s.count ictl 0x01 1
  else if h < 0x8000 ∧ w.en then
    let n := doorbellCase w.c w.p (idxAdd w.c w.size) v w.size
    if n = 0 then s.setWring k { w with p := v, stall := false, stallAt := none }
    else if n = 1 then
      (s.setWring k { w with stall := false, stallAt := none }).count (instPage e f 4) 0x04 1
    else tooMany s
  else if 0x8000 ≤ h ∧ c.en then
    let n := doorbellCase c.c c.c c.p v c.size
    if n = 0 then
      if v = c.c then s
      else
        (s.setCring k { c with c := v, armed := true, stopped := false, unsig := idxDiff c.p v, oldest := s.clk }).cqSignal k
    else if n = 1 then s.count (instPage e f 4) 0x04 1
    else tooMany s
  else s.count (instPage e f 4) 0x03 1

/-- DOORBELL: a 64-bit write at offset 0x100 of doorbell page `n` (R333). -/
def execDoorbell (mid : Mid) (e : Fin 32) (f : BitVec 8) (n : Fin 8) (v : Word) (s : State) :
    Host.Outcome State Fault Refusal :=
  let p := instPage e f.toNat (8 + n.val)
  .next (s.accessWrite mid p 0x100 fun s =>
    ((s.stamp p).doorbell e f.toNat (natField v.toNat 32 16) (natField v.toNat 0 16)).applied p)

/-! ### Fetching (R335, R336, R338, R339, R343) -/

/-- May the ring be fetched from at all? -/
def State.ringLive (s : State) (k : Nat) : Bool :=
  let e := ringEp k
  let f := ringFn k
  let w := s.wring k
  s.instSt e f == 2 && s.mayRead e f && w.en && w.inFetch == 0 && !w.stall &&
    (w.rx || w.express || decide ((s.seq (epSource e)).above < 8192))

/-- Entries that the ring would fetch next, credit apart. -/
def WorkRing.wants (w : WorkRing) : Nat :=
  let have_ := w.pref.length + w.fetched.length
  let n := if w.rx then (if have_ < 8 then 16 - have_ else 0) else 8 - w.fetched.length
  min (min 8 n) (min (idxDiff w.p w.f) (w.size - w.f % w.size))

/-- Start a fetch of up to `n` entries of a ring, as far as completion credit goes (R336, R338). -/
def State.fetchStart (s : State) (k n : Nat) : State :=
  let w := s.wring k
  let q := cqOf k w
  let r := s.cring q
  let m := min n r.slots
  if m = 0 then
    if r.stopped then s else (s.setCring q { r with stopped := true }).count (instPage (ringEp k) (ringFn k) 4) 0x07 1
  else
    let s := (s.setWring k { w with inFetch := m }).setCring q { r with reserved := r.reserved + m }
    s.askHost (ringEp k) (ringFn k) (.desc k w.f m) (w.base + w.f % w.size * 64) (64 * m)

/-- The entries of fetched bytes that are device-owned, up to the first that is not. -/
def ownedPrefix (f : Nat) : List (List Byte) → List Fetched
  | [] => []
  | b :: bs => if (byteAt b 63).testBit 7 then { idx := f, bytes := b } :: ownedPrefix (idxAdd f 1) bs else []

/-- Fetched bytes arrive: entries are accepted up to the first with OWN = 0 (R335). -/
def State.fetchDone (s : State) (k status : Nat) (data : List Byte) : State :=
  let w := s.wring k
  let q := cqOf k w
  let r := s.cring q
  let n := w.inFetch
  let es := if status = 0 then ownedPrefix w.f ((List.range n).map fun i => slice data (64 * i) 64) else []
  let m := es.length
  let stop := m < n
  let w' := { w with
    inFetch := 0, f := idxAdd w.f m, fetched := w.fetched ++ es, heldN := w.heldN + m
    retried := if 0 < m then false else w.retried
    stall := stop, stallAt := if stop ∧ (0 < m ∨ !w.retried) then some s.clk else none }
  let s := (s.setWring k w').setCring q { r with reserved := r.reserved - (n - m) }
  let p := instPage (ringEp k) (ringFn k) 4
  let s := if m = 0 then s else s.count p 0x00 m
  if stop ∧ status = 0 then s.count p 0x02 1 else s

/-- The rings that a region's mover serves. -/
def State.moverRings (s : State) (r : Nat) : List Nat :=
  (s.wrings.filter fun w => epRegion (ringEp w.1) == r).map Prod.fst

/-- DESC_FETCH by the mover of a region: descriptors that have arrived are accepted; else the next ring that holds
posted entries is fetched from, express rings first and the others round robin (R336, R339). -/
def execDescFetch (r : Fin 16) (s : State) : Host.Outcome State Fault Refusal :=
  let ks := s.moverRings r
  let got := ks.findSome? fun k =>
    let w := s.wring k
    if w.inFetch = 0 then none
    else match s.takeRead (.desc k w.f w.inFetch) (64 * w.inFetch) with
      | (none, _) => none
      | (some o, s) => some (k, o, s)
  match got with
  | some (k, (st, data), s) => .next (s.fetchDone k st data)
  | none =>
    let live := ks.filter fun k => s.ringLive k && (s.wring k).wants != 0 &&
      ((s.cring (cqOf k (s.wring k))).slots != 0 || !(s.cring (cqOf k (s.wring k))).stopped)
    let last := tabGet 0 s.lastRing r
    let rest := live.filter fun k => !(s.wring k).express
    let order := (live.filter fun k => (s.wring k).express) ++
      (rest.filter fun k => decide (last < k)) ++ rest.filter fun k => decide (k ≤ last)
    match order with
    | [] => .next s
    | k :: _ =>
      let s := if (s.wring k).express then s else { s with lastRing := tabPut 0 s.lastRing r k }
      .next (s.fetchStart k (s.wring k).wants)

/-- DESC_REFETCH: the entry that was found with OWN = 0 is read again once, 1 µs later (R335). -/
def execDescRefetch (e : Fin 32) (f : BitVec 8) (h : BitVec 16) (s : State) : Host.Outcome State Fault Refusal :=
  let k := ringKey e f.toNat h.toNat
  let w := s.wring k
  match w.stallAt with
  | none => .next s
  | some t =>
    if s.clk < t + 1000 then .next s
    else
      let s := s.setWring k { w with stall := false, stallAt := none, retried := true }
      .next (if s.ringLive k ∧ (s.wring k).wants ≠ 0 then s.fetchStart k 1 else s)

/-! ### Receive buffers (R328, R329, R343) -/

/-- Take the oldest fetched descriptor of a ring off its list. -/
def State.popFetched (s : State) (k : Nat) : State :=
  let w := s.wring k
  s.setWring k { w with fetched := w.fetched.drop 1 }

/-- Is an RX_BUF descriptor malformed (R329)? -/
def rxBad (w : WorkRing) (b : List Byte) : Bool :=
  let len := leAt b 4 4
  leAt b 0 1 != 0x10 || leAt b 1 1 != 0 || decide (len < 2048 * 2 ^ w.bufMin) || decide (65536 < len) ||
    leAt b 8 8 % 64 != 0 || slice b 16 47 != zeros 47

/-- RX_BUF: the oldest fetched descriptor of an RX ring supplies a buffer, or completes with MALFORMED. -/
def execRxBuf (e : Fin 32) (f : BitVec 8) (h : BitVec 16) (s : State) : Host.Outcome State Fault Refusal :=
  let k := ringKey e f.toNat h.toNat
  let w := s.wring k
  match w.rx, w.fetched with
  | true, d :: _ =>
    let s := s.popFetched k
    if rxBad w d.bytes then .next (s.cplDesc k d.idx d.bytes 5)
    else
      let w := s.wring k
      let b : RxBuf := { idx := d.idx, desc := leAt d.bytes 2 2, addr := leAt d.bytes 8 8, len := leAt d.bytes 4 4 }
      .next (s.setWring k { w with pref := w.pref ++ [b] })
  | _, _ => .next s

/-! ### Drains (R309, R310, R349, R352) -/

/-- Is an entry for the instance? -/
def entryFor (e f : Nat) (x : Entry) : Bool :=
  fld x.dest 29 3 == 3 && fld x.dest 24 5 == e && fld x.dest 16 8 == f

/-- Does a queue hold entries for the instance? -/
def State.queuedFor (s : State) (e f : Nat) : Bool :=
  (s.queues.any fun q => q.2.any (entryFor e f)) || (s.sel.any fun x => entryFor e f x.2)

/-- Discard every queue entry for the instance from the head of its queue, each counted in the queue's drop counters
(R352). -/
def State.discardFor (s : State) (e f : Nat) (p : Entry → Bool) : State :=
  let o := epOutlet e
  s.discardOutlet o.1 o.2 (fun x => entryFor e f x && p x) fun s _ => s

/-- Buffers that an entry of `len` bytes takes, and what is left; none if they do not suffice. -/
def takeBufs (len : Nat) : List RxBuf → Option (List RxBuf × List RxBuf)
  | [] => if len = 0 then some ([], []) else none
  | b :: bs =>
    if len = 0 then some ([], b :: bs)
    else match takeBufs (len - b.len) bs with
      | none => none
      | some r => some (b :: r.1, r.2)

/-- Which queued entries of an instance have buffers already, in the order of their queues, with the buffers left over
(R349). -/
def State.coverEntries (s : State) : List Entry → List (Nat × List RxBuf) → List Entry × List (Nat × List RxBuf)
  | [], left => ([], left)
  | x :: xs, left =>
    match s.resolveDest x.dest with
    | some (.host e f h) =>
      (match s.rxRing e f h with
       | none => s.coverEntries xs left
       | some k =>
         match takeBufs x.bytes.length (tabGet [] left k) with
         | none => s.coverEntries xs left
         | some r =>
           let y := s.coverEntries xs (tabInsert (tabErase left k) k r.2)
           (x :: y.1, y.2))
    | _ => s.coverEntries xs left

/-- The entries queued for an instance: the selected one first. -/
def State.entriesFor (s : State) (e f : Nat) : List Entry :=
  ((s.sel.map Prod.snd) ++ s.queues.flatMap Prod.snd).filter (entryFor e f)

/-- Drop the transmit records of a ring whose payload is not in the buffer, with their reads. -/
def State.dropTx (s : State) (k : Nat) : State :=
  let gone := (s.txs.filter fun t => t.2.ring == k && !t.2.sent).map Prod.fst
  let s := { s with txs := s.txs.filter fun t => !(t.2.ring == k && !t.2.sent) }
  s.forget fun c => match c with
    | .sgl t _ | .payload t _ => gone.contains t
    | _ => false

/-- What the drain's start does to one ring. -/
def State.drainRing (s : State) (mode : Nat) (keep : List RxBuf) (k : Nat) : State :=
  let s := s.dropFetch k
  let w := s.wring k
  if mode = 1 then
    if !w.rx then s
    else
      let n := w.pref.length - keep.length
      let s := (s.setWring k { w with pref := w.pref.drop n }).abortRx k
      let w' := s.wring k
      s.setWring k { w' with pref := w.pref.take n }
  else if mode = 2 then
    if w.rx then s.abortRx k
    else
      let s := (s.dropTx k).setWring k { s.wring k with fetched := [] }
      let s := { s with txs := s.txs.map fun t => if t.2.ring = k then (t.1, { t.2 with mode := 2 }) else t }
      w.fetched.foldl (fun s d => s.cplDesc k d.idx d.bytes 1) s
  else
    let n := w.fetched.length + w.pref.length
    let q := s.cqes.filter fun c => c.ring == k
    let m := n + q.length
    let s := s.dropTx k
    let s := { s with cqes := s.cqes.filter fun c => c.ring != k }
    let s := s.setWring k { w with fetched := [], pref := [], heldN := w.heldN - m }
    if m = 0 then s else s.count (instPage (ringEp k) (ringFn k) 0) 0x02 (2 * m)

/-- What the drain's start does to the ring work of an instance (R310, R349). -/
def State.drainRings (s : State) (e f mode : Nat) : State :=
  let ks := (s.instRings e f).map Prod.fst
  if mode = 1 then
    let have_ := (s.instRings e f).map fun r => (r.1, r.2.pref)
    let cov := s.coverEntries (s.entriesFor e f) have_
    let s := s.discardFor e f fun x => !cov.1.contains x
    ks.foldl (fun s k => s.drainRing 1 (tabGet [] cov.2 k) k) s
  else
    let s := s.discardFor e f fun _ => true
    ks.foldl (fun s k => s.drainRing mode [] k) s

/-- Has the instance no ring work left (R310)? -/
def State.ringsQuiet (s : State) (e f : Nat) : Bool :=
  ((s.instRings e f).all fun r => r.2.heldN == 0 && r.2.inFetch == 0) &&
  !(s.hwait.any fun r => r.ep == e && r.fn == f) &&
  !(s.hreads.any fun r => r.2.ep == e && r.2.fn == f && r.2.quar.isNone) &&
  !(s.cqes.any fun c => ringEp c.ring == e && ringFn c.ring == f) && !s.queuedFor e f

/-- Reset the ring records of an instance. -/
def State.clearRings (s : State) (e f : Nat) : State :=
  { s with
    wrings := tabKeep s.wrings fun k => k / 65536 != e * 256 + f
    crings := tabKeep s.crings fun k => k / 65536 != e * 256 + f
    txs := s.txs.map fun t => if t.2.ring / 65536 = e * 256 + f then (t.1, { t.2 with owed := false }) else t }

end Sys2Proof.Machine
end

