-- ==== Sys2Proof/Machine/TxDesc.lean ====
section
/-! DEFINITION. SEND and SEND_TLS descriptors, and the delivery of receive frames to host memory
(R215, R328, R329, R340, R341, R343–R345). -/
namespace Sys2Proof.Machine

/-- Store a transmit record. -/
def State.setTx (s : State) (t : Nat) (x : TxRec) : State := { s with txs := tabInsert (tabErase s.txs t) t x }

/-- Is a SEND or SEND_TLS descriptor malformed, as far as the descriptor alone shows (R329)? -/
def sendBad (b : List Byte) : Bool :=
  let op := leAt b 0 1
  let fl := leAt b 1 1
  let list := fl.testBit 5
  let nseg := leAt b 6 1
  let len := leAt b 4 2
  let l0 := leAt b 24 4
  let l1 := leAt b 40 4
  let tls := op == 2
  let hdr := leAt b 10 2
  let mss := leAt b 12 2
  !(op == 1 || op == 2) || decide (63 < fl) || (tls && fl % 32 != 0) ||
  leAt b 7 1 != 0 || slice b 28 4 != zeros 4 || slice b 44 4 != zeros 4 ||
  (if tls then slice b 14 2 != zeros 2 || slice b 60 3 != zeros 3
   else slice b 10 6 != zeros 6 || slice b 48 15 != zeros 15) ||
  (if tls then decide (hdr < 54) || decide (254 < hdr) || decide (mss < 536) || decide (9000 < mss) ||
      decide (hdr + 5 + 2 ^ 14 + 1 < len) || decide (len < hdr + 6) ||
      decide (5 + (len - hdr - 5) + 16 ≤ leAt b 56 2)
   else decide (len < 14) || decide (9212 < len)) ||
  (if list then nseg == 0 || decide (16 < nseg) || l0 != 0 || l1 != 0 || leAt b 32 8 % 16 != 0
   else nseg == 0 || decide (2 < nseg) || l0 == 0 || (if nseg == 1 then l1 != 0 else l1 == 0) || l0 + l1 != len)

/-- The cipher context that a descriptor names. -/
def State.descCtx (s : State) (k : Nat) (b : List Byte) : Nat :=
  (s.rd (instPage (ringEp k) (ringFn k) 2) 0x100).toNat + leAt b 8 2

/-- The status of a descriptor before any payload read: 0 when it is in order (R329). -/
def State.sendCheck (s : State) (k : Nat) (b : List Byte) : Nat :=
  let tls := leAt b 0 1 == 2
  let uses := tls || (leAt b 1 1).testBit 4
  let x := s.ctx (s.descCtx k b)
  if sendBad b then 5
  else if uses ∧ s.rdFld (instPage (ringEp k) (ringFn k) 2) 0x104 0 17 ≤ leAt b 8 2 then 7
  else if uses ∧ x.st ≠ 0 ∧ !(if tls then x.proto == 3 else (x.proto == 1 || x.proto == 2) && !x.receive) then 5
  else 0

/-- End the descriptor at the head of a ring without a frame. -/
def State.txReject (s : State) (k idx : Nat) (b : List Byte) (status : Nat) : State :=
  (s.popFetched k).cplDesc k idx b status

/-- Ask for the payload segments of a record. -/
def State.askPayload (s : State) (t : Nat) (x : TxRec) (segs : List (Nat × Nat)) : State :=
  let want := segs.zipIdx.map fun e => (e.2, e.1.1, e.1.2)
  let s := s.setTx t { x with want := want, asked := true, listed := true }
  want.foldl (fun s w => s.askHost (ringEp x.ring) (ringFn x.ring) (.payload t w.1) w.2.1 w.2.2) s

/-- The scatter list of a descriptor: segments, or none when it is malformed (R328, R329). -/
def listSegs (b data : List Byte) : Option (List (Nat × Nat)) :=
  let es := (List.range (leAt b 6 1)).map fun i => (leAt data (16 * i) 8, leAt data (16 * i + 8) 4, leAt data (16 * i + 12) 4)
  if es.any (fun e => e.2.1 == 0 || e.2.2 != 0) || (es.foldl (fun n e => n + e.2.1) 0) != leAt b 4 2 then none
  else some (es.map fun e => (e.1, e.2.1))

/-- Drop the record of the head descriptor and complete it with a status. -/
def State.txFail (s : State) (t : Nat) (x : TxRec) (status : Nat) : State :=
  let s := { s with txs := tabErase s.txs t }
  let s := s.forget fun c => match c with
    | .sgl u _ | .payload u _ => u == t
    | _ => false
  s.txReject x.ring x.idx x.sqe status

/-- Take the payload parts that have arrived. -/
def State.takeParts (s : State) (t : Nat) (x : TxRec) : Option Nat × TxRec × State :=
  x.want.foldl (fun a w =>
    if a.2.1.parts.any fun p => p.1 == w.1 then a
    else match a.2.2.takeRead (.payload t w.1) w.2.2 with
      | (none, _) => a
      | (some (0, d), s) => (a.1, { a.2.1 with parts := a.2.1.parts ++ [(w.1, d)] }, s)
      | (some (st, _), s) => (some (a.1.getD st), a.2.1, s)) (none, x, s)

/-- The payload in order, once every part is there. -/
def TxRec.payload (x : TxRec) : Option (List Byte) :=
  if x.parts.length = x.want.length then some ((sortBy Prod.fst x.parts).flatMap Prod.snd) else none

/-- The frame of a SEND enters the packet buffer and waits to be spread (R340, R341). -/
def State.sendFrame (s : State) (t : Nat) (x : TxRec) (b : List Byte) : State :=
  let e := ringEp x.ring
  let w := s.wring x.ring
  let ex := w.express
  match s.bufArrive (epRegion e / 4) b ex none (some t) with
  | (none, s) => s.txFail t x 6
  | (some k, s) =>
    let fl := leAt x.sqe 1 1
    let s := s.setTx t { x with sent := true, left := 1, bytesSent := b.length, parts := [], want := [] }
    let s := s.popFetched x.ring
    let f : Frame := { buf := k, src := hostSrc e (ringFn x.ring), ts := s.ptime.toNat, express := ex, tx := some t }
    let q := s.fifo (epSource e)
    let s := s.setFifo (epSource e) (if ex then { q with exp := q.exp ++ [f] } else { q with ord := q.ord ++ [f] })
    let s := [0, 1, 2, 3].foldl (fun s p => s.work (128 + epRegion e * 4 + p)) s
    if fl.testBit 3 ∨ fl.testBit 4 then s else s.txComplete t

/-! ### TLS records (R215) -/

/-- One TCP segment of a record: `hdr` is the template, `off` the segment's place in the record, `i` its number. -/
def tlsSegment (hdr : List Byte) (off i : Nat) (last : Bool) (piece : List Byte) : List Byte :=
  let p := parseFrame { vxlan := 0, geneve := 0, roce := 0, nvme := 0 } (padTo hdr 60)
  let f := hdr ++ piece
  match p.oL3, p.oL4 with
  | some o, some q =>
    let v4 := p.tL3 == 1
    let f := if v4 then
        overlay (overlay f (o + 2) (beBytes 2 (f.length - o))) (o + 4) (beBytes 2 ((beAt hdr (o + 4) 2 + i) % 65536))
      else overlay f (o + 4) (beBytes 2 (f.length - o - 40))
    let f := overlay f (q + 4) (beBytes 4 ((beAt hdr (q + 4) 4 + off) % 2 ^ 32))
    let f := if last then f else overlay f (q + 13) [byteAt f (q + 13) |> fun v => BitVec.ofNat 8 v &&& 0xF6]
    let f := insL4 f o (if v4 then 1 else 2) q 1
    if v4 then insL3 f o else f
  | _, _ => f

/-- Cut bytes into pieces. -/
def pieces (n : Nat) : Nat → List Byte → List (List Byte)
  | 0, _ => []
  | fuel + 1, b => if b = [] then [] else b.take n :: pieces n fuel (b.drop n)

/-- The segments of a record's range (R215, R328). -/
def tlsSegments (b payload record : List Byte) : List (List Byte) :=
  let hdr := payload.take (leAt b 10 2)
  let off := leAt b 56 2
  let len := leAt b 58 2
  let range := if len = 0 then record.drop off else (record.drop off).take len
  let ps := pieces (max 1 (leAt b 12 2)) range.length range
  ps.zipIdx.map fun e => tlsSegment hdr (off + e.2 * leAt b 12 2) e.2 (e.2 + 1 == ps.length) e.1

/-- Put the segments into the packet buffer: their places, or none when one finds no room. -/
def State.bufAll (s : State) (die : Nat) (ex : Bool) (t : Nat) : List (List Byte) → Option (List Nat) × State
  | [] => (some [], s)
  | b :: bs =>
    match s.bufArrive die b ex none (some t) with
    | (none, s) => (none, s)
    | (some k, s) =>
      match s.bufAll die ex t bs with
      | (none, s) => (none, { s with bufs := tabErase s.bufs k })
      | (some ks, s) => (some (k :: ks), s)

/-- A record whose plaintext has arrived is encrypted, tagged, cut into segments and sent (R215, R222, R227). -/
def State.sendRecord (s : State) (t : Nat) (x : TxRec) (payload : List Byte) : State :=
  let e := ringEp x.ring
  let f := ringFn x.ring
  let r := epRegion e
  let c := s.descCtx x.ring x.sqe
  let y := s.ctx c
  if s.eclipsed then (s.countRefused r .eclipse).txFail t x 0x0F
  else if y.st ≠ 0 ∧ !scopeAdmits y.owner (hostSrc e f) none then (s.scopeRefused r).txFail t x 7
  else match s.ctxStart r c true with
    | (.inl z, s) => s.txFail t x z.status
    | (.inr n, s) =>
      let inner := payload.drop (leAt x.sqe 10 2 + 5)
      let y := s.ctx n
      let record := slice (Config.tlsSeal y.alg (s.ctxKey n) y.salt (leAt x.sqe 48 8) inner) 0 (5 + inner.length + 16)
      let segs := tlsSegments x.sqe payload record
      let ex := (s.wring x.ring).express
      match s.bufAll (r / 4) ex t segs with
      | (none, s) => s.txFail t x 6
      | (some ks, s) =>
        let sent := segs.foldl (fun n g => n + g.length - leAt x.sqe 10 2) 0
        let s := s.setTx t { x with sent := true, left := ks.length, bytesSent := sent, parts := [], want := [] }
        let s := s.popFetched x.ring
        let q := s.fifo (epSource e)
        let fs : List Frame := ks.map fun k =>
          { buf := k, src := hostSrc e f, ts := s.ptime.toNat, express := ex, tx := some t }
        let s := s.setFifo (epSource e) (if ex then { q with exp := q.exp ++ fs } else { q with ord := q.ord ++ fs })
        [0, 1, 2, 3].foldl (fun s p => s.work (128 + r * 4 + p)) s

/-! ### Progress of the head descriptor -/

/-- Advance the descriptor at the head of a TX ring: check it, read its list and payload, and send it. -/
def State.txStep (s : State) (k : Nat) (tls : Bool) : State :=
  let w := s.wring k
  let e := ringEp k
  match w.rx, w.fetched with
  | false, d :: _ =>
    if (leAt d.bytes 0 1 == 2) != tls then s
    else match s.txs.find? fun t => t.2.ring == k && t.2.idx == d.idx && !t.2.sent with
      | none =>
        let st := s.sendCheck k d.bytes
        if st ≠ 0 then s.txReject k d.idx d.bytes st
        else
          let t := s.txNext
          let x : TxRec := { ring := k, idx := d.idx, sqe := d.bytes }
          let s := { s with txNext := t + 1 }
          if (leAt d.bytes 1 1).testBit 5 then
            (s.setTx t x).askHost e (ringFn k) (.sgl t 0) (leAt d.bytes 32 8) (16 * leAt d.bytes 6 1)
          else
            let segs := (leAt d.bytes 16 8, leAt d.bytes 24 4) ::
              (if leAt d.bytes 6 1 = 2 then [(leAt d.bytes 32 8, leAt d.bytes 40 4)] else [])
            s.askPayload t x segs
      | some (t, x) =>
        if !x.asked then
          match s.takeRead (.sgl t 0) (16 * leAt d.bytes 6 1) with
          | (none, s) => s
          | (some (0, data), s) =>
            (match listSegs d.bytes data with
             | none => s.txFail t x 5
             | some segs => s.askPayload t x segs)
          | (some (st, _), s) => s.txFail t x st
        else
          match s.takeParts t x with
          | (some st, x, s) => s.txFail t x st
          | (none, x, s) =>
            match x.payload with
            | none => s.setTx t x
            | some b => if tls then s.sendRecord t x b else s.sendFrame t x b
  | _, _ => s

/-- SEND_DESC: the descriptor at the head of a TX ring, unless it is a SEND_TLS, advances (R328, R329, R340). -/
def execSendDesc (e : Fin 32) (f : BitVec 8) (h : BitVec 16) (s : State) : Host.Outcome State Fault Refusal :=
  .next (s.txStep (ringKey e f.toNat h.toNat) false)

/-- SEND_TLS: the SEND_TLS descriptor at the head of a TX ring advances (R215, R328, R329, R340). -/
def execSendTls (e : Fin 32) (f : BitVec 8) (h : BitVec 16) (s : State) : Host.Outcome State Fault Refusal :=
  .next (s.txStep (ringKey e f.toNat h.toNat) true)

/-! ### TLS receive at dequeue (R211, R215, R230) -/

/-- The TCP part of a frame: sequence number, and place and length of the payload. -/
def tcpPart (b : List Byte) (p : Parsed) : Option (Nat × Nat × Nat) :=
  let inner := p.tIL4 == 1
  let l3 := if inner then p.oIL3 else p.oL3
  let l4 := if inner then p.oIL4 else p.oL4
  let t3 := if inner then p.tIL3 else p.tL3
  if !inner && p.tL4 != 1 then none
  else match l3, l4 with
    | some o, some q =>
      let stop := if t3 = 1 then o + beAt b (o + 2) 2 else o + 40 + beAt b (o + 4) 2
      let pay := q + 4 * (byteAt b (q + 12) / 16)
      some (beAt b (q + 4) 4, pay, min stop b.length - pay)
    | _, _ => none

/-- Decrypt record bytes as they come: the bytes delivered, and whether every verdict reached was good. -/
def State.tlsBytes (s : State) (r c : Nat) (out : List Byte) (ok : Bool) : Nat → List Byte →
    (Option (List Byte × Bool)) × State
  | 0, _ => (some (out, ok), s)
  | fuel + 1, b =>
    if b = [] then (some (out, ok), s)
    else
      let x := s.ctx c
      let start := if x.record = [] then s.ctxStart r c false else (.inr c, s)
      match start with
      | (.inl _, s) => (none, s)
      | (.inr _, s) =>
        let x := s.ctx c
        let have_ := x.record.length
        let total := if have_ < 5 then 5 else 5 + beAt x.record 3 2
        let n := max 1 (min b.length (total - have_))
        let chunk := b.take n
        let seq := leAt x.pstate 4 8
        let text := if have_ < 5 then chunk else Config.tlsText x.alg (s.ctxKey c) x.salt seq have_ chunk
        let rec_ := x.record ++ chunk
        let whole := decide (5 ≤ rec_.length) && rec_.length == 5 + beAt rec_ 3 2
        let good := !whole || Config.tlsVerdict x.alg (s.ctxKey c) x.salt seq rec_
        let s := if good then s else s.count (ciphPage r) 0x01 1
        let ps := if whole then overlay (overlay x.pstate 4 (leBytes 8 ((seq + 1) % 2 ^ 64))) 12 (zeros 4)
          else overlay x.pstate 12 (leBytes 4 rec_.length)
        let s := s.setCtx c { x with record := if whole then [] else rec_, pstate := ps }
        s.tlsBytes r c (out ++ slice text 0 n) (ok && good) fuel (b.drop n)

/-- The TLS receive decrypt of a segment toward a host instance: the frame, whether it was not decrypted, and the
verdict; or a refusal, which drops it (R213, R215, R222, R227). -/
def State.tlsOpen (s : State) (r c src : Nat) (dest : Nat × Nat) (b : List Byte) :
    Option (List Byte × Bool × Bool) × State :=
  let x := s.ctx c
  let p := parseFrame (s.parseCfg (pipePage r 0)) b
  if s.eclipsed then (none, s.countRefused r .eclipse)
  else if x.st ≠ 0 ∧ !scopeAdmits x.owner src (some dest) then (none, s.scopeRefused r)
  else if x.st = 5 then (some (b, true, true), s)
  else if !x.usable then (none, s.countRefused r .spent)
  else match tcpPart b p with
    | none => (none, s.countRefused r .scope)
    | some (seq, o, n) =>
      if n = 0 then (some (b, false, true), s)
      else if seq ≠ leAt x.pstate 0 4 then
        (some (b, true, true), (s.setCtx c { x with st := 5, record := [] }).count (ciphPage r) 0x0B 1)
      else
        match s.tlsBytes r c [] true n (slice b o n) with
        | (none, s) => (none, s)
        | (some (t, ok), s) =>
          let y := s.ctx c
          let s := s.setCtx c { y with pstate := overlay y.pstate 0 (leBytes 4 ((seq + n) % 2 ^ 32)) }
          (some (overlay b o t, false, ok), s)

/-! ### Delivery to a host (R343–R345) -/

/-- Write a frame into the buffers it takes, with a CQE for each (R344). -/
def State.deliver (s : State) (k : Nat) (en : Entry) (b : List Byte) (notDec ok : Bool) : List RxBuf → List Byte → State
  | [], _ => s
  | u :: us, rest =>
    let e := ringEp k
    let f := ringFn k
    let n := min u.len rest.length
    let s := s.emit (.hostWrite e f u.addr (rest.take n))
    let more := !us.isEmpty
    let early := en.early
    let flags := (if more then 1 else 0) + (if notDec then 4 else 0) + (if en.express then 8 else 0) +
      (if early then 16 else 0)
    let p := en.prv
    let l3 := if leAt p 53 1 ≠ 0 then leAt p 53 1 else leAt p 49 1
    let l4 := if leAt p 54 1 ≠ 0 then leAt p 54 1 else leAt p 50 1
    let c := cqeBytes u.desc (if s.bufBad en.buf then 8 else if ok && !en.bad then 0 else 3) flags n (leAt p 16 8) (leAt p 28 4) (leAt p 0 2)
      (leAt p 113 1) (leAt p 12 1) (ringHandle k) (l4 * 256 + l3)
    (s.queueCqe { ring := k, idx := u.idx, cqe := c }).deliver k en b notDec ok us (rest.drop n)

/-- Deliver a selected entry. -/
def State.rxDeliver (s : State) (ep f h : Nat) (e : Entry) : State :=
  match s.rxRing ep f h with
  | none => (s.count (instPage ep f 4) 0x06 1).bufDone e.buf
  | some k =>
    let w := s.wring k
    match takeBufs e.bytes.length w.pref with
    | none => (s.count (instPage ep f 4) 0x05 1).bufDone e.buf
    | some _ =>
      let r := epRegion ep
      match s.sealAll r e (some (ep, f)) e.bytes e.enc with
      | (none, s) => s.bufDone e.buf
      | (some b, s) =>
        let t := match e.dec with
          | none => (some (b, false, true), s)
          | some c => s.tlsOpen r c (leAt e.prv 0 2) (ep, f) b
        match t with
        | (none, s) => s.bufDone e.buf
        | (some (b, notDec, ok), s) =>
          match takeBufs b.length w.pref with
          | none => (s.count (instPage ep f 4) 0x05 1).bufDone e.buf
          | some (us, left) =>
            let s := s.setWring k { s.wring k with pref := left }
            (s.deliver k e b notDec ok us b).bufDone e.buf

/-- RX_DELIVER: the frame selected for the endpoint's outlet is written to its instance (R343–R345). -/
def execRxDeliver (e : Fin 32) (s : State) : Host.Outcome State Fault Refusal :=
  let o := epOutlet e
  let k := o.1 * 256 + o.2
  match tabFind s.sel k with
  | none => .next s
  | some x =>
    match s.resolveDest x.dest with
    | some (.host ep f h) =>
      let s := { s with sel := tabErase s.sel k }
      .next (if s.mayRead ep f then s.rxDeliver ep f h x
        else (s.count (instPage ep f 4) 0x05 1).bufDone x.buf)
    | _ => .next ({ s with sel := tabErase s.sel k }.bufDone x.buf)

end Sys2Proof.Machine
end

