-- ==== Sys2Proof/Machine/Inst.lean ====
section
/-! DEFINITION. Instances: resource pools, creation, enabling, drains, mailboxes, general channels and their bindings
(R301–R324). Registers of these pages are in the lantern domain. -/
namespace Sys2Proof.Machine

/-! ### Pages and states -/

/-- ICTL page of a function. -/
def ictlPage (e f : Nat) : PageKey := instPage e f 0
/-- IADM page of PF `p`. -/
def iadmPage (e p : Nat) : PageKey := instPage e p 16
/-- MBXW page of PF `p`. -/
def mbxwPage (e p : Nat) : PageKey := instPage e p 17

/-- Is `f` the PF `p` or one of its VFs? -/
def State.ofPf (s : State) (e p f : Nat) : Bool := f == p || (decide (2 ≤ f) && s.pfOf e f == p)

/-- Is the function's TDI in CONFIG_LOCKED or RUN (R296)? -/
def State.tdiLocked (s : State) (e f : Nat) : Bool := decide (2 ≤ f) && (s.tdi e f == 1 || s.tdi e f == 2)

/-- The NVMe controller of a function. -/
def State.nv (s : State) (e f : Nat) : NvCtl := tabGet {} s.nvs (e * 256 + f)
/-- Store a controller. -/
def State.setNv (s : State) (e f : Nat) (x : NvCtl) : State := { s with nvs := tabPut {} s.nvs (e * 256 + f) x }

/-- Set the STATE and clear what describes a drain in ICTL_STS. -/
def State.instPut (s : State) (e f st : Nat) : State :=
  s.post (ictlPage e f) 0x104 (setFld (s.rd (ictlPage e f) 0x104 &&& 0x23F00000) 0 2 st)

/-- The bit of the manager's MBXW bitmap `off` for a VF, with its interrupt (R320–R322). -/
def State.mbxwNote (s : State) (e f off int : Nat) : State :=
  if f < 2 then s.emit (.omcIrq (instPage e f 1))
  else
    let p := mbxwPage e (s.pfOf e f)
    (s.postBit p (off + f / 32 * 4) (f % 32) true).raiseBit p int

/-! ### Mailbox halves (R317–R321) -/

/-- Is the half at this base FULL? -/
def State.halfFull (s : State) (p : PageKey) (b : Nat) : Bool := bit (s.rd p (b + 0x44)) 31

/-- Base of the other half of the pair. -/
def otherHalf (b : Nat) : Nat := if (b - 0x100) % 0xC0 = 0 then b + 0x60 else b - 0x60
/-- Base of the pair's first half. -/
def pairBase (b : Nat) : Nat := if (b - 0x100) % 0xC0 = 0 then b else b - 0x60
/-- Is it the pair's first half: UP, or H2O? -/
def firstHalf (b : Nat) : Bool := (b - 0x100) % 0xC0 == 0

/-- Follow the FULL bits of a pair: since when both are set, and CROSS cleared when either clears; MBXW_FULL shows UP. -/
def State.pairSync (s : State) (p : PageKey) (b : Nat) : State :=
  let b := pairBase b
  let k := rkey p b
  let s := if pageType p = some .imbx ∧ 2 ≤ instFn p then
      s.postBit (mbxwPage (instEp p) (s.pfOf (instEp p) (instFn p))) (0x120 + instFn p / 32 * 4) (instFn p % 32)
        (s.halfFull p b)
    else s
  if s.halfFull p b && s.halfFull p (b + 0x60) then
    if (tabFind s.bothFull k).isSome then s else { s with bothFull := tabInsert s.bothFull k s.clk }
  else
    (({ s with bothFull := tabErase s.bothFull k }).postBit p (b + 0x44) 29 false).postBit p (b + 0xA4) 29 false

/-- Binding of the general channel that a half of a GCH page belongs to (R323). -/
def State.gchBind (s : State) (p : PageKey) (b : Nat) : Reg :=
  tabGet 0 s.binds (128 * instEp p + 64 * instFn p + 16 * (instIdx p - 18) + (b - 0x100) / 0xC0)

/-- Is the master the half's sender (`tx`), or its receiver (R320, R323)? -/
def State.mailRole (s : State) (mid : Mid) (p : PageKey) (b : Nat) (tx : Bool) : Bool :=
  let e := instEp p
  let f := instFn p
  let one := firstHalf b == tx
  if pageType p = some .imbx then
    if one then mid == hostMid e f
    else if f < 2 then midIsOmc mid else mid == hostMid e (s.pfOf e f)
  else
    let x := s.gchBind p b
    let h := fld x 16 16
    h != 0 && (if one then mid.toNat == h else mid.toNat == fld x 0 16)

/-- Raise the receiver's interrupt for a message in the half (R319, R320, R323). -/
def State.mailRing (s : State) (p : PageKey) (b : Nat) : State :=
  let e := instEp p
  let f := instFn p
  if pageType p = some .imbx then
    if firstHalf b then
      if f < 2 then s.emit (.omcIrq p) else s.raiseBit (mbxwPage e (s.pfOf e f)) 0
    else s.raiseBit p 0
  else if firstHalf b then s.emit (.omcIrq p)
  else s.raiseBit p ((b - 0x100) / 0xC0)

/-- Raise the sender's acknowledgement interrupt (R319, R320, R323). -/
def State.mailAck (s : State) (p : PageKey) (b : Nat) : State :=
  let c := (b - 0x100) / 0xC0
  if pageType p = some .imbx then
    if firstHalf b then s.raiseBit p 1 else s.mbxwNote (instEp p) (instFn p) 0x140 1
  else if firstHalf b then
    let was := bit (s.rd p 0xD00) c
    let s := s.postBit p 0xD00 c true
    if was then s else s.raiseBit p 16
  else s.emit (.omcIrq p)

/-- The waiting message was written over (R319); the instance is told of it for DOWN (R320). -/
def State.mailOver (s : State) (p : PageKey) (b : Nat) : State :=
  let s := s.postBit p (b + 0x44) 30 true
  if pageType p = some .imbx ∧ !firstHalf b then s.raiseBit p 3 else s

/-- A MSG write by the sender. -/
def State.mailMsg (s : State) (mid : Mid) (p : PageKey) (off : Nat) (v : Reg) : State :=
  let b := 0x100 + (off - 0x100) / 0x60 * 0x60
  if !s.mailRole mid p b true then s.refuseClass mid p
  else
    let s := s.postBoth p off v
    if s.halfFull p b then s.mailOver p b else s

/-- A SEND write; GO posts the message (R317, R319). -/
def State.mailSend (s : State) (mid : Mid) (p : PageKey) (b : Nat) (v : Reg) : State :=
  if !s.mailRole mid p b true then s.refuseClass mid p
  else
    let s := s.postBoth p (b + 0x40) (v &&& 0xF)
    if !bit v 31 then s
    else
      let s := if s.halfFull p b then s.mailOver p b else s
      let st := setBit (setFld (s.rd p (b + 0x44)) 0 4 (fld v 0 4)) 31 true
      ((s.post p (b + 0x44) st).mailRing p b).pairSync p b

/-- A TAKE read: its value, and the half emptied (R319). -/
def State.mailTake (s : State) (mid : Mid) (p : PageKey) (b : Nat) : Reg × State :=
  if !s.mailRole mid p b false then (0, s.refuseClass mid p)
  else
    let st := s.rd p (b + 0x44)
    if !bit st 31 then (0, s)
    else
      let s := s.post p (b + 0x44) (st &&& 0xF)
      (st &&& 0xC000000F, (s.mailAck p b).pairSync p b)

/-- Clear one half, MSG included. -/
def State.halfClear (s : State) (p : PageKey) (b : Nat) : State :=
  ((List.range 18).foldl (fun s i => s.postBoth p (b + 4 * i) 0) s).pairSync p b

/-- Clear both halves of an instance's mailbox (R322). -/
def State.mailClear (s : State) (e f : Nat) : State :=
  (s.halfClear (instPage e f 1) 0x100).halfClear (instPage e f 1) 0x160

/-- Clear both halves of the channels of a PF (R324). -/
def State.gchClear (s : State) (e p : Nat) : State :=
  (List.range 128).foldl (fun s i => s.halfClear (instPage e p (18 + i / 32)) (0x100 + i % 32 * 0x60)) s

/-- Where an access to a mailbox register lands: the page itself, or the IMBX page of the VF that MBXW_SEL shows;
`none` while it shows no VF of the PF with an instance. -/
def State.mailAt (s : State) (p : PageKey) (off : Nat) : Option (PageKey × Nat) :=
  if pageType p = some .mbxw then
    let e := instEp p
    let f := s.rdFld p 0x110 0 8
    if 2 ≤ f ∧ s.pfOf e f = instFn p ∧ s.instSt e f ≠ 0 ∧ 0x200 ≤ off ∧ off < 0x2C0 then
      some (instPage e f 1, off - 0x100)
    else none
  else if pageType p = some .imbx ∨ pageType p = some .gch then
    (regDesc p off).map fun _ => (p, off)
  else none

/-- A mailbox access accepted by the page it names. -/
def State.mailAccess (s : State) (mid : Mid) (p : PageKey) (off : Nat) (eff : PageKey → Nat → State → State) : State :=
  match s.hostGate mid p true with
  | some g => g.2
  | none =>
    if !s.classAdmits mid p off then s.refuseClass mid p
    else match s.mailAt p off with
      | none => s
      | some (q, o) => (eff q o (s.stamp p)).applied p

/-- MSG_WRITE: message register `i` of the half at `b` of page `p` (an IMBX or GCH page, or the MBXW window). -/
def execMsgWrite (mid : Mid) (p : PageKey) (b : Nat) (i : Fin 16) (v : Reg) (s : State) :
    Host.Outcome State Fault Refusal :=
  .next (s.mailAccess mid p (b + 4 * i.val) fun q o s =>
    if (o - 0x100) % 0x60 < 0x40 then s.mailMsg mid q o v else s)

/-- SEND: a GO with LEN_M1 to the half at `b`. -/
def execSend (mid : Mid) (p : PageKey) (b : Nat) (len : Fin 16) (s : State) : Host.Outcome State Fault Refusal :=
  .next (s.mailAccess mid p (b + 0x40) fun q o s =>
    if (o - 0x100) % 0x60 = 0x40 then s.mailSend mid q (o - 0x40) (BitVec.ofNat 32 (2 ^ 31 + len.val)) else s)

/-- TAKE: a read of TAKE of the half at `b`. -/
def execTake (mid : Mid) (p : PageKey) (b : Nat) (s : State) : Host.Outcome State Fault Refusal :=
  let off := b + 0x48
  match s.hostGate mid p true with
  | some g => .next (if g.1 then g.2.emit (.pcieMsg (midEp mid) (midFn mid) "UR")
      else g.2.emit (.readData mid (rkey p off) 0))
  | none => .next (if !s.classAdmits mid p off then (s.refuseClass mid p).emit (.readData mid (rkey p off) 0)
    else match s.mailAt p off with
      | some (q, o) =>
        if (o - 0x100) % 0x60 = 0x48 then
          let r := s.mailTake mid q (o - 0x48)
          r.2.emit (.readData mid (rkey p off) (r.1.setWidth 64))
        else s
      | none => s.emit (.readData mid (rkey p off) 0))

/-- CROSS: both halves of the pair at `b` have been FULL for more than 1 µs (R321). -/
def execCross (p : PageKey) (b : Nat) (s : State) : Host.Outcome State Fault Refusal :=
  let b := pairBase b
  match tabFind s.bothFull (rkey p b) with
  | none => .next s
  | some t =>
    if s.clk ≤ t + 1000 ∨ bit (s.rd p (b + 0x44)) 29 then .next s
    else
      let s := (s.postBit p (b + 0x44) 29 true).postBit p (b + 0xA4) 29 true
      .next (if pageType p = some .imbx then
          (s.raiseBit p 2).mbxwNote (instEp p) (instFn p) 0x160 2
        else (s.raiseBit p ((b - 0x100) / 0xC0)).emit (.omcIrq p))

/-- A retract by the manager (R322). -/
def State.retract (s : State) (p : PageKey) : State :=
  let e := instEp p
  let f := s.rdFld p 0x110 0 8
  if 2 ≤ f ∧ s.pfOf e f = instFn p ∧ s.instSt e f ≠ 0 then
    let q := instPage e f 1
    ((s.post q 0x1A4 (s.rd q 0x1A4 &&& 0x2000000F)).pairSync q 0x160).count p 0 1
  else s

/-- MBXW_RETRACT: a GO by PF `p`. -/
def execMbxwRetract (mid : Mid) (e : Fin 32) (p : Fin 2) (s : State) : Host.Outcome State Fault Refusal :=
  let q := mbxwPage e p
  .next (s.nowWrite mid q 0x114 1 fun s => (s.postBit q 0x114 0 false).retract q)

/-! ### Bindings (R323, R324) -/

/-- Is a binding valid for channel `k`? -/
def bindOk (k : Nat) (v : Reg) : Bool :=
  let h : Mid := BitVec.ofNat 16 (fld v 16 16)
  h == 0 || (h == hostMid (k / 128) (k / 64 % 2) && midIsOmc (BitVec.ofNat 16 (fld v 0 16)))

/-- BIND_CMD. -/
def State.bindAct (s : State) (v : Reg) : State :=
  let p := bindPage
  let k := s.frFld p 0x100 0 12
  let d := s.fr p 0x108
  if bit v 0 then
    if s.isSealed p then (s.recordDone p 0x104 2).raiseBit p 30
    else if !bindOk k d then s.recordDone p 0x104 1
    else ({ s with binds := tabPut 0 s.binds k d }).recordDone p 0x104 0
  else if bit v 1 then (s.postBoth p 0x108 (tabGet 0 s.binds k)).recordDone p 0x104 0
  else s

/-- BIND_WRITE. -/
def execBindWrite (mid : Mid) (s : State) : Host.Outcome State Fault Refusal :=
  .next (s.recordCmd mid bindPage 0x104 1 fun s => s.bindAct 1)

/-- BIND_READ. -/
def execBindRead (mid : Mid) (s : State) : Host.Outcome State Fault Refusal :=
  .next (s.recordCmd mid bindPage 0x104 2 fun s => s.bindAct 2)

/-! ### Pools and windows (R305–R307) -/

/-- Change the FREE field of a pool register. -/
def State.poolFree (s : State) (p : PageKey) (off lo w n : Nat) : State := s.postFld p off lo w n

/-- Do the context windows overlap? -/
def windowsMeet (a n b m : Nat) : Bool := decide (n ≠ 0) && decide (m ≠ 0) && decide (a < b + m) && decide (b < a + n)

/-- Windows of the instances: base and count. -/
def State.windows (s : State) : List (Nat × Nat) :=
  (s.regs.filter fun r => r.1 % 4096 == 0x104 && pageType (r.1 / 4096) == some .cu).map fun r =>
    (s.rdFld (r.1 / 4096) 0x100 0 24, fld r.2 0 17)

/-- Take from the pool of PF `p`, or give back. -/
def State.poolMove (s : State) (e p wr cr n : Nat) (give : Bool) : State :=
  let q := iadmPage e p
  let f := fun a b => if give then a + b else a - b
  let s := s.postFld q 0x140 16 14 (f (s.rdFld q 0x140 16 14) wr)
  let s := s.postFld q 0x144 16 13 (f (s.rdFld q 0x144 16 13) cr)
  s.postFld q 0x150 0 18 (f (s.rdFld q 0x150 0 18) n)

/-- Retire every context of an instance's window (R309). -/
def State.retireWindow (s : State) (e f : Nat) : State :=
  let base := s.rdFld (instPage e f 2) 0x100 0 24
  let n := s.rdFld (instPage e f 2) 0x104 0 17
  { s with ctxs := s.ctxs.map fun c =>
      if base ≤ c.1 ∧ c.1 < base + n ∧ c.2.st ≠ 0 then (c.1, { c.2 with st := 4 }) else c }

/-- Return the ring-configuration, moderation and MSI-X pages of an instance to their reset values. -/
def State.instRegsClear (s : State) (e f : Nat) (ns : List Nat) : State :=
  let gone := fun (k : Nat) => isInst (k / 4096) && instEp (k / 4096) == e && instFn (k / 4096) == f &&
    ns.contains (instIdx (k / 4096)) && decide (0x100 ≤ k % 4096)
  { s with regs := tabKeep s.regs fun k => !gone k, fast := tabKeep s.fast fun k => !gone k }

/-- The ring configuration of an instance is reset. -/
def State.ringsReset (s : State) (e f : Nat) : State := (s.clearRings e f).instRegsClear e f [3, 4, 5, 6, 7]

/-- An instance gives everything back and is ABSENT. -/
def State.instGone (s : State) (e f : Nat) : State :=
  let p := ictlPage e f
  let s := s.retireWindow e f
  let s := s.poolMove e (s.pfOf e f) (s.grantWr e f) (s.grantCr e f) (s.rdFld (instPage e f 2) 0x104 0 17) true
  let s := (s.post p 0x108 0).post p 0x10C 0
  let s := (s.postBoth (instPage e f 2) 0x100 0).postBoth (instPage e f 2) 0x104 0
  (s.ringsReset e f).setNv e f {}

/-- POOL_WRITE: a write of a total or of the context range of PF `p` (R306). -/
def State.poolWrite (s : State) (mid : Mid) (q : PageKey) (off : Nat) (v : Reg) : State :=
  let e := instEp q
  let o := iadmPage e (1 - instFn q)
  if !midIsOmc mid then s.refuseClass mid q
  else
    let x := s.written q off v
    if off = 0x140 then
      let t := fld x 0 14
      if s.rdFld q off 16 14 ≠ s.rdFld q off 0 14 ∨ 8192 < t + s.rdFld o off 0 14 then s
      else s.post q off (setFld x 16 14 t)
    else if off = 0x144 then
      let t := fld x 0 13
      if s.rdFld q off 16 13 ≠ s.rdFld q off 0 13 ∨ 4096 < t + s.rdFld o off 0 13 then s
      else s.post q off (setFld x 16 13 t)
    else
      let base := if off = 0x148 then fld x 0 24 else s.rdFld q 0x148 0 24
      let n := if off = 0x14C then fld x 0 18 else s.rdFld q 0x14C 0 18
      if s.rdFld q 0x150 0 18 ≠ s.rdFld q 0x14C 0 18 ∨ base / 2 ^ 22 ≠ e / 8 ∨ (e / 8 + 1) * 2 ^ 22 < base + n then s
      else (s.post q off x).postFld q 0x150 0 18 n

/-- POOL_WRITE of pool register `i`: 0 work rings, 1 completion rings, 2 context base, 3 context count. -/
def execPoolWrite (mid : Mid) (e : Fin 32) (p : Fin 2) (i : Fin 4) (v : Reg) (s : State) :
    Host.Outcome State Fault Refusal :=
  let q := iadmPage e p
  let off := 0x140 + 4 * i.val
  .next (s.accessWrite mid q off fun s => ((s.stamp q).poolWrite mid q off v).applied q)

/-! ### Drains (R309, R310) -/

/-- Mode of a cause: 1 finish, 2 abort, 3 discard. -/
def causeMode (c : Nat) : Nat := if c ≤ 3 then 1 else if c = 4 then 2 else 3

/-- A cause of R309 reaches an instance: the drain starts, or its mode is raised. -/
def State.drainStart (s : State) (e f cause : Nat) : State :=
  let p := ictlPage e f
  let st := s.instSt e f
  let mode := causeMode cause
  if st = 0 ∨ (st = 3 ∧ mode ≤ s.drainMode e f) then s
  else
    let v := setFld (setFld (setFld (s.rd p 0x104) 24 2 mode) 20 4 cause) 0 2 3
    let s := s.post p 0x104 (setBit v 31 true)
    let s := s.postBoth p 0x100 0
    let s := s.setNv e f { s.nv e f with fetching := none }
    let s := s.forget fun c => match c with
      | .nvme fn _ => fn == e * 256 + f
      | _ => false
    let s := if 4 ≤ cause then s.mailClear e f else s
    let s := s.drainRings e f mode
    if st = 3 ∨ f < 2 then s else s.mbxwNote e f 0x160 2

/-- Has the instance no work left (R310)? -/
def State.instQuiet (s : State) (e f : Nat) : Bool :=
  s.ringsQuiet e f && ((s.nv e f).slots.all fun (c : Nat × NvCmd) => c.2.waits && byteAt c.2.sqe 0 == 0x0C) &&
    !(s.txs.any fun t => ringEp t.2.ring == e && ringFn t.2.ring == f && t.2.owed && !t.2.sent)

/-- The end of an NVMe controller's drain: RDY clears, SHST ends, and the I/O queues are deleted
(R451); outstanding event requests go with the controller. -/
def State.nvDrained (s : State) (e f : Nat) : State :=
  if !s.isNvme e f then s
  else
    let p := ictlPage e f
    let x := s.nv e f
    let s := s.postBit p 0x21C 0 false
    let s := if x.shn then s.postFld p 0x21C 2 2 2 else s.postBit p 0x214 0 false
    let s := s.post p 0x188 0
    s.setNv e f { nss := x.nss, changed := x.changed }

/-- The ring work of a drain that an eclipse started (R505). -/
def State.lateDrain (s : State) (e f : Nat) : State :=
  let x := tabGet {} s.eps e
  if x.late.contains f then
    ({ s with eps := tabPut {} s.eps e { x with late := x.late.filter (· != f) } }).drainRings e f (s.drainMode e f)
  else s

/-- DRAIN_END: no work of the instance remains; it takes the state its cause leaves (R309, R310). -/
def execDrainEnd (e : Fin 32) (f : BitVec 8) (s : State) : Host.Outcome State Fault Refusal :=
  let e := e.val
  let f := f.toNat
  let s := s.lateDrain e f
  if s.instSt e f ≠ 3 ∨ !s.instQuiet e f then .next s
  else
    let p := ictlPage e f
    let cause := s.rdFld p 0x104 20 4
    let s := s.nvDrained e f
    let s := if cause ≤ 3 then s.instPut e f 1
      else if cause = 5 then ((s.ringsReset e f).retireWindow e f).instPut e f 1
      else (s.instGone e f).instPut e f 0
    let s := (s.postBit p 0x104 30 true).raiseBit p 0
    .next (if f < 2 then s else s.mbxwNote e f 0x160 2)

/-! ### Enabling (R308, R311, R312, R314) -/

/-- A refused ENABLE. -/
def State.enableRefused (s : State) (e f : Nat) : State :=
  let p := ictlPage e f
  (((s.postBoth p 0x100 0).postBit p 0x104 29 true).raiseBit p 1).count p 0x00 1

/-- ENABLE = 1, or 0, written. -/
def State.enable (s : State) (e f : Nat) (on : Bool) : State :=
  let p := ictlPage e f
  let st := s.instSt e f
  if on then
    if st = 1 then
      let s := (s.postBoth p 0x100 1).instPut e f 2
      let s := s.post p 0x104 (s.rd p 0x104 &&& 0x20000003)
      { s with wrings := s.wrings.map fun w =>
          if w.1 / 65536 = e * 256 + f then (w.1, { w.2 with f := w.2.c, stall := false, stallAt := none }) else w }
    else if st = 2 then s
    else s.enableRefused e f
  else if st = 2 then s.drainStart e f 1
  else s

/-- Does R314 stop this master's change of the function's instance? -/
def State.managerStopped (s : State) (mid : Mid) (e f : Nat) : Bool :=
  s.tdiLocked e f && midIsHost mid && mid != hostMid e f

/-- ICTL_ENABLE: a write of ICTL_CTL. -/
def execIctlEnable (mid : Mid) (e : Fin 32) (f : BitVec 8) (on : Bool) (s : State) : Host.Outcome State Fault Refusal :=
  let p := ictlPage e f.toNat
  .next (if s.managerStopped mid e f.toNat then s.refuseClass mid p
    else s.accessWrite mid p 0x100 fun s => ((s.stamp p).enable e f.toNat on).applied p)

/-! ### IADM commands (R307, R314, R316) -/

/-- A command ends with RESULT. -/
def State.iadmDone (s : State) (q : PageKey) (res : Nat) : State :=
  (s.post q 0x118 (BitVec.ofNat 32 (2 ^ 30 + res))).raiseBit q 0

/-- CREATE: the checks in order, then the grant (R307). -/
def State.iadmCreate (s : State) (q : PageKey) (f : Nat) : State :=
  let e := instEp q
  let p := instFn q
  let wr := s.rdFld q 0x11C 0 13
  let cr := s.rdFld q 0x120 0 12
  let base := s.rdFld q 0x124 0 24
  let n := s.rdFld q 0x128 0 17
  let first := s.rdFld q 0x148 0 24
  let span := s.rdFld q 0x14C 0 18
  if !(s.ofPf e p f && s.fnEnabled e f) then s.iadmDone q 1
  else if s.instSt e f = 3 then s.iadmDone q 4
  else if s.instSt e f ≠ 0 then s.iadmDone q 2
  else if 4096 < wr ∨ 2048 < cr ∨ 65536 < n then s.iadmDone q 9
  else if s.rdFld q 0x140 16 14 < wr ∨ s.rdFld q 0x144 16 13 < cr then s.iadmDone q 5
  else if n ≠ 0 ∧ (base < first ∨ first + span < base + n ∨ s.windows.any fun w => windowsMeet base n w.1 w.2) then
    s.iadmDone q 6
  else
    let c := ictlPage e f
    let s := s.poolMove e p wr cr n false
    let s := s.post c 0x108 (BitVec.ofNat 32 (wr * 65536 + cr))
    let s := s.post c 0x10C (s.rd q 0x12C &&& 1)
    let s := (s.postBoth (instPage e f 2) 0x100 (BitVec.ofNat 32 base)).postBoth (instPage e f 2) 0x104 (BitVec.ofNat 32 n)
    let s := s.mailClear e f
    let s := s.post c 0x104 ((s.rd c 0x104 &&& 0x20000000) ||| 1)
    s.iadmDone q 0

/-- A command of the IADM page: 1 CREATE, 2 DESTROY, 3 QUIESCE, 4 QUERY. -/
def State.iadmRun (s : State) (mid : Mid) (q : PageKey) (op : Nat) : State :=
  let e := instEp q
  let p := instFn q
  let f := s.rdFld q 0x110 0 8
  let st := s.instSt e f
  if op = 0 ∨ 4 < op then s.iadmDone q 9
  else if op ≠ 4 ∧ s.managerStopped mid e f then s.iadmDone q 7
  else if op = 1 then s.iadmCreate q f
  else if !s.ofPf e p f then s.iadmDone q 1
  else if st = 0 then s.iadmDone q 3
  else if op = 2 then (if st = 3 then s.iadmDone q 8 else (s.drainStart e f 4).iadmDone q 0)
  else if op = 3 then (if st ≠ 2 then s.iadmDone q 8 else (s.drainStart e f 2).iadmDone q 0)
  else
    let c := ictlPage e f
    let s := s.postBoth q 0x11C (BitVec.ofNat 32 (s.grantWr e f))
    let s := s.postBoth q 0x120 (BitVec.ofNat 32 (s.grantCr e f))
    let s := s.postBoth q 0x124 (s.rd (instPage e f 2) 0x100)
    let s := s.postBoth q 0x128 (s.rd (instPage e f 2) 0x104)
    let s := s.postBoth q 0x12C (s.rd c 0x10C)
    s.iadmDone q 0

/-- A write of IADM_CMD with GO and an OP. -/
def State.iadmGo (s : State) (mid : Mid) (q : PageKey) (op : Nat) : State :=
  s.accessWrite mid q 0x114 fun s =>
    (((s.stamp q).postBoth q 0x114 (if 1 ≤ op ∧ op ≤ 4 then BitVec.ofNat 32 op else s.rd q 0x114)).iadmRun mid q op).applied q

/-- CREATE on the IADM page of PF `p`. -/
def execCreate (mid : Mid) (e : Fin 32) (p : Fin 2) (s : State) : Host.Outcome State Fault Refusal :=
  .next (s.iadmGo mid (iadmPage e p) 1)

/-- DESTROY. -/
def execDestroy (mid : Mid) (e : Fin 32) (p : Fin 2) (s : State) : Host.Outcome State Fault Refusal :=
  .next (s.iadmGo mid (iadmPage e p) 2)

/-- QUIESCE. -/
def execQuiesce (mid : Mid) (e : Fin 32) (p : Fin 2) (s : State) : Host.Outcome State Fault Refusal :=
  .next (s.iadmGo mid (iadmPage e p) 3)

/-- IADM_QUERY. -/
def execIadmQuery (mid : Mid) (e : Fin 32) (p : Fin 2) (s : State) : Host.Outcome State Fault Refusal :=
  .next (s.iadmGo mid (iadmPage e p) 4)

end Sys2Proof.Machine
end

