-- ==== Sys2Proof/Machine/Target.lean ====
section
/-! DEFINITION. Target words: the memories that the movers and the memory port reach (R359–R363), and what a lease
grants of them (R433). -/
namespace Sys2Proof.Machine

/-- SPACE. -/
def tgtSpace (w : Nat) : Nat := natField w 29 3
/-- LOG2_WRAP. -/
def tgtWrap (w : Nat) : Nat := natField w 24 5

/-- Does the target word hold no reserved encoding (R359)? -/
def tgtOk (w : Nat) : Bool :=
  (tgtWrap w == 0 || decide (6 ≤ tgtWrap w)) &&
  (match tgtSpace w with
   | 0 => natField w 0 16 == 0 && natField w 19 5 == 0
   | 1 | 5 => natField w 0 24 == 0
   | 2 => natField w 0 16 == 0 && natField w 18 6 == 0
   | 3 => natField w 13 11 == 0
   | 4 => natField w 4 20 == 0
   | _ => false)

/-- Bytes of the target's memory. -/
def tgtSize (w : Nat) : Nat :=
  match tgtSpace w with
  | 0 => 2 ^ 20 | 1 => 2 ^ 26 | 2 => hbmSize | 5 => omcMemSize | _ => 2 ^ 64

/-- Base of a circular buffer of 2^k bytes. -/
def wrapBase (a k : Nat) : Nat := a / 2 ^ k * 2 ^ k

/-- The runs of consecutive addresses of `n` bytes: address and length (R361). The packet buffer wraps at 64 MiB. -/
def tgtRuns (w a n : Nat) : List (Nat × Nat) :=
  let k := if tgtWrap w ≠ 0 then tgtWrap w else if tgtSpace w = 1 then 26 else 64
  let first := min n (2 ^ k - a % 2 ^ k)
  if first = n then [(a, n)] else [(a, first), (wrapBase a k, n - first)]

/-- Does the transfer lie inside the memory and its circular buffer? -/
def tgtFits (w a n : Nat) : Bool :=
  decide (a < tgtSize w) && (tgtWrap w == 0 || decide (n ≤ 2 ^ tgtWrap w)) &&
  (tgtRuns w a n).all fun r => decide (r.1 + r.2 ≤ tgtSize w)

/-- The frame of a die's packet buffer that holds a byte offset: its place and the index within it. -/
def State.pbufAt (s : State) (die x : Nat) : Option (Nat × Buf × Nat) :=
  (s.bufs.find? fun b => bufDie b.1 == die &&
    decide ((x + 2 ^ 26 - bufHandle b.1 % 2 ^ 26) % 2 ^ 26 < b.2.bytes.length)).map fun b =>
      (b.1, b.2, (x + 2 ^ 26 - bufHandle b.1 % 2 ^ 26) % 2 ^ 26)

/-- Read one byte of a memory inside the package, for a unit of region `r`; a packet-buffer byte of no frame reads 0. -/
def State.tgtByte (s : State) (r w a : Nat) : Byte :=
  match tgtSpace w with
  | 0 => s.byte (cmemBase (r * 8 + natField w 16 3) + a)
  | 1 =>
    (match s.pbufAt (r / 4) a with
     | none => 0
     | some b => b.2.1.bytes.getD b.2.2 0)
  | 2 => s.byte (hbmBase (natField w 16 2) + a)
  | 5 => s.byte (omcMem + a)
  | _ => 0

/-- Write one byte there; a write to no frame of the packet buffer is lost. -/
def State.tgtPut (s : State) (r w a : Nat) (v : Byte) : State :=
  match tgtSpace w with
  | 0 => s.setByte (cmemBase (r * 8 + natField w 16 3) + a) v
  | 1 =>
    (match s.pbufAt (r / 4) a with
     | none => s
     | some b => s.setBuf b.1 { b.2.1 with bytes := b.2.1.bytes.set b.2.2 v })
  | 2 => s.setByte (hbmBase (natField w 16 2) + a) v
  | 5 => s.setByte (omcMem + a) v
  | _ => s

/-- Is the memory inside the package? -/
def tgtLocal (w : Nat) : Bool := tgtSpace w != 3 && tgtSpace w != 4
/-- Endpoint of a host target. -/
def tgtEp (w : Nat) : Nat := natField w 8 5
/-- Function of a host target. -/
def tgtFn (w : Nat) : Nat := natField w 0 8
/-- Port of a peer target. -/
def tgtPeer (w : Nat) : Nat := natField w 0 4

/-- Read `n` bytes of a local target. -/
def State.tgtRead (s : State) (r w a n : Nat) : List Byte :=
  (tgtRuns w a n).flatMap fun q => (List.range q.2).map fun i => s.tgtByte r w (q.1 + i)

/-- Write consecutive bytes of a local target. -/
def State.tgtStore (s : State) (r w a : Nat) : List Byte → State
  | [] => s
  | b :: bs => (s.tgtPut r w a b).tgtStore r w (a + 1) bs

/-- Split at 4 KiB boundaries. -/
def split4k (a n : Nat) : Nat → List (Nat × Nat)
  | 0 => []
  | k + 1 => if n = 0 then [] else
      let m := min n (4096 - a % 4096)
      (a, m) :: split4k (a + m) (n - m) k

/-- Write a run: stored, or sent to a host or a peer card (R103, R362). -/
def State.tgtRun (s : State) (r w a : Nat) (b : List Byte) : State :=
  if tgtSpace w = 3 then
    (split4k a b.length (b.length / 4096 + 2)).foldl (fun s q =>
      s.emit (.hostWrite (tgtEp w) (tgtFn w) q.1 (slice b (q.1 - a) q.2))) s
  else if tgtSpace w = 4 then
    (split4k a b.length (b.length / 4096 + 2)).foldl (fun s q =>
      s.aplQueue (tgtPeer w) 2 (tluHdr 2 0 0 q.2 q.1 ++ slice b (q.1 - a) q.2)) s
  else s.tgtStore r w a b

/-- Write bytes to a target, run by run. -/
def State.tgtWrite (s : State) (r w a : Nat) (b : List Byte) : State :=
  (((tgtRuns w a b.length).foldl (fun (x : State × List Byte) q => (x.1.tgtRun r w q.1 (x.2.take q.2), x.2.drop q.2))
    (s, b))).1

/-- Narrow accesses that write the bytes from `a` on (R363): aligned bytes, half-words and words around the
double-words. -/
def narrow (a n : Nat) : Nat → Nat
  | 0 => 0
  | k + 1 =>
    if n = 0 then 0
    else if a % 8 = 0 ∧ 8 ≤ n then narrow (a + n / 8 * 8) (n % 8) k
    else
      let m := if a % 4 = 0 ∧ 4 ≤ n then 4 else if a % 2 = 0 ∧ 2 ≤ n then 2 else 1
      1 + narrow (a + m) (n - m) k

/-- Narrow accesses of a write to a target. -/
def tgtNarrow (w a n : Nat) : Nat :=
  if tgtSpace w = 3 ∨ tgtSpace w = 4 then 0 else (tgtRuns w a n).foldl (fun k q => k + narrow q.1 q.2 12) 0

/-- Is a host target one that a request may go to (R360)? -/
def State.hostOk (s : State) (e f : Nat) : Bool :=
  s.fnEnabled e f && s.dState e f == 0 && s.busMaster e f && !bit (s.rd (epPage e 0) (0x120 + 4 * (f / 32))) (f % 32) &&
    bit (s.rd (epPage e 0) 0x104) 29 && !s.isFenced (epPage e 0)

/-- What stops a checked target: ACCESS_FAULT, ABORTED, or INTERNAL for a fenced unit (R360, R371); 0 if nothing. -/
def State.tgtStatus (s : State) (r w : Nat) : Nat :=
  match tgtSpace w with
  | 0 => if s.isFenced (cluPage (r * 8 + natField w 16 3) 0) then 0x0F else 0
  | 1 => if s.isFenced (diePage (r / 4) 1) then 0x0F else 0
  | 2 => if s.isFenced (diePage (natField w 16 2) 4) then 0x0F else 0
  | 3 => if s.hostOk (tgtEp w) (tgtFn w) then 0 else 0x07
  | 4 => if s.aplSt (tgtPeer w) = 2 then 0 else 0x01
  | _ => 0

/-! ### Lease grants (R428, R433) -/

/-- A register of a lease as fast logic holds it. -/
def State.lse (s : State) (c l o : Nat) : Reg := s.fr (leasePage c) (leaseOff l + o)

/-- Does the lease's memory range hold the bytes of cluster memory? -/
def State.leaseMem (s : State) (c l a n : Nat) : Bool :=
  let v := s.lse c l 0x10
  decide (fld v 0 8 * 4096 ≤ a) && decide (a + n ≤ (fld v 0 8 + fld v 8 8 + 1) * 4096)

/-- Does the lease grant the target range to a unit of region `r`? -/
def State.leaseGrants (s : State) (r c l w a n : Nat) : Bool :=
  bit (s.lse c l 0x24) (tgtSpace w) &&
  (match tgtSpace w with
   | 0 => r * 8 + natField w 16 3 == c && (tgtRuns w a n).all fun q => s.leaseMem c l q.1 q.2
   | 2 =>
     let base := s.lse c l 0x2C
     fld base 24 2 == natField w 16 2 && (tgtRuns w a n).all fun q =>
       decide (fld base 0 24 * 4096 ≤ q.1) &&
       decide (q.1 + q.2 ≤ (fld base 0 24 + fld (s.lse c l 0x30) 0 24) * 4096)
   | 3 =>
     let h := s.lse c l 0x28
     bit h 31 && fld h 16 5 == tgtEp w && fld h 8 8 == tgtFn w
   | 4 => bit (s.lse c l 0x24) (16 + tgtPeer w)
   | _ => true)

/-! ### Reads of hosts and peer cards -/

/-- The lowest free tag of a peer port. -/
def State.aplTag (s : State) (q : Nat) : Option Nat :=
  (List.range 1024).find? fun t => (tabFind s.aplReads (q * 1024 + t)).isNone

/-- Ask for one run of a host or peer target (R103, R362); a run toward a peer card lies in one 4 KiB page. `none`
while no tag of the port is free. -/
def State.tgtAsk (s : State) (c : Client) (w a n : Nat) : Option State :=
  if tgtSpace w = 3 then some (s.askHost (tgtEp w) (tgtFn w) c a n)
  else
    let q := tgtPeer w
    match s.aplTag q with
    | none => none
    | some t =>
      let rd : AplRead := { who := c, addr := a, len := n, at_ := s.clk }
      some ({ s with aplReads := tabInsert s.aplReads (q * 1024 + t) rd }.aplQueue q 3 (tluHdr 3 t 0 n a))

/-- The reads that `n` bytes of a target take. -/
def tgtParts (w a n : Nat) : List (Nat × Nat) :=
  if tgtSpace w = 4 then (tgtRuns w a n).flatMap fun q => split4k q.1 q.2 (q.2 / 4096 + 2) else tgtRuns w a n

/-- `n` free bytes of a value the manual leaves undefined. -/
def State.freeBytes (s : State) (n : Nat) : List Byte × State :=
  ((List.range n).map fun i => Config.freeByte (s.fresh + i), { s with fresh := s.fresh + n })

end Sys2Proof.Machine
end

