-- ==== Sys2Proof/Machine/Dma.lean ====
section
/-! DEFINITION. DMA movers: transfers of the programmable channels (R354–R375). One transfer of a channel runs at a
time, and its writes are made when all of its source has arrived. -/
namespace Sys2Proof.Machine

/-! ### Channels (R355, R356, R375) -/

/-- DMACH page of channel `k` of region `r`. -/
def dmachPage (r k : Nat) : PageKey := regPage r (4 + k / 8)
/-- Offset of the channel's block. -/
def dmachOff (k : Nat) : Nat := 0x100 + 0x40 * (k % 8)
/-- DMA page of a region. -/
def dmaPage (r : Nat) : PageKey := regPage r 3
/-- A channel register as fast logic holds it. -/
def State.dmaReg (s : State) (r k o : Nat) : Reg := s.fr (dmachPage r k) (dmachOff k + o)
/-- A channel. -/
def State.dma (s : State) (r k : Nat) : DmaChan := tabGet {} s.dmas (r * 64 + k)
/-- Store a channel. -/
def State.setDma (s : State) (r k : Nat) (x : DmaChan) : State := { s with dmas := tabPut {} s.dmas (r * 64 + k) x }
/-- RING mode. -/
def State.dmaRing (s : State) (r k : Nat) : Bool := bit (s.dmaReg r k 0) 28
/-- CONS. -/
def State.dmaCons (s : State) (r k : Nat) : Nat := s.rdFld (dmachPage r k) (dmachOff k + 0x18) 0 16
/-- Post STATE of DMACH_STS. -/
def State.dmaState (s : State) (r k st : Nat) : State := s.postFld (dmachPage r k) (dmachOff k + 0x18) 30 2 st
/-- A DMA counter of a channel (R374). -/
def State.dmaCount (s : State) (r k i n : Nat) : State := s.count (dmaPage r) (4 * k + i) n

/-! ### Descriptors (R357, R360) -/

/-- Field of a descriptor. -/
abbrev dget (d : List Byte) (o n : Nat) : Nat := leAt d o n
/-- LENGTH. -/
def dlen (d : List Byte) : Nat := dget d 4 4
/-- PI mode: 0 none, 1 INSERT, 2 STRIP, 3 CHECK. -/
def piMode (d : List Byte) : Nat := natField (dget d 32 4) 26 3
/-- PI type. -/
def piType (d : List Byte) : Nat := natField (dget d 32 4) 24 2
/-- GUARD64. -/
def piWide (d : List Byte) : Bool := (dget d 32 4).testBit 23
/-- Block size B. -/
def piBlock (d : List Byte) : Nat := if (dget d 32 4).testBit 22 then 4096 else 512
/-- PI size P. -/
def piSize (d : List Byte) : Nat := if piWide d then 16 else 8
/-- Digest mode. -/
def digMode (d : List Byte) : Nat := natField (dget d 32 4) 30 2
/-- Bytes that COPY writes (R369, R370). -/
def copyLen (d : List Byte) : Nat :=
  let n := dlen d
  (if piMode d = 1 then n / piBlock d * (piBlock d + piSize d)
   else if piMode d = 2 then n / (piBlock d + piSize d) * piBlock d else n) + (if digMode d = 3 then 4 else 0)
/-- Bytes that the operation writes to, or compares at, DST. -/
def dstLen (d : List Byte) : Nat := if dget d 0 1 = 1 then copyLen d else dlen d

/-- Is the descriptor malformed (step 1 of R360)? -/
def dmaBad (d : List Byte) : Bool :=
  let op := dget d 0 1
  let n := dlen d
  let pi := piMode d
  decide (op = 0 ∨ 3 < op ∨ 7 < dget d 1 1 ∨ n = 0 ∨ 2 ^ 24 < n ∨ dget d 46 2 ≠ 0) ||
  !(tgtOk (dget d 28 4) && tgtFits (dget d 28 4) (dget d 16 8) (dstLen d)) ||
  (if op = 2 then dget d 24 4 != 0 else !(tgtOk (dget d 24 4) && tgtFits (dget d 24 4) (dget d 8 8) n)) ||
  (op == 1 && (decide (3 < pi) || natField (dget d 32 4) 0 22 != 0 || (pi != 0 && piType d == 0) ||
    (pi == 1 && n % piBlock d != 0) || (decide (2 ≤ pi) && n % (piBlock d + piSize d) != 0)))

/-- The targets of a descriptor with their addresses and lengths. -/
def dmaTargets (d : List Byte) : List (Nat × Nat × Nat) :=
  let dst := (dget d 28 4, dget d 16 8, dstLen d)
  if dget d 0 1 = 2 then [dst] else [(dget d 24 4, dget d 8 8, dlen d), dst]

/-- The lease that a transfer is checked against: cluster and number (R360, R433). -/
def State.dmaLease (s : State) (r k : Nat) (q : Option Ureq) : Option (Nat × Nat) :=
  let o := s.dmaReg r k 4
  if bit o 31 then some (fld o 16 7, fld o 24 4)
  else match q with
    | none => none
    | some u => u.lease.map fun l => (u.cluster, l)

/-- The checks of R360: a status, 0 if the transfer may start, and the state after a refusal by a lease's grants. -/
def State.dmaCheck (s : State) (r k : Nat) (d : List Byte) (q : Option Ureq) : Nat × State :=
  let ts := dmaTargets d
  if dmaBad d then (5, s)
  else if ts.any fun t => !bit (s.dmaReg r k 0) (8 + tgtSpace t.1) then (7, s)
  else
    let bad := match s.dmaLease r k q with
      | none => none
      | some cl => if ts.all fun t => s.leaseGrants r cl.1 cl.2 t.1 t.2.1 t.2.2 then none else some cl
    match bad with
    | some cl => (7, s.leaseRefuse cl.1 cl.2 4 7 ((q.map Ureq.mid).getD (dmaMid r k)))
    | none => (((ts.map fun t => s.tgtStatus r t.1).find? (· != 0)).getD 0, s)

/-! ### Digest and Protection Information (R369, R370) -/

/-- The CRC-32C register of the digest after the bytes. -/
def digReg (d : List Byte) (b : List Byte) : BitVec 32 :=
  let cont := (dget d 32 4).testBit 29 && digMode d != 2
  b.foldl (crcStep 0x82F63B78) (if cont then BitVec.ofNat 32 (dget d 36 4) else 0xFFFFFFFF)

/-- DIGEST (R369). -/
def digest (d : List Byte) (b : List Byte) : Nat :=
  if digMode d = 0 then 0
  else if (dget d 32 4).testBit 29 ∧ digMode d ≠ 2 then (digReg d b).toNat else (~~~(digReg d b)).toNat

/-- Reference tag of block `i`. -/
def piRefTag (d : List Byte) (i : Nat) : Nat :=
  let ref := dget d 40 6
  let m := if piWide d then 2 ^ 48 else 2 ^ 32
  if piType d = 3 then ref % m else (ref + i) % m

/-- The PI of a block: guard, application tag, reference tag, in network order (places PRESUMED, as in the NVM
command set and T10, log entry 17). -/
def piBytes (d : List Byte) (i : Nat) (blk : List Byte) : List Byte :=
  if piWide d then beBytes 8 (crcNvme blk).toNat ++ beBytes 2 (dget d 48 2) ++ beBytes 6 (piRefTag d i)
  else beBytes 2 (crcT10 blk).toNat ++ beBytes 2 (dget d 48 2) ++ beBytes 4 (piRefTag d i)

/-- RFLAGS bits of a block's PI check (R370). -/
def piFault (d : List Byte) (i : Nat) (blk pi : List Byte) : Nat :=
  let gl := if piWide d then 8 else 2
  let guard := beAt pi 0 gl
  let app := beAt pi gl 2
  let ref := beAt pi (gl + 2) (piSize d - gl - 2)
  let refMax := 2 ^ (8 * (piSize d - gl - 2)) - 1
  let skip := if piType d = 3 then app == 0xFFFF && ref == refMax else app == 0xFFFF
  if skip then 0
  else
    (if guard ≠ (if piWide d then (crcNvme blk).toNat else (crcT10 blk).toNat) then 2 else 0) +
    (if (app ^^^ dget d 48 2) &&& dget d 50 2 ≠ 0 then 4 else 0) +
    (if piType d ≠ 3 ∧ ref ≠ piRefTag d i then 8 else 0)

/-- The first block whose PI fails, with its flags. -/
def piFirst (d src : List Byte) : Option (Nat × Nat) :=
  let b := piBlock d
  let n := src.length / (b + piSize d)
  (List.range n).findSome? fun i =>
    let x := slice src (i * (b + piSize d)) (b + piSize d)
    let f := piFault d i (x.take b) (x.drop b)
    if f = 0 then none else some (i, f)

/-- The data bytes of a source with PI. -/
def piStrip (d src : List Byte) : List Byte :=
  let b := piBlock d
  (List.range (src.length / (b + piSize d))).flatMap fun i => slice src (i * (b + piSize d)) b

/-- The source with PI inserted. -/
def piInsert (d src : List Byte) : List Byte :=
  let b := piBlock d
  (List.range (src.length / b)).flatMap fun i =>
    let x := slice src (i * b) b
    x ++ piBytes d i x

/-! ### A transfer's end (R365, R371, R372) -/

/-- The transfer of a channel ends with a status; what it still reads is discarded. -/
def State.dmaEnd (s : State) (r k : Nat) (x : Xfer) (st rflags digest offset : Nat) : State :=
  let c := s.dma r k
  let s := s.forget fun q => match q with
    | .dmaSrc ch _ _ => ch == r * 64 + k
    | _ => false
  s.setDma r k { c with xfer := some { x with
    finished := true, status := st, rflags := rflags, digest := digest, offset := offset, parts := [] } }

/-- Does a destination overlap a source above its start (R364)? -/
def dmaOverlap (d : List Byte) : Bool :=
  let ws := dget d 24 4
  let wd := dget d 28 4
  ws == wd && decide (dget d 8 8 < dget d 16 8) && decide (dget d 16 8 < dget d 8 8 + dlen d)

/-- COPY with its whole source at hand. -/
def State.dmaCopy (s : State) (r k : Nat) (x : Xfer) (src : List Byte) : State :=
  let d := x.desc
  let w := dget d 28 4
  let a := dget d 16 8
  let pi := piMode d
  let put := fun (s : State) (b : List Byte) => (s.tgtWrite r w a b).count (dmaPage r) 0x101 (tgtNarrow w a b.length)
  match if 2 ≤ pi then piFirst d src else none with
  | some (i, f) =>
    let blk := piBlock d + piSize d
    let good := src.take (i * blk)
    let out := if pi = 2 then piStrip d good else good
    let s := s.tgtWrite r w a out
    let rest := copyLen d - out.length
    let y := s.freeBytes rest
    let s := if tgtLocal w then y.2.tgtWrite r w a (out ++ y.1) else s
    (s.count (dmaPage r) 0x103 1).dmaEnd r k { x with done := out.length } 0x0A f 0 i
  | none =>
    let data := if pi = 2 then piStrip d src else src
    let dg := digest d data
    let body := if pi = 1 then piInsert d src else data
    let body := if digMode d = 3 then body ++ leBytes 4 dg else body
    let y := s.freeBytes body.length
    let s := if dmaOverlap d then put y.2 y.1 else put s body
    let bad := digMode d = 2 ∧ dg ≠ dget d 36 4
    let s := if bad then s.count (dmaPage r) 0x102 1 else s
    s.dmaEnd r k { x with done := src.length } (if bad then 9 else 0) 0 dg 0

/-- Byte `i` of a FILL at address `a` (R358). -/
def fillByte (d : List Byte) (a : Nat) : Byte := d.getD (8 + a % 8) 0

/-- FILL. -/
def State.dmaFill (s : State) (r k : Nat) (x : Xfer) : State :=
  let d := x.desc
  let w := dget d 28 4
  let a := dget d 16 8
  let b := (tgtRuns w a (dlen d)).flatMap fun q => (List.range q.2).map fun i => fillByte d (q.1 + i)
  let s := (s.tgtWrite r w a b).count (dmaPage r) 0x101 (tgtNarrow w a b.length)
  s.dmaEnd r k { x with done := dlen d } 0 0 0 0

/-- The first index at which two lists differ. -/
def firstDiff : List Byte → List Byte → Nat → Option Nat
  | a :: as, b :: bs, i => if a = b then firstDiff as bs (i + 1) else some i
  | _, _, _ => none

/-- COMPARE with both sources at hand. -/
def State.dmaCompare (s : State) (r k : Nat) (x : Xfer) (a b : List Byte) : State :=
  match firstDiff a b 0 with
  | some i => s.dmaEnd r k { x with done := i } 0 1 0 i
  | none => s.dmaEnd r k { x with done := a.length } 0 0 0 (a.length % 2 ^ 24)

/-! ### Reading the sources -/

/-- The sources of a transfer: number, target, address, length. -/
def dmaSources (d : List Byte) : List (Nat × Nat × Nat × Nat) :=
  let a := (0, dget d 24 4, dget d 8 8, dlen d)
  match dget d 0 1 with
  | 1 => [a]
  | 3 => [a, (1, dget d 28 4, dget d 16 8, dlen d)]
  | _ => []

/-- The reads of sources outside the package: source, part, target, address, length. -/
def dmaWanted (d : List Byte) : List (Nat × Nat × Nat × Nat × Nat) :=
  (dmaSources d).flatMap fun q =>
    if tgtLocal q.2.1 then []
    else (tgtParts q.2.1 q.2.2.1 q.2.2.2).zipIdx.map fun p => (q.1, p.2, q.2.1, p.1.1, p.1.2)

/-- Has part `j` of source `i` arrived? -/
def Xfer.part (x : Xfer) (i j : Nat) : Option (List Byte) :=
  (x.parts.find? fun p => p.1 == i && p.2.1 == j).map fun p => p.2.2

/-- Take the parts that have arrived; an error status ends the transfer. -/
def State.dmaPoll (s : State) (r k : Nat) (x : Xfer) : Except State (Xfer × State) :=
  (dmaWanted x.desc).foldl (fun (acc : Except State (Xfer × State)) w =>
    match acc with
    | .error s => .error s
    | .ok (x, s) =>
      if (x.part w.1 w.2.1).isSome then .ok (x, s)
      else match s.takeRead (.dmaSrc (r * 64 + k) w.1 w.2.1) w.2.2.2.2 with
        | (none, _) => .ok (x, s)
        | (some (0, b), s) => .ok ({ x with parts := x.parts ++ [(w.1, w.2.1, b)] }, s)
        | (some (st, _), s) => .error (s.dmaEnd r k x st 0 0 0)) (.ok (x, s))

/-- The whole of a source, once it is there. -/
def State.dmaSource (s : State) (r : Nat) (x : Xfer) (q : Nat × Nat × Nat × Nat) : Option (List Byte) :=
  if tgtLocal q.2.1 then some (s.tgtRead r q.2.1 q.2.2.1 q.2.2.2)
  else
    let ps := (tgtParts q.2.1 q.2.2.1 q.2.2.2).zipIdx.map fun p => x.part q.1 p.2
    if ps.all Option.isSome then some (ps.flatMap fun p => p.getD []) else none

/-- Work on the transfer of a channel: ask for its sources, or finish it. -/
def State.dmaWork (s : State) (r k : Nat) (x : Xfer) : State :=
  if !x.asked then
    let asked := (dmaWanted x.desc).foldl (fun (acc : Option State) w => match acc with
      | none => none
      | some s => s.tgtAsk (.dmaSrc (r * 64 + k) w.1 w.2.1) w.2.2.1 w.2.2.2.1 w.2.2.2.2) (some s)
    match asked with
    | none => s
    | some s =>
      let x := { x with asked := true }
      let s := s.setDma r k { s.dma r k with xfer := some x }
      if dmaWanted x.desc = [] then go s x else s
  else match s.dmaPoll r k x with
    | .error s => s
    | .ok (x, s) =>
      let s := s.setDma r k { s.dma r k with xfer := some x }
      go s x
where
  /-- Finish the transfer if its sources are complete. -/
  go (s : State) (x : Xfer) : State :=
    match (dmaSources x.desc).map fun q => s.dmaSource r x q with
    | [] => s.dmaFill r k x
    | [some a] => s.dmaCopy r k x a
    | [some a, some b] => s.dmaCompare r k x a b
    | _ => s

/-! ### Starting a transfer (R356, R366) -/

/-- The next request of a MSG-mode channel. -/
def State.dmaRequest (s : State) (r k : Nat) : Option Ureq :=
  s.ureqs.find? fun q => q.cluster / 8 == r && s.kind q.cluster q.chan == 4 && fld (s.bind q.cluster q.chan) 0 6 == k

/-- Address of the descriptor with an index in a ring. -/
def State.dmaEntry (s : State) (r k i : Nat) : Nat :=
  (s.dmaReg r k 8).toNat + 2 ^ 32 * (s.dmaReg r k 0xC).toNat + i % 2 ^ fld (s.dmaReg r k 0) 22 4 * 64

/-- Is the ring's target one of those that R366 names? -/
def dmaRingTgt (w : Nat) : Bool := tgtOk w && tgtWrap w == 0 && (tgtSpace w == 0 || tgtSpace w == 2 || tgtSpace w == 5)

/-- The descriptor that a channel would work on next. -/
def State.dmaNext (s : State) (r k : Nat) : Option (List Byte × Option Ureq) :=
  let c := s.dma r k
  if !bit (s.dmaReg r k 0) 31 ∨ c.halted then none
  else if s.dmaRing r k then
    let i := s.dmaCons r k
    let w := (s.dmaReg r k 0x10).toNat
    if c.stall ∨ c.prod = i ∨ !dmaRingTgt w ∨ !tgtFits w (s.dmaEntry r k i) 64 then none
    else some (s.tgtRead r w (s.dmaEntry r k i) 64, none)
  else (s.dmaRequest r k).map fun q => (padTo (q.words.flatMap fun w => leBytes 8 w.toNat) 64, some q)

/-- Start the next transfer: it is checked, and a ring entry with OWN = 0 stalls the channel. -/
def State.dmaStart (s : State) (r k : Nat) (d : List Byte) (q : Option Ureq) : State :=
  let c := s.dma r k
  if q.isNone ∧ !(byteAt d 63).testBit 7 then s.setDma r k { c with stall := true, stallAt := some s.clk }
  else
    let s := match q with
      | none => s
      | some u => s.dropRequest u
    let short := match q with
      | none => false
      | some u => u.words.length != 8
    let x : Xfer := { desc := d, req := q }
    let s := (s.setDma r k { c with xfer := some x }).dmaState r k 1
    let dead := match q with
      | none => false
      | some u => u.dead
    if dead then s.dmaEnd r k x 1 0 0 0
    else if short then s.dmaEnd r k x 5 0 0 0
    else
      let y := s.dmaCheck r k d q
      if y.1 = 0 then y.2.dmaWork r k x else y.2.dmaEnd r k x y.1 0 0 0

/-- Does a descriptor belong to the row of operation `op`? A reserved operation goes with COPY. -/
def dmaRow (op : Nat) (d : List Byte) : Bool :=
  let o := dget d 0 1
  if o = 0 ∨ 3 < o then op == 1 else o == op

/-- One step of a channel for descriptors of an operation. -/
def State.dmaStep (s : State) (r k op : Nat) : State :=
  if s.isFenced (dmaPage r) ∨ s.inReset (dmaPage r) then s
  else if !s.litDom (208 + r) then s.work (208 + r)
  else
    let s := s.work (208 + r)
    match (s.dma r k).xfer with
    | some x =>
      if x.finished ∨ !dmaRow op x.desc then s
      else if ((x.req.map Ureq.dead).getD false) then s.dmaEnd r k x 1 0 0 0
      else s.dmaWork r k x
    | none => match s.dmaNext r k with
      | none => s
      | some (d, q) => if dmaRow op d then s.dmaStart r k d q else s

/-- DMA_COPY: channel `k` of region `r` works on a COPY. -/
def execDmaCopy (r : Fin 16) (k : Fin 64) (s : State) : Host.Outcome State Fault Refusal := .next (s.dmaStep r k 1)

/-- DMA_FILL. -/
def execDmaFill (r : Fin 16) (k : Fin 64) (s : State) : Host.Outcome State Fault Refusal := .next (s.dmaStep r k 2)

/-- DMA_COMPARE. -/
def execDmaCompare (r : Fin 16) (k : Fin 64) (s : State) : Host.Outcome State Fault Refusal := .next (s.dmaStep r k 3)

/-! ### Completion (R365, R366, R371, R372) -/

/-- The descriptor with its results filled in. -/
def Xfer.result (x : Xfer) : List Byte :=
  overlay x.desc 52 (leBytes 1 x.status ++ leBytes 1 x.rflags ++ zeros 2 ++ leBytes 4 x.digest ++ leBytes 3 x.offset)

/-- A RING-mode channel enters HALTED. -/
def State.dmaHalt (s : State) (r k : Nat) : State :=
  let s := (s.setDma r k { s.dma r k with halted := true }).dmaState r k 2
  (s.postBit (dmaPage r) (0x104 + 4 * (k / 32)) (k % 32) true).raiseBit (dmachPage r k) (k % 8)

/-- The transfer of a channel completes. -/
def State.dmaComplete (s : State) (r k : Nat) (x : Xfer) : State :=
  let s := s.setDma r k { s.dma r k with xfer := none }
  let s := s.dmaCount r k 0 x.done
  let s := s.dmaCount r k (if x.status = 0 then 1 else 2) 1
  let s := s.postFld (dmachPage r k) (dmachOff k + 0x18) 16 8 x.status
  let s := s.dmaState r k 0
  match x.req with
  | some q =>
    let dead := q.dead || !(s.kind q.cluster q.chan == 4)
    if dead then s.count (dmaPage r) 0x105 1
    else
      let b := x.result
      s.reply q ((List.range 8).map fun i => BitVec.ofNat 64 (leAt b (8 * i) 8)) false
  | none =>
    let w := (s.dmaReg r k 0x10).toNat
    let a := s.dmaEntry r k (s.dmaCons r k)
    let b := x.result
    let s := s.tgtWrite r w a (b.take 63 ++ [b.getD 63 0 &&& 0x7F])
    let s := s.postFld (dmachPage r k) (dmachOff k + 0x18) 0 16 (idxAdd (s.dmaCons r k) 1)
    let s := if (byteAt x.desc 1).testBit 1 then s.raiseBit (dmachPage r k) (8 + k % 8) else s
    if x.status ≠ 0 then s.dmaHalt r k else s

/-- DMA_COMPLETE: the finished transfer of a channel is written back or answered. -/
def execDmaComplete (r : Fin 16) (k : Fin 64) (s : State) : Host.Outcome State Fault Refusal :=
  match (s.dma r k).xfer with
  | none => .next s
  | some x => .next (if x.finished then s.dmaComplete r k x else s)

/-! ### Channel commands (R366, R372, R375) -/

/-- A doorbell as the ferry applies it. -/
def State.dmaDoorbell (s : State) (r k v : Nat) : State :=
  let c := s.dma r k
  if 2 ^ fld (s.dmaReg r k 0) 22 4 < idxDiff v (s.dmaCons r k) then
    s.postBit (dmachPage r k) (dmachOff k + 0x18) 29 true
  else s.setDma r k { c with prod := v, stall := false, stallAt := none }

/-- DMACH_DB. -/
def execDmachDb (mid : Mid) (r : Fin 16) (k : Fin 64) (v : BitVec 16) (s : State) : Host.Outcome State Fault Refusal :=
  .next (s.ownWrite mid (dmachPage r k) (dmachOff k + 0x14) (v.setWidth 32) fun s => s.dmaDoorbell r k v.toNat)

/-- ABORT: the transfer in progress ends with ABORTED, and a RING-mode channel is HALTED. -/
def State.dmaAbort (s : State) (r k : Nat) : State :=
  let s := match (s.dma r k).xfer with
    | none => s
    | some x =>
      let s := if x.finished then s else s.dmaEnd r k x 1 0 0 0
      match (s.dma r k).xfer with
      | none => s
      | some x => s.dmaComplete r k x
  let s := (s.postBit (dmachPage r k) (dmachOff k) 30 false).setFast (dmachPage r k) (dmachOff k)
    (setBit (s.dmaReg r k 0) 30 false)
  if s.dmaRing r k then s.dmaHalt r k else s

/-- RESUME: a HALTED ring channel goes on at its next descriptor. -/
def State.dmaResume (s : State) (r k : Nat) : State :=
  let s := (s.postBit (dmachPage r k) (dmachOff k) 29 false).setFast (dmachPage r k) (dmachOff k)
    (setBit (s.dmaReg r k 0) 29 false)
  if !(s.dma r k).halted then s
  else
    let s := (s.setDma r k { s.dma r k with halted := false, stall := false, stallAt := none }).dmaState r k 0
    s.postBit (dmaPage r) (0x104 + 4 * (k / 32)) (k % 32) false

/-- A write of DMACH_CTL as the ferry applies it: `v` is what was written. -/
def State.dmaCtl (s : State) (r k : Nat) (v : Reg) : State :=
  let s := if bit v 30 then s.dmaAbort r k else s
  let s := if bit v 29 then s.dmaResume r k else s
  let c := s.dma r k
  if bit (s.dmaReg r k 0) 31 || c.xfer.isSome then s
  else
    let s := (s.setDma r k { c with halted := false, stall := false, stallAt := none }).dmaState r k 0
    s.postBit (dmaPage r) (0x104 + 4 * (k / 32)) (k % 32) false

/-- DMACH_ABORT. -/
def execDmachAbort (mid : Mid) (r : Fin 16) (k : Fin 64) (s : State) : Host.Outcome State Fault Refusal :=
  let v := s.rd (dmachPage r k) (dmachOff k) ||| bitR 30
  .next (s.ownWrite mid (dmachPage r k) (dmachOff k) v fun s => s.dmaCtl r k (bitR 30))

/-- DMACH_RESUME. -/
def execDmachResume (mid : Mid) (r : Fin 16) (k : Fin 64) (s : State) : Host.Outcome State Fault Refusal :=
  let v := s.rd (dmachPage r k) (dmachOff k) ||| bitR 29
  .next (s.ownWrite mid (dmachPage r k) (dmachOff k) v fun s => s.dmaCtl r k (bitR 29))

/-- DMACH_ENABLE: a write of DMACH_CTL. The transfer in progress completes after EN = 0. -/
def execDmachEnable (mid : Mid) (r : Fin 16) (k : Fin 64) (v : Reg) (s : State) : Host.Outcome State Fault Refusal :=
  .next (s.ownWrite mid (dmachPage r k) (dmachOff k) v fun s => s.dmaCtl r k v)

/-- DMACH_REFETCH: the entry at CONS that had OWN = 0 is read again 1 µs later (R366). -/
def execDmachRefetch (r : Fin 16) (k : Fin 64) (s : State) : Host.Outcome State Fault Refusal :=
  let c := s.dma r k
  match c.stallAt with
  | none => .next s
  | some t =>
    if s.clk < t + 1000 then .next s
    else
      let own := match ({ s with dmas := tabPut {} s.dmas (r * 64 + k) { c with stall := false } }).dmaNext r k with
        | none => false
        | some q => (byteAt q.1 63).testBit 7
      .next (s.setDma r k { c with stall := !own, stallAt := none })

/-- A host function is reset or lost: transfers that read or write it end with ABORTED, and the writes left are
discarded and counted (R371). -/
def State.dmaHostLost (s : State) (p : Nat → Nat → Bool) : State :=
  s.dmas.foldl (fun s c =>
    match c.2.xfer with
    | none => s
    | some x =>
      let hit := fun (w : Nat) => tgtSpace w == 3 && p (tgtEp w) (tgtFn w)
      let ts := (dmaTargets x.desc).map fun t => t.1
      if x.finished ∨ !(ts.any hit) then s
      else
        let r := c.1 / 64
        let s := if hit (dget x.desc 28 4) ∧ dget x.desc 0 1 ≠ 3 then s.count (dmaPage r) 0x104 1 else s
        s.dmaEnd r (c.1 % 64) x 1 0 0 0) s

end Sys2Proof.Machine
end

