-- ==== Sys2Proof/Machine/Endpoint.lean ====
section
/-! DEFINITION. PCIe endpoints: link and power states, resets, configuration requests, DOE, IDE, TDISP and the peer
windows' banks (R270–R300). -/
namespace Sys2Proof.Machine

/-! ### Pages and stores -/

/-- EP page of an endpoint. -/
def epP (e : Nat) : PageKey := epPage e 0
/-- EP_LINK page. -/
def epL (e : Nat) : PageKey := epPage e 1
/-- An endpoint. -/
def State.ep (s : State) (e : Nat) : EpState := tabGet {} s.eps e
/-- Store an endpoint. -/
def State.setEp (s : State) (e : Nat) (x : EpState) : State := { s with eps := tabPut {} s.eps e x }
/-- DL_UP. -/
def State.dlUp (s : State) (e : Nat) : Bool := bit (s.rd (epP e) 0x104) 29
/-- PSTATE of the link: 0 L0, 1 L0p, 2 L1, 3 L1.1, 4 L1.2, 5 L2, 6 down. -/
def State.pstate (s : State) (e : Nat) : Nat := s.rdFld (epL e) 0x104 19 3
/-- Post PSTATE. -/
def State.setPstate (s : State) (e n : Nat) : State := (s.postFld (epL e) 0x104 19 3 n).raiseBit (epL e) 0
/-- The link goes down. -/
def State.epLinkDown (s : State) (e : Nat) : State :=
  let was := s.dlUp e
  let s := (s.postBit (epP e) 0x104 29 false).post (epL e) 0x104 0x00300000
  if was then ((s.count (epP e) 0x09 1).raiseBit (epP e) 2).raiseBit (epL e) 0 else s

/-! ### TDIs and IDE streams (R294–R296) -/

/-- A TDI changes its state. -/
def State.tdiPut (s : State) (e f st : Nat) : State :=
  if f < 2 then s else s.postFld (epPage e 3) (0x200 + 4 * f) 28 4 st

/-- A TDI in CONFIG_LOCKED or RUN enters ERROR, and its instance is quiesced. -/
def State.tdiError (s : State) (e f : Nat) : State :=
  if s.tdiLocked e f then ((s.tdiPut e f 3).raiseBit (epPage e 3) 1).drainStart e f 3 else s

/-- A TDI returns to CONFIG_UNLOCKED. -/
def State.tdiUnlock (s : State) (e f : Nat) : State := if f < 2 then s else s.post (epPage e 3) (0x200 + 4 * f) 0

/-- Functions of an endpoint whose TDI register is not 0. -/
def State.tdis (s : State) (e : Nat) : List Nat :=
  (s.regs.filter fun r => r.1 / 4096 == epPage e 3 && decide (0x200 ≤ r.1 % 4096)).map fun r => (r.1 % 4096 - 0x200) / 4

/-- Post EP_IDE_STS. -/
def State.ideSts (s : State) (e : Nat) : State :=
  let x := s.ep e
  s.post (epPage e 3) 0x100 (BitVec.ofNat 32 ((x.ide.filter fun (i : Nat × Bool) => i.2).length % 256 +
    (if x.ideLink = some true then 2 ^ 31 else 0)))

/-- A stream moves to Insecure; every TDI bound to it enters ERROR. `none` is the link stream. -/
def State.ideInsecure (s : State) (e : Nat) (stream : Option Nat) : State :=
  let x := s.ep e
  let s := match stream with
    | none => s.setEp e { x with ideLink := some false }
    | some n => s.setEp e { x with ide := x.ide.map fun (i : Nat × Bool) => if i.1 = n then (n, false) else i }
  let s := (s.ideSts e).raiseBit (epPage e 3) 0
  let bound := match stream with
    | none => []
    | some n => (s.tdis e).filter fun f => s.rdFld (epPage e 3) (0x200 + 4 * f) 0 8 == n
  bound.foldl (fun s f => s.tdiError e f) s

/-- IDE_CHECK_FAIL: a TLP that fails its integrity check is discarded (R294). -/
def execIdeCheckFail (e : Fin 32) (sel : Bool) (stream : Byte) (s : State) : Host.Outcome State Fault Refusal :=
  let x := s.ep e
  let known := if sel then tabFind x.ide stream.toNat == some true else x.ideLink == some true
  .next (if known then (s.aer e 0 28 false).ideInsecure e (if sel then some stream.toNat else none) else s)

/-- What a secured session's IDE_KM message does (R294). -/
def State.ideKm (s : State) (e : Nat) : IdeKm → State
  | .none => s
  | .keyProg st slot key =>
    let x := s.ep e
    s.setEp e { x with ideKeys := tabPut 0 x.ideKeys (st.toNat * 16 + slot.val) key }
  | .go true st =>
    let x := s.ep e
    if x.ide.length < 255 ∨ (tabFind x.ide st.toNat).isSome then
      (s.setEp e { x with ide := tabInsert (tabErase x.ide st.toNat) st.toNat true }).ideSts e
    else s
  | .go false _ => (s.setEp e { s.ep e with ideLink := some true }).ideSts e
  | .stop true st =>
    if (tabFind (s.ep e).ide st.toNat).isSome then s.ideInsecure e (some st.toNat) else s
  | .stop false _ => if (s.ep e).ideLink.isSome then s.ideInsecure e none else s

/-- DOE_OBJECT: firmware answers discovery, SPDM and secured SPDM objects of PF0's mailbox; `km` is what a secured
IDE_KM message in it asks for (R293). An object above 64 KiB is discarded with DOE Error; without firmware DOE Busy
reads 1 and nothing is answered. At A2 KEY_EX is refused, and at A3 every request ends in an error (R505). -/
def execDoeObject (e : Fin 32) (type : Byte) (body : List Byte) (km : IdeKm) (s : State) :
    Host.Outcome State Fault Refusal :=
  if !s.dlUp e ∨ !s.omc.running then .next s
  else if 65536 < body.length then .next (s.cfgPut e 0 0x2EC (s.cfgRd e 0 0x2EC ||| bitR 2))
  else if type = 0 then .next (s.emit (.reply "doe-discovery" (leBytes 2 0x1F9C ++ [(if body.getD 0 0 < 2 then body.getD 0 0 else 2),
    (if body.getD 0 0 < 2 then body.getD 0 0 + 1 else 0)])))
  else if type = 1 ∨ type = 2 then
    let code := body.getD 1 0
    if 3 ≤ s.alarmLevel ∨ (2 ≤ s.alarmLevel ∧ code = 0xE4) then .next (s.emit (.reply "doe" [0x13, 0x7F]))
    else
      let s := if type = 2 then s.ideKm e km else s
      .next (s.draw.2.emit (.reply "doe" (Config.firmwareReply (type :: body) s.draw.1)))
  else .next s

/-! ### TDISP (R295, R296, R314) -/

/-- A TDISP message is answered by firmware while the link is up. -/
def State.tdisp (s : State) (e : Nat) (act : State → State) : State :=
  if s.omc.running && s.dlUp e then act s else s

/-- LOCK_INTERFACE with the stream that the TDI is bound to. -/
def execLockInterface (e : Fin 32) (f stream : Byte) (s : State) : Host.Outcome State Fault Refusal :=
  let f := f.toNat
  .next (s.tdisp e fun s =>
    if 2 ≤ f ∧ s.fnEnabled e f ∧ s.tdi e f = 0 ∧ s.instSt e f ≠ 0 ∧ s.instSt e f ≠ 3 then
      (s.post (epPage e 3) (0x200 + 4 * f) (BitVec.ofNat 32 (2 ^ 28 + stream.toNat))).emit (.reply "tdisp-lock" [BitVec.ofNat 8 f])
    else s.emit (.reply "tdisp-error" [BitVec.ofNat 8 f]))

/-- START_INTERFACE. -/
def execStartInterface (e : Fin 32) (f : Byte) (s : State) : Host.Outcome State Fault Refusal :=
  let f := f.toNat
  .next (s.tdisp e fun s =>
    if 2 ≤ f ∧ s.tdi e f = 1 then (s.tdiPut e f 2).emit (.reply "tdisp-start" [BitVec.ofNat 8 f])
    else s.emit (.reply "tdisp-error" [BitVec.ofNat 8 f]))

/-- STOP_INTERFACE: to CONFIG_UNLOCKED from any state, and the instance's state is cleared as a VF FLR leaves it. -/
def execStopInterface (e : Fin 32) (f : Byte) (s : State) : Host.Outcome State Fault Refusal :=
  let f := f.toNat
  .next (s.tdisp e fun s =>
    let s := if 2 ≤ f ∧ s.tdi e f ≠ 0 then (s.tdiUnlock e f).drainStart e f 5 else s
    s.emit (.reply "tdisp-stop" [BitVec.ofNat 8 f]))

/-- GET_DEVICE_INTERFACE_REPORT: VF BAR0 of 128 KiB, the context window and the ring counts. -/
def execGetDeviceInterfaceReport (e : Fin 32) (f : Byte) (s : State) : Host.Outcome State Fault Refusal :=
  let n := f.toNat
  .next (s.tdisp e fun s =>
    if s.tdi e n = 1 ∨ s.tdi e n = 2 then
      s.emit (.reply "tdisp-report" (leBytes 4 0x20000 ++ leBytes 4 (s.rd (instPage e n 2) 0x100).toNat ++
        leBytes 4 (s.rd (instPage e n 2) 0x104).toNat ++ leBytes 2 (s.grantWr e n) ++ leBytes 2 (s.grantCr e n)))
    else s.emit (.reply "tdisp-error" [f]))

/-- GET_DEVICE_INTERFACE_STATE. -/
def execGetDeviceInterfaceState (e : Fin 32) (f : Byte) (s : State) : Host.Outcome State Fault Refusal :=
  .next (s.tdisp e fun s => s.emit (.reply "tdisp-state" [BitVec.ofNat 8 (s.tdi e f.toNat)]))

/-- GET_TDISP_VERSION: 1.0. -/
def execGetTdispVersion (e : Fin 32) (s : State) : Host.Outcome State Fault Refusal :=
  .next (s.tdisp e fun s => s.emit (.reply "tdisp-version" [1, 0x10]))

/-- GET_TDISP_CAPABILITIES. -/
def execGetTdispCapabilities (e : Fin 32) (s : State) : Host.Outcome State Fault Refusal :=
  .next (s.tdisp e fun s => s.emit (.reply "tdisp-capabilities" (Config.firmwareReply [0x02] 0)))

/-! ### Functions that go away (R52, R166, R173, R282, R371) -/

/-- Learn rings stop and table command rings are disabled with the function they belong to (R166, R173). -/
def State.ownersGone (s : State) (e : Nat) (p : Nat → Bool) : State :=
  (List.range 16).foldl (fun s r =>
    let t := regPage r 0
    let m : Mid := BitVec.ofNat 16 (s.rdFld t 0x118 16 16)
    let s := if midIsHost m && midEp m == e && p (midFn m) then
        let s := s.forget fun c => c == .tblCmd r
        let s := s.setTblR r { s.tblR r with fetching := false, stall := false, stallAt := none }
        let s := s.postBit t 0x120 31 false
        (s.postBit t 0x118 15 false).setFast t 0x118 (setBit (s.fr t 0x118) 15 false)
      else s
    let l : Mid := BitVec.ofNat 16 (s.frFld (lrnPage r) 0x10C 16 16)
    if midIsHost l && midEp l == e && p (midFn l) then s.ringTargetGone r else s) s

/-- Reads of the functions that go away end with ABORTED; their tags are free too when the whole endpoint goes (R282),
and are held until their completions arrive otherwise. -/
def State.readsGone (s : State) (e : Nat) (p : Nat → Bool) (all : Bool) : State :=
  let mine := fun (r : HRead) => r.ep == e && p r.fn
  let ended := (s.hwait.filter mine) ++ ((s.hreads.filter fun r => mine r.2 && r.2.quar.isNone).map fun r => r.2)
  let s := ended.foldl (fun s r => s.readDone r 1 []) s
  { s with
    hwait := s.hwait.filter fun r => !mine r
    hreads := if all then s.hreads.filter fun r => !mine r.2
      else s.hreads.map fun r => if mine r.2 then (r.1, { r.2 with client := .dead }) else r }

/-- Functions of an endpoint that hold an instance. -/
def State.insts (s : State) (e : Nat) : List Nat :=
  ((s.regs.filter fun r => r.1 % 4096 == 0x104 && pageType (r.1 / 4096) == some .ictl && instEp (r.1 / 4096) == e &&
    decide (fld r.2 0 2 ≠ 0)).map fun r => instFn (r.1 / 4096))

/-- Configuration registers of the functions return to their reset values, but for PME_En and PME_Status (R281). -/
def State.cfgClear (s : State) (e : Nat) (p : Nat → Bool) : State :=
  let keep := s.cfg.filterMap fun r =>
    if r.1 / 2 ^ 20 = e ∧ p (r.1 / 4096 % 256) then
      if r.1 % 4096 = 0x044 ∧ r.2 &&& 0x8100 ≠ 0 then some (r.1, (r.2 &&& 0x8100) ||| 8) else none
    else some r
  { s with cfg := keep }

/-- The functions `p` of an endpoint are reset: instances drain, locks are released, TDIs unlocked. `lock` is the cause
that the log of R52 names. -/
def State.fnsGone (s : State) (e : Nat) (p : Nat → Bool) (cause lock : Nat) (all : Bool) : State :=
  let s := ((s.insts e).filter p).foldl (fun s f => s.drainStart e f cause) s
  let s := ((s.tdis e).filter p).foldl (fun s f => s.tdiUnlock e f) s
  let s := s.readsGone e p all
  let s := s.dmaHostLost fun e' f' => e' == e && p f'
  let s := s.releaseLocks (fun m => midIsHost m && midEp m == e && p (midFn m)) (fun _ => false) lock
  let s := s.ownersGone e p
  let s := [0, 1].foldl (fun s q => if p q then s.gchClear e q else s) s
  s.cfgClear e p

/-- MSI-X tables and pending bits of the functions are reset. -/
def State.msixClear (s : State) (e : Nat) (p : Nat → Bool) : State :=
  let gone := fun (k : Nat) => isInst (k / 4096) && instEp (k / 4096) == e && p (instFn (k / 4096)) &&
    decide (30 ≤ instIdx (k / 4096))
  { s with regs := tabKeep s.regs fun k => !gone k, fast := tabKeep s.fast fun k => !gone k }

/-- What a fundamental and a hot reset do (R282). -/
def State.epFundamental (s : State) (e cause lock : Nat) : State :=
  let s := s.epLinkDown e
  let s := (s.fnsGone e (fun _ => true) cause lock true).msixClear e fun _ => true
  let x := s.ep e
  let s := s.setEp e { x with flr := [], ide := [], ideLink := none, ideKeys := [], ltrDue := false, hotUpAt := none, inL2 := false }
  let s := s.post (epPage e 3) 0x100 0
  let s := (List.range 8).foldl (fun s j => (s.post (epP e) (0x120 + 4 * j) 0).post (epP e) (0x140 + 4 * j) 0) s
  s.postBit (epP e) 0x104 30 false

/-! ### Resets (R282–R284, R290) -/

/-- PERST_ASSERT. -/
def execPerstAssert (e : Fin 32) (s : State) : Host.Outcome State Fault Refusal :=
  if !s.pins.perstN.getLsbD e then .next s
  else
    let s := { s with pins := { s.pins with perstN := s.pins.perstN &&& ~~~(BitVec.ofNat 32 (2 ^ e.val)) } }
    let s := s.epFundamental e 9 3
    let s := s.setEp e { s.ep e with deassertAt := none, hot := false }
    .next ((s.postBit (epP e) 0x104 31 true).raiseBit (epP e) 1)

/-- PERST_DEASSERT: WAKE_N is released (R280), and the domain's floor may rise. -/
def execPerstDeassert (e : Fin 32) (s : State) : Host.Outcome State Fault Refusal :=
  if s.pins.perstN.getLsbD e then .next s
  else
    let m := BitVec.ofNat 32 (2 ^ e.val)
    let s := { s with pins := { s.pins with perstN := s.pins.perstN ||| m, wakeN := s.pins.wakeN ||| m } }
    let s := s.setEp e { s.ep e with deassertAt := some s.clk, hot := false }
    let s := (s.postBit (epP e) 0x104 31 false).raiseBit (epP e) 1
    .next (s.lift (296 + e.val))

/-- CFG_READY: 80 ms after deassertion and after the endpoint release; after a hot reset, once DL_Up has returned
(R283, R519). -/
def execCfgReady (e : Fin 32) (s : State) : Host.Outcome State Fault Refusal :=
  let x := s.ep e
  let old := match x.deassertAt with
    | none => false
    | some t => decide (t + 80000000 ≤ s.clk)
  .next (if s.pins.perstN.getLsbD e && old && s.omc.released && (!x.hot || x.hotUpAt.isSome) then
      -- ALMAP is sealed by now, at the latest (R509)
      (((s.postBoth almapPage 0x028 1).setEp e { x with hot := false, hotUpAt := none }).postBit (epP e) 0x104 30 true)
    else s)

/-- A hot reset, or DL_Down for any other cause. -/
def State.hotReset (s : State) (e : Nat) (lock : Nat) : State :=
  let s := s.epFundamental e 8 lock
  let s := s.setEp e { s.ep e with hot := true }
  (s.count (epP e) 0x0A 1).raiseBit (epP e) 3

/-- HOT_RESET: a hot reset in training sets, or DL_Down; `removed` says that the partner has gone (R290). -/
def execHotReset (e : Fin 32) (removed : Bool) (s : State) : Host.Outcome State Fault Refusal :=
  .next (if s.dlUp e then s.hotReset e (if removed then 4 else 2) else s)

/-- PCIEREF of the endpoint's host die is present. -/
def State.pcieRef (s : State) (e : Nat) : Bool := s.pins.pcieref.getLsbD (e / 8)

/-- DL_UP: the link trains, no faster and no wider than EP_LINK_CFG allows, at `speed` (0 64 … 5 2.5 GT/s) and a width of
16, 8 or 4 lanes (`width` 0–2); FLIT mode always at 64 GT/s (R275). -/
def execDlUp (e : Fin 32) (speed : Fin 6) (width : Fin 3) (flit : Bool) (s : State) : Host.Outcome State Fault Refusal :=
  let cfg := s.fr (epL e) 0x100
  let ok := s.pins.perstN.getLsbD e && !s.dlUp e && !bit (s.fr (epP e) 0x100) 1 && s.ready (epP e) && !(s.ep e).inL2 &&
    s.pcieRef e && !s.jtag.tested.contains (pgSite (epP e)) && decide (fld cfg 26 3 ≤ speed.val) && decide (fld cfg 29 2 ≤ width.val)
  if !ok then .next s
  else
    let s := s.wake (296 + e.val)
    let v := 2 ^ 31 + (if flit || speed.val == 0 then 2 ^ 30 else 0) + speed.val * 2 ^ 27 + 16 / 2 ^ width.val * 2 ^ 22
    let s := ((s.post (epL e) 0x104 (BitVec.ofNat 32 v)).raiseBit (epL e) 0).postBit (epP e) 0x104 29 true
    let ltr := (s.cfgRd e 0 0x078).getLsbD 10
    let x := s.ep e
    let s := s.setEp e { x with ltrDue := ltr, lastTlp := s.clk, hotUpAt := if x.hot then some s.clk else none }
    .next (s.raiseBit (epP e) 2)

/-- A function enters FLR. -/
def State.flrBegin (s : State) (e f : Nat) : State :=
  let x := s.ep e
  let s := s.setEp e { x with flr := tabInsert (tabErase x.flr f) f s.clk }
  ((s.postBit (epP e) (0x120 + f / 32 * 4) (f % 32) true).count (epP e) 0x0B 1).raiseBit (epP e) 4

/-- EP_D3 follows a function's PowerState. -/
def State.postD3 (s : State) (e f : Nat) : State :=
  s.postBit (epP e) (0x140 + f / 32 * 4) (f % 32) (s.dState e f != 0)

/-- The VFs of PF `p` that satisfy `q` cease to be. -/
def State.vfsGone (s : State) (e p cause lock : Nat) (q : Nat → Bool) : State :=
  s.fnsGone e (fun f => decide (2 ≤ f) && s.pfOf e f == p && q f) cause lock false

/-- Initiate FLR in PF `p` (R282). -/
def State.pfFlr (s : State) (e p : Nat) : State :=
  let mine := fun (f : Nat) => s.ofPf e p f
  let s := (s.fnsGone e mine 6 1 false).msixClear e mine
  (s.flrBegin e p).postD3 e p

/-- Initiate FLR in a VF. -/
def State.vfFlr (s : State) (e f : Nat) : State :=
  let s := (s.fnsGone e (· == f) 5 1 false).msixClear e (· == f)
  (s.flrBegin e f).postD3 e f

/-- PF_FLR. -/
def execPfFlr (e : Fin 32) (p : Fin 2) (s : State) : Host.Outcome State Fault Refusal :=
  .next (if s.dlUp e ∧ !s.underFlr e p.val then s.pfFlr e p.val else s)

/-- VF_FLR. -/
def execVfFlr (e : Fin 32) (f : Byte) (s : State) : Host.Outcome State Fault Refusal :=
  let f := f.toNat
  .next (if s.dlUp e ∧ 2 ≤ f ∧ s.fnEnabled e f ∧ !s.underFlr e f then s.vfFlr e f else s)

/-- FLR_COMPLETE (R284). -/
def execFlrComplete (e : Fin 32) (f : Byte) (s : State) : Host.Outcome State Fault Refusal :=
  let f := f.toNat
  let x := s.ep e
  .next (if (tabFind x.flr f).isSome then
      (s.setEp e { x with flr := tabErase x.flr f }).postBit (epP e) (0x120 + f / 32 * 4) (f % 32) false
    else s)

/-- An endpoint reset (R282): all that PERST_N resets, the EP-family pages, the pools; a fence is lifted (R291). -/
def State.epReset (s : State) (e : Nat) : State :=
  let s := s.epFundamental e 0xA 6
  let s := s.releaseLocks (fun _ => false) (fun p => isInst p && instEp p == e) 6
  let gone := fun (k : Nat) =>
    let p := k / 4096
    (!isInst p && pageOfEp e p) || (isInst p && instEp p == e && instIdx p == 16 && decide (0x140 ≤ k % 4096))
  let s := { s with
    regs := tabKeep s.regs fun k => !gone k, fast := tabKeep s.fast fun k => !gone k
    ferry := s.ferry.filter fun w => !pageOfEp e w.page
    drw := s.drw.filter fun d => !pageOfEp e d.page
    fences := s.fences.filter fun sc => !scopeContains (.endpoint e) sc }
  let s := s.setEp e { s.ep e with hot := true }
  -- grants of instances that still drain stay out of the pools until they return (R305, R309)
  let s := (s.insts e).foldl (fun s f =>
    s.poolMove e (s.pfOf e f) (s.grantWr e f) (s.grantCr e f) (s.rdFld (instPage e f 2) 0x104 0 17) false) s
  s.postBit (epP e) 0x104 31 (!s.pins.perstN.getLsbD e)

/-- EP_RESET: a write of EP_CTL.EP_RESET, which only OMC firmware makes. -/
def execEpReset (mid : Mid) (e : Fin 32) (s : State) : Host.Outcome State Fault Refusal :=
  .next (s.accessWrite mid (epP e) 0x100 fun s => if midIsOmc mid then (s.epReset e).wake (296 + e.val) else s)

/-! ### Power states (R277–R279) -/

/-- A function enters D3, or returns to D0: PowerState and EP_D3 (R278). -/
def State.setD (s : State) (e f : Nat) (d3 : Bool) : State :=
  (s.cfgPut e f 0x044 (setFld (s.cfgRd e f 0x044) 0 2 (if d3 then 3 else 0))).postD3 e f

/-- D_STATE_CHANGE. -/
def execDStateChange (e : Fin 32) (f : Byte) (d3 : Bool) (s : State) : Host.Outcome State Fault Refusal :=
  .next (if s.dlUp e ∧ s.fnEnabled e f.toNat then s.setD e f.toNat d3 else s)

/-- Is any express ring of the endpoint enabled? -/
def State.epExpress (s : State) (e : Nat) : Bool := s.wrings.any fun w => ringEp w.1 == e && w.2.express && w.2.en

/-- Nothing is outstanding on the link, for a time in µs. -/
def State.linkQuiet (s : State) (e us : Nat) : Bool :=
  (s.epReads e).all (fun r => r.2.quar.isSome) && decide ((s.ep e).lastTlp + us * 1000 ≤ s.clk)

/-- ASPM L1 enabled by the host (Link Control, PF0). -/
def State.aspmL1 (s : State) (e : Nat) : Bool := (s.cfgRd e 0 0x060).getLsbD 1

/-- LINK_PM_ENTRY: L0p or L1 after its idle time, PCI-PM L1 with every function in D3, or L2 after PME_Turn_Off
(R277). `light` says that each direction carried less than a quarter of the narrower width's capacity for
L0P_IDLE_US; `off` that PME_Turn_Off was acknowledged. -/
def execLinkPmEntry (e : Fin 32) (target : Fin 6) (light off : Bool) (s : State) : Host.Outcome State Fault Refusal :=
  let pm := s.fr (epL e) 0x10C
  let idle := s.fr (epL e) 0x108
  let st := s.pstate e
  let sts := s.rd (epL e) 0x104
  if !s.dlUp e then .next s
  else if target.val = 1 then
    -- Flit-mode L0p enable: Link Control bit 3 of the Device 3 capability's control (PRESUMED, log entry 8)
    .next (if st ≤ 1 ∧ bit sts 30 ∧ bit pm 29 ∧ (s.cfgRd e 0 0x2D8).getLsbD 4 ∧ light ∧ 4 < fld sts 22 5 then
        (s.postFld (epL e) 0x104 22 5 (fld sts 22 5 / 2)).setPstate e 1
      else s)
  else if target.val = 2 then
    let d3 := s.dState e 0 != 0 && s.dState e 1 != 0
    .next (if st ≤ 1 ∧ (d3 ∨ (s.aspmL1 e ∧ bit pm 30 ∧ s.linkQuiet e (fld idle 16 16) ∧
        !(bit pm 31 && s.epExpress e))) then s.setPstate e 2 else s)
  else if target.val = 5 then
    .next (if off then ((s.setEp e { s.ep e with inL2 := true }).setPstate e 5) else s)
  else .next s

/-- LINK_PM_EXIT: a TLP, a DLLP or the partner's exit returns the link to L0; L2 ends only with PERST_N. -/
def execLinkPmExit (e : Fin 32) (s : State) : Host.Outcome State Fault Refusal :=
  let st := s.pstate e
  .next (if s.dlUp e ∧ 1 ≤ st ∧ st ≤ 4 then
      let s := s.setEp e { s.ep e with lastTlp := s.clk }
      (s.wake (296 + e.val)).setPstate e 0
    else s)

/-- LTR values in ns. -/
def ltrNs (scale v : Nat) : Nat := v * 2 ^ (5 * scale)

/-- CLKREQ_N_CHANGE (R277): with CLKREQ_N released, a link in L1 enters L1.2 if the host has enabled it and LTR is at or
above its threshold, else L1.1 if that is enabled; with it asserted, the link leaves the substate. -/
def execClkreqNChange (e : Fin 32) (released : Bool) (s : State) : Host.Outcome State Fault Refusal :=
  let m := BitVec.ofNat 32 (2 ^ e.val)
  let s := { s with pins := { s.pins with clkreqN := if released then s.pins.clkreqN ||| m else s.pins.clkreqN &&& ~~~m } }
  let c := s.cfgRd e 0 0x2B8
  let ltr := s.fr (epL e) 0x110
  let st := s.pstate e
  if released then
    let enough := ltrNs (fld c 29 3) (fld c 16 10) ≤
      min (ltrNs (fld ltr 10 3) (fld ltr 0 10)) (ltrNs (fld ltr 26 3) (fld ltr 16 10))
    .next (if st ≠ 2 then s
      else if (bit c 0 ∨ bit c 2) ∧ enough then s.setPstate e 4
      else if bit c 1 ∨ bit c 3 then s.setPstate e 3 else s)
  else .next (if st = 3 ∨ st = 4 then s.setPstate e 2 else s)

/-- LTR_SEND: the message that is owed (R279). -/
def execLtrSend (e : Fin 32) (s : State) : Host.Outcome State Fault Refusal :=
  let x := s.ep e
  .next (if x.ltrDue ∧ s.dlUp e then (s.setEp e { x with ltrDue := false }).emit (.pcieMsg e 0 "LTR") else s)

/-! ### Configuration requests (R270–R274, R278, R281–R284, R296) -/

/-- First VF and number of VFs of PF `p`. -/
def State.vfSpan (s : State) (e p : Nat) : Nat × Nat :=
  let t0 := s.rdFld (epP e) 0x10C 0 8
  let t1 := s.rdFld (epP e) 0x10C 8 8
  if p = 0 then (2, t0) else (2 + t0, t1)

/-- What a configuration register reads as (capability IDs and inner places PRESUMED, log entry 8). -/
def State.cfgView (s : State) (e f off : Nat) : Reg :=
  let pf := decide (f < 2)
  let stored := s.cfgRd e f off
  let span := s.vfSpan e f
  match off with
  | 0x02C => if pf then s.rd (epP e) 0x108 else 0
  | 0x148 => if f = 0 then 0x1501000E else if f = 1 then 0x1501000E else 0
  | 0x14C => if f = 0 then 0x00000100 else 0
  | 0x150 => if pf then 0x16010003 else 0
  | 0x154 => if pf then BitVec.ofNat 32 s.fuses.serial.toNat else 0
  | 0x158 => if pf then BitVec.ofNat 32 (s.fuses.serial.toNat / 2 ^ 32) else 0
  | 0x160 => if f = 0 then 0x1A010010 else if f = 1 then 0x2D010010 else 0
  | 0x16C => if pf then BitVec.ofNat 32 (span.2 * 65536 + span.2) else 0
  | 0x174 => if pf then BitVec.ofNat 32 (65536 + (span.1 - f)) else 0
  | 0x178 => if f = 0 then 0xA6410000 else if f = 1 then 0xA6430000 else 0
  | 0x17C | 0x180 => if pf then 1 else 0
  | 0x184 => if pf then stored ||| 4 else 0
  | 0x1A0 => if f = 0 then 0x1D010019 else 0
  | 0x1D0 => if f = 0 then 0x1E010025 else 0
  | 0x1E0 => if f = 0 then 0x21010026 else 0
  | 0x210 => if f = 0 then 0x2401002A else 0
  | 0x240 => if f = 0 then 0x26010031 else 0
  | 0x260 => if f = 0 then 0x2B010027 else 0
  | 0x2B0 => if f = 0 then 0x2C81001E else 0
  | 0x2B4 => if f = 0 then 0x00000A1F else 0
  | 0x2C8 => if f = 0 then 0x2D010018 else 0
  | 0x2D0 => if f = 0 then 0x2E01002F else if f = 1 then 0x0001002F else 0
  | 0x2E0 => if f = 0 then 0x3001002E else 0
  | 0x2EC => if f = 0 then (if s.omc.running then stored else stored ||| 1) else 0
  | 0x300 => if f = 0 then 0x00010030 else 0
  | _ => stored

/-- Bits that a configuration write changes (PRESUMED, log entry 8). -/
def cfgMask (f off : Nat) : Reg :=
  let pf := decide (f < 2)
  match off with
  | 0x004 => 0x00000546
  | 0x00C => 0x000000FF
  | 0x010 => if pf then 0xFC000000 else 0
  | 0x014 => if pf then 0xFFFFFFFF else 0
  | 0x03C => 0x000000FF
  | 0x044 => 0x00000103
  | 0x058 => 0x00007FFF
  | 0x060 => if f = 0 then 0x00000FFB else 0
  | 0x078 => if pf then 0x0000E73F else 0
  | 0x080 => if f = 0 then 0x0000FFFF else 0
  | 0x090 => 0xC0000000
  | 0x108 | 0x10C | 0x114 => 0xFFFFFFFF
  | 0x118 => 0x00000140
  | 0x168 => if pf then 0x00000019 else 0
  | 0x170 => if pf then 0x0000FFFF else 0
  | 0x184 => if pf then 0xFFFE0000 else 0
  | 0x188 => if pf then 0xFFFFFFFF else 0
  | 0x1A4 => if f = 0 then 0x00000007 else 0
  | 0x2B8 => if f = 0 then 0xE3FFFF0F else 0
  | 0x2BC => if f = 0 then 0x000000FF else 0
  | 0x2CC => if f = 0 then 0x1FFF1FFF else 0
  | 0x2D8 => if pf then 0x0000FFFF else 0
  | 0x2E8 => if f = 0 then 0x00000002 else 0
  | _ => if f = 0 ∧ 0x308 ≤ off then 0xFFFFFFFF else 0

/-- Bits that a configuration write of 1 clears. -/
def cfgW1c (off : Nat) : Reg :=
  match off with
  | 0x004 => 0xF9000000
  | 0x044 => 0x00008000
  | 0x058 => 0x000F0000
  | 0x104 | 0x110 => 0xFFFFFFFF
  | _ => 0

/-- MSI-X vectors that are pending and no longer masked are sent (R272, R348). -/
def State.msixFlush (s : State) (e f : Nat) : State :=
  let ctl := s.cfgRd e f 0x090
  if !ctl.getLsbD 31 || ctl.getLsbD 30 then s
  else (List.range (vectors f)).foldl (fun s v =>
    let q := instPage e f 31
    if bit (s.rd q (0x100 + 4 * (v / 32))) (v % 32) && !(s.rd (instPage e f 30) (0x100 + 16 * v + 12)).getLsbD 0 then
      (s.postBit q (0x100 + 4 * (v / 32)) (v % 32) false).msixSend e f v
    else s) s

/-- VF Enable or NumVFs of PF `p` has changed from `en`, `n`: VFs that are no more go (R309 cause 0x7). -/
def State.vfsChanged (s : State) (e p : Nat) : State :=
  s.vfsGone e p 7 1 fun f => !s.fnEnabled e f

/-- Does a write break what LOCK_INTERFACE fixed (R296)? The TDIs it concerns. -/
def State.lockedBy (s : State) (e f off : Nat) : List Nat :=
  if 2 ≤ f then (if off = 0x004 ∨ (0x010 ≤ off ∧ off < 0x028) then [f] else [])
  else if 0x168 ≤ off ∧ off < 0x1A0 then (s.tdis e).filter fun g => s.pfOf e g == f else []

/-- A configuration write to an enabled function. -/
def State.cfgWrite (s : State) (e f off : Nat) (v : Reg) : State :=
  let old := s.cfgRd e f off
  let s := (s.lockedBy e f off).foldl (fun s g => s.tdiError e g) s
  let new := ((old &&& ~~~cfgMask f off) ||| (v &&& cfgMask f off)) &&& ~~~(v &&& cfgW1c off)
  let new := if off = 0x044 ∧ fld new 0 2 ≠ 0 ∧ fld new 0 2 ≠ 3 then setFld new 0 2 (fld old 0 2) else new
  let new := if off = 0x170 ∧ (s.vfSpan e f).2 < fld new 0 16 then old else new
  let s := s.cfgPut e f off new
  if off = 0x044 then s.postD3 e f
  else if off = 0x058 ∧ bit v 15 then (if f < 2 then s.pfFlr e f else s.vfFlr e f)
  else if f < 2 ∧ (off = 0x168 ∨ off = 0x170) then s.vfsChanged e f
  else if off = 0x090 then s.msixFlush e f
  else s

/-- CONFIG_REQUEST: a read, or a write of `v`, of the register at `off`, aligned to 4 bytes (R283, R284). -/
def execConfigRequest (e : Fin 32) (f : Byte) (off : BitVec 12) (write : Option Reg) (s : State) :
    Host.Outcome State Fault Refusal :=
  let n := f.toNat
  let o := off.toNat / 4 * 4
  if !s.dlUp e then .next s
  else if !bit (s.rd (epP e) 0x104) 30 ∨ s.underFlr e n then .next (s.emit (.cfgCpl e n o true 0))
  else if !s.fnEnabled e n then .next (s.emit (.pcieMsg e n "UR"))
  else match write with
    | none => .next (s.emit (.cfgCpl e n o false (s.cfgView e n o)))
    | some v => .next ((s.cfgWrite e n o v).emit (.cfgCpl e n o false 0))

/-! ### Banks of the peer windows (R299) -/

/-- A GO to PWIN_COMMIT. -/
def State.pwinGo (s : State) (q : Nat) : State :=
  let p := pwinPage q
  let s := (s.postBit p 0x104 0 false).setFast p 0x104 0
  if bit (s.rd p 0x108) 31 then s.postBit p 0x108 30 true
  else (s.postBit p 0x108 29 true).raiseBit p 2

/-- PWIN_COMMIT. -/
def execPwinCommit (mid : Mid) (q : Fin 16) (s : State) : Host.Outcome State Fault Refusal :=
  .next (s.ownWrite mid (pwinPage q) 0x104 1 fun s => s.pwinGo q)

/-- PWIN_BANK_SWITCH: at a header boundary the other bank becomes active; WINDOW_IDLE follows the requests that the old
one has translated. -/
def execPwinBankSwitch (q : Fin 16) (s : State) : Host.Outcome State Fault Refusal :=
  let p := pwinPage q
  if !bit (s.rd p 0x108) 30 then .next s
  else
    let b := s.rdFld p 0x100 0 1
    let s := ((s.postBoth p 0x100 (BitVec.ofNat 32 (1 - b))).postBit p 0x108 30 false).raiseBit p 0
    .next ((s.postBit p 0x108 31 false).winIdle q)

end Sys2Proof.Machine
end

