-- ==== Sys2Proof/Machine/AplIn.lean ====
section
/-! DEFINITION. What the peer link receives (R100, R103, R105, R109): whole frames, DATA frames and the memory requests in
them, with the TDI errors that a peer-window request can cause (R296). -/
namespace Sys2Proof.Machine

/-- A TDI that a peer-window request names enters ERROR. -/
def peerTdiError (e f : Nat) (s : State) : State := s.tdiError e f

/-- APL_FRAME_RECEIVE: the bytes between delimiter and end of an APL frame on the wire; one malformed under R100 is
discarded with a NAK. -/
def execAplFrameReceive (q : Fin 16) (delim : Byte) (b : List Byte) (s : State) : Host.Outcome State Fault Refusal :=
  .next (if s.aplLive q then s.aplReceive peerTdiError q delim b else s)

/-- DATA: a DATA frame with a good LCRC; a body malformed for its class is discarded with a NAK (R100, R109). -/
def execData (q : Fin 16) (seq : BitVec 12) (cls : Fin 8) (body : List Byte) (s : State) :
    Host.Outcome State Fault Refusal :=
  .next (
    if !s.aplLive q then s
    else if decide (cls.val ≤ 4) && aplBodyOk cls body then s.aplData peerTdiError q seq.toNat cls body
    else (s.count (aplPage q) 0x02 1).aplNak q)

/-- MWR: an inbound memory write, accepted in order (R103, R297). -/
def execMwr (q : Fin 16) (addr : BitVec 64) (data : List Byte) (s : State) : Host.Outcome State Fault Refusal :=
  .next (if s.aplLive q && s.aplSt q == 2 then s.aplMwr peerTdiError q addr.toNat data else s)

/-- MRD: an inbound memory read, accepted in order (R105, R297). -/
def execMrd (q : Fin 16) (tag : BitVec 10) (addr : BitVec 64) (len : BitVec 13) (s : State) :
    Host.Outcome State Fault Refusal :=
  .next (if s.aplLive q && s.aplSt q == 2 then s.aplMrd peerTdiError q tag.toNat addr.toNat len.toNat else s)

end Sys2Proof.Machine
end

