-- ==== Sys2Proof/Machine/Access.lean ====
section
/-! DEFINITION. Register accesses whose effect the common header, the locks and the access types alone give
(R31–R48): what every page shares. -/
namespace Sys2Proof.Machine

/-- A write of PAGE_CTL: the policy takes effect at acceptance; a change of ENABLE and SOFT_RESET = 1 go through the
ferry (R39, R43). -/
def State.pageCtl (s : State) (mid : Mid) (p : PageKey) (v : Reg) : State :=
  s.accessWrite mid p 0x008 fun s =>
    let old := s.rd p 0x008
    let s := ((s.stamp p).land p 0x008 v).applyPolicy p
    let ferried := bit v 1 || bit v 0 != bit old 0
    let act := fun (s : State) =>
      let s := if bit v 0 != bit old 0 then s.enabledNow p else s
      if bit v 1 then s.startSoftReset p else s
    if !ferried then (s.setFast p 0x008 (s.rd p 0x008)).applied p
    else if s.fastReady p then (act (s.setFast p 0x008 (s.rd p 0x008))).applied p
    else s.pend mid p 0x008 [s.rd p 0x008] [v]

/-- A write of INT_EN: enabling a raised bit raises the page's output (R45). -/
def State.intEn (s : State) (p : PageKey) (old : Reg) : State :=
  let raw := s.rd p 0x010
  if raw &&& old = 0 ∧ raw &&& s.rd p 0x014 ≠ 0 then s.irqOut p else s

/-- A write of a register of the common header (R39). -/
def State.hdrWrite (s : State) (mid : Mid) (p : PageKey) (off : Nat) (v : Reg) : State :=
  match off with
  | 0x008 => s.pageCtl mid p v
  | 0x010 => s.nowWrite mid p 0x010 v fun s => s.raiseInt p (s.levelBits p)
  | 0x014 => s.nowWrite mid p 0x014 v fun t => t.intEn p (s.rd p 0x014)
  | 0x01C => s.accessWrite mid p 0x01C fun s => ((s.stamp p).raiseInt p v).applied p
  | 0x02C => s.nowWrite mid p 0x02C v fun s => if bit v 8 then s.applyWakeNow p else s
  | 0x0E0 => s.nowWrite mid p 0x0E0 v fun s => if bit v 31 then s.drwStart mid p v else s
  | _ => s.nowWrite mid p off v id

/-- A write of a register that has no effect of its own beyond the value it takes. -/
def State.plainWrite (s : State) (mid : Mid) (p : PageKey) (off : Nat) (v : Reg) : State :=
  if off < 0x100 then s.hdrWrite mid p off v
  else if lockOff p = some off then s.accessWrite mid p off fun s => ((s.stamp p).lockWrite mid p off v).applied p
  else if lanternReg p off then s.nowWrite mid p off v id
  else s.ownWrite mid p off v id

/-- What an admitted read of a register returns, and what it does: a lock is acquired, an RC field cleared. -/
def State.plainRead (s : State) (mid : Mid) (p : PageKey) (off : Nat) : Reg × State :=
  if lockOff p = some off then s.lockRead mid p off
  else match regDesc p off with
    | none => (0, s)
    | some d => if d.rc = 0 then (s.peek p off, s) else s.rcRead p off

/-! ### Internal addresses (R30) -/

/-- The page that an internal address names; `none` outside the space of block pages. -/
def addrPage (a : Nat) : Option PageKey := if natField a 28 4 = 4 then some (a / 4096 % 2 ^ 20) else none

/-- Is the address in a cluster-memory or control-store window? -/
def addrWindow (a : Nat) : Bool := natField a 28 4 == 8 || natField a 28 4 == 0xC

end Sys2Proof.Machine
end

