-- ==== Sys2Proof/Machine/Arb.lean ====
section
/-! DEFINITION. Lottery arbiters and the ford (R258–R262, R269). The units of the shared resources are granted
and given back inside the steps that use them, so the requests of a draw are the command's operand. -/
namespace Sys2Proof.Machine

/-- The ARB page of a region. -/
def arbPage (r : Nat) : PageKey := regPage r 12

/-- An arbiter. -/
def State.arb (s : State) (r a : Nat) : Arb := tabGet {} s.arbs (r * 4 + a)

/-- Store an arbiter, and show its requesters in ARB_REQ. -/
def State.setArb (s : State) (r a : Nat) (x : Arb) : State :=
  ({ s with arbs := tabPut {} s.arbs (r * 4 + a) x }).post (arbPage r) (0x118 + 0x40 * a)
    (BitVec.ofNat 32 (x.reqs.foldl (fun n (q : ArbReq) => n ||| 2 ^ q.r) 0))

/-- The cycle of an arbiter's clock (R258). -/
def State.arbCycle (s : State) (a : Nat) : Nat := s.clk * (if a = 0 then 1600 else 1300) / 1000

/-- Requesters of an arbiter (R258). -/
def arbCount (a : Nat) : Nat := if a = 0 then 16 else if a = 1 then 13 else 10

/-- Tickets of a requester, in one ferry state (R260). -/
def State.tickets (s : State) (r a q : Nat) : Nat :=
  s.frFld (arbPage r) (0x100 + 0x40 * a + 4 * (q / 4)) (8 * (q % 4)) 8

/-- The page of the unit that a requester stands for (R258). -/
def arbUnit (r a q : Nat) : PageKey :=
  if a = 0 then
    if q < 4 then pipePage r q
    else if q < 6 then npgPage (r / 4 * 8 + r % 4 * 2 + (q - 4)) 0
    else if q = 6 then peerPage r 0
    else if q = 7 then epPage (r / 4 * 8 + r % 4 * 2) 0
    else cluPage (r * 8 + (q - 8)) 0
  else if a = 1 then
    if q < 4 then pipePage r q else if q = 4 then regPage r 0 else cluPage (r * 8 + (q - 5)) 0
  else if q < 8 then regPage r (4 + q) else if q = 8 then regPage r 0 else regPage r 3

/-- Is the requester in reset, or its domain dark (R260)? -/
def State.arbGone (s : State) (r a q : Nat) : Bool :=
  let p := arbUnit r a q
  s.inReset p || (match domainOf p with
    | none => false
    | some d => (s.dom d).st == .dark)

/-- The next state of the LFSR: x^32 + x^22 + x^2 + x + 1, shifting left (R259; DEDUCED, log entry 14). -/
def lfsrNext (v : BitVec 32) : BitVec 32 :=
  let b := (v.getLsbD 31 != v.getLsbD 21) != (v.getLsbD 1 != v.getLsbD 0)
  (v <<< 1) ||| (if b then 1 else 0)

/-- The first requester whose running sum of tickets exceeds the draw value (R259). -/
def drawWinner (v : Nat) : Nat → List (Nat × Nat) → Option Nat
  | _, [] => none
  | acc, (q, t) :: rest => if v < acc + t then some q else drawWinner v (acc + t) rest

/-- New requests join, masked requesters excepted. -/
def State.arbAsk (s : State) (r a : Nat) (ask : BitVec 16) : State :=
  let x := s.arb r a
  let news := (List.range (arbCount a)).filter fun q =>
    ask.getLsbD q && !bit (s.rd (arbPage r) (0x114 + 0x40 * a)) q && !x.reqs.any fun e => e.r == q
  s.setArb r a { x with reqs := x.reqs ++ news.map fun q => { r := q, since := s.arbCycle a } }

/-- The losses of a draw (R260, R261): WAITS saturates at 32 bits. -/
def State.arbLose (s : State) (r a : Nat) (won : Nat) (el : List Nat) : State :=
  let now := s.arbCycle a
  let x := s.arb r a
  let s := el.foldl (fun s q =>
    if q = won then s
    else s.setCtr (arbPage r) (64 * a + 4 * q + 1)
      (BitVec.ofNat 48 (satAdd (s.ctr (arbPage r) (64 * a + 4 * q + 1)).toNat 1 32))) s
  s.setArb r a { x with reqs := x.reqs.map fun e =>
    if e.r ≠ won ∧ el.contains e.r then
      { e with losses := e.losses + 1, off := some (now + 2 ^ min (e.losses + 1) 10) }
    else e }

/-- The grant of a draw (R260, R261): LONGEST_WAIT saturates at 32 bits. -/
def State.arbWin (s : State) (r a q : Nat) : State :=
  let x := s.arb r a
  let i := 64 * a + 4 * q
  let wait := match x.reqs.find? fun e => e.r == q with
    | none => 0
    | some e => min (s.arbCycle a - e.since) (2 ^ 32 - 1)
  let s := s.count (arbPage r) i 1
  let s := s.setCtr (arbPage r) (i + 2) (BitVec.ofNat 48 (max (s.ctr (arbPage r) (i + 2)).toNat wait))
  s.setArb r a { x with reqs := x.reqs.filter fun e => e.r != q }

/-- ARB_DRAW: the requesters in `ask` raise their requests, and the arbiter draws among the eligible ones while a
unit is free (R258–R261). -/
def execArbDraw (r : Fin 16) (a : Fin 3) (ask : BitVec 16) (s : State) : Host.Outcome State Fault Refusal :=
  let s := s.arbAsk r a ask
  let x := s.arb r a
  let el := (List.range (arbCount a)).filter fun q =>
    (x.reqs.any fun e => e.r == q && e.off.isNone) && s.tickets r a q != 0 && !s.arbGone r a q
  let ts := el.map fun q => (q, s.tickets r a q)
  let v := x.lfsr.toNat / 2 ^ 16 * (ts.map Prod.snd).sum / 2 ^ 16
  match drawWinner v 0 ts with
  | none => .next s
  | some q =>
    let s := s.setArb r a { x with lfsr := lfsrNext x.lfsr }
    .next ((s.arbLose r a q el).arbWin r a q)

/-- BACKOFF_EXPIRE: a losing requester is eligible again after 2^min(n,10) cycles (R260). -/
def execBackoffExpire (r : Fin 16) (a : Fin 3) (q : Fin 16) (s : State) : Host.Outcome State Fault Refusal :=
  let x := s.arb r a
  let now := s.arbCycle a
  .next (s.setArb r a { x with reqs := x.reqs.map fun e =>
    if e.r == q.val && (e.off.getD (now + 1) <= now) then { e with off := none } else e })

/-- FORD_GRANT: an express request gets the next free or preempted unit ahead of every draw, and is counted
(R262, R269). -/
def execFordGrant (r : Fin 16) (a : Fin 3) (s : State) : Host.Outcome State Fault Refusal :=
  .next (s.count (arbPage r) (0xC0 + a.val) 1)

/-- ARB_SEED: a write loads the LFSR; a seed of 0 is reserved (R259). -/
def execArbSeed (mid : Mid) (r : Fin 16) (a : Fin 3) (v : Reg) (s : State) : Host.Outcome State Fault Refusal :=
  .next (s.ownWrite mid (arbPage r) (0x110 + 0x40 * a.val) v fun s =>
    if v = 0 then s else s.setArb r a { s.arb r a with lfsr := v })

/-- ARB_MASK: requesters in reset or dark are masked by sideband, their requests withdrawn and losses forgotten
(R260). -/
def execArbMask (r : Fin 16) (a : Fin 3) (s : State) : Host.Outcome State Fault Refusal :=
  let gone := (List.range (arbCount a)).filter fun q => s.arbGone r a q
  let s := s.post (arbPage r) (0x114 + 0x40 * a.val) (BitVec.ofNat 32 (gone.foldl (fun n q => n + 2 ^ q) 0))
  let x := s.arb r a
  .next (s.setArb r a { x with reqs := x.reqs.filter fun e => !gone.contains e.r })

end Sys2Proof.Machine
end

