-- ==== Sys2Proof/Machine/Hq.lean ====
section
/-! DEFINITION. Holquasol words: their layout, what makes one illegal, and what each operation does to a thread
(R377, R384–R386, R414–R424, R435, R445). A row names the operation of a slot of the word at the thread's program
counter; the whole word is executed with it. -/
namespace Sys2Proof.Machine

/-! ### The word (R414, R417) -/

/-- One slot of a word. -/
structure Slot where
  op : Nat
  d : Nat
  s1 : Nat
  s2 : Nat
  i : Bool
  /-- bits below I: [39:0] of SLOT_A, [31:0] of SLOT_B -/
  low : Nat
  deriving DecidableEq, Repr

/-- A word by its fields. -/
structure HqWord where
  stop : Bool
  bar : Bool
  lv : Bool
  lease : Nat
  zero : Bool
  a : Slot
  b : Slot
  deriving DecidableEq, Repr

/-- The fields of a 128-bit word. -/
def hqWord (w : Nat) : HqWord :=
  { stop := w.testBit 127, bar := w.testBit 126, lv := w.testBit 125, lease := natField w 121 4, zero := !w.testBit 120
    a := { op := natField w 112 8, d := natField w 107 5, s1 := natField w 102 5, s2 := natField w 97 5
           i := w.testBit 96, low := natField w 56 40 }
    b := { op := natField w 48 8, d := natField w 43 5, s1 := natField w 38 5, s2 := natField w 33 5
           i := w.testBit 32, low := natField w 0 32 } }

/-- ALU and move opcodes. -/
def isAlu (op : Nat) : Bool := decide (op ≤ 0x11) || (decide (0x18 ≤ op) && decide (op ≤ 0x1B))
/-- Memory opcodes. -/
def isMem (op : Nat) : Bool := decide (0x20 ≤ op) && decide (op ≤ 0x29)
/-- Channel opcodes. -/
def isChan (op : Nat) : Bool := decide (0x30 ≤ op) && decide (op ≤ 0x34)
/-- Lantern opcodes. -/
def isLantern (op : Nat) : Bool := op == 0x38 || op == 0x39
/-- Branch opcodes. -/
def isBranch (op : Nat) : Bool := decide (0x40 ≤ op) && decide (op ≤ 0x49)

/-- The register that a slot writes. -/
def Slot.writes (x : Slot) : Option Nat :=
  if isAlu x.op then (if x.op = 0 then none else some x.d)
  else if decide (0x20 ≤ x.op) && decide (x.op ≤ 0x23) || x.op == 0x28 || x.op == 0x29 || x.op == 0x32 ||
      x.op == 0x33 || x.op == 0x34 || x.op == 0x38 || x.op == 0x47 then some x.d
  else none

/-- Does SLOT_A break its format (R417)? -/
def badA (x : Slot) : Bool :=
  if isAlu x.op then x.low / 2 ^ 32 != 0
  else if isMem x.op then x.i || x.low / 2 ^ 21 != 0
  else if isChan x.op then x.i || x.s2 != 0 || x.low / 2 ^ 6 != 0
  else if isLantern x.op then x.i || x.s2 != 0 || x.low != 0
  else if isBranch x.op then x.i || x.low / 2 ^ 16 != 0
  else true

/-- Is the word illegal (R415)? -/
def HqWord.illegal (w : HqWord) : Bool :=
  !w.zero || (!w.lv && w.lease != 0) || badA w.a || !isAlu w.b.op ||
  (match w.a.writes, w.b.writes with
   | some d, some e => d == e || ((w.a.op == 0x32 || w.a.op == 0x33 || w.a.op == 0x34) && decide (d ≤ e) && decide (e ≤ d + 7))
   | _, _ => false) ||
  (w.a.op == 0x1B && decide (5 ≤ w.a.s1)) || (w.b.op == 0x1B && decide (5 ≤ w.b.s1))

/-! ### Arithmetic (R418): a conversion to a number, the exact result, and 64 bits of it -/

/-- Reverse the 8 bytes of a word. -/
def bswap (a : Word) : Word := BitVec.ofNat 64 (leNat (leBytes 8 a.toNat).reverse)
/-- Number of 1 bits. -/
def popc (a : Word) : Nat := ((List.range 64).filter fun i => a.getLsbD i).length
/-- Number of leading zero bits. -/
def clz (a : Word) : Nat := 64 - (if a = 0 then 0 else Nat.log2 a.toNat + 1)
/-- 1 or 0. -/
def flagW (b : Bool) : Word := if b then 1 else 0

/-- The result of an ALU operation on gS1 and op2; `none` for NOP. -/
def alu (op : Nat) (a b : Word) : Option Word :=
  match op with
  | 0x01 => some (a + b)
  | 0x02 => some (a - b)
  | 0x03 => some (a &&& b)
  | 0x04 => some (a ||| b)
  | 0x05 => some (a ^^^ b)
  | 0x06 => some (a <<< (b.toNat % 64))
  | 0x07 => some (a >>> (b.toNat % 64))
  | 0x08 => some (a.sshiftRight (b.toNat % 64))
  | 0x09 => some (flagW (a == b))
  | 0x0A => some (flagW (decide (a.toNat < b.toNat)))
  | 0x0B => some (flagW (decide (a.toInt < b.toInt)))
  | 0x0C => some (a * b)
  | 0x0D => some (BitVec.ofNat 64 (a.toNat * b.toNat / 2 ^ 64))
  | 0x0E => some (bswap a)
  | 0x0F => some (BitVec.ofNat 64 (a.toNat / 2 ^ natField b.toNat 6 6 % 2 ^ (natField b.toNat 0 6 + 1)))
  | 0x10 => some (BitVec.ofNat 64 (popc a))
  | 0x11 => some (BitVec.ofNat 64 (clz a))
  | _ => none

/-- A 32-bit immediate, sign-extended. -/
def imm64 (v : Nat) : Word := (BitVec.ofNat 32 v).signExtend 64

/-- A register of a thread. -/
def Thread.reg (x : Thread) (n : Nat) : Word := x.g.getD n 0
/-- A thread with a register written. -/
def Thread.put (x : Thread) (n : Nat) (v : Word) : Thread := { x with g := x.g.set n v }
/-- op2 of a slot. -/
def Thread.op2 (x : Thread) (q : Slot) : Word := if q.i then imm64 (q.low % 2 ^ 32) else x.reg q.s2

/-- LSE_BUDGET of a lease. -/
def State.budget (s : State) (c l : Nat) : Nat := s.rdFld (leasePage c) (leaseOff l + 0x14) 0 24

/-- A special register (R419). -/
def State.special (s : State) (c i : Nat) (x : Thread) (n : Nat) : Word :=
  let l := s.thrLease c i
  match n with
  | 0 => x.chs
  | 1 => (thrMid c i).setWidth 64
  | 2 =>
    (match l with
     | none => 0
     | some l => BitVec.ofNat 64 (16 + l))
  | 3 => s.ptime
  | _ =>
    match l with
    | none => BitVec.allOnes 64
    | some l => BitVec.ofNat 64 (s.budget c l - x.cycles)

/-- What an ALU or move slot writes, its sources as thread `x` holds them. -/
def State.aluWrite (s : State) (c i : Nat) (x : Thread) (q : Slot) : Option Word :=
  match q.op with
  | 0x18 => some (x.op2 q)
  | 0x19 => some (BitVec.ofNat 64 ((x.op2 q).toNat % 2 ^ 32 * 2 ^ 32 + (x.reg q.d).toNat % 2 ^ 32))
  | 0x1A => if x.reg q.s1 = 0 then none else some (x.op2 q)
  | 0x1B => some (s.special c i x q.s1)
  | op => alu op (x.reg q.s1) (x.op2 q)

/-- A thread after an optional register write. -/
def Thread.putOpt (x : Thread) (n : Nat) : Option Word → Thread
  | none => x
  | some v => x.put n v

/-- Does a conditional branch take? -/
def takes (op : Nat) (a b : Word) : Bool :=
  match op with
  | 0x41 => a == b
  | 0x42 => a != b
  | 0x43 => decide (a.toNat < b.toNat)
  | 0x44 => decide (b.toNat ≤ a.toNat)
  | 0x45 => decide (a.toInt < b.toInt)
  | 0x46 => decide (b.toInt ≤ a.toInt)
  | _ => true

/-- Cycles of a slot, with no wait (R418). -/
def slotCycles (x : Thread) (q : Slot) : Nat :=
  match q.op with
  | 0x0C | 0x0D => 3
  | 0x20 | 0x21 | 0x22 | 0x23 => 4
  | 0x28 | 0x29 => 6
  | 0x32 | 0x34 | 0x40 | 0x47 | 0x48 => 2
  | 0x38 => 20
  | 0x41 | 0x42 | 0x43 | 0x44 | 0x45 | 0x46 => if takes q.op (x.reg q.s1) (x.reg q.s2) then 2 else 1
  | _ => 1

/-- A program counter plus a signed 16-bit displacement, mod 2^15. -/
def pcAdd (pc disp : Nat) : Nat := (pc + (disp % 2 ^ 15)) % 2 ^ 15

/-! ### Fetch (R416, R435, R445) -/

/-- The word at an address of a control store. -/
def State.csWord (s : State) (c w : Nat) : Nat := leNat (s.bytes (csBase c + 16 * w) 16)

/-- Would the thread's count exceed its budget with one cycle more (R435)? -/
def State.overBudget (s : State) (c i : Nat) : Bool :=
  match s.thrLease c i with
  | none => false
  | some l => decide (s.budget c l < (s.thr c i).cycles + 1)

/-- The fault with which the fetch of a word ends, in the order of the checks: range, parity, lease, budget, legality. -/
def State.fetchFault (s : State) (c i pc : Nat) (w : HqWord) : Option Nat :=
  let l := s.thrLease c i
  let inside := match l with
    | none => decide (pc < 0x4000)
    | some l =>
      let first := 0x4000 + 64 * s.rdFld (leasePage c) (leaseOff l + 4) 0 8
      decide (first ≤ pc) && decide (pc < first + 64 * (s.rdFld (leasePage c) (leaseOff l + 4) 8 8 + 1))
  let mine := match l with
    | none => !w.lv
    | some l => w.lv && w.lease == l
  if !inside then some 0x41
  else if s.csBad.contains (c * 32768 + pc) then some 0x4B
  else if !mine then some 0x42
  else if s.overBudget c i then some 0x48
  else if w.illegal then some 0x40
  else none

/-- A fetch ends with a fault; a parity error is also a machine check of the cluster (R445). -/
def State.fetchFails (s : State) (c i pc code : Nat) : State :=
  let s := if code = 0x4B then
      ((s.report (cluPage c 0) (cluPage c 0) 0x51 6 pc).count (leasePage c) 0x40 1).raiseBit (leasePage c) 3
    else s
  s.thrFault c i code pc

/-! ### Memory operations (R420) -/

/-- Bytes of a memory operation. -/
def memWidth (op : Nat) : Nat := if op < 0x28 then 2 ^ (op % 4) else 8

/-- The address of a memory operation. -/
def memAddr (x : Thread) (q : Slot) : Nat := (x.reg q.s1 + (BitVec.ofNat 21 q.low).signExtend 64).toNat

/-- The fault of a memory operation at an address (R420, R433). -/
def State.memFault (s : State) (c i op a : Nat) : Option Nat :=
  let n := memWidth op
  let granted := match s.thrLease c i with
    | none => true
    | some l =>
      let v := s.rd (leasePage c) (leaseOff l + 0x10)
      decide (fld v 0 8 * 4096 ≤ a) && decide (a + n ≤ (fld v 0 8 + fld v 8 8 + 1) * 4096)
  if a % n ≠ 0 then some 0x43
  else if 2 ^ 20 ≤ a ∨ !granted then some 0x44
  else none

/-- A load, store or atomic operation on cluster memory with the values of gD and gS2: what gD becomes, and the state. -/
def State.memOp (s : State) (c op a : Nat) (gd gs2 : Word) : Option Word × State :=
  let n := memWidth op
  let p := cmemBase c + a
  let old : Word := BitVec.ofNat 64 (leNat (s.bytes p n))
  if op < 0x24 then (some old, s)
  else if op < 0x28 then (none, s.setBytes p (leBytes n gd.toNat))
  else if op = 0x28 then (some old, if old = gd then s.setBytes p (leBytes 8 gs2.toNat) else s)
  else (some old, s.setBytes p (leBytes 8 (old + gs2).toNat))

/-! ### Lantern operations (R422) -/

/-- May the thread reach the register at an internal address, and which? -/
def State.lanternAdmits (s : State) (mid : Mid) (a : Nat) : Bool :=
  match addrPage a with
  | none => false
  | some p => s.classAdmits mid p (a % 4096)

/-- Is the access refused with a fault: a lease thread outside the check channels of its lease? -/
def State.lanternFault (s : State) (c i a : Nat) : Bool :=
  (s.thrLease c i).isSome && !s.lanternAdmits (thrMid c i) a

/-- A refused or unmapped access: counted. -/
def State.lanternRefuse (s : State) (mid : Mid) (c a : Nat) : State :=
  match addrPage a with
  | none => if addrWindow a then s.refuseClass mid (cluPage c 0) else s.bumpReg lbusPage 0x100 0 32
  | some p => if (pageType p).isNone then s.bumpReg lbusPage 0x100 0 32 else s.refuseClass mid p

/-- LDP: the value and the state after the read. -/
def State.lanternLoad (s : State) (c i a : Nat) : Reg × State :=
  let mid := thrMid c i
  if a % 4 ≠ 0 then (0, s.bumpReg lbusPage 0x104 0 32)
  else if s.lanternAdmits mid a then s.plainRead mid (a / 4096) (a % 4096)
  else (0, s.lanternRefuse mid c a)

/-- STP. -/
def State.lanternStore (s : State) (c i a : Nat) (v : Reg) : State :=
  let mid := thrMid c i
  if a % 4 ≠ 0 then s.bumpReg lbusPage 0x104 0 32
  else if s.lanternAdmits mid a then s.plainWrite mid (a / 4096) (a % 4096) v
  else s.lanternRefuse mid c a

/-! ### Channel operations (R384–R390, R421) -/

/-- The fault of a channel operation (R384, R386, R389, R390, R421). A lease's threads use the channels that are
bound to it. -/
def State.chanFault (s : State) (c i op n : Nat) (x : Thread) : Option Nat :=
  let k := s.kind c n
  let lease := s.thrLease c i
  let local_ := k == 1 && !bit (s.bind c n) 26
  let staged := x.stagedFor n
  if lease.isSome && s.chanLease c n != lease then some 0x46
  else if op = 0x30 then
    if k = 0 ∨ local_ ∨ 8 ≤ staged.length ∨ (staged = [] ∧ 4 ≤ x.staged.length) then some 0x45 else none
  else if op = 0x31 then
    if k = 0 ∨ (local_ ∧ staged ≠ []) then some 0x45 else none
  else if op = 0x32 then
    if k = 0 ∨ k = 8 then some 0x45 else none
  else if op = 0x34 then
    if k < 2 ∨ 7 < k then some 0x45 else none
  else none

/-- CHC, or the first half of a UCALL: commit now, or wait for room; a remote commit waits for its delivery. -/
def State.commitStart (s : State) (c i n : Nat) (ucall : Option Nat) : State :=
  let x := s.thr c i
  let ws := x.stagedFor n
  if ws = [] then
    match ucall with
    | none => s.endWord c i
    | some d => s.waitRead c i n d
  else
    let wait := fun (s : State) => s.setThr c i { x with st := 3, wait := .commit n ucall, since := s.clk }
    if s.kind c n = 8 then wait s
    else if (s.chan c n).writers = [] ∧ s.commitRoom c n ws then
      ((s.commit c n (thrMid c i) ws (s.thrLease c i)).committed c i n ucall).pump c n
    else
      let s := (wait s).chanCount c n 2 1
      s.setChan c n { s.chan c n with writers := (s.chan c n).writers ++ [i] }

/-- CHR: take the head message, or wait at the back of the readers. -/
def State.readStart (s : State) (c i n d : Nat) : State :=
  match (s.chan c n).fifo, (s.chan c n).readers with
  | m :: ms, [] => (((s.setChan c n { s.chan c n with fifo := ms }).chanCount c n 1 1).takeMsg c i d m).pump c n
  | _, _ => s.waitRead c i n d

/-! ### One word (R415, R418, R435) -/

/-- A thread as its word begins: SLOT_B done, unless the word is issued again after a halt. -/
def State.begin (s : State) (c i : Nat) (w : HqWord) (x : Thread) : Thread :=
  let cost := max (slotCycles x w.a) (slotCycles x w.b)
  let y := if x.begun then x
    else { x.putOpt w.b.d (s.aluWrite c i x w.b) with cycles := x.cycles + cost }
  { y with next := (x.pc + 1) % 2 ^ 15, stop := w.stop, bar := w.bar, since := s.clk }

/-- Words issued are counted by thread and by lease (R410, R448). -/
def State.issued (s : State) (c i : Nat) (again : Bool) : State :=
  if again then s
  else
    let s := s.count (fcorePage c i) (4 * (i % 8)) 1
    match s.thrLease c i with
    | none => s
    | some l => s.count (leasePage c) (4 * l) 1

/-- Run a legal word of a thread in RUN. `ecc` says that its load meets an uncorrectable error. -/
def State.runWord (s : State) (c i : Nat) (w : HqWord) (ecc : Bool) : State :=
  let x := s.thr c i
  let q := w.a
  let y := s.begin c i w x
  let s := s.issued c i x.begun
  let done := fun (s : State) (y : Thread) => (s.setThr c i y).endWord c i
  if isAlu q.op then done s (y.putOpt q.d (s.aluWrite c i x q))
  else if isMem q.op then
    let a := memAddr x q
    match s.memFault c i q.op a with
    | some f => s.thrFault c i f x.pc
    | none =>
      if ecc ∧ q.op < 0x24 then s.thrFault c i 0x4A x.pc
      else
        let r := s.memOp c q.op a (x.reg q.d) (x.reg q.s2)
        done r.2 (y.putOpt q.d r.1)
  else if isChan q.op then
    let n := q.low % 64
    match s.chanFault c i q.op n x with
    | some f => s.thrFault c i f x.pc
    | none =>
      if q.op = 0x30 then done s { y with staged := tabInsert (tabErase y.staged n) n (y.stagedFor n ++ [x.reg q.s1]) }
      else if q.op = 0x31 then (s.setThr c i y).commitStart c i n none
      else if q.op = 0x32 ∨ (q.op = 0x34 ∧ x.ucalled) then (s.setThr c i y).readStart c i n q.d
      else if q.op = 0x33 then done s (y.put q.d (BitVec.ofNat 64 (s.chan c n).fifo.length))
      else (s.setThr c i y).commitStart c i n (some q.d)
  else if isLantern q.op then
    let a := (x.reg q.s1).toNat % 2 ^ 32
    if s.lanternFault c i a then (s.lanternRefuse (thrMid c i) c a).thrFault c i 0x47 x.pc
    else if q.op = 0x38 then
      let r := s.lanternLoad c i a
      done r.2 (y.put q.d (r.1.setWidth 64))
    else done (s.lanternStore c i a ((x.reg q.d).setWidth 32)) y
  else if q.op = 0x49 then s.thrFault c i 0x49 (q.low % 2 ^ 16)
  else if q.op = 0x48 then done s { y with next := (x.reg q.s1).toNat % 2 ^ 15 }
  else if q.op = 0x47 then done s { y.put q.d (BitVec.ofNat 64 (x.pc + 1)) with next := pcAdd x.pc q.low }
  else if takes q.op (x.reg q.s1) (x.reg q.s2) then done s { y with next := pcAdd x.pc q.low }
  else done s y

/-- May the thread issue: in RUN, its cluster lit, unfenced and not in reset? -/
def State.mayIssue (s : State) (c i : Nat) : Bool :=
  (s.thr c i).st == 1 && s.thrExists i && s.cluReady c && !s.isFenced (cluPage c 0) && !s.isFenced (fcorePage c i) && !s.inReset (fcorePage c i)

/-- One word of a thread, for a row of opcode `op`: nothing happens while the word holds no such slot. -/
def State.hq (s : State) (c i op : Nat) (ecc : Bool) : State :=
  if !s.mayIssue c i then s
  else
    let pc := (s.thr c i).pc
    let w := hqWord (s.csWord c pc)
    match s.fetchFault c i pc w with
    | some f => s.fetchFails c i pc f
    | none => if w.a.op = op ∨ w.b.op = op then s.runWord c i w ecc else s

/-! ### Starting and disabling threads (R377, R379, R427, R430) -/

/-- After a change of its threads, an enabled lease is RUN while one of them is not DISABLED, else LOADED (R430). -/
def State.leaseAfter (s : State) (c l : Nat) : State :=
  let st := s.rdFld (leasePage c) (leaseOff l) 26 2
  if st = 1 ∨ st = 2 then
    s.postFld (leasePage c) (leaseOff l) 26 2
      (if (s.leaseThreads c l).any fun i => (s.thr c i).st != 0 then 2 else 1)
  else s

/-- What fast logic does with a write of FCORE_THR_CTL: a change of EN starts the thread or disables it. A thread of a
stopped lease stays STOPPED. -/
def State.threadCtl (s : State) (c i : Nat) : State :=
  let x := s.thr c i
  let v := s.fr (fcorePage c i) (0x100 + 4 * (i % 8))
  let l := s.thrLease c i
  let after := fun (s : State) => match l with
    | none => s
    | some l => s.leaseAfter c l
  if !s.thrExists i then s
  else if bit v 31 then
    if x.on then s
    else if (match l with | none => false | some l => s.leaseStopped c l) then
      s.setThr c i { x with on := true, st := if x.st = 0 then 0 else 6 }
    else after (s.setThr c i { x with on := true, st := 1, pc := fld v 0 15, cycles := 0 })
  else
    let s := s.thrPark c i 0
    after (s.setThr c i { s.thr c i with on := false })

/-- The value a write of FCORE_THR_CTL may leave: START_PC stays while EN is 1, and with VLOCK 0 no vendor thread is
enabled (R377, R427). -/
def State.threadGate (s : State) (c i : Nat) (v : Reg) : Reg :=
  let old := s.rd (fcorePage c i) (0x100 + 4 * (i % 8))
  let v := if bit old 31 then setFld v 0 15 (fld old 0 15) else v
  if !s.thrExists i then old
  else if bit v 31 && !bit old 31 && (s.thrLease c i).isNone && !bit (s.rd (leasePage c) 0x100) 31 then old else v

/-- THREAD_ENABLE: a write of FCORE_THR_CTL (R377). -/
def execThreadEnable (mid : Mid) (c : Fin 128) (i : Fin 64) (v : Reg) (s : State) :
    Host.Outcome State Fault Refusal :=
  .next (s.ownWrite mid (fcorePage c i) (0x100 + 4 * (i % 8)) (s.threadGate c i v) fun s => s.threadCtl c i)

/-! ### The operations (R418–R422) -/

/-- Holquasol NOP does nothing. -/
def execHqNop (c : Fin 128) (i : Fin 64) (s : State) : Host.Outcome State Fault Refusal :=
  .next (s.hq c i 0x00 false)

/-- ADD writes gS1 plus op2. -/
def execAdd (c : Fin 128) (i : Fin 64) (s : State) : Host.Outcome State Fault Refusal :=
  .next (s.hq c i 0x01 false)

/-- SUB writes gS1 minus op2. -/
def execSub (c : Fin 128) (i : Fin 64) (s : State) : Host.Outcome State Fault Refusal :=
  .next (s.hq c i 0x02 false)

/-- AND writes the bitwise AND. -/
def execAnd (c : Fin 128) (i : Fin 64) (s : State) : Host.Outcome State Fault Refusal :=
  .next (s.hq c i 0x03 false)

/-- OR writes the bitwise OR. -/
def execOr (c : Fin 128) (i : Fin 64) (s : State) : Host.Outcome State Fault Refusal :=
  .next (s.hq c i 0x04 false)

/-- XOR writes the bitwise XOR. -/
def execXor (c : Fin 128) (i : Fin 64) (s : State) : Host.Outcome State Fault Refusal :=
  .next (s.hq c i 0x05 false)

/-- SHL shifts left. -/
def execShl (c : Fin 128) (i : Fin 64) (s : State) : Host.Outcome State Fault Refusal :=
  .next (s.hq c i 0x06 false)

/-- SHR shifts right logically. -/
def execShr (c : Fin 128) (i : Fin 64) (s : State) : Host.Outcome State Fault Refusal :=
  .next (s.hq c i 0x07 false)

/-- SAR shifts right arithmetically. -/
def execSar (c : Fin 128) (i : Fin 64) (s : State) : Host.Outcome State Fault Refusal :=
  .next (s.hq c i 0x08 false)

/-- CMPEQ tests equality. -/
def execCmpeq (c : Fin 128) (i : Fin 64) (s : State) : Host.Outcome State Fault Refusal :=
  .next (s.hq c i 0x09 false)

/-- CMPLTU tests unsigned less than. -/
def execCmpltu (c : Fin 128) (i : Fin 64) (s : State) : Host.Outcome State Fault Refusal :=
  .next (s.hq c i 0x0A false)

/-- CMPLT tests signed less than. -/
def execCmplt (c : Fin 128) (i : Fin 64) (s : State) : Host.Outcome State Fault Refusal :=
  .next (s.hq c i 0x0B false)

/-- MUL writes the low 64 bits of the product. -/
def execMul (c : Fin 128) (i : Fin 64) (s : State) : Host.Outcome State Fault Refusal :=
  .next (s.hq c i 0x0C false)

/-- MULHU writes the high 64 bits of the unsigned product. -/
def execMulhu (c : Fin 128) (i : Fin 64) (s : State) : Host.Outcome State Fault Refusal :=
  .next (s.hq c i 0x0D false)

/-- BSWAP reverses the bytes. -/
def execBswap (c : Fin 128) (i : Fin 64) (s : State) : Host.Outcome State Fault Refusal :=
  .next (s.hq c i 0x0E false)

/-- EXTR extracts a bit field. -/
def execExtr (c : Fin 128) (i : Fin 64) (s : State) : Host.Outcome State Fault Refusal :=
  .next (s.hq c i 0x0F false)

/-- POPC counts one bits. -/
def execPopc (c : Fin 128) (i : Fin 64) (s : State) : Host.Outcome State Fault Refusal :=
  .next (s.hq c i 0x10 false)

/-- CLZ counts leading zero bits. -/
def execClz (c : Fin 128) (i : Fin 64) (s : State) : Host.Outcome State Fault Refusal :=
  .next (s.hq c i 0x11 false)

/-- MOV writes op2. -/
def execMov (c : Fin 128) (i : Fin 64) (s : State) : Host.Outcome State Fault Refusal :=
  .next (s.hq c i 0x18 false)

/-- MOVH writes the upper 32 bits. -/
def execMovh (c : Fin 128) (i : Fin 64) (s : State) : Host.Outcome State Fault Refusal :=
  .next (s.hq c i 0x19 false)

/-- CMOV writes op2 if gS1 is non-zero. -/
def execCmov (c : Fin 128) (i : Fin 64) (s : State) : Host.Outcome State Fault Refusal :=
  .next (s.hq c i 0x1A false)

/-- MFS reads a special register. -/
def execMfs (c : Fin 128) (i : Fin 64) (s : State) : Host.Outcome State Fault Refusal :=
  .next (s.hq c i 0x1B false)

/-- LD1 loads one byte from cluster memory. `ecc` says that the load meets an uncorrectable error. -/
def execLd1 (c : Fin 128) (i : Fin 64) (ecc : Bool) (s : State) : Host.Outcome State Fault Refusal :=
  .next (s.hq c i 0x20 ecc)

/-- LD2 loads two bytes. `ecc` says that the load meets an uncorrectable error. -/
def execLd2 (c : Fin 128) (i : Fin 64) (ecc : Bool) (s : State) : Host.Outcome State Fault Refusal :=
  .next (s.hq c i 0x21 ecc)

/-- LD4 loads four bytes. `ecc` says that the load meets an uncorrectable error. -/
def execLd4 (c : Fin 128) (i : Fin 64) (ecc : Bool) (s : State) : Host.Outcome State Fault Refusal :=
  .next (s.hq c i 0x22 ecc)

/-- LD8 loads eight bytes. `ecc` says that the load meets an uncorrectable error. -/
def execLd8 (c : Fin 128) (i : Fin 64) (ecc : Bool) (s : State) : Host.Outcome State Fault Refusal :=
  .next (s.hq c i 0x23 ecc)

/-- ST1 stores one byte. -/
def execSt1 (c : Fin 128) (i : Fin 64) (s : State) : Host.Outcome State Fault Refusal :=
  .next (s.hq c i 0x24 false)

/-- ST2 stores two bytes. -/
def execSt2 (c : Fin 128) (i : Fin 64) (s : State) : Host.Outcome State Fault Refusal :=
  .next (s.hq c i 0x25 false)

/-- ST4 stores four bytes. -/
def execSt4 (c : Fin 128) (i : Fin 64) (s : State) : Host.Outcome State Fault Refusal :=
  .next (s.hq c i 0x26 false)

/-- ST8 stores eight bytes. -/
def execSt8 (c : Fin 128) (i : Fin 64) (s : State) : Host.Outcome State Fault Refusal :=
  .next (s.hq c i 0x27 false)

/-- CAS8 compares and swaps a 64-bit word atomically. -/
def execCas8 (c : Fin 128) (i : Fin 64) (s : State) : Host.Outcome State Fault Refusal :=
  .next (s.hq c i 0x28 false)

/-- FADD8 fetches and adds a 64-bit word atomically. -/
def execFadd8 (c : Fin 128) (i : Fin 64) (s : State) : Host.Outcome State Fault Refusal :=
  .next (s.hq c i 0x29 false)

/-- CHW stages a word of a channel message. -/
def execChw (c : Fin 128) (i : Fin 64) (s : State) : Host.Outcome State Fault Refusal :=
  .next (s.hq c i 0x30 false)

/-- CHC commits the staged message whole, or blocks for room. -/
def execChc (c : Fin 128) (i : Fin 64) (s : State) : Host.Outcome State Fault Refusal :=
  .next (s.hq c i 0x31 false)

/-- CHR takes the head message of a channel, or blocks until one arrives. -/
def execChr (c : Fin 128) (i : Fin 64) (s : State) : Host.Outcome State Fault Refusal :=
  .next (s.hq c i 0x32 false)

/-- CHP returns the number of waiting messages. -/
def execChp (c : Fin 128) (i : Fin 64) (s : State) : Host.Outcome State Fault Refusal :=
  .next (s.hq c i 0x33 false)

/-- UCALL commits a unit request and reads its reply in one word. -/
def execUcall (c : Fin 128) (i : Fin 64) (s : State) : Host.Outcome State Fault Refusal :=
  .next (s.hq c i 0x34 false)

/-- LDP reads a register page over the lantern bus. -/
def execLdp (c : Fin 128) (i : Fin 64) (s : State) : Host.Outcome State Fault Refusal :=
  .next (s.hq c i 0x38 false)

/-- STP writes a register page over the lantern bus. -/
def execStp (c : Fin 128) (i : Fin 64) (s : State) : Host.Outcome State Fault Refusal :=
  .next (s.hq c i 0x39 false)

/-- BR branches by DISP. -/
def execBr (c : Fin 128) (i : Fin 64) (s : State) : Host.Outcome State Fault Refusal :=
  .next (s.hq c i 0x40 false)

/-- BEQ branches if equal. -/
def execBeq (c : Fin 128) (i : Fin 64) (s : State) : Host.Outcome State Fault Refusal :=
  .next (s.hq c i 0x41 false)

/-- BNE branches if not equal. -/
def execBne (c : Fin 128) (i : Fin 64) (s : State) : Host.Outcome State Fault Refusal :=
  .next (s.hq c i 0x42 false)

/-- BLTU branches if unsigned less. -/
def execBltu (c : Fin 128) (i : Fin 64) (s : State) : Host.Outcome State Fault Refusal :=
  .next (s.hq c i 0x43 false)

/-- BGEU branches if unsigned greater or equal. -/
def execBgeu (c : Fin 128) (i : Fin 64) (s : State) : Host.Outcome State Fault Refusal :=
  .next (s.hq c i 0x44 false)

/-- BLT branches if signed less. -/
def execBlt (c : Fin 128) (i : Fin 64) (s : State) : Host.Outcome State Fault Refusal :=
  .next (s.hq c i 0x45 false)

/-- BGE branches if signed greater or equal. -/
def execBge (c : Fin 128) (i : Fin 64) (s : State) : Host.Outcome State Fault Refusal :=
  .next (s.hq c i 0x46 false)

/-- CALL links and branches. -/
def execCall (c : Fin 128) (i : Fin 64) (s : State) : Host.Outcome State Fault Refusal :=
  .next (s.hq c i 0x47 false)

/-- JR jumps to a register address. -/
def execJr (c : Fin 128) (i : Fin 64) (s : State) : Host.Outcome State Fault Refusal :=
  .next (s.hq c i 0x48 false)

/-- TRAP faults the thread with a code. -/
def execTrap (c : Fin 128) (i : Fin 64) (s : State) : Host.Outcome State Fault Refusal :=
  .next (s.hq c i 0x49 false)

/-! ### Barriers and budgets (R423, R435) -/

/-- BARRIER_WORD_DONE: every earlier write of the thread is applied; the word ends (R23, R423). -/
def execBarrierWordDone (c : Fin 128) (i : Fin 64) (s : State) : Host.Outcome State Fault Refusal :=
  let x := s.thr c i
  let m := thrMid c i
  .next (if x.wait ≠ .barrier ∨ x.st ≠ 4 ∨ s.ferry.any (fun w => w.mid == m) then s
    else
      let s := { s with barriers := s.barriers.erase m }
      (s.setThr c i { x with bar := false, wait := .none }).endWord c i)

/-- BUDGET: a lease thread whose count would exceed its budget faults before its next word (R435). -/
def execBudget (c : Fin 128) (i : Fin 64) (s : State) : Host.Outcome State Fault Refusal :=
  .next (if s.mayIssue c i && s.overBudget c i then s.thrFault c i 0x48 (s.thr c i).pc else s)

end Sys2Proof.Machine
end

