-- ==== Sys2Proof/Machine/TblCmd.lean ====
section
/-! DEFINITION. Table commands: their execution, the table port of a region and the command ring of a TBL page
(R160–R167, R433, R434). -/
namespace Sys2Proof.Machine

/-! ### Executing a command (R160–R163) -/

/-- Who issues a table command. -/
structure TblMaster where
  mid : Mid
  /-- the cluster and the lease of a lease's thread -/
  lease : Option (Nat × Nat) := none
  /-- a table port, as against a command ring -/
  port : Bool := true

/-- Does the issuer hold the owning region's TBL_LOCK? -/
def State.holdsTbl (s : State) (m : Mid) (t : Nat) : Bool :=
  let pk := s.rd (tblPage t) 0x104
  fld pk 30 2 == 1 && fld pk 0 16 == m.toNat

/-- Remove every LEARNED entry of a table; only DELETE removes a PINNED one (R147). -/
def State.flushFuel (s : State) (t : Nat) : Nat → State
  | 0 => s
  | k + 1 =>
    match (s.placesOf t).find? fun pl => (s.entAt t pl).valid && (s.entAt t pl).learned && !(s.entAt t pl).pinned with
    | none => s
    | some pl => (((s.nextGen t).2.tblRemove t pl).count (tblPage t) (16 * (t % 8) + 6) 1).flushFuel t k

/-- FLUSH_LEARNED. -/
def State.flushLearned (s : State) (t : Nat) : State := s.flushFuel t (s.placesOf t).length

/-- ECTL bits of written FLAGS. -/
def ectlFlags (f : Nat) : Nat := (if f.testBit 0 then 2 ^ 28 else 0) + (if f.testBit 1 then 2 ^ 27 else 0)

/-- FLAGS that READ returns. -/
def readFlags (e : TEnt) : Nat :=
  let b := fun (i : Nat) => if bit e.ectl i then 1 else 0
  b 28 + 2 * b 27 + 4 * b 26 + 8 * b 25 + 16 * b 30

/-- LSE_TBL_USED changes by an insertion or a DELETE of a lease (R434). -/
def State.tblUsed (s : State) (m : TblMaster) (add : Bool) : State :=
  match m.lease with
  | none => s
  | some (c, l) =>
    let p := leasePage c
    let o := leaseOff l + 0x20
    let n := s.rdFld p o 0 27
    s.postBoth p o (BitVec.ofNat 32 (if add then n + 1 else n - 1))

/-- Would an insertion exceed the lease's quota? -/
def State.overQuota (s : State) (m : TblMaster) : Bool :=
  match m.lease with
  | none => false
  | some (c, l) => decide (fld (s.fr (leasePage c) (leaseOff l + 0x1C)) 0 27 <
      s.rdFld (leasePage c) (leaseOff l + 0x20) 0 27 + 1)

/-- Insert an absent key for an issuer, within its quota. -/
def State.insertFor (s : State) (m : TblMaster) (t : Nat) (key : List Byte) (res : Reg) (data : Word) (fl : Nat) :
    Nat × Nat × State :=
  if s.overQuota m then
    match m.lease with
    | none => (9, 0, s)
    | some (c, l) => (9, 0, s.count (leasePage c) (4 * l + 3) 1)
  else
    let x := s.tblInsert t key res data fl
    if x.1 = 0 then (x.1, x.2.1, x.2.2.tblUsed m true) else x

/-- A mutation: STATUS, GEN and the state after it. -/
def State.tblMutate (s : State) (m : TblMaster) (t op : Nat) (key : List Byte) (res : Reg) (data : Word) (fl : Nat) :
    Nat × Nat × State :=
  let absent := s.findKey t key == []
  if op ≠ 4 ∧ fl.testBit 27 ∧ (s.geo t).far then (8, 0, s)
  else if op = 1 then (if absent then s.insertFor m t key res data fl else (1, 0, s))
  else if op = 2 then s.tblUpdate t key res data fl
  else if op = 3 then (if absent then s.insertFor m t key res data fl else s.tblUpdate t key res data fl)
  else
    let x := s.tblDelete t key
    if x.1 = 0 then (x.1, x.2.1, x.2.2.tblUsed m false) else x

/-- Does the issuer's lease lack the table (R433)? -/
def State.tblDenied (s : State) (m : TblMaster) (id : Nat) : Bool :=
  match m.lease with
  | none => false
  | some (c, l) => !bit (s.fr (leasePage c) (leaseOff l + 0x18)) id

/-- The reply to a command with STATUS and GEN. -/
def cmdReply (cmd : List Byte) (status gen : Nat) : List Byte :=
  overlay (overlay cmd 5 [BitVec.ofNat 8 status]) 60 (leBytes 3 gen)

/-- Execute a 64-byte command for an issuer at region `r`: the 64 bytes with the returned fields, and the state. -/
def State.tblExec (s : State) (r : Nat) (m : TblMaster) (cmd : List Byte) : List Byte × State :=
  let op := leAt cmd 0 1
  let id := leAt cmd 4 1
  let t := r / 4 * 32 + id % 32
  let p := tblPage t
  let bad := fun (st : Nat) => (overlay cmd 5 [BitVec.ofNat 8 st], s)
  let known := (decide (1 ≤ op) && decide (op ≤ 8)) || (m.port && (op == 0x10 || op == 0x11))
  let open_ := bit (s.fr p (descOff t)) 31
  if !known then bad 6
  else if s.tblDenied m (id % 32) then
    match m.lease with
    | none => bad 0x0A
    | some (c, l) => (overlay cmd 5 [0x0A], s.leaseRefuse c l 2 0x0A m.mid)
  else if 32 ≤ id ∨ (op ≠ 5 ∧ t / 8 ≠ r) then bad 5
  else if op = 0x10 then
    let x := s.lockRead m.mid p 0x100
    (overlay (overlay cmd 5 [0]) 8 (leBytes 4 x.1.toNat), x.2)
  else if op = 0x11 then (overlay cmd 5 [0], s.lockWrite m.mid p 0x100 (BitVec.ofNat 32 (leAt cmd 8 4)))
  else if op ≠ 5 ∧ !s.holdsTbl m.mid t then (overlay cmd 5 [4], s.count (regPage r 0) 0x82 1)
  else if !open_ then bad 5
  else
    let key := slice cmd 8 40
    let from_ := leAt cmd 60 3
    if op = 5 then
      match s.findKey t key with
      | [] => bad 2
      | pl :: _ =>
        let e := s.entAt t pl
        let c := overlay (cmdReply cmd 0 e.gen) 1 [BitVec.ofNat 8 (readFlags e)]
        (overlay c 48 (leBytes 4 e.result.toNat ++ leBytes 8 e.data.toNat), s)
    else if op = 6 ∨ op = 7 then
      if bit (s.rd p 0x124) 31 then bad 0x0B
      else if op = 7 ∧ 2 ^ 23 < (s.tblGen t + 2 ^ 24 - from_) % 2 ^ 24 then bad 7
      else (overlay cmd 5 [0], s.walkStart t from_ (op == 7))
    else if op = 8 then
      let s := s.flushLearned t
      (cmdReply cmd 0 (s.tblGen t), s)
    else
      let x := s.tblMutate m t op key (BitVec.ofNat 32 (leAt cmd 48 4)) (BitVec.ofNat 64 (leAt cmd 52 8))
        (ectlFlags (leAt cmd 1 1))
      if x.1 = 0 then (cmdReply cmd 0 x.2.1, x.2.2) else (overlay cmd 5 [BitVec.ofNat 8 x.1], x.2.2)

/-! ### The table port (R163, R391) -/

/-- Bytes of channel words (R382). -/
def wordBytes (ws : List Word) : List Byte := ws.flatMap fun w => leBytes 8 w.toNat
/-- Channel words of bytes. -/
def bytesWords (bs : List Byte) : List Word :=
  (List.range ((bs.length + 7) / 8)).map fun i => BitVec.ofNat 64 (leAt bs (8 * i) 8)

/-- The opcodes that have rows. -/
def tblOps : List Nat := [1, 2, 3, 4, 5, 6, 7, 8, 0x10, 0x11]

/-- The table port of the region of cluster `c` takes the oldest request of channel `n` if its opcode is `op`, or is
none of R161, or its length does not fit. -/
def State.tblPort (s : State) (c n op : Nat) : State :=
  match s.request c n with
  | none => s
  | some q =>
    let cmd := wordBytes q.words
    let o := leAt cmd 0 1
    if s.kind c n ≠ 3 then s
    else if q.words.length ≠ 8 then
      (s.dropRequest q).reply q (bytesWords (overlay (slice cmd 0 64) 5 [5])) false
    else if o ≠ op ∧ tblOps.contains o then s
    else
      let m : TblMaster := { mid := q.mid, lease := q.lease.map fun l => (c, l) }
      let x := (s.dropRequest q).tblExec (c / 8) m cmd
      x.2.reply q (bytesWords x.1) false

/-- INSERT at a table port (R154). -/
def execInsert (c : Fin 128) (n : Fin 64) (s : State) : Host.Outcome State Fault Refusal := .next (s.tblPort c n 1)
/-- UPDATE. -/
def execUpdate (c : Fin 128) (n : Fin 64) (s : State) : Host.Outcome State Fault Refusal := .next (s.tblPort c n 2)
/-- UPSERT. -/
def execUpsert (c : Fin 128) (n : Fin 64) (s : State) : Host.Outcome State Fault Refusal := .next (s.tblPort c n 3)
/-- DELETE. -/
def execDelete (c : Fin 128) (n : Fin 64) (s : State) : Host.Outcome State Fault Refusal := .next (s.tblPort c n 4)
/-- TBL_READ. -/
def execTblRead (c : Fin 128) (n : Fin 64) (s : State) : Host.Outcome State Fault Refusal := .next (s.tblPort c n 5)
/-- WALK_FULL (R175). -/
def execWalkFull (c : Fin 128) (n : Fin 64) (s : State) : Host.Outcome State Fault Refusal := .next (s.tblPort c n 6)
/-- WALK_DELTA (R177). -/
def execWalkDelta (c : Fin 128) (n : Fin 64) (s : State) : Host.Outcome State Fault Refusal := .next (s.tblPort c n 7)
/-- FLUSH_LEARNED. -/
def execFlushLearned (c : Fin 128) (n : Fin 64) (s : State) : Host.Outcome State Fault Refusal :=
  .next (s.tblPort c n 8)
/-- TBL_PORT_LOCK: LOCK (R163). -/
def execTblPortLock (c : Fin 128) (n : Fin 64) (s : State) : Host.Outcome State Fault Refusal :=
  .next (s.tblPort c n 0x10)
/-- TBL_PORT_UNLOCK: UNLOCK (R163). -/
def execTblPortUnlock (c : Fin 128) (n : Fin 64) (s : State) : Host.Outcome State Fault Refusal :=
  .next (s.tblPort c n 0x11)

/-! ### The command ring (R165–R167) -/

/-- CMD_OWNER. -/
def State.cmdOwner (s : State) (r : Nat) : Mid := BitVec.ofNat 16 (s.rdFld (regPage r 0) 0x118 16 16)
/-- Address of the entry at CONS. -/
def State.cmdAddr (s : State) (r : Nat) : Nat :=
  let p := regPage r 0
  s.fr64 p 0x110 / 64 * 64 + s.rdFld p 0x120 0 16 % 2 ^ s.frFld p 0x118 0 4 * 64

/-- Start the fetch of the entry at CONS, if the ring runs, holds one, and does not wait. -/
def State.cmdFetch (s : State) (r : Nat) : State :=
  let p := regPage r 0
  let x := s.tblR r
  let m := s.cmdOwner r
  if !bit (s.fr p 0x118) 15 || x.fetching || x.stall || s.frFld p 0x11C 0 16 == s.rdFld p 0x120 0 16 then s
  else
    let s := s.setTblR r { x with fetching := true }
    if midIsHost m then s.askHost (midEp m) (midFn m) (.tblCmd r) (s.cmdAddr r) 64 else s

/-- A write of a base register of the ring: ignored and counted while EN is 1; BASE_LO records its writer (R165,
R167). -/
def State.cmdBase (s : State) (mid : Mid) (r off : Nat) (v : Reg) : State :=
  let p := regPage r 0
  s.accessWrite mid p off fun s =>
    if bit (s.rd p 0x118) 15 then ((s.stamp p).count p 0x84 1).applied p
    else (if off = 0x110 then s.postFld p 0x118 16 16 mid.toNat else s).ferryWrite mid p off v id

/-- TBL_CMD_BASE_WRITE: a write of TBL_CMD_BASE_LO. -/
def execTblCmdBaseWrite (mid : Mid) (r : Fin 16) (v : Reg) (s : State) : Host.Outcome State Fault Refusal :=
  .next (s.cmdBase mid r 0x110 v)

/-- What fast logic does with a write of TBL_CMD_CFG. -/
def State.cmdCfg (s : State) (r : Nat) : State :=
  let p := regPage r 0
  if bit (s.fr p 0x118) 15 then (s.postBit p 0x120 31 true).cmdFetch r
  else
    let s := s.forget fun c => c == .tblCmd r
    (s.setTblR r { s.tblR r with fetching := false, stall := false, stallAt := none }).postBit p 0x120 31 false

/-- TBL_CMD_CFG_WRITE: EN changes only for CMD_OWNER or the OMC; LOG2_SIZE stays while EN is 1 (R167). -/
def execTblCmdCfgWrite (mid : Mid) (r : Fin 16) (v : Reg) (s : State) : Host.Outcome State Fault Refusal :=
  let p := regPage r 0
  .next (s.accessWrite mid p 0x118 fun s =>
    let en := bit (s.rd p 0x118) 15
    if bit v 15 != en && mid != s.cmdOwner r && !midIsOmc mid then ((s.stamp p).count p 0x84 1).applied p
    else
      let old := s.rdFld p 0x118 0 4
      let s := if en && fld v 0 4 != old then s.count p 0x84 1 else s
      s.ferryWrite mid p 0x118 (if en then setFld v 0 4 old else v) fun s => s.cmdCfg r)

/-- TBL_CMD_DB: a doorbell of CMD_OWNER; of any other master it is counted, and one that announces more than the size
is discarded (R165). -/
def execTblCmdDb (mid : Mid) (r : Fin 16) (v : Reg) (s : State) : Host.Outcome State Fault Refusal :=
  let p := regPage r 0
  .next (s.accessWrite mid p 0x11C fun s =>
    if mid != s.cmdOwner r then ((s.stamp p).count p 0x81 1).applied p
    else if 2 ^ s.rdFld p 0x118 0 4 < idxDiff (fld v 0 16) (s.rdFld p 0x120 0 16) then
      ((s.stamp p).postBit p 0x120 30 true).applied p
    else s.ferryWrite mid p 0x11C v fun s =>
      (s.setTblR r { s.tblR r with stall := false, stallAt := none }).cmdFetch r)

/-- The outcome of the fetch in progress, once there is one. -/
def State.cmdArrived (s : State) (r : Nat) : Option (Nat × List Byte) × State :=
  if midIsHost (s.cmdOwner r) then s.takeRead (.tblCmd r) 64
  else (some (0, s.bytes (omcMem + s.cmdAddr r) 64), s)

/-- TBL_CMD_FETCH: the entry at CONS arrives; with OWN it is executed and written back, else it is read again later. -/
def execTblCmdFetch (r : Fin 16) (s : State) : Host.Outcome State Fault Refusal :=
  let p := regPage r 0
  if !(s.tblR r).fetching || s.isFenced p then .next s
  else match s.cmdArrived r with
  | (none, s) => .next s
  | (some (st, cmd), s) =>
    let s := s.setTblR r { s.tblR r with fetching := false }
    if st ≠ 0 ∨ !(byteAt cmd 63).testBit 7 then
      .next (s.setTblR r { s.tblR r with stall := true, stallAt := some s.clk })
    else
      let a := s.cmdAddr r
      let m := s.cmdOwner r
      let x := s.tblExec r { mid := m, port := false } cmd
      let s := ((x.2.count p 0x80 1).midWrite m a (slice x.1 0 63)).midWrite m (a + 63) [0]
      .next (((s.postFld p 0x120 0 16 (idxAdd (s.rdFld p 0x120 0 16) 1)).raiseBit p 1).cmdFetch r)

/-- TBL_CMD_REFETCH: the entry is read again 1 µs after OWN = 0, or a fetch error, was found (R165). -/
def execTblCmdRefetch (r : Fin 16) (s : State) : Host.Outcome State Fault Refusal :=
  match (s.tblR r).stallAt with
  | none => .next s
  | some t => .next (if t + 1000 ≤ s.clk then
      (s.setTblR r { s.tblR r with stall := false, stallAt := none }).cmdFetch r else s)

end Sys2Proof.Machine
end

