-- ==== Sys2Proof/Machine/Units.lean ====
section
/-! DEFINITION. What the units behind channels do with the requests of threads: replies, remote commits and the inbound
queue, the memory port, the packet port, the check unit and the cipher lanes (R233, R385–R395, R405–R409). Each row
serves the oldest request of channel `n` of cluster `c`. -/
namespace Sys2Proof.Machine

/-! ### Replies and deliveries (R385, R391, R395) -/

/-- UNIT_REPLY: the oldest reply of a channel enters the slot reserved for it; one that goes nowhere any more is
discarded and counted. -/
def execUnitReply (c : Fin 128) (n : Fin 64) (s : State) : Host.Outcome State Fault Refusal :=
  match s.ureps.find? fun r => r.cluster == c.val && r.chan == n.val with
  | none => .next s
  | some r =>
    let s := { s with ureps := s.ureps.erase r }
    let x := s.chan c n
    let x := { x with owed := x.owed - 1 }
    if r.dead then .next (((s.setChan c n x).chanCount c n 3 1).pump c n)
    else .next ((s.setChan c n { x with fifo := x.fifo ++ [{ words := r.words, src := 3, err := r.err }] }).pump c n)

/-- Does an inbound channel admit remote commits of cluster `c` (R389)? -/
def State.admitsRemote (s : State) (t m c : Nat) : Bool :=
  s.kind t m == 1 && bit (s.bind t m) 23 && (bit (s.bind2 t m) 31 || fld (s.bind2 t m) 24 7 == c)

/-- REMOTE_COMMIT_DELIVER: thread `i` of cluster `c`, blocked on a commit to a remote channel, commits where the target
channel or its inbound queue takes the message; a target in reset takes none (R387, R395, R404). -/
def execRemoteCommitDeliver (c : Fin 128) (i : Fin 64) (s : State) : Host.Outcome State Fault Refusal :=
  let x := s.thr c i
  match x.wait with
  | .commit n u =>
    let v := fld (s.bind c n) 0 16
    let t := natField v 6 7
    let m := natField v 0 6
    if s.kind c n ≠ 8 ∨ x.st ≠ 3 ∨ s.inReset (cluPage t 0) ∨ !s.admitsRemote t m c then .next s
    else match s.offer t m { words := x.stagedFor n, mid := thrMid c i, src := 3 } with
    | none => .next s
    | some s => .next ((s.chanCount c n 0 1).committed c i n u)
  | _ => .next s

/-- INBOUND_DELIVER: the oldest message that waits for a channel enters it, once its cluster is lit and a slot is
free. -/
def execInboundDeliver (c : Fin 128) (n : Fin 64) (s : State) : Host.Outcome State Fault Refusal :=
  let r := c.val / 8
  match (s.inQueue r).find? fun x => x.cluster == c.val && x.chan == n.val with
  | none => .next s
  | some e =>
    if !s.cluReady c ∨ s.kind c n ≠ 1 then .next s
    else
      let out := s.setInQueue r ((s.inQueue r).erase e)
      let drop := fun (s : State) => match e.msg.frame with
        | none => s
        | some b => s.dropOwned b
      if s.isFenced (cluPage c 0) then .next ((drop out).chanCount c n 3 1)
      else if s.chanStopped c n then .next ((drop out).count (inqPage c) (4 * (c.val % 8) + 1) 1)
      else if s.room c n = 0 then .next s
      else
        let x := out.chan c n
        .next (((out.setChan c n { x with fifo := x.fifo ++ [e.msg] }).chanCount c n 0 1).pump c n)

/-! ### The memory port (R392, R433) -/

/-- The fields of a memory-port request: operation, length, target word, address. -/
def memReq (ws : List Word) : Nat × Nat × Nat × Nat :=
  let w := (ws.getD 0 0).toNat
  (natField w 56 8, natField w 48 8, natField w 0 32, (ws.getD 1 0).toNat)

/-- Is a READ or WRITE well formed? -/
def memReqOk (ws : List Word) : Bool :=
  let q := memReq ws
  let top := if q.1 = 1 then 64 else 40
  let n := if q.1 = 1 then 2 else 2 + (q.2.1 + 7) / 8
  decide (1 ≤ q.2.1) && decide (q.2.1 ≤ top) && ws.length == n && natField (ws.getD 0 0).toNat 32 16 == 0 &&
    tgtOk q.2.2.1 && tgtWrap q.2.2.1 == 0 && tgtFits q.2.2.1 q.2.2.2 q.2.1

/-- What stops a checked request, and the state with a lease's violation (R360, R392). -/
def State.memCheck (s : State) (r : Nat) (q : Ureq) : Nat × State :=
  let m := memReq q.words
  if !memReqOk q.words then (5, s)
  else match q.lease with
    | some l =>
      if s.leaseGrants r q.cluster l m.2.2.1 m.2.2.2 m.2.1 then (s.tgtStatus r m.2.2.1, s)
      else (7, s.leaseRefuse q.cluster l 5 7 q.mid)
    | none => (s.tgtStatus r m.2.2.1, s)

/-- A request as it stands after the state changed: it is dead if its lease stopped meanwhile. -/
def State.fresh? (s : State) (q : Ureq) : Ureq := ((s.request q.cluster q.chan).getD q)

/-- A request fails: a READ delivers all ones with ERR, anything else its status. -/
def State.memFail (s : State) (q : Ureq) (status : Nat) : State :=
  let q := s.fresh? q
  let s := s.dropRequest q
  if (memReq q.words).1 = 1 then
    s.reply q (List.replicate (replyLen 6 q.words) (BitVec.allOnes 64)) true
  else s.replyStatus q status 0

/-- The client of part `i` of a channel's read. -/
def memClient (c n i : Nat) : Client := .mport c (n + 64 * i)

/-- Has the read been asked for? -/
def State.memAsked (s : State) (c n : Nat) : Bool :=
  let mine := fun (k : Client) => k == memClient c n 0 || k == memClient c n 1
  (s.hwait.any fun r => mine r.client) || (s.hreads.any fun r => mine r.2.client) ||
    (s.aplReads.any fun r => mine r.2.who) || s.arrived.any fun a => mine a.client

/-- A READ of a host or a peer card: ask, or take what has arrived. -/
def State.memRemote (s : State) (c n : Nat) (q : Ureq) : State :=
  let m := memReq q.words
  let parts := (tgtParts m.2.2.1 m.2.2.2 m.2.1).zipIdx
  if !s.memAsked c n then
    (parts.foldl (fun (acc : Option State) p => match acc with
      | none => none
      | some s => s.tgtAsk (memClient c n p.2) m.2.2.1 p.1.1 p.1.2) (some s)).getD s
  else
    let got := parts.map fun p => (s.takeRead (memClient c n p.2) p.1.2).1
    if !got.all Option.isSome then s
    else
      let s := parts.foldl (fun (s : State) p => (s.takeRead (memClient c n p.2) p.1.2).2) s
      let vals := got.map fun g => g.getD (0, [])
      match vals.find? fun v => v.1 != 0 with
      | some v => s.memFail q v.1
      | none => (s.dropRequest q).reply q (bytesWords (vals.flatMap Prod.snd)) false

/-- The memory port takes the oldest request of a channel if its operation is `op`, or is none. -/
def State.memPort (s : State) (c n op : Nat) (act : Ureq → State → State) : State :=
  match s.request c n with
  | none => s
  | some q =>
    let o := (memReq q.words).1
    if s.kind c n ≠ 6 then s
    else if o = 0 ∨ 3 < o then (s.dropRequest q).replyStatus q 5 0
    else if o ≠ op then s
    else act q s

/-- MEMPORT_READ (R392). -/
def execMemportRead (c : Fin 128) (n : Fin 64) (s : State) : Host.Outcome State Fault Refusal :=
  .next (s.memPort c n 1 fun q s =>
    let r := c.val / 8
    let m := memReq q.words
    if s.memAsked c n then s.memRemote c n q
    else
      let k := s.memCheck r q
      if k.1 ≠ 0 then k.2.memFail q k.1
      else if tgtLocal m.2.2.1 then
        (s.dropRequest q).reply q (bytesWords (s.tgtRead r m.2.2.1 m.2.2.2 m.2.1)) false
      else s.memRemote c n q)

/-- MEMPORT_WRITE (R392). -/
def execMemportWrite (c : Fin 128) (n : Fin 64) (s : State) : Host.Outcome State Fault Refusal :=
  .next (s.memPort c n 2 fun q s =>
    let r := c.val / 8
    let m := memReq q.words
    let k := s.memCheck r q
    if k.1 ≠ 0 then k.2.memFail q k.1
    else
      let data := (wordBytes (q.words.drop 2)).take m.2.1
      ((s.tgtWrite r m.2.2.1 m.2.2.2 data).dropRequest q).replyStatus q 0 0)

/-! ### The packet port (R245, R393, R433) -/

/-- The packet port takes the oldest request of a channel if its operation is `op`, or is none. -/
def State.pktPort (s : State) (c n op : Nat) (act : Ureq → State → State) : State :=
  match s.request c n with
  | none => s
  | some q =>
    let o := (q.words.getD 0 0).toNat / 2 ^ 56
    if s.kind c n ≠ 7 then s
    else if o = 0 ∨ 3 < o then (s.dropRequest q).replyStatus q 5 0
    else if o ≠ op then s
    else act q s

/-- Act on a buffer that the cluster, and the lease of a lease's thread, owns; ACCESS_FAULT otherwise. -/
def State.pktOwned (s : State) (q : Ureq) (act : Nat → Buf → State → State) : State :=
  let k := bufKey (q.cluster / 32) (natField (q.words.getD 0 0).toNat 0 32)
  let deny := fun (s : State) =>
    let s := match q.lease with
      | none => s
      | some l => s.leaseRefuse q.cluster l 6 7 q.mid
    let q := s.fresh? q
    (s.dropRequest q).replyStatus q 7 0
  match s.buf k with
  | none => deny s
  | some b =>
    if b.owner != some q.cluster || (q.lease.isSome && b.lease != q.lease) then deny s else act k b s

/-- FREE. -/
def execFree (c : Fin 128) (n : Fin 64) (s : State) : Host.Outcome State Fault Refusal :=
  .next (s.pktPort c n 1 fun q s =>
    if q.words.length ≠ 1 then (s.dropRequest q).replyStatus q 5 0
    else s.pktOwned q fun k b s =>
      (((s.setBuf k { b with owner := none, lease := none }).bufDone k).dropRequest q).replyStatus q 0 0)

/-- ALLOC: a buffer of the shared pool, its bytes free values. -/
def execAlloc (c : Fin 128) (n : Fin 64) (s : State) : Host.Outcome State Fault Refusal :=
  .next (s.pktPort c n 2 fun q s =>
    let len := natField (q.words.getD 0 0).toNat 0 14
    let die := c.val / 32
    let s := s.dropRequest q
    if q.words.length ≠ 1 ∨ len < 64 ∨ 9216 < len then s.replyStatus q 5 0
    else if (s.poolFor die len false).isNone then s.replyStatus q 6 0
    else
      let f := s.freeBytes len
      match f.2.bufArrive die f.1 false (some c) none with
      | (none, s) => s.replyStatus q 6 0
      | (some k, s) =>
        let s := match s.buf k with
          | none => s
          | some b => s.setBuf k { b with lease := q.lease }
        s.replyStatus q 0 (bufHandle k))

/-- INJECT: toward the region's pipeline `c` mod 4 as a reinjected frame, or with DIRECT to admission at DEST. -/
def execInject (c : Fin 128) (n : Fin 64) (s : State) : Host.Outcome State Fault Refusal :=
  .next (s.pktPort c n 3 fun q s =>
    let w := fun (i : Nat) => (q.words.getD i 0).toNat
    let direct := (w 0).testBit 32
    let len := natField (w 1) 0 14
    let bad := (s.dropRequest q).replyStatus q 5 0
    if (direct ∧ q.words.length < 3) ∨ (!direct ∧ q.words.length ≠ 5) ∨ 5 < q.words.length then bad
    else s.pktOwned q fun k b s =>
      let dest : Reg := BitVec.ofNat 32 (w 2)
      if len < 14 ∨ 9212 < len ∨ b.bytes.length < len ∨ (direct ∧ (s.resolveDest dest).isNone) ∨
          (!direct ∧ w 4 / 2 ^ 48 ≠ 0) then bad
      else
        let bytes := b.bytes.take len
        let s := ((s.setBuf k { b with owner := none, lease := none, bytes := bytes }).dropRequest q).replyStatus q 0 0
        if direct then
          (s.sendEntry { unordered := true, dest := dest, cls := natField (w 1) 16 3, bytes := bytes, buf := k }).bufDone k
        else
          let ts := s.freeBytes 8
          let h : Hdr := { pipe := c.val / 8 * 4 + c.val % 4, seq := none
                           frame := { buf := k, src := 0xC000 + c.val, ts := leNat ts.1, unordered := true }
                           metab := zeros 6 ++ slice (leBytes 8 (w 3) ++ leBytes 8 (w 4)) 0 14 }
          let s := ts.2.work (128 + h.pipe)
          { s with hdrs := s.hdrs ++ [h] })

/-! ### The check unit (R405–R409) -/

/-- CHK page of a cluster. -/
def chkPage (c : Nat) : PageKey := cluPage c 9
/-- A check channel. -/
def State.check (s : State) (c k : Nat) : CheckSt := tabGet {} s.checks (c * 16 + k)
/-- Store it. -/
def State.setCheck (s : State) (c k : Nat) (x : CheckSt) : State :=
  { s with checks := tabPut {} s.checks (c * 16 + k) x }
/-- Offset of a check channel's registers. -/
def chkOff (k : Nat) : Nat := 0x200 + 0x20 * k

/-- Result bits of an algorithm. -/
def chkBits (alg : Nat) : Nat := if alg = 2 then 16 else if alg = 3 then 64 else 32
/-- Initial value. -/
def chkInit (alg : Nat) : Word :=
  match alg with
  | 2 => 0
  | 3 => BitVec.allOnes 64
  | _ => 0xFFFFFFFF
/-- Final XOR. -/
def chkXor (alg : Nat) : Word := chkInit alg
/-- One byte. -/
def chkStep (alg : Nat) (r : Word) (b : Byte) : Word :=
  match alg with
  | 0 => (crcStep 0xEDB88320 (r.setWidth 32) b).setWidth 64
  | 1 => (crcStep 0x82F63B78 (r.setWidth 32) b).setWidth 64
  | 2 => (crc16Step (r.setWidth 16) b).setWidth 64
  | _ => crc64Step r b

/-- ALG of a CHK_CFG value. -/
def chkAlg (cfg : Reg) : Nat := fld cfg 28 2

/-- Alive checking of one record (R409). -/
def State.alive (s : State) (c k : Nat) (rec : List Byte) : State :=
  let p := chkPage c
  let o := chkOff k
  let x := s.check c k
  let cfg := x.cfg
  let w := fld cfg 22 6
  let off := fld cfg 0 16
  let sh := fld cfg 19 3
  let n := (sh + w + 7) / 8
  if !bit cfg 30 then s
  else if rec.length < off + n then s.count p 0x41 1
  else
    let v := leAt rec off n / 2 ^ sh % 2 ^ w
    let last := (s.rd p (o + 0x18)).toNat
    let s := if !x.fresh ∧ v ≠ (last + 1) % 2 ^ w then
        (((s.postBit p (o + 4) 29 true).raiseBit p 16).postBoth p (o + 0x1C) (BitVec.ofNat 32 v)).count p (4 * k + 3) 1
      else s
    (s.setCheck c k { x with fresh := false }).postBoth p (o + 0x18) (BitVec.ofNat 32 v)

/-- Feed a record to an open check channel. -/
def State.chkFeed (s : State) (c k : Nat) (rec : List Byte) : State :=
  let p := chkPage c
  let o := chkOff k
  if !bit (s.rd p (o + 4)) 31 then s.count p 0x40 1
  else
    let x := s.check c k
    let s := s.setCheck c k { x with reg := rec.foldl (chkStep (chkAlg x.cfg)) x.reg }
    let s := s.postFld p (o + 4) 0 24 (satAdd (s.rdFld p (o + 4) 0 24) rec.length 24)
    (s.count p (4 * k) rec.length).alive c k rec

/-- A check unit takes the oldest request of a channel if its operation is `op`, or is none of R406: the check channel's
number and the request. -/
def State.chkUnit (s : State) (c n op : Nat) (act : Nat → Ureq → State → State) : State :=
  match s.request c n with
  | none => s
  | some q =>
    let o := (q.words.getD 0 0).toNat / 2 ^ 56
    if s.kind c n ≠ 2 then s
    else
      let k := fld (s.bind c n) 0 4
      let out := s.dropRequest q
      if o = 0 ∨ 4 < o then (out.reply q [BitVec.ofNat 64 (5 * 2 ^ 56), 0] false).pump c n
      else if o ≠ op then s
      else (act k q out).pump c n

/-- OPEN. -/
def execOpen (c : Fin 128) (n : Fin 64) (s : State) : Host.Outcome State Fault Refusal :=
  .next (s.chkUnit c n 1 fun k q s =>
    let p := chkPage c
    let o := chkOff k
    let cfg := s.fr p o
    let w := (q.words.getD 0 0).toNat
    let seed := w.testBit 48
    if !bit cfg 31 ∨ 2 < q.words.length ∨ (seed ∧ q.words.length ≠ 2) then s.count p 0x40 1
    else
      let s := s.setCheck c k { cfg := cfg, noFinal := w.testBit 49, fresh := true
                                reg := if seed then BitVec.ofNat 64 ((q.words.getD 1 0).toNat % 2 ^ chkBits (chkAlg cfg))
                                  else chkInit (chkAlg cfg) }
      s.post p (o + 4) (setBit (s.rd p (o + 4) &&& 0x60000000) 31 true))

/-- FEED. -/
def execFeed (c : Fin 128) (n : Fin 64) (s : State) : Host.Outcome State Fault Refusal :=
  .next (s.chkUnit c n 2 fun k q s =>
    let w := (q.words.getD 0 0).toNat
    let m := natField w 0 3
    if m = 0 ∨ q.words.length ≠ m + 1 then s.count (chkPage c) 0x40 1
    else s.chkFeed c k ((q.words.drop 1).flatMap fun v => leBytes (2 ^ natField w 48 2) v.toNat))

/-- FEED_MEM: a lease's thread feeds from its own memory range only (R433). -/
def execFeedMem (c : Fin 128) (n : Fin 64) (s : State) : Host.Outcome State Fault Refusal :=
  .next (s.chkUnit c n 3 fun k q s =>
    let a := natField (q.words.getD 0 0).toNat 0 20
    let len := natField (q.words.getD 1 0).toNat 0 21
    let denied := match q.lease with
      | none => false
      | some l => !s.leaseMem c l a len
    if q.words.length ≠ 2 ∨ len = 0 ∨ 2 ^ 20 < a + len then s.count (chkPage c) 0x40 1
    else if denied then
      match q.lease with
      | none => s
      | some l => s.leaseRefuse c l 5 7 q.mid
    else s.chkFeed c k (s.bytes (cmemBase c + a) len))

/-- CLOSE (R408). -/
def execClose (c : Fin 128) (n : Fin 64) (s : State) : Host.Outcome State Fault Refusal :=
  .next (s.chkUnit c n 4 fun k q s =>
    let p := chkPage c
    let o := chkOff k
    let w := (q.words.getD 0 0).toNat
    let cmp := w.testBit 48
    let bad := s.reply q [BitVec.ofNat 64 (5 * 2 ^ 56), 0] false
    if 2 < q.words.length ∨ (cmp ∧ q.words.length ≠ 2) then bad
    else if !bit (s.rd p (o + 4)) 31 then
      if bit (s.fr p o) 31 then bad else bad.count p 0x40 1
    else
      let x := s.check c k
      let alg := chkAlg x.cfg
      let res := if x.noFinal then x.reg else x.reg ^^^ chkXor alg
      let ex := q.words.getD 1 0
      let miss := cmp && decide (ex.toNat % 2 ^ chkBits alg ≠ res.toNat)
      let s := s.setCheck c k {}
      let s := (s.post64 p (o + 8) res.toNat).count p (4 * k + 1) 1
      let s := if cmp then s.post64 p (o + 0x10) ex.toNat else s
      let s := s.post p (o + 4) (setBit (setBit (s.rd p (o + 4)) 31 false) 30 miss)
      let s := if miss then (s.raiseBit p k).count p (4 * k + 2) 1 else s
      s.reply q [BitVec.ofNat 64 (if miss then 2 ^ 55 else 0), res] false)

/-! ### Cipher lanes (R222, R227, R233, R234) -/

/-- The target word and address of a source or destination word of a cipher request. -/
def cipherTgt (c : Nat) (w : Nat) : Option (Nat × Nat) :=
  let a := natField w 0 62
  match w / 2 ^ 62 with
  | 0 => some (c % 8 * 2 ^ 16, a)
  | 1 => some (2 ^ 29, a)
  | 2 => some (2 * 2 ^ 29 + natField a 36 2 * 2 ^ 16, if 2 ^ 38 ≤ a then a else a % 2 ^ 36)
  | _ => none

/-- Is a run of bytes within the thread's reach? -/
def State.cipherReach (s : State) (r : Nat) (q : Ureq) (w a n : Nat) : Bool :=
  decide (n = 0) || (tgtFits w a n && (match q.lease with
    | none => true
    | some l => s.leaseGrants r q.cluster l w a n))

/-- The transform of one request after its checks: XTS unit by unit, AEAD as a whole; segments of 4,096 bytes are one
invocation each. Answers status, index of the failing unit or segment, and the state. -/
def State.cipherRun (s : State) (r ctx op len sn aad : Nat) (src dst : Nat × Nat) : Nat × Nat × State :=
  let enc := op % 2 == 1
  let segs := (len + 4095) / 4096
  -- one invocation for each segment, up to the first refusal
  let starts := (List.range segs).foldl (fun (acc : Nat × Nat × Nat × State) _ =>
    if acc.1 ≠ 0 then acc
    else match acc.2.2.2.ctxStart r ctx enc with
      | (.inl e, s) => (e.status, acc.2.1, acc.2.2.1, s)
      | (.inr m, s) => (0, acc.2.1 + 1, m, s)) (0, 0, ctx, s)
  let st := starts.1
  let done := starts.2.1
  let m := starts.2.2.1
  let s := starts.2.2.2
  let key := s.ctxKey m
  if 3 ≤ op then
    let u := if leAt (s.ctx m).pstate 0 1 = 0 then 512 else 4096
    let n := min len (done * 4096)
    let data := s.tgtRead r src.1 src.2 n
    let out := (List.range (n / u)).flatMap fun i => Config.xts enc key (sn + i) (slice data (i * u) u)
    let s := s.tgtWrite r dst.1 dst.2 (slice out 0 n)
    (st, if st = 0 then 0 else n / u, s)
  else if st ≠ 0 then (st, done, s)
  else
    let x := s.ctx m
    let nonce := List.zipWith (· ^^^ ·) (padTo (slice x.salt 0 12) 12) (zeros 4 ++ beBytes 8 sn)
    let ad := s.tgtRead r src.1 src.2 aad
    let text := s.tgtRead r src.1 (src.2 + aad) len
    let out := slice (Config.aeadText enc x.alg key nonce ad text) 0 len
    let tag := slice (Config.aeadTag enc x.alg key nonce ad text) 0 16
    if enc then (0, 0, s.tgtWrite r dst.1 dst.2 (out ++ tag))
    else if s.tgtRead r src.1 (src.2 + aad + len) 16 == tag then (0, 0, s.tgtWrite r dst.1 dst.2 out)
    else
      let f := s.freeBytes len
      (3, segs - 1, (f.2.tgtWrite r dst.1 dst.2 f.1).count (ciphPage r) 0x01 1)

/-- CIPHER_REQUEST: the oldest request of a cipher channel (R233). -/
def execCipherRequest (c : Fin 128) (n : Fin 64) (s : State) : Host.Outcome State Fault Refusal :=
  match s.request c n with
  | none => .next s
  | some q =>
    let r := c.val / 8
    let w := fun (i : Nat) => (q.words.getD i 0).toNat
    let op := natField (w 0) 56 8
    let ctx := natField (w 0) 24 24
    let len := natField (w 0) 0 24
    let aad := if op ≤ 2 then natField (w 4) 0 16 else 0
    let x := s.ctx ctx
    let unit := if leAt x.pstate 0 1 = 0 then 512 else 4096
    let srcN := aad + len + (if op = 2 then 16 else 0)
    let dstN := len + (if op = 1 then 16 else 0)
    let answer := fun (s : State) (st ix : Nat) =>
      let q := s.fresh? q
      (s.dropRequest q).reply q [BitVec.ofNat 64 (st * 2 ^ 56 + (s.ctx ctx).usage % 2 ^ 48), BitVec.ofNat 64 ix] false
    if s.kind c n ≠ 5 then .next s
    else if q.words.length ≠ 5 ∨ op = 0 ∨ 4 < op ∨ natField (w 0) 48 8 ≠ 0 ∨ len = 0 ∨ 65536 < len ∨
        (3 ≤ op ∧ len % unit ≠ 0) then .next (answer s 5 0)
    else match cipherTgt c (w 1), cipherTgt c (w 2) with
    | some src, some dst =>
      if !s.cipherReach r q src.1 src.2 srcN ∨ !s.cipherReach r q dst.1 dst.2 dstN then .next (answer s 5 0)
      else match q.lease.filter fun l => x.owner != leaseScope c l with
      | some l =>
        .next (answer ((s.scopeRefused r).leaseStop c l 3 7 q.mid (s.thr c (q.mid.toNat % 64)).pc) 7 0)
      | none =>
        if x.proto ≠ (if 3 ≤ op then 5 else 6) then .next (answer (s.scopeRefused r) 7 0)
        else
          let o := s.cipherRun r ctx op len (w 3) aad src dst
          .next (answer o.2.2 o.1 o.2.1)
    | _, _ => .next (answer s 5 0)

end Sys2Proof.Machine
end

