-- ==== Sys2Proof/Machine/Cdbg.lean ====
section
/-! DEFINITION. The still-water detector, channel bindings and messages of firmware, the debugger's commands on single
threads, and the cluster-memory window (R381, R389, R395–R402, R439). -/
namespace Sys2Proof.Machine

/-! ### Still water (R396–R398) -/

/-- Is the thread out of the detector's sight: DISABLED, STOPPED or HALTED? -/
def Thread.aside (x : Thread) : Bool := x.st == 0 || x.st == 6 || x.st == 5

/-- Threads of a cluster that are not out of the detector's sight. -/
def State.awake (s : State) (c : Nat) : List Thread :=
  (s.thrs.filter fun (t : Nat × Thread) => t.1 / 64 == c && !t.2.aside).map fun (t : Nat × Thread) => t.2

/-- Is the thread blocked reading an internal channel? -/
def State.onInternal (s : State) (c : Nat) (x : Thread) : Bool :=
  match x.wait with
  | .read n _ => x.st == 2 && internal (s.bind c n)
  | _ => false

/-- Do the conditions of R396 hold? -/
def State.stillNow (s : State) (c : Nat) : Bool :=
  let ts := s.awake c
  !ts.isEmpty && ts.all (s.onInternal c) && !(tabGet {} s.dbgs c).attached

/-- Since when they hold, given the time at which they were first seen. -/
def State.stillSince (s : State) (c : Nat) (seen : Ns) : Ns := (s.awake c).foldl (fun m (x : Thread) => max m x.since) seen

/-- The detectors look at their clusters: a condition that fails sets the count to 0. -/
def State.stillLook (s : State) : State :=
  let cs := (s.thrs.map fun (t : Nat × Thread) => t.1 / 64).eraseDups
  { s with still := cs.foldl (fun l c =>
      if s.stillNow c then
        let e := (tabFind s.still c).getD (s.clk, false)
        tabInsert l c (s.stillSince c e.1, e.2)
      else l) [] }

/-- The count of a detector: cycles of 2.0 GHz, at most 4,096. -/
def State.stillCount (s : State) (c : Nat) : Nat :=
  match tabFind s.still c with
  | none => 0
  | some e => if s.stillNow c then min 4096 (2 * (s.clk - s.stillSince c e.1)) else 0

/-- STILL_WATER: the count has reached 4,096, and the detector, armed, fires once. -/
def execStillWater (c : Fin 128) (s : State) : Host.Outcome State Fault Refusal :=
  let p := chanPage c
  .next (match tabFind s.still c with
    | none => s
    | some e =>
      if e.2 ∨ bit (s.rd p 0x100) 31 ∨ s.stillCount c ≠ 4096 then s
      else
        let s := { s with still := tabInsert (tabErase s.still c) c (e.1, true) }
        ((s.postBit p 0x100 31 true).raiseBit p 0).report p p 0x50 6 0)

/-! ### Bindings (R383, R387, R389, R390) -/

/-- DEPTH summed over bound channels, as the page shows the bindings. -/
def State.slotSum (s : State) (c : Nat) : Nat :=
  ((List.range 64).map fun n =>
    let b := s.rd (chanPage c) (0x200 + 8 * n)
    if fld b 28 4 = 0 then 0 else fld b 16 7).sum

/-- Is a change from OFF to another kind refused (R389, R433)? -/
def State.bindRefused (s : State) (c n : Nat) (v v2 : Reg) : Bool :=
  let k := fld v 28 4
  let d := fld v 16 7
  let t := fld v 0 16
  let r := c / 8
  let leased := bit v2 19
  let l := fld v2 20 4
  let own := s.rd (dmachPage r (t % 64)) (dmachOff (t % 64) + 4)
  decide (8 < k ∨ d = 0 ∨ 64 < d ∨ 512 < s.slotSum c + d) ||
  (if k = 2 then decide (16 ≤ t) || (leased && !bit (s.rd (leasePage c) (leaseOff l + 0x34)) t)
   else if k = 4 then
     decide (64 ≤ t) || bit (s.rd (dmachPage r (t % 64)) (dmachOff (t % 64))) 28 || fld own 16 7 != c ||
     (leased && !(bit own 31 && fld own 24 4 == l))
   else if k = 8 then decide (8192 ≤ t) || !s.admitsRemote (natField t 6 7) (natField t 0 6) c
   else decide (t ≠ 0))

/-- A channel is OFF: its messages are discarded, and every thread blocked reading it receives one message of ones. -/
def State.chanOff (s : State) (c n : Nat) : State :=
  let s := s.chanEmpty c n
  let rs := (s.chan c n).readers
  let s := s.setChan c n { s.chan c n with readers := [], owed := 0 }
  let s := { s with
    ureqs := s.ureqs.map fun (r : Ureq) => if r.cluster == c && r.chan == n then { r with dead := true } else r
    ureps := s.ureps.filter fun (r : Ureply) => !(r.cluster == c && r.chan == n)
    dmas := s.dmas.map fun (d : Nat × DmaChan) => (d.1, { d.2 with xfer := d.2.xfer.map fun (x : Xfer) =>
      { x with req := x.req.map fun (r : Ureq) => if r.cluster == c && r.chan == n then { r with dead := true } else r } }) }
  let msg : Msg := { words := List.replicate 8 (BitVec.allOnes 64), err := true, src := 3 }
  rs.foldl (fun s i => match (s.thr c i).wait with
    | .read _ d => s.takeMsg c i d msg
    | _ => s) s

/-- What fast logic does with a write of a binding. -/
def State.chanBound (s : State) (c n : Nat) : State :=
  let p := chanPage c
  let s := s.postBit p (0x200 + 8 * n) 27 (internal (s.bind c n))
  let s := s.postFld p 0x104 0 10 (s.slotSum c)
  if s.kind c n = 0 then s.chanOff c n else s

/-- May a write of CHAN_BIND take effect, and is it refused with BIND_REFUSED? -/
def State.bindGate (s : State) (c n : Nat) (v v2 : Reg) : Bool × Bool :=
  let p := chanPage c
  let old := fld (s.rd p (0x200 + 8 * n)) 28 4
  let new := fld v 28 4
  if bit (s.rd p 0x028) 0 then (true, false)
  else if old ≠ 0 then (decide (new = 0), false)
  else if new = 0 then (true, false)
  else if s.bindRefused c n v v2 then (false, true)
  else (true, false)

/-- An accepted write of a binding: CHAN_BIND, with CHAN_BIND2 where the access is one of 64 bits. -/
def State.chanBind (s : State) (mid : Mid) (c n : Nat) (v : Reg) (v2 : Option Reg) : State :=
  let p := chanPage c
  let o := 0x200 + 8 * n
  let g := s.bindGate c n v (v2.getD (s.rd p (o + 4)))
  if g.2 then (((s.stamp p).postBit p 0x104 31 true).raiseBit p 1).applied p
  else if !g.1 then (s.stamp p).applied p
  else
    let s := (s.stamp p).land p o v
    let s := match v2 with
      | none => s
      | some w => s.land p (o + 4) w
    let vals := match v2 with
      | none => [s.rd p o]
      | some _ => [s.rd p o, s.rd p (o + 4)]
    if s.fastReady p then
      let s := (s.setFast p o (s.rd p o)).setFast p (o + 4) (if v2.isSome then s.rd p (o + 4) else s.bind2 c n)
      (s.chanBound c n).applied p
    else s.pend mid p o vals (v :: v2.toList)

/-- CHAN_BIND_WRITE (R389). -/
def execChanBindWrite (mid : Mid) (c : Fin 128) (n : Fin 64) (v : Reg) (v2 : Option Reg) (s : State) :
    Host.Outcome State Fault Refusal :=
  .next (s.accessWrite mid (chanPage c) (0x200 + 8 * n) fun s => s.chanBind mid c n v v2)

/-! ### Messages of OMC firmware (R395) -/

/-- What a GO to CHAN_OMC_SEND does. -/
def State.omcSend (s : State) (mid : Mid) (c : Nat) : State :=
  let p := chanPage c
  let v := s.fr p 0x108
  let n := fld v 0 6
  let ws := (List.range (fld v 6 3 + 1)).map fun i => BitVec.ofNat 64 (s.fr64 p (0x110 + 8 * i))
  let s := s.postBit p 0x108 31 false
  let refused := s.postBit p 0x108 30 true
  if s.kind c n ≠ 1 ∨ !bit (s.bind c n) 24 then refused
  else match s.offer c n { words := ws, mid := mid, src := 2 } with
    | none => refused
    | some s => s

/-- CHAN_OMC_SEND: a GO with a channel and a length. -/
def execChanOmcSend (mid : Mid) (c : Fin 128) (n : Fin 64) (lenM1 : Fin 8) (s : State) :
    Host.Outcome State Fault Refusal :=
  .next (s.ownWrite mid (chanPage c) 0x108 (BitVec.ofNat 32 (2 ^ 31 + lenM1.val * 64 + n.val))
    fun s => s.omcSend mid c)

/-! ### Debug sessions (R399–R402, R439) -/

/-- The CDBG page of a cluster. -/
def cdbgPage (c : Nat) : PageKey := cluPage c 12

/-- A write of CDBG_SESSION.ATTACH. -/
def State.attach (s : State) (mid : Mid) (c : Nat) (on : Bool) : State :=
  let p := cdbgPage c
  if on then
    if (tabGet {} s.dbgs c).attached then s
    else
      let s := { s with
        dbgs := tabPut {} s.dbgs c { holder := mid, attached := true }
        still := tabErase s.still c }
      s.postFld p 0x100 0 16 mid.toNat
  else s.endSession c

/-- ATTACH: attaches or detaches a session (R399). -/
def execAttach (mid : Mid) (c : Fin 128) (on : Bool) (s : State) : Host.Outcome State Fault Refusal :=
  .next (s.ownWrite mid (cdbgPage c) 0x100 (BitVec.ofNat 32 (if on then 2 ^ 31 else 0)) fun s => s.attach mid c on)

/-- The thread that CDBG_SEL selects, by number in its cluster. -/
def State.selThread (s : State) (c : Nat) : Nat := s.frFld (cdbgPage c) 0x104 0 6
/-- The staging slot that CDBG_SEL selects: channel and words. -/
def State.selSlot (s : State) (c : Nat) : Option (Nat × List Word) :=
  (s.thr c (s.selThread c)).staged[s.frFld (cdbgPage c) 0x104 8 2]?

/-- A command ends with RESULT. -/
def State.cdbgResult (s : State) (c r : Nat) : State :=
  let p := cdbgPage c
  (s.postFld p 0x108 0 5 0).postFld p 0x108 8 8 r

/-- A blocked thread leaves its wait, which is counted; its word is issued again later. -/
def State.leaveWait (s : State) (c i : Nat) : State :=
  let x := s.thr c i
  let s := match x.wait with
    | .read n _ => (s.setChan c n { s.chan c n with readers := (s.chan c n).readers.erase i }).count
        (fcorePage c i) (4 * (i % 8) + 1) (s.waited x)
    | .commit n _ => (s.setChan c n { s.chan c n with writers := (s.chan c n).writers.erase i }).count
        (fcorePage c i) (4 * (i % 8) + 2) (s.waited x)
    | _ => s
  let ucall := (hqWord (s.csWord c x.pc)).a.op == 0x34
  s.setThr c i { x with
    wait := .none, begun := true
    ucalled := x.st == 2 && ucall
    cycles := if x.st = 3 then x.cycles + s.waited x else x.cycles }

/-- HALT: in RUN or a wait of a channel the thread halts now; in BLOCKED_MEM, when its access completes. -/
def State.halt (s : State) (c i : Nat) : State :=
  let x := s.thr c i
  match x.st with
  | 1 => (s.setThr c i { x with st := 5, held := true, step := false }).cdbgResult c 0
  | 2 | 3 =>
    let s := s.leaveWait c i
    (s.setThr c i { s.thr c i with st := 5, held := true, step := false }).cdbgResult c 0
  | 4 => (s.setThr c i { x with held := true, step := true }).cdbgResult c 0
  | 5 => s.cdbgResult c 0
  | _ => s.cdbgResult c 1

/-- RESUME of a halted thread: its word is issued next. -/
def State.resume (s : State) (c i : Nat) : State :=
  let x := s.thr c i
  if x.st = 5 then (s.setThr c i { x with st := 1, held := false, step := false }).cdbgResult c 0
  else s.cdbgResult c 1

/-- STEP of a halted thread: the word at its program counter runs, and the thread halts again when it completes. -/
def State.step1 (s : State) (c i : Nat) : State :=
  let x := s.thr c i
  if x.st = 5 then
    let s := (s.setThr c i { x with st := 1, step := true }).cdbgResult c 0
    s.hq c i (hqWord (s.csWord c x.pc)).a.op false
  else s.cdbgResult c 1

/-- DISCARD of a halted thread's staging slot (R401). -/
def State.discardSlot (s : State) (c i : Nat) : State :=
  let x := s.thr c i
  match x.st, s.selSlot c with
  | 5, some (n, ws) =>
    ((s.setThr c i { x with staged := tabErase x.staged n }).chanCount c n 3 ws.length).cdbgResult c 0
  | _, _ => s.cdbgResult c 1

/-- COMMIT of a halted thread's staging slot, as its CHC would (R402). -/
def State.commitSlot (s : State) (c i : Nat) : State :=
  let x := s.thr c i
  let mid := thrMid c i
  match x.st, s.selSlot c with
  | 5, some (n, ws) =>
    let freed := fun (s : State) => s.setThr c i { s.thr c i with staged := tabErase (s.thr c i).staged n }
    let k := s.kind c n
    if s.thrLease c i ≠ none ∧ s.chanLease c n ≠ s.thrLease c i ∨ k = 0 ∨ (k = 1 ∧ !bit (s.bind c n) 26) then
      s.cdbgResult c 1
    else if k = 8 then
      let v := fld (s.bind c n) 0 16
      let t := natField v 6 7
      let m := natField v 0 6
      if s.inReset (cluPage t 0) ∨ !s.admitsRemote t m c then s.cdbgResult c 2
      else match s.offer t m { words := ws, mid := mid, src := 3 } with
        | none => s.cdbgResult c 2
        | some s => (freed (s.chanCount c n 0 1)).cdbgResult c 0
    else if s.commitRoom c n ws then
      ((freed (s.commit c n mid ws (s.thrLease c i))).pump c n).cdbgResult c 0
    else s.cdbgResult c 2
  | _, _ => s.cdbgResult c 1

/-- What fast logic does with a write of CDBG_CMD: its bits in ascending order. -/
def State.cdbgCmd (s : State) (c : Nat) (v : Reg) : State :=
  let i := s.selThread c
  let s := if bit v 0 then s.halt c i else s
  let s := if bit v 1 then s.resume c i else s
  let s := if bit v 2 then s.step1 c i else s
  let s := if bit v 3 then s.discardSlot c i else s
  if bit v 4 then s.commitSlot c i else s

/-- A write of CDBG_CMD. -/
def State.cdbgWrite (s : State) (mid : Mid) (c : Nat) (v : Reg) : State :=
  s.ownWrite mid (cdbgPage c) 0x108 v fun s => s.cdbgCmd c v

/-- HALT (R399). -/
def execHalt (mid : Mid) (c : Fin 128) (s : State) : Host.Outcome State Fault Refusal :=
  .next (s.cdbgWrite mid c 0x01)

/-- RESUME (R399). -/
def execResume (mid : Mid) (c : Fin 128) (s : State) : Host.Outcome State Fault Refusal :=
  .next (s.cdbgWrite mid c 0x02)

/-- STEP (R399). -/
def execStep (mid : Mid) (c : Fin 128) (s : State) : Host.Outcome State Fault Refusal :=
  .next (s.cdbgWrite mid c 0x04)

/-- DISCARD (R401). -/
def execDiscard (mid : Mid) (c : Fin 128) (s : State) : Host.Outcome State Fault Refusal :=
  .next (s.cdbgWrite mid c 0x08)

/-- COMMIT (R402). -/
def execCommit (mid : Mid) (c : Fin 128) (s : State) : Host.Outcome State Fault Refusal :=
  .next (s.cdbgWrite mid c 0x10)

/-- The register that CDBG_SEL.REG selects in the selected thread. -/
def State.cdbgReg (s : State) (c : Nat) : Word :=
  let x := s.thr c (s.selThread c)
  let r := s.frFld (cdbgPage c) 0x104 16 6
  if r = 32 then BitVec.ofNat 64 x.pc else if r = 33 then x.chs else x.reg r

/-- What fast logic does with a write of CDBG_REG_LO or CDBG_REG_HI: a halted thread's register takes it. -/
def State.cdbgPut (s : State) (c : Nat) (hi : Bool) (v : Reg) : State :=
  let i := s.selThread c
  let x := s.thr c i
  let r := s.frFld (cdbgPage c) 0x104 16 6
  let old := s.cdbgReg c
  let w : Word := if hi then v ++ old.setWidth 32 else old.extractLsb' 32 32 ++ v
  if x.st ≠ 5 then s
  else if r = 32 then s.setThr c i { x with pc := w.toNat % 2 ^ 15, begun := false, ucalled := false }
  else if r = 33 then s.setThr c i { x with chs := w }
  else s.setThr c i (x.put r w)

/-- CDBG_REG_WRITE: `hi` names CDBG_REG_HI (R399). -/
def execCdbgRegWrite (mid : Mid) (c : Fin 128) (hi : Bool) (v : Reg) (s : State) : Host.Outcome State Fault Refusal :=
  .next (s.ownWrite mid (cdbgPage c) (if hi then 0x114 else 0x110) v fun s => s.cdbgPut c hi v)

/-- A half of a 64-bit word. -/
def halfOf (w : Word) (hi : Bool) : Reg := if hi then w.extractLsb' 32 32 else w.setWidth 32

/-- The CDBG registers that show the threads as they are: CDBG_REG, CDBG_STG_INFO, CDBG_STG and CDBG_HALTED. -/
def State.cdbgLive (s : State) (c off : Nat) : Option Reg :=
  let words := ((s.selSlot c).map fun (e : Nat × List Word) => e.2).getD []
  if off = 0x110 ∨ off = 0x114 then some (halfOf (s.cdbgReg c) (off == 0x114))
  else if off = 0x118 then
    some (match s.selSlot c with
      | none => 0
      | some e => BitVec.ofNat 32 (2 ^ 31 + e.1 * 256 + e.2.length))
  else if 0x140 ≤ off ∧ off < 0x180 then some (halfOf (words.getD ((off - 0x140) / 8) 0) (off % 8 == 4))
  else if off = 0x180 ∨ off = 0x184 then
    some (BitVec.ofNat 32 (((List.range 32).map fun i =>
      if (s.thr c ((off - 0x180) * 8 + i)).st = 5 then 2 ^ i else 0).sum))
  else none

/-! ### The cluster-memory window (R381) -/

/-- CMEM_WINDOW_ACCESS: an access of 32 bits, or of 64 where `wide`, at byte `a` of a cluster's memory; it wakes the
cluster. -/
def execCmemWindowAccess (mid : Mid) (c : Fin 128) (a : Fin 1048576) (wide : Bool) (write : Option Word) (s : State) :
    Host.Outcome State Fault Refusal :=
  let n := if wide then 8 else 4
  let data := fun (s : State) (v : Word) => if write.isSome then s else s.emit (.readData mid (0x80000000 + c.val * 2 ^ 21 + a.val) v)
  .next (if !s.windowAdmits mid then data (s.refuseClass mid (cluPage c 0)) 0
    else if a.val % n ≠ 0 then data (s.bumpReg lbusPage 0x104 0 32) 0
    else
      let s := s.wake c
      match write with
      | some v => s.setBytes (cmemBase c + a) (leBytes n v.toNat)
      | none => data s (BitVec.ofNat 64 (leNat (s.bytes (cmemBase c + a) n))))

end Sys2Proof.Machine
end

