-- ==== Sys2Proof/Machine/Logw.lean ====
section
/-! DEFINITION. The log writer, the trace writer and the persistent log (R480–R483, R529). -/
namespace Sys2Proof.Machine

/-- The 64 bytes of a log record (R482). -/
def LogRec.bytes (r : LogRec) (seq : Nat) : List Byte :=
  let flags := r.severity % 4 + (if r.coalesced then 4 else 0) + (if r.notApplied then 8 else 0)
  leBytes 8 r.time.toNat ++ leBytes 2 r.source.toNat ++ [BitVec.ofNat 8 flags, r.family] ++
    leBytes 2 r.code.toNat ++ leBytes 2 seq ++ leBytes 4 r.count ++ zeros 4 ++ slice r.data 0 40

/-- Address of entry `i` of a ring in OMC memory. -/
def ringAt (base i log2 size : Nat) : Nat := omcMem + base + (i % 2 ^ log2) * size

/-- Room left in the log ring. -/
def State.logRoom (s : State) : Nat :=
  2 ^ s.frFld logPage 0x108 0 4 - idxDiff (s.rdFld logPage 0x10C 0 16) (s.rdFld logPage 0x10C 16 16)

/-- Write one record into the log ring: SEQ is filled, PROD advances, FULL and the interrupts follow. -/
def State.logPut (s : State) (r : LogRec) : State :=
  let prod := s.rdFld logPage 0x10C 0 16
  let s := s.setBytes (ringAt (s.fr64 logPage 0x100 / 64 * 64) prod (s.frFld logPage 0x108 0 4) 64)
    (r.bytes s.log.seq)
  let s := { s with log := { s.log with seq := idxAdd s.log.seq 1 } }
  let s := (s.postFld logPage 0x10C 0 16 (idxAdd prod 1)).raiseBit logPage 0
  if s.logRoom = 0 then (s.postBit logPage 0x110 31 true).raiseBit logPage 1 else s

/-- The LOST record that the present drop counts make (R481). -/
def State.lostRec (s : State) : LogRec :=
  { time := s.ptime, source := unitPath logPage, severity := 1, family := 0x04, code := 0,
    data := leBytes 4 (s.log.drops.getD 0 0) ++ leBytes 4 (s.log.drops.getD 1 0) ++
      leBytes 4 (s.log.drops.getD 2 0) ++ leBytes 4 (s.log.drops.getD 3 0) ++
      leBytes 8 s.log.firstDrop.toNat ++ leBytes 8 s.log.lastDrop.toNat ++ zeros 8 }

/-! ### The persistent log: 16 sectors of 1,024 records in flash (R511, R529) -/

/-- Flash offset of the persistent log. -/
def persistBase : Nat := flashBase + 0x1100000

/-- The oldest record held when `n` records were ever written. -/
def persistOldest (n : Nat) : Nat := if n ≤ 16384 then 0 else ((n - 1) / 1024 - 15) * 1024

/-- Erase one 64 KiB sector of flash: its bytes read 0xFF. -/
def State.eraseSector (s : State) (a : Nat) : State :=
  { s with mem := s.mem.filter fun c => !(decide (a ≤ c.1) && decide (c.1 < a + 65536)) }

/-- Append a 64-byte record; the oldest sector is erased when the log is full. -/
def State.persistPut (s : State) (bs : List Byte) : State :=
  let n := s.log.persist
  let s := if 16384 ≤ n ∧ n % 1024 = 0 then s.eraseSector (persistBase + n / 1024 % 16 * 65536) else s
  let s := s.setBytes (persistBase + n % 16384 * 64) bs
  { s with log := { s.log with persist := n + 1 } }

/-- Refill the bucket of 64 at 10 records a second. -/
def State.persistFill (s : State) : State :=
  let k := (s.clk - s.log.bucketAt) / 100000000
  if k = 0 then s
  else { s with log := { s.log with
          bucket := min 64 (s.log.bucket + k), bucketAt := s.log.bucketAt + k * 100000000 } }

/-- OMC firmware copies a CRITICAL record, after a LOST record for those that found the bucket empty
(R529). Without firmware nothing is copied (R522). -/
def State.persistCopy (s : State) (bs : List Byte) : State :=
  if !s.omc.running then s
  else
    let s := s.persistFill
    if s.log.bucket = 0 then { s with log := { s.log with bucketLost := s.log.bucketLost + 1 } }
    else
      let lost : LogRec := { time := s.ptime, source := unitPath omcPage, severity := 0,
                             family := 0x04, code := 0, data := leBytes 4 s.log.bucketLost ++ zeros 36 }
      let s1 := if s.log.bucketLost = 0 then s
        else { s.persistPut (lost.bytes 0) with
               log := { (s.persistPut (lost.bytes 0)).log with bucketLost := 0 } }
      let s2 := s1.persistPut bs
      { s2 with log := { s2.log with bucket := s2.log.bucket - 1 } }

/-- LOG_RECORD_POST: a record enters staging, coalesces or is dropped (R480). -/
def execLogRecordPost (source : UnitPath) (severity : Fin 4) (family : Byte) (code : BitVec 16)
    (count : Nat) (data : List Byte) (s : State) : Host.Outcome State Fault Refusal :=
  .next (s.stageLog { time := s.ptime, source := source, severity := severity.val, family := family,
                      code := code, count := count, data := slice data 0 40 })

/-- LOG_WRITE: with room in the ring the writer moves the oldest staged record, after a LOST record for
drops since the last one (R481); a CRITICAL record is copied to flash (R529). -/
def State.logWrite (s : State) : State :=
  match s.log.staged with
  | [] => s
  | r :: rest =>
    if !bit (s.fr logPage 0x108) 31 || s.logRoom = 0 then s
    else
      let s1 := if s.log.drops.sum = 0 then s
        else
          let t := s.logPut s.lostRec
          let t := { t with log := { t.log with drops := [0, 0, 0, 0], firstDrop := 0, lastDrop := 0 } }
          (t.count logPage 0x05 1).raiseBit logPage 2
      if s1.logRoom = 0 then s1
      else
        let bs := r.bytes s1.log.seq
        let s2 := s1.logPut r
        let s2 := { s2 with log := { s2.log with staged := rest } }
        let s2 := s2.postFld logPage 0x110 0 9 rest.length
        if r.severity = 0 then s2.persistCopy bs else s2

/-- LOG_WRITE (R481). -/
def execLogWrite (s : State) : Host.Outcome State Fault Refusal := .next s.logWrite

/-- Write a trace record of 32 bytes, or drop it (R483): answers whether it was written. -/
def State.tracePut (s : State) (source : UnitPath) (seq : Nat) (gap : Bool) (w1 w2 : List Byte) :
    Bool × State :=
  let l2 := s.frFld logPage 0x128 0 4
  let prod := s.rdFld logPage 0x12C 0 16
  if idxDiff prod (s.rdFld logPage 0x12C 16 16) < 2 ^ l2 then
    let bs := leBytes 8 s.ptime.toNat ++ leBytes 2 source.toNat ++ leBytes 2 seq ++
      [if gap then 1 else 0] ++ zeros 3 ++ slice w1 0 8 ++ slice w2 0 8
    (true, (s.setBytes (ringAt (s.fr64 logPage 0x120 / 32 * 32) prod l2 32) bs).postFld logPage 0x12C 0 16
      (idxAdd prod 1))
  else (false, s.count logPage 0x06 1)

/-- LOG_POST: a GO posts LOG_POST_DATA as one log record, or with TRACE its bytes 16–31 as a trace
record of the requester (R483). -/
def State.logPost (s : State) (mid : Mid) : State :=
  let v := s.rd logPage 0x138
  let s := s.postBit logPage 0x138 31 false
  let data := (List.range 16).flatMap fun i => leBytes 4 (s.rd logPage (0x140 + 4 * i)).toNat
  if bit v 30 then
    if bit (s.fr logPage 0x128) 31 then
      let st := tabGet (0, false) s.log.trc mid.toNat
      let r := s.tracePut mid st.1 st.2 (slice data 16 8) (slice data 24 8)
      { r.2 with log := { r.2.log with
          trc := tabPut (0, false) r.2.log.trc mid.toNat (idxAdd st.1 1, !r.1) } }
    else s
  else
    s.stageLog { time := s.ptime, source := BitVec.ofNat 16 (leAt data 8 2), severity := leAt data 10 1 % 4,
                 family := data.getD 11 0, code := BitVec.ofNat 16 (leAt data 12 2),
                 count := leAt data 16 4, data := slice data 24 40 }

/-- LOG_POST (R483): a write of LOG_POST with GO. -/
def execLogPost (mid : Mid) (trace : Bool) (s : State) : Host.Outcome State Fault Refusal :=
  .next (s.nowWrite mid logPage 0x138 (if trace then 0xC0000000 else 0x80000000) fun s => s.logPost mid)

end Sys2Proof.Machine
end

