-- ==== Sys2Proof/Machine/Security.lean ====
section
/-! DEFINITION. Fuses, lifecycle, debug unlock and the alarm commands (R488–R510). -/
namespace Sys2Proof.Machine

/-! ### Lifecycle (R490) -/

/-- Are both bits of pair `i` (0 PROVISIONED, 1 OPERATIONAL, 2 RMA) blown? -/
def lcPair (lc : BitVec 6) (i : Nat) : Bool := lc.getLsbD (2 * i) && lc.getLsbD (2 * i + 1)

/-- The lifecycle state that the fuses read as: the highest state both of whose bits are blown. -/
def lcState (lc : BitVec 6) : Nat :=
  if lcPair lc 2 then 3 else if lcPair lc 1 then 2 else if lcPair lc 0 then 1 else 0

/-- A state with exactly one bit blown (SEC_LC.PARTIAL). -/
def lcPartial (lc : BitVec 6) : Bool :=
  [0, 1, 2].any fun i => lc.getLsbD (2 * i) != lc.getLsbD (2 * i + 1)

/-- LC_INVALID: a higher pair blown while the PROVISIONED pair is unblown (R504). -/
def lcInvalid (lc : BitVec 6) : Bool := !lcPair lc 0 && (lcPair lc 1 || lcPair lc 2)

/-! ### SEC_CMD (R492, R510) -/

/-- A SEC_CMD completes: DONE, RESULT and CMD_DONE; GO reads 0 again. -/
def State.secDone (s : State) (result : Nat) : State :=
  ((s.postBit secPage 0x108 31 false).post secPage 0x10C
    (BitVec.ofNat 32 (0x40000000 + result))).raiseBit secPage 0

/-- Some slot enrolled and not revoked. -/
def Fuses.live (f : Fuses) : BitVec 4 := f.enrolled &&& ~~~f.revoked

/-- May ADVANCE_LC go to the target (R490, R492)? -/
def State.advanceOk (s : State) (target : Nat) : Bool :=
  (target == 1 && s.sec.lc == 0 && decide (s.fuses.vendorHash ≠ 0)) ||
  (target == 2 && s.sec.lc == 1 && decide (s.fuses.live ≠ 0)) ||
  (target == 3 && (s.sec.lc == 1 || s.sec.lc == 2))

/-- ADVANCE_LC (R490, R492). `got` holds the bits of the pair that read back as blown. RMA zeroizes
every key RAM first; PROVISIONED draws and fuses the DUS. The state itself is read at
PKG_RESET_N. -/
def State.advanceLc (s : State) (target : Nat) (got : BitVec 2) : State :=
  if 2 ≤ s.alarmLevel then s.secDone 0x02
  else if !s.advanceOk target then s.secDone 0x01
  else
    let s := if target = 3 then s.eclipse else s
    let s := if target = 1 then
        { s.draw.2 with fuses := { s.draw.2.fuses with dus := Config.random256 s.draw.1 } } else s
    let pair : BitVec 6 := (got.setWidth 6) <<< (2 * (target - 1))
    let s := { s with fuses := { s.fuses with lc := s.fuses.lc ||| pair } }
    if lcPair s.fuses.lc (target - 1) then s.secDone 0x00 else s.secDone 0x04

/-- The 48 bytes of SEC_CMD_DATA. -/
def State.secData (s : State) : BitVec 384 :=
  BitVec.ofNat 384 (leNat ((List.range 12).flatMap fun i =>
    leBytes 4 (s.rd secPage (0x140 + 4 * i)).toNat))

/-- ENROL writes SEC_CMD_DATA into an empty slot (R491, R510). -/
def State.enrol (s : State) (slot : Nat) (debug ok : Bool) : State :=
  if 2 ≤ s.alarmLevel then s.secDone 0x02
  else if !(s.sec.lc == 1 || s.sec.lc == 2) then s.secDone 0x01
  else if 4 ≤ slot || s.fuses.enrolled.getLsbD slot then s.secDone 0x03
  else if !ok then s.secDone 0x04
  else
    let m : BitVec 4 := 1 <<< slot
    ({ s with fuses := { s.fuses with
        slotHash := s.fuses.slotHash.set slot s.secData
        enrolled := s.fuses.enrolled ||| m
        dbgSlots := if debug then s.fuses.dbgSlots ||| m else s.fuses.dbgSlots } }).secDone 0x00

/-- REVOKE marks a slot revoked; the last live slot stays while OPERATIONAL (R510). -/
def State.revoke (s : State) (slot : Nat) (ok : Bool) : State :=
  let m : BitVec 4 := 1 <<< slot
  if 2 ≤ s.alarmLevel then s.secDone 0x02
  else if !(s.sec.lc == 1 || s.sec.lc == 2) then s.secDone 0x01
  else if 4 ≤ slot || !s.fuses.enrolled.getLsbD slot then s.secDone 0x03
  else if s.sec.lc == 2 && s.fuses.live == m then s.secDone 0x05
  else if !ok then s.secDone 0x04
  else ({ s with fuses := { s.fuses with revoked := s.fuses.revoked ||| m } }).secDone 0x00

/-- The result of a BURN of a thermometer minimum from `cur` to `want` (R510); `none` blows. -/
def burnCheck (cur want : Nat) : Option Nat :=
  if want = 0 ∨ 64 < want ∨ want < cur then some 0x03 else if want = cur then some 0x00 else none

/-- BURN_FW_SVN and BURN_PATCH_SVN raise a fused minimum to SEC_CMD_DATA0 [6:0]. -/
def State.burn (s : State) (patch ok : Bool) : State :=
  let cur := if patch then s.fuses.patchSvn else s.fuses.fwSvn
  let want := s.rdFld secPage 0x140 0 7
  if 2 ≤ s.alarmLevel then s.secDone 0x02
  else if s.sec.lc == 3 then s.secDone 0x01
  else match burnCheck cur want with
  | some r => s.secDone r
  | none =>
    if !ok then s.secDone 0x04
    else
      let f := if patch then { s.fuses with patchSvn := want } else { s.fuses with fwSvn := want }
      ({ s with fuses := f }).secDone 0x00

/-- A write of SEC_CMD with GO, ignored while BUSY. -/
def State.secCmd (s : State) (mid : Mid) (v : Reg) (act : State → State) : State :=
  s.ownWrite mid secPage 0x108 (v ||| 0x80000000) fun s =>
    if bit (s.rd secPage 0x10C) 31 then s else act s

/-- ADVANCE_LC (R492). -/
def execAdvanceLc (mid : Mid) (target : BitVec 4) (got : BitVec 2) (s : State) :
    Host.Outcome State Fault Refusal :=
  .next (s.secCmd mid (BitVec.ofNat 32 (target.toNat * 256 + 1)) fun s => s.advanceLc target.toNat got)

/-- ENROL (R510). -/
def execEnrol (mid : Mid) (slot : BitVec 4) (debug ok : Bool) (s : State) :
    Host.Outcome State Fault Refusal :=
  .next (s.secCmd mid (BitVec.ofNat 32 (slot.toNat * 256 + 2 + (if debug then 65536 else 0)))
    fun s => s.enrol slot.toNat debug ok)

/-- REVOKE (R510). -/
def execRevoke (mid : Mid) (slot : BitVec 4) (ok : Bool) (s : State) :
    Host.Outcome State Fault Refusal :=
  .next (s.secCmd mid (BitVec.ofNat 32 (slot.toNat * 256 + 3)) fun s => s.revoke slot.toNat ok)

/-- BURN_FW_SVN (R510). -/
def execBurnFwSvn (mid : Mid) (ok : Bool) (s : State) : Host.Outcome State Fault Refusal :=
  .next (s.secCmd mid 4 fun s => s.burn false ok)

/-- BURN_PATCH_SVN (R510). -/
def execBurnPatchSvn (mid : Mid) (ok : Bool) (s : State) : Host.Outcome State Fault Refusal :=
  .next (s.secCmd mid 5 fun s => s.burn true ok)

/-! ### Debug unlock (R498–R503) -/

/-- DBG_NONCE: a fresh nonce, an empty FIFO, and every earlier nonce invalid (R499). -/
def State.dbgNonce (s : State) : State :=
  let n := Config.random256 s.draw.1
  let s := s.draw.2
  let s := { s with sec := { s.sec with nonce := some n, fifo := [] } }
  let s := s.postBit secPage 0x200 31 false
  (List.range 8).foldl (fun s i =>
    s.post secPage (0x220 + 4 * i) (BitVec.ofNat 32 (n.toNat / 2 ^ (32 * i)))) s

/-- Bytes of a debug token (R498). -/
def tokenLen : Nat := 7476

/-- The refusal of a token, by the first check that fails in the order of R500; `none` accepts. -/
def State.tokenCheck (s : State) : Option Nat :=
  let t := s.sec.fifo
  let key := (t.getD 6 0).toNat
  let pubs := slice t 64 2689
  let h := Config.sha384 pubs
  if 2 ≤ s.alarmLevel then some 0x05
  else if !(s.sec.lc == 1 || s.sec.lc == 2) then some 0x04
  else if t.length ≠ tokenLen || slice t 0 4 != [0x44, 0x42, 0x47, 0x54] || leAt t 4 2 ≠ 1 ||
      8 ≤ (t.getD 7 0).toNat || slice t 48 16 != zeros 16 || leAt t 8 8 ≠ s.fuses.serial.toNat then some 0x01
  else if s.sec.nonce ≠ some (BitVec.ofNat 256 (leAt t 16 32)) then some 0x03
  else if !(if key = 0xFF then h == s.fuses.vendorDbgHash &&
              (s.sec.lc == 1 || bit (s.rd secPage 0x118) 31)
            else decide (key < 4) && s.fuses.live.getLsbD key && s.fuses.dbgSlots.getLsbD key &&
              h == s.fuses.slotHash.getD key 0) then some 0x02
  else if !(Config.ecdsaVerify (slice t 64 97) (Config.sha384 (slice t 0 2753)) (slice t 2753 96) &&
            Config.mldsaVerify (slice t 161 2592) (slice t 0 2753) (slice t 2849 4627)) then some 0x01
  else none

/-- DBG_GO: the token is verified; it unlocks its scope or is refused, and the nonce is consumed
either way (R499–R503). -/
def State.dbgGo (s : State) : State :=
  let r := s.tokenCheck
  let t := s.sec.fifo
  let s := (s.postBit secPage 0x200 30 false).post secPage 0x204
    (BitVec.ofNat 32 (0x40000000 + r.getD 0))
  let s := { s with sec := { s.sec with nonce := none } }
  let s := match r with
    | none =>
      let sc : BitVec 3 := BitVec.ofNat 3 (t.getD 7 0).toNat
      let s := { s with sec := { s.sec with scope := sc } }
      s.post secPage 0x11C (BitVec.ofNat 32
        (0x80000000 + sc.toNat * 0x1000000 + (t.getD 6 0).toNat * 0x10000))
    | some 0x05 => s
    | some _ =>
      let n := satAdd (s.rdFld secPage 0x11C 0 8) 1 8
      let s := s.postFld secPage 0x11C 0 8 n
      if 3 ≤ n then s.fireAlarm 6 else s
  (s.logFw 0x0001 3 (leBytes 2 (r.getD 0))).raiseBit secPage 1

/-- DBG_NONCE: a write of SEC_DBG_REQ.NONCE (R499). -/
def execDbgNonce (mid : Mid) (s : State) : Host.Outcome State Fault Refusal :=
  .next (s.ownWrite mid secPage 0x200 0x80000000 State.dbgNonce)

/-- DBG_FIFO_WRITE: 4 token bytes, in ascending order (R499). -/
def execDbgFifoWrite (mid : Mid) (v : Reg) (s : State) : Host.Outcome State Fault Refusal :=
  .next (s.ownWrite mid secPage 0x208 v fun s =>
    { s with sec := { s.sec with fifo := s.sec.fifo ++ leBytes 4 v.toNat } })

/-- DBG_GO (R500). -/
def execDbgGo (mid : Mid) (s : State) : Host.Outcome State Fault Refusal :=
  .next (s.ownWrite mid secPage 0x200 0x40000000 State.dbgGo)

/-- RELOCK: the unlock ends, with every debug-port session (R501). -/
def execRelock (mid : Mid) (s : State) : Host.Outcome State Fault Refusal :=
  .next (s.ownWrite mid secPage 0x118 ((s.rd secPage 0x118 &&& 0x80000000) ||| 1) fun s =>
    (s.postBit secPage 0x118 0 false).relock)

/-! ### Fuse comparison and alarms -/

/-- FUSE_COMPARE: the fuse fields against their redundant copies; a disagreement fires
FUSE_INTEGRITY (R489). `agree` is what the array shows. -/
def execFuseCompare (agree : Bool) (s : State) : Host.Outcome State Fault Refusal :=
  let s := s.postBit fusePage 0x100 30 agree
  .next (if agree then s else s.fireAlarm 5)

/-- ALARM_FIRE: a source of R504 fires; sources 11–15 are reserved. -/
def execAlarmFire (src : BitVec 4) (s : State) : Host.Outcome State Fault Refusal :=
  .next (if src.toNat ≤ 10 then s.fireAlarm src.toNat else s)

/-- ALARM_PULSE_END: the 1 µs pulse of an A1 latch ends; at A2 and above the pin stays asserted
(R506). -/
def execAlarmPulseEnd (s : State) : Host.Outcome State Fault Refusal :=
  match s.sec.pulseEnd with
  | none => .next s
  | some t =>
    if t ≤ s.clk then
      .next { s with sec := { s.sec with pulseEnd := none }
                     pins := { s.pins with alarmN := if 2 ≤ s.alarmLevel then s.pins.alarmN else true } }
    else .next s

/-- ALMAP_LATCH: a 1 clears a latch and its count only where the source's level is A1 (R506). -/
def State.latchClear (s : State) (v : Reg) : State :=
  (List.range 16).foldl (fun s src =>
    if bit v src && s.rdFld almapPage 0x100 (2 * src) 2 == 1 then
      (s.postBit almapPage 0x108 src false).postFld almapPage (0x140 + 4 * src) 0 16 0
    else s) s

/-- ALMAP_LATCH_CLEAR (R506): a write of ALMAP_LATCH; the latch register itself is not merged, since
A2 and A3 latches stay. -/
def execAlmapLatchClear (mid : Mid) (v : Reg) (s : State) : Host.Outcome State Fault Refusal :=
  .next (s.accessWrite mid almapPage 0x108 fun s => ((s.stamp almapPage).latchClear v).applied almapPage)

/-- A level written below its source's floor is stored as the floor, 0b00 is reserved for sources
0–10, and sources 11–15 read 0b00 (R509). -/
def almapStore (old v : Reg) : Reg :=
  (List.range 16).foldl (fun x src =>
    let fl := fld 0x00395957 (2 * src) 2
    let n := fld v (2 * src) 2
    if 11 ≤ src then setFld x (2 * src) 2 0
    else if n = 0 then setFld x (2 * src) 2 (fld old (2 * src) 2)
    else setFld x (2 * src) 2 (max n fl)) 0

/-- ISO_WINDOW_START: at each multiple of WINDOW_MS of package time the isolation count returns to 0
(R508). -/
def execIsoWindowStart (s : State) : Host.Outcome State Fault Refusal :=
  let w := s.ptime.toNat / (s.rdFld secPage 0x110 16 16 * 1000000)
  if w = s.sec.isoWin then .next s
  else .next { s.post secPage 0x114 0 with
               sec := { (s.post secPage 0x114 0).sec with isoFired := false, isoWin := w } }

end Sys2Proof.Machine
end

