-- ==== Sys2Proof/Machine/Mgmt.lean ====
section
/-! DEFINITION. Flash, firmware images, boot, the watchdog, sensors and the BMC's messages that need no
lease (R511–R536). -/
namespace Sys2Proof.Machine

/-! ### Flash (R511–R514) -/

/-- Header sector of bank 0 (A) or 1 (B). -/
def bankHdr (b : Nat) : Nat := flashBase + b * 0x10000
/-- Firmware image of a bank. -/
def bankImg (b : Nat) : Nat := flashBase + 0x100000 + b * 0x800000
/-- Vendor patch of a bank. -/
def bankPatch (b : Nat) : Nat := bankImg b + 0x500000

/-- Flash programming only clears bits (R512). -/
def State.program (s : State) (a : Nat) : List Byte → State
  | [] => s
  | b :: bs => (s.setByte a (s.byte a &&& b)).program (a + 1) bs

/-- MAGIC of a bank header (R512). -/
def bankMagic : List Byte := [0x4F, 0x42, 0x4E, 0x4B]
/-- SEQ of a bank. -/
def State.bankSeq (s : State) (b : Nat) : Nat := leNat (s.bytes (bankHdr b + 4) 4)
/-- STATE of a bank. -/
def State.bankState (s : State) (b : Nat) : Byte := s.byte (bankHdr b + 8)
/-- TRIES bytes consumed, 0–3. -/
def State.triesUsed (s : State) (b : Nat) : Nat :=
  ((s.bytes (bankHdr b + 16) 3).filter fun x => x == 0).length
/-- A candidate of a cold boot (R514). -/
def State.candidate (s : State) (b : Nat) : Bool :=
  s.bytes (bankHdr b) 4 == bankMagic &&
    (s.bankState b == 0x3F || (s.bankState b == 0x7F && decide (s.triesUsed b < 3)))
/-- Consume one TRIES byte of a bank that is not GOOD (R514, R523). -/
def State.useTry (s : State) (b : Nat) : State :=
  if s.bankState b == 0x3F then s else s.program (bankHdr b + 16 + s.triesUsed b) [0]

/-! ### Images (R441, R442, R516) -/

/-- Bytes of the keys of an image, from the end of its payload. -/
def imgPubs (img : List Byte) (len : Nat) : List Byte := slice img (256 + len) 2689

/-- Step 2: the SHA-384 of both public keys is the trusted hash. -/
def imgKeysOk (img : List Byte) (len : Nat) (h : BitVec 384) : Bool := Config.sha384 (imgPubs img len) == h

/-- Step 4: both signatures verify. -/
def imgSigsOk (img : List Byte) (len : Nat) : Bool :=
  let body := slice img 0 (256 + len + 2689)
  Config.ecdsaVerify (slice img (256 + len) 97) (Config.sha384 body) (slice img (256 + len + 2689) 96) &&
  Config.mldsaVerify (slice img (256 + len + 97) 2592) body (slice img (256 + len + 2785) 4627)

/-- IMAGE_ID of a header. -/
def imgId (img : List Byte) : BitVec 384 := BitVec.ofNat 384 (leAt img 96 48)

/-- Step 1 of a firmware image (R516). -/
def fwHeaderOk (h : List Byte) : Bool :=
  slice h 0 4 == [0x4F, 0x46, 0x57, 0x49] && leAt h 4 2 == 1 && h.getD 6 0 == 3 && h.getD 7 0 == 0 &&
  leAt h 8 2 == 0x00B0 && leAt h 10 2 == 0 && decide (1 ≤ leAt h 16 4) && decide (leAt h 16 4 ≤ 262144) &&
  leAt h 20 2 == 0 && leAt h 22 2 == 1 && leAt h 24 4 == 0 && leAt h 28 4 == 0 &&
  decide (leAt h 32 2 < leAt h 16 4) && slice h 34 30 == zeros 30 && slice h 64 28 == zeros 28 &&
  leAt h 92 4 == 16 * leAt h 16 4 && slice h 192 64 == zeros 64

/-- A verified firmware image at a flash address: its IMAGE_ID and SVN (R516). -/
def State.fwVerify (s : State) (a : Nat) : Option (BitVec 384 × Nat) :=
  let h := s.bytes a 256
  if !fwHeaderOk h then none
  else
    let len := leAt h 92 4
    let img := s.bytes a (256 + len + 7412)
    if imgKeysOk img len s.fuses.vendorHash && decide (s.fuses.fwSvn ≤ leAt h 12 4) && imgSigsOk img len &&
        Config.sha384 (slice img 256 len) == imgId img
    then some (imgId img, leAt h 12 4) else none

/-! ### Boot configuration (R520) -/

/-- A valid copy of the boot configuration record. -/
def bootCfgOk (r : List Byte) : Bool :=
  slice r 0 4 == [0x42, 0x43, 0x46, 0x47] && (r.getD 8 0 == 8 || r.getD 8 0 == 4) &&
  leAt r 252 4 == (crc32c (slice r 0 252)).toNat &&
  (List.range 32).all fun e => decide (leAt r (32 + 4 * e) 1 + leAt r (33 + 4 * e) 1 ≤ 254)

/-- The record in use: the valid copy with the higher SEQ. -/
def State.pickBootCfg (s : State) : Option (List Byte) :=
  let a := s.bytes (flashBase + 0x20000) 256
  let b := s.bytes (flashBase + 0x21000) 256
  match bootCfgOk a, bootCfgOk b with
  | true, true => some (if leAt a 4 4 < leAt b 4 4 then b else a)
  | true, false => some a
  | false, true => some b
  | false, false => none

/-- May cluster `c` hold leases (R520)? -/
def State.leaseCluster (s : State) (c : Nat) : Bool :=
  match s.omc.bootCfg with
  | none => false
  | some r => (r.getD 9 0).getLsbD 0 && decide (c < 128) && (r.getD (16 + c / 8) 0).getLsbD (c % 8)

/-! ### Cold boot (R514–R518) -/

/-- The banks in the order the boot agent takes them: candidates, the higher SEQ first. -/
def State.bankOrder (s : State) : List Nat :=
  match s.candidate 0, s.candidate 1 with
  | true, true => if s.bankSeq 0 < s.bankSeq 1 then [1, 0] else [0, 1]
  | true, false => [0]
  | false, true => [1]
  | false, false => []

/-- Start a verified bank: measurements, watchdog, firmware in control (R493, R514, R517). -/
def State.startBank (s : State) (b : Nat) (first : Bool) (v : BitVec 384 × Nat) : State :=
  let s := { s with
    omc := { s.omc with running := true, kickAt := s.clk, fwDigest := v.1, fwSvn := v.2 }
    sec := { s.sec with meas := tabPut 0 (tabPut 0 s.sec.meas 1 0x10) 2 v.1
                        aliasKey := s.sec.devIdKey.map fun _ =>
                          ecdsaScalar (engineKey s.fuses.dus
                            [0x41, 0x36, 0x34, 0x33, 0x32, 0x2D, 0x41, 0x4C, 0x49, 0x41, 0x53]
                            (leBytes 16 v.1.toNat) 448) } }
  let s := s.postBoth bootPage 0x100 (BitVec.ofNat 32
    (0x10000000 + b * 0x800000 + (if first then 0 else 0x400000)))
  s.postBoth omcPage 0x100 (setBit (s.rd omcPage 0x100) 31 true)

/-- The boot agent tries the banks in order (R514); a bank that fails verification is marked INVALID.
With none left it enters recovery (R515). -/
def State.tryBanks (s : State) (first : Bool) : List Nat → State
  | [] => s.postBoth bootPage 0x100 (BitVec.ofNat 32 (0xE0000001 + (if first then 0 else 0x400000)))
  | b :: bs =>
    let s := s.useTry b
    match s.fwVerify (bankImg b) with
    | some v => s.startBank b first v
    | none => (s.program (bankHdr b + 8) [0]).tryBanks false bs

/-- Fuses into the FUSE page, and the lifecycle (R488–R490). -/
def State.loadFuses (s : State) : State :=
  let f := s.fuses
  let put48 := fun (s : State) (off : Nat) (v : BitVec 384) =>
    (List.range 12).foldl (fun s i => s.post fusePage (off + 4 * i) (BitVec.ofNat 32 (v.toNat / 2 ^ (32 * i)))) s
  let s := s.post fusePage 0x100 0xC0000000
  let s := s.post64 fusePage 0x104 f.serial.toNat
  let s := s.post fusePage 0x10C (BitVec.ofNat 32
    (f.dbgSlots.toNat * 256 + f.revoked.toNat * 16 + f.enrolled.toNat))
  let s := s.post fusePage 0x110 (BitVec.ofNat 32 (f.patchSvn * 65536 + f.fwSvn))
  let s := put48 (put48 s 0x140 f.vendorHash) 0x170 f.vendorDbgHash
  let s := (List.range 4).foldl (fun s i => put48 s (0x200 + 0x40 * i) (f.slotHash.getD i 0)) s
  let s := (List.range 4).foldl (fun s i => s.post sensPage (0x120 + 4 * i)
    (BitVec.ofNat 32 ((f.avs.getD i 0).toNat * 65537))) s
  let lc := lcState f.lc
  let s := s.post secPage 0x100 (BitVec.ofNat 32 (lc + (if lcPartial f.lc then 8 else 0)))
  { s with sec := { s.sec with lcKnown := true, lc := lc } }

/-- The keys of the hierarchy that the lifecycle leaves usable (R491, R494). -/
def State.loadKeys (s : State) : State :=
  let live := s.sec.lc = 1 ∨ s.sec.lc = 2
  let v := s.draw
  { v.2 with sec := { v.2.sec with
      kek := if live then some (BitVec.ofNat 256 (leNat (engineKey s.fuses.dus
        [0x41, 0x36, 0x34, 0x33, 0x32, 0x2D, 0x4B, 0x45, 0x4B] (zeros 16) 256))) else none
      devIdKey := if live then some (ecdsaScalar (engineKey s.fuses.dus
        [0x41, 0x36, 0x34, 0x33, 0x32, 0x2D, 0x44, 0x45, 0x56, 0x49, 0x44] (zeros 16) 448)) else none
      patchKey := some (BitVec.ofNat 256 (leNat (engineKey s.fuses.vendorImgSecret
        [0x41, 0x36, 0x34, 0x33, 0x32, 0x2D, 0x50, 0x41, 0x54, 0x43, 0x48] (zeros 16) 256)))
      vaultKey := some (Config.random256 v.1) } }

/-- The cold boot sequence of the boot agent after PKG_RESET_N is released (R517). -/
def State.coldBoot (s : State) : State :=
  let s := { s with omc := { s.omc with relAt := s.clk } }
  let s := s.loadFuses.loadKeys
  let s := if lcInvalid s.fuses.lc then s.fireAlarm 10 else s
  let s := s.tryBanks true s.bankOrder
  if !s.omc.running then s
  else
    let c := s.pickBootCfg
    let t8 := match c with | some r => r.getD 8 0 == 8 | none => true
    let s := { s with omc := { s.omc with bootCfg := c, t8 := t8 } }
    let s := s.postBoth bootPage 0x104 (if t8 then 1 else 0)
    let m8 := Config.sha384 (c.getD (zeros 256))
    let s := { s with sec := { s.sec with meas := tabPut 0 s.sec.meas 8 m8 } }
    if c.isNone then s.logFw 0x0002 0 [] else s

/-- BOOT_EP_RELEASE: the milestone at which endpoints become ready (R519). -/
def execBootEpRelease (mid : Mid) (s : State) : Host.Outcome State Fault Refusal :=
  .next (s.nowWrite mid bootPage 0x108 1 fun s =>
    let s := if s.omc.released then s
      else { s with omc := { s.omc with released := true, releasedAt := s.clk } }
    s.post bootPage 0x11C (BitVec.ofNat 32 ((s.clk - s.omc.relAt) / 1000)))

/-! ### The watchdog (R521–R523) -/

/-- TIMEOUT_MS in ns. -/
def State.wdtNs (s : State) : Nat := s.frFld omcPage 0x100 0 16 * 1000000

/-- KICK restarts the watchdog count (R521). -/
def execKick (mid : Mid) (s : State) : Host.Outcome State Fault Refusal :=
  .next (s.ownWrite mid omcPage 0x100 (s.rd omcPage 0x100 ||| 0x40000000) fun s =>
    { s.postBit omcPage 0x100 30 false with
      omc := { (s.postBit omcPage 0x100 30 false).omc with kickAt := s.clk } })

/-- WDT_WARN: half the timeout has passed without a KICK (R521). -/
def execWdtWarn (s : State) : Host.Outcome State Fault Refusal :=
  if bit (s.fr omcPage 0x100) 31 ∧ s.wdtNs ≤ 2 * (s.clk - s.omc.kickAt) then .next (s.raiseBit omcPage 1)
  else .next s

/-- The bank running (BOOT_STS.BANK). -/
def State.runBank (s : State) : Nat := s.rdFld bootPage 0x100 23 1

/-- Halt with STATE 0xF and an error code (R521, R523). -/
def State.haltBoot (s : State) (err : Nat) : State :=
  let s := { s with omc := { s.omc with running := false, halted := true } }
  s.postBoth bootPage 0x100 (setFld (setFld (s.rd bootPage 0x100) 28 4 0xF) 0 16 err)

/-- The OMC restart: its domain resets, updates in progress are abandoned, and the boot agent makes a
warm start of the running bank or halts (R521–R523). -/
def State.omcRestart (s : State) : State :=
  let b := s.runBank
  let s := s.postFld omcPage 0x104 0 8 (satAdd (s.rdFld omcPage 0x104 0 8) 1 8)
  let s := { s with omc := { s.omc with
    running := false, expired := true, leaseUp := none, certUp := none } }
  if s.bankState b != 0x3F && decide (3 ≤ s.triesUsed b) then s.haltBoot 0x0003
  else
    let s := s.useTry b
    match s.fwVerify (bankImg b) with
    | some v =>
      if v.1 = tabGet 0 s.sec.meas 2 then
        let s := { s with omc := { s.omc with running := true, kickAt := s.clk } }
        s.postBit omcPage 0x104 31 true
      else s.haltBoot 0x0002
    | none => s.haltBoot 0x0002

/-- OMC_RESTART: the whole timeout has passed without a KICK (R521). -/
def execOmcRestart (s : State) : Host.Outcome State Fault Refusal :=
  if bit (s.fr omcPage 0x100) 31 ∧ !s.omc.halted ∧ s.wdtNs ≤ s.clk - s.omc.kickAt then .next s.omcRestart
  else .next s

/-- BANK_GOOD: 60 s after endpoint release without an expiry the running bank is marked GOOD (R523). -/
def execBankGood (s : State) : Host.Outcome State Fault Refusal :=
  if s.omc.running ∧ s.omc.released ∧ !s.omc.expired ∧ 60000000000 ≤ s.clk - s.omc.releasedAt then
    .next (s.program (bankHdr s.runBank + 8) [0x3F])
  else .next s

/-! ### Sensors (R526, R527) -/

/-- A sensor as SENS_VAL shows it. -/
def State.sensor (s : State) (i : Nat) : Reg := tabGet 0 s.omc.sensors i

/-- One refreshed sensor: the thresholds of R527 apply to junction sensors 0x00–0x39 whose VALID is 1.
The unit is 1/8 °C: 840 is 105 °C and 920 is 115 °C. -/
def State.refreshOne (s : State) (i : Nat) (v : Reg) : State :=
  let s := { s with omc := { s.omc with sensors := tabPut 0 s.omc.sensors i v } }
  if !(bit v 31 && decide (i ≤ 0x39)) then s
  else
    let t := signedOf 24 (fld v 0 24)
    let s := if signedOf 16 (s.rdFld sensPage 0x108 0 16) ≤ t then
        let s := s.raiseBit sensPage 0
        if s.omc.eventRecv && s.omc.running then s.emit (.event "temp-warn") else s
      else s
    let s := if 840 < t then s.fireAlarm 4 else s
    if 920 ≤ t && s.pins.thermTripN then
      ({ s with pins := { s.pins with thermTripN := false } }).emit (.pin "THERM_TRIP_N" 0 false)
    else s

/-- SENSOR_REFRESH: every sensor takes a new reading, bit 31 VALID and [23:0] the value (R526). -/
def execSensorRefresh (vals : List (Nat × Reg)) (s : State) : Host.Outcome State Fault Refusal :=
  let s := vals.foldl (fun s v => s.refreshOne v.1 v.2) s
  .next (s.post sensPage 0x104 (s.sensor (s.rdFld sensPage 0x100 0 8)))

/-! ### QSPI (R513, R511) -/

/-- QSPI_COMMAND: READ fills QSPI_DATA, PROGRAM clears bits, ERASE_SECTOR erases 64 KiB. Bytes from
0x400_0000 up are not used. GO reads 0 and BUSY stays 0: the operation is one step. -/
def State.qspi (s : State) : State :=
  let c := s.rd bootPage 0x120
  let n := fld c 2 8 + 1
  let a := (s.rd bootPage 0x124).toNat
  let s := s.postBit bootPage 0x120 31 false
  if 2 ^ 26 < a + n then s
  else match fld c 0 2 with
    | 0 =>
      let bs := s.bytes (flashBase + a) n
      (List.range ((n + 3) / 4)).foldl (fun s i =>
        s.postBoth bootPage (0x400 + 4 * i) (BitVec.ofNat 32 (leAt bs (4 * i) 4))) s
    | 1 =>
      let bs := (List.range 64).flatMap fun i => leBytes 4 (s.rd bootPage (0x400 + 4 * i)).toNat
      s.program (flashBase + a) (bs.take n)
    | 2 => s.eraseSector (flashBase + a / 65536 * 65536)
    | _ => s

/-- QSPI_COMMAND: a GO to QSPI_CMD, ignored while BUSY (R513). -/
def execQspiCommand (mid : Mid) (v : Reg) (s : State) : Host.Outcome State Fault Refusal :=
  .next (s.nowWrite mid bootPage 0x120 (v ||| 0x80000000) fun s =>
    if bit (s.rd bootPage 0x120) 30 then s else s.qspi)

/-! ### MCTP and PLDM (R530, R531) -/

/-- MCTP_CONTROL: control requests of R530; without firmware there is no response (R522). -/
def execMctpControl (cmd : Byte) (eid : Byte) (s : State) : Host.Outcome State Fault Refusal :=
  if !s.omc.running then .next s
  else match cmd with
    | 0x01 => .next ((s.post mgmtPageKey 0x104 (eid.setWidth 32)).emit (.reply "mctp-control" [0x01, 0x00, eid]))
    | 0x02 => .next (s.emit (.reply "mctp-control" [0x02, 0x00, (s.rd mgmtPageKey 0x104).setWidth 8]))
    | 0x04 => .next (s.emit (.reply "mctp-control" [0x04, 0x00]))
    | 0x05 => .next (s.emit (.reply "mctp-control" [0x05, 0x00, 0x04, 0x00, 0x01, 0x05, 0x7F]))
    | 0x06 => .next (s.emit (.reply "mctp-control" [0x06, 0x00]))
    | c => .next (s.emit (.reply "mctp-control" [c, 0x05]))

/-- PLDM_REQUEST of Type 0 or Type 2 (R530, R531): GetTID, versions, types and commands; PDRs, sensor
readings, and SetEventReceiver. A sensor whose VALID is 0 is Unavailable. -/
def execPldmRequest (type cmd : Byte) (arg : BitVec 16) (s : State) : Host.Outcome State Fault Refusal :=
  if !s.omc.running then .next s
  else
    let rep := fun (s : State) (d : List Byte) => s.emit (.reply "pldm" ([type, cmd] ++ d))
    match type, cmd with
    | 0x00, 0x02 => .next (rep s [0x00, s.omc.tid])
    | 0x00, 0x03 => .next (rep s [0x00])
    | 0x00, 0x04 => .next (rep s [0x00, 0x25])
    | 0x00, 0x05 => .next (rep s [0x00])
    | 0x02, 0x04 => .next (rep { s with omc := { s.omc with eventRecv := true } } [0x00])
    | 0x02, 0x11 =>
      let v := s.sensor arg.toNat
      .next (rep s (if bit v 31 then [0x00, 0x00] ++ leBytes 3 (fld v 0 24) else [0x00, 0x02]))
    | 0x02, 0x21 =>
      .next (rep s [0x00, BitVec.ofNat 8 (if arg = 0 then s.alarmLevel
        else if arg = 1 then s.sec.lc else s.rdFld bootPage 0x100 28 4)])
    | 0x02, 0x51 => .next (rep s ([0x00] ++ Config.firmwareReply [type, cmd] arg.toNat))
    | _, _ => .next (rep s [0x05])

/-- SPDM_MCTP_MESSAGE: the responder of R293 answers an SPDM request of the BMC; at A2 KEY_EX is refused
and at A3 every request is answered by an error (R505). -/
def execSpdmMctpMessage (code : Byte) (body : List Byte) (s : State) : Host.Outcome State Fault Refusal :=
  if !s.omc.running then .next s
  else if 3 ≤ s.alarmLevel ∨ (2 ≤ s.alarmLevel ∧ code = 0xE4) then
    .next (s.emit (.reply "spdm" [0x13, 0x7F]))
  else .next (s.draw.2.emit (.reply "spdm" (Config.firmwareReply (code :: body) s.draw.1)))

/-- STATUS_READ_BLOCK: command code 0xF0 returns BOOT_STS, SEC_ALARM and SEC_LC, in hardware, whether
or not firmware runs (R536). -/
def execStatusReadBlock (addr : BitVec 7) (s : State) : Host.Outcome State Fault Refusal :=
  if addr.toNat = s.rdFld mgmtPageKey 0x100 0 7 then
    .next (s.emit (.reply "smbus" (leBytes 4 (s.rd bootPage 0x100).toNat ++
      leBytes 4 (s.rd secPage 0x104).toNat ++ leBytes 4 (s.rd secPage 0x100).toNat)))
  else .next s

end Sys2Proof.Machine
end

