-- ==== Sys2Proof/Machine/Vendor.lean ====
section
/-! DEFINITION. Firmware update and the vendor commands that need no lease or session
(R496, R524, R525, R529, R532–R535). -/
namespace Sys2Proof.Machine

/-! ### Firmware update (R513, R520, R525) -/

/-- The vendor patch header checks of R441 and R442 step 1. -/
def patchHeaderOk (h : List Byte) : Bool :=
  slice h 0 4 == [0x48, 0x51, 0x49, 0x4D] && leAt h 4 2 == 1 && h.getD 6 0 == 1 && h.getD 7 0 == 1 &&
  leAt h 8 2 == 0x00B0 && leAt h 10 2 == 0 && decide (1 ≤ leAt h 16 4) &&
  decide (leAt h 16 4 + leAt h 20 2 ≤ 16384) && decide (1 ≤ leAt h 22 2) && decide (leAt h 22 2 ≤ 16) &&
  leAt h 92 4 == 16 * leAt h 16 4 && slice h 192 64 == zeros 64

/-- Step 7: every word has bits [125:121] equal to 0. -/
def imgWordsOk (pl : List Byte) : Bool :=
  (List.range (pl.length / 16)).all fun i => natField (leAt pl (16 * i) 16) 121 5 == 0

/-- The plaintext of a vendor patch that passes every step of R442; step numbers of the first failure
otherwise. -/
def State.patchOpen (s : State) (img : List Byte) : Except Nat (List Byte) :=
  let len := leAt img 92 4
  if !patchHeaderOk img then .error 1
  else if !imgKeysOk img len s.fuses.vendorHash then .error 2
  else if leAt img 12 4 < s.fuses.patchSvn then .error 3
  else if !imgSigsOk img len then .error 4
  else match s.sec.patchKey with
  | none => .error 5
  | some k =>
    match gcmOpen k (slice img 64 12) (slice img 0 64) (slice img 256 len) (slice img 76 16) with
    | none => .error 5
    | some pl =>
      if Config.sha384 pl ≠ imgId img then .error 6
      else if !imgWordsOk pl then .error 7
      else .ok pl

/-- Erase a whole number of sectors. -/
def State.eraseRange (s : State) (a n : Nat) : State :=
  { s with mem := s.mem.filter fun c => !(decide (a ≤ c.1) && decide (c.1 < a + n)) }

/-- Write a component into a bank: the supplied bytes, or a copy of the running bank's (R525). -/
def State.bankCopy (s : State) (dst src n : Nat) (given : Option (List Byte)) : State :=
  match given with
  | some bs => s.setBytes dst (bs.take n)
  | none =>
    let cells := s.mem.filter fun c => decide (src ≤ c.1) && decide (c.1 < src + n)
    cells.foldl (fun s c => s.setByte (c.1 - src + dst) c.2) s

/-- Write the firmware and patch components into the inactive bank in the order of R513. -/
def State.updateBank (s : State) (fw patch : Option (List Byte)) : State :=
  let b := s.runBank
  let o := 1 - b
  let s := s.eraseSector (bankHdr o)
  let s := s.eraseRange (bankImg o) 0x800000
  let s := s.bankCopy (bankImg o) (bankImg b) 0x500000 fw
  let s := s.bankCopy (bankPatch o) (bankPatch b) 0x100000 patch
  let ok := (s.fwVerify (bankImg o)).isSome &&
    (match patch with
     | none => true
     | some p => match s.patchOpen p with | .ok _ => true | .error _ => false)
  if ok then
    let s := s.program (bankHdr o) (bankMagic ++ leBytes 4 (s.bankSeq b + 1) ++ [0x7F])
    s.emit (.reply "pldm-fwup" [0x00])
  else
    (s.fireAlarm 8).emit (.reply "pldm-fwup" [0x01])

/-- Write a boot configuration record into the older copy with SEQ + 1 (R520). -/
def State.updateBootCfg (s : State) (r : List Byte) : State :=
  let a := s.bytes (flashBase + 0x20000) 256
  let b := s.bytes (flashBase + 0x21000) 256
  let sq := fun c => if bootCfgOk c then leAt c 4 4 + 1 else 0
  let at_ := if sq a ≤ sq b then flashBase + 0x20000 else flashBase + 0x21000
  let body := overlay (slice r 0 252) 4 (leBytes 4 (max (sq a) (sq b)))
  s.setBytes at_ (body ++ leBytes 4 (crc32c body).toNat)

/-- PLDM_UPDATE: a firmware package carries any of the three components (R525). At A2 and above
RequestUpdate is refused; nothing activates before the next PKG_RESET_N. -/
def State.pldmUpdate (s : State) (fw patch cfg : Option (List Byte)) : State :=
  if !s.omc.running then s
  else if 2 ≤ s.alarmLevel then s.emit (.reply "pldm-fwup" [0x80])
  else
    let s := match cfg with | some r => s.updateBootCfg r | none => s
    if fw.isNone && patch.isNone then s.emit (.reply "pldm-fwup" [0x00]) else s.updateBank fw patch

/-- PLDM_UPDATE (R525). -/
def execPldmUpdate (fw patch cfg : Option (List Byte)) (s : State) : Host.Outcome State Fault Refusal :=
  .next (s.pldmUpdate fw patch cfg)

/-! ### Vendor commands (R532–R535) -/

/-- A vendor response: COMMAND, TAG, COMPLETION, RESULT, LEN and the payload (R533). -/
def State.vendorReply (s : State) (cmd tag : Byte) (compl result : Nat) (payload : List Byte) : State :=
  s.emit (.reply "vendor" ([cmd, tag, BitVec.ofNat 8 compl, BitVec.ofNat 8 result] ++
    leBytes 2 payload.length ++ [0, 0] ++ payload))

/-- What every vendor request passes first (R530, R533): no response without firmware, INVALID_DATA for a
LEN that disagrees, NOT_READY before BOOT_EP_RELEASE but for GET_INFO and LOG_READ. -/
def State.vendor (s : State) (cmd tag : Byte) (len : Nat) (payload : List Byte)
    (act : State → State) : State :=
  if !s.omc.running then s
  else if len ≠ payload.length ∨ 4152 < len then s.vendorReply cmd tag 0x02 0 []
  else if !s.omc.released && !(cmd == 0x01 || cmd == 0x08) then s.vendorReply cmd tag 0x03 0 []
  else act s

/-- GET_INFO: 48 bytes (R534). -/
def execGetInfo (tag : Byte) (len : Nat) (payload : List Byte) (s : State) :
    Host.Outcome State Fault Refusal :=
  .next (s.vendor 0x01 tag len payload fun s =>
    s.vendorReply 0x01 tag 0 0 (leBytes 8 s.fuses.serial.toNat ++
      [BitVec.ofNat 8 s.sec.lc, BitVec.ofNat 8 s.alarmLevel, BitVec.ofNat 8 s.runBank,
       BitVec.ofNat 8 (s.rdFld bootPage 0x100 28 4)] ++
      leBytes 4 s.omc.fwSvn ++ leBytes 4 s.omc.patchSvn ++
      [BitVec.ofNat 8 s.fuses.fwSvn, BitVec.ofNat 8 s.fuses.patchSvn,
       if s.omc.t8 then 8 else 4, BitVec.ofNat 8 (s.rdFld omcPage 0x104 0 8)] ++
      leBytes 8 s.ptime.toNat ++ zeros 16))

/-- The reply to a command that acted through the SEC page: REFUSED with its RESULT, or SUCCESS. -/
def State.secReply (s : State) (cmd tag : Byte) (payload : List Byte) : State :=
  let r := s.rdFld secPage 0x10C 0 8
  if r = 0 then s.vendorReply cmd tag 0 0 payload
  else if r = 0x02 then s.vendorReply cmd tag 0x04 0 []
  else s.vendorReply cmd tag 0x05 r []

/-- SEC_COMMAND_MSG: 0x06 issues ENROL, REVOKE or ADVANCE_LC through SEC_CMD (R534). `ok` and `got` are
what the fuse array does. -/
def execSecCommandMsg (tag : Byte) (len : Nat) (payload : List Byte) (ok : Bool) (got : BitVec 2)
    (s : State) : Host.Outcome State Fault Refusal :=
  .next (s.vendor 0x06 tag len payload fun s =>
    let op := leAt payload 0 1
    let arg := leAt payload 1 1
    if payload.length ≠ 52 ∨ op = 0 ∨ 3 < op then s.vendorReply 0x06 tag 0x02 0 []
    else
      let s := (List.range 12).foldl (fun s i =>
        s.postBoth secPage (0x140 + 4 * i) (BitVec.ofNat 32 (leAt payload (4 + 4 * i) 4))) s
      let s := if op = 1 then s.advanceLc arg got
        else if op = 2 then s.enrol arg (bit (BitVec.ofNat 32 (leAt payload 2 1)) 0) ok
        else s.revoke arg ok
      s.secReply 0x06 tag [])

/-- SVN_COMMIT burns both minimums to the SVNs of the running firmware and patch, only when the running
bank is GOOD (R524). -/
def execSvnCommit (tag : Byte) (len : Nat) (payload : List Byte) (ok : Bool) (s : State) :
    Host.Outcome State Fault Refusal :=
  .next (s.vendor 0x07 tag len payload fun s =>
    if s.bankState s.runBank != 0x3F then s.vendorReply 0x07 tag 0x01 0 []
    else
      let s1 := (s.postBoth secPage 0x140 (BitVec.ofNat 32 s.omc.fwSvn))
      let s1 := if s.omc.fwSvn = 0 then s1.secDone 0 else s1.burn false ok
      if s1.rdFld secPage 0x10C 0 8 ≠ 0 then s1.secReply 0x07 tag []
      else
        let s2 := s1.postBoth secPage 0x140 (BitVec.ofNat 32 s1.omc.patchSvn)
        let s2 := if s1.omc.patchSvn = 0 then s2.secDone 0 else s2.burn true ok
        s2.secReply 0x07 tag [BitVec.ofNat 8 s2.fuses.fwSvn, BitVec.ofNat 8 s2.fuses.patchSvn])

/-- LOG_READ returns records of the persistent log, oldest first (R529, R534). -/
def execLogRead (tag : Byte) (len : Nat) (payload : List Byte) (s : State) :
    Host.Outcome State Fault Refusal :=
  .next (s.vendor 0x08 tag len payload fun s =>
    let first := leAt payload 0 4
    let n := leAt payload 4 2
    if payload.length ≠ 6 ∨ n = 0 ∨ 64 < n then s.vendorReply 0x08 tag 0x02 0 []
    else
      let total := s.log.persist
      let oldest := persistOldest total
      let held := total - oldest
      let m := min n (held - first)
      let recs := (List.range m).flatMap fun i =>
        s.bytes (persistBase + (oldest + first + i) % 16384 * 64) 64
      s.vendorReply 0x08 tag 0 0 (leBytes 4 held ++ leBytes 2 m ++ zeros 2 ++ recs))

/-- Take one part of an upload (R534): the new upload, or a RESULT of R535. -/
def takePart (up : Option Upload) (cluster lease part total off limit : Nat) (bs : List Byte) :
    Except Nat Upload :=
  if limit < total then .error 0x21
  else if part = 0 then
    if off ≠ 0 ∨ total < bs.length then .error 0x10
    else .ok { cluster := cluster, lease := lease, total := total, nextPart := 1, bytes := bs }
  else match up with
  | none => .error 0x10
  | some u =>
    if u.nextPart ≠ part ∨ u.bytes.length ≠ off ∨ u.total ≠ total ∨ u.cluster ≠ cluster ∨
        u.lease ≠ lease ∨ total < off + bs.length then .error 0x10
    else .ok { u with nextPart := part + 1, bytes := u.bytes ++ bs }

/-- SET_CERTIFICATE: parts of the slot 1 chain; the completing part starts the check of R496. -/
def execSetCertificate (tag : Byte) (len : Nat) (payload : List Byte) (s : State) :
    Host.Outcome State Fault Refusal :=
  .next (s.vendor 0x09 tag len payload fun s =>
    let bs := payload.drop 12
    if payload.length ≤ 12 ∨ 4096 < bs.length ∨ leAt payload 0 2 ≠ 0 then s.vendorReply 0x09 tag 0x02 0 []
    else match takePart s.omc.certUp 0 0 (leAt payload 2 2) (leAt payload 4 4) (leAt payload 8 4) 32768 bs with
    | .error r =>
      ({ s with omc := { s.omc with certUp := none } }).vendorReply 0x09 tag 0x02 r []
    | .ok u =>
      if u.bytes.length < u.total then
        ({ s with omc := { s.omc with certUp := some u } }).vendorReply 0x09 tag 0 0 []
      else
        let s := { s with omc := { s.omc with certUp := none } }
        match s.sec.aliasKey with
        | none => s.vendorReply 0x09 tag 0x01 0x20 []
        | some k =>
          if Config.chainOk u.bytes k then
            let s := s.setBytes (flashBase + 0x38000) u.bytes
            ({ s with sec := { s.sec with slot1 := u.bytes } }).vendorReply 0x09 tag 0 0 []
          else s.vendorReply 0x09 tag 0x01 0x20 [])

end Sys2Proof.Machine
end

