-- ==== Sys2Proof/Machine/Lease.lean ====
section
/-! DEFINITION. Leases, the control stores, and the vendor commands that load leases and create backend sessions
(R425–R448, R461, R532–R535). -/
namespace Sys2Proof.Machine

/-! ### The control store (R425–R427, R445–R447) -/

/-- Is the vendor partition locked? -/
def State.vlock (s : State) (c : Nat) : Bool := bit (s.rd (leasePage c) 0x100) 31
/-- LSE_CTL.STATE: 0 IDLE, 1 LOADED, 2 RUN, 3 STOPPED. -/
def State.lseSt (s : State) (c l : Nat) : Nat := s.rdFld (leasePage c) (leaseOff l) 26 2
/-- LSE_CTL.EN as the page shows it. -/
def State.lseEn (s : State) (c l : Nat) : Bool := bit (s.rd (leasePage c) (leaseOff l)) 31
/-- First word of a lease's control-store range. -/
def State.lseFirst (s : State) (c l : Nat) : Nat := 0x4000 + 64 * s.rdFld (leasePage c) (leaseOff l + 4) 0 8
/-- Words of the range. -/
def State.lseWords (s : State) (c l : Nat) : Nat := 64 * (s.rdFld (leasePage c) (leaseOff l + 4) 8 8 + 1)

/-- Store a word with fresh parity. -/
def State.csStore (s : State) (c w : Nat) (bs : List Byte) : State :=
  let s := s.setBytes (csBase c + 16 * w) bs
  { s with csBad := s.csBad.filter (· != c * 32768 + w) }

/-- Is a window write of the word accepted (R427)? -/
def State.csOpen (s : State) (c w : Nat) : Bool :=
  if w < 0x4000 then !s.vlock c
  else !((List.range 16).any fun l =>
    s.lseEn c l && decide (s.lseFirst c l ≤ w) && decide (w < s.lseFirst c l + s.lseWords c l))

/-- The staging register of the window: bytes 0–11 of the next word. -/
def State.csStaged (s : State) (c : Nat) : List Byte := tabGet (zeros 12) s.csStage c

/-- A write of the window at byte offset `o` of a word. -/
def State.csWindow (s : State) (c w o : Nat) (bs : List Byte) : State :=
  if !s.csOpen c w then s.raiseBit (leasePage c) 2
  else
    let all := overlay (s.csStaged c ++ zeros 4) o bs
    let s := { s with csStage := tabPut (zeros 12) s.csStage c (all.take 12) }
    if 12 < o + bs.length then s.csStore c w all else s

/-- CS_WINDOW_WRITE: a 32-bit write at byte offset 4·`o` of a word, or a 64-bit write where `wide` and the offset is a
multiple of 8 (R426, R427); a misaligned one is refused (R34). The access wakes the cluster. -/
def execCsWindowWrite (mid : Mid) (c : Fin 128) (w : Fin 32768) (o : Fin 4) (wide : Bool) (v : Word) (s : State) :
    Host.Outcome State Fault Refusal :=
  .next (if !s.windowAdmits mid then s.refuseClass mid (cluPage c 0)
    else if wide && decide (o.val % 2 = 1) then s.bumpReg lbusPage 0x104 0 32
    else (s.wake c).csWindow c w (4 * o) (leBytes (if wide then 8 else 4) v.toNat))

/-- A GO to CS_REPAIR_CMD: the word takes the data, with a log record that names it and the requester. -/
def State.csRepair (s : State) (mid : Mid) (c w : Nat) : State :=
  let p := leasePage c
  let s := s.postBit p 0x120 31 false
  if 0x4000 ≤ w then s
  else
    let bs := (List.range 4).flatMap fun i => leBytes 4 (s.fr p (0x110 + 4 * i)).toNat
    let s := (s.csStore c w bs).count p 0x42 1
    s.stageLog { time := s.ptime, source := unitPath p, severity := 3, family := 0x05, code := 0x0447
                 data := padTo (leBytes 2 w ++ leBytes 2 mid.toNat) 40 }

/-- CS_REPAIR: a vendor word is rewritten; only OMC requesters may (R447). -/
def execCsRepair (mid : Mid) (c : Fin 128) (w : Fin 32768) (s : State) : Host.Outcome State Fault Refusal :=
  .next (if !midIsOmc mid then s.refuseClass mid (leasePage c)
    else s.ownWrite mid (leasePage c) 0x120 (BitVec.ofNat 32 (2 ^ 31 + w.val)) fun s => s.csRepair mid c w)

/-- SCRUB_PASS: every word of both partitions is read; `bad` are the words in which an odd number of bits has gone wrong
since the last pass (R446). -/
def execScrubPass (c : Fin 128) (bad : List (Fin 32768)) (s : State) : Host.Outcome State Fault Refusal :=
  let p := leasePage c
  let s := { s with csBad := bad.foldl (fun l w =>
    if l.contains (c.val * 32768 + w.val) then l else l ++ [c.val * 32768 + w.val]) s.csBad }
  .next (if !bit (s.fr p 0x100) 30 || !s.litDom c then s
    else (s.csBad.filter fun k => k / 32768 == c.val).foldl (fun s k =>
      let w := k % 32768
      let s := (s.post p 0x104 (BitVec.ofNat 32 (2 ^ 31 + w))).raiseBit p 3
      (s.report (cluPage c 0) (cluPage c 0) 0x51 6 w).count p 0x41 1) s)

/-! ### Enabling, revoking, restarting (R429–R431, R436–R438) -/

/-- Do two ranges of `n` and `m` from `a` and `b` overlap? -/
def meet (a n b m : Nat) : Bool := decide (a < b + m) && decide (b < a + n)

/-- Is an enable refused (R429)? -/
def State.leaseRefused (s : State) (c l : Nat) : Bool :=
  let p := leasePage c
  let o := leaseOff l
  let ts := s.leaseThreads c l
  let mem := fun (l : Nat) => (s.rdFld p (leaseOff l + 0x10) 0 8, s.rdFld p (leaseOff l + 0x10) 8 8 + 1)
  let clash := fun (k : Nat) => k != l && s.lseSt c k != 0 &&
    (meet (s.lseFirst c l) (s.lseWords c l) (s.lseFirst c k) (s.lseWords c k) ||
     meet (mem l).1 (mem l).2 (mem k).1 (mem k).2 || ts.any fun t => (s.leaseThreads c k).contains t)
  ((List.range 16).any clash || decide ((mem l).1 < s.rdFld p 0x100 0 8) || ts.isEmpty ||
    (ts.any fun t => (s.thr c t).st != 0)) ||
  decide (s.rdFld p (o + 0x14) 0 24 = 0) || decide (256 < (mem l).1 + (mem l).2) ||
  decide (256 < (s.lseFirst c l - 0x4000) / 64 + s.lseWords c l / 64) || !s.vlock c

/-- LSE_CTL.EN = 1 is applied in state IDLE. -/
def State.leaseEnable (s : State) (c l : Nat) : State :=
  let p := leasePage c
  let o := leaseOff l
  if s.leaseRefused c l then
    let s := (s.postBit p o 31 false).postBit p o 30 true
    s.setFast p o (s.rd p o)
  else (s.postBit p o 30 false).postFld p o 26 2 1

/-- LSE_CTL.EN = 0 is applied: the threads are DISABLED and the stop of R437 is carried out. -/
def State.leaseRevoke (s : State) (c l : Nat) : State :=
  let p := leasePage c
  let o := leaseOff l
  let s := (s.postBit p o 31 true).leaseEnds c l 0
  let s := { s with omc := { s.omc with images := tabErase s.omc.images (c * 16 + l) } }
  (s.postBit p o 31 false).postFld p o 26 2 0

/-- RESTART of a STOPPED lease. -/
def State.leaseRestart (s : State) (c l : Nat) : State :=
  let p := leasePage c
  let o := leaseOff l
  if s.lseSt c l ≠ 3 then s
  else
    let s := (List.range 64).foldl (fun s n => if s.chanLease c n == some l then s.chanEmpty c n else s) s
    let s := (((s.postFld p o 20 4 0).postFld p o 8 8 0).postFld p o 26 2 1)
    (s.leaseThreads c l).foldl (fun s i => if (s.thr c i).st = 6 then s.setThr c i { s.thr c i with st := 0 } else s) s

/-- What fast logic does with a write of LSE_CTL. -/
def State.leaseCtl (s : State) (c l : Nat) (v : Reg) : State :=
  let p := leasePage c
  let o := leaseOff l
  let s := (s.postBit p o 29 false).postBit p o 28 false
  let st := s.lseSt c l
  if !bit v 31 then (if st = 0 then s else s.leaseRevoke c l)
  else if st = 0 then s.leaseEnable c l
  else
    let s := if bit v 28 then s.leaseRestart c l else s
    if bit v 29 then s.leaseStop c l 9 0 0 0 else s

/-- A write of LSE_CTL. -/
def State.leaseWrite (s : State) (mid : Mid) (c l : Nat) (v : Reg) : State :=
  s.ownWrite mid (leasePage c) (leaseOff l) v fun s => s.leaseCtl c l v

/-- LEASE_ENABLE: a write of EN = 1 with KEY_SLOT (R429). -/
def execLeaseEnable (mid : Mid) (c : Fin 128) (l : Fin 16) (key : Fin 4) (s : State) : Host.Outcome State Fault Refusal :=
  .next (s.leaseWrite mid c l (BitVec.ofNat 32 (2 ^ 31 + key.val * 2 ^ 24)))

/-- LEASE_REVOKE: a write of EN = 0 (R431). -/
def execLeaseRevoke (mid : Mid) (c : Fin 128) (l : Fin 16) (key : Fin 4) (s : State) : Host.Outcome State Fault Refusal :=
  .next (s.leaseWrite mid c l (BitVec.ofNat 32 (key.val * 2 ^ 24)))

/-- LEASE_STOP by OMC firmware: a write of STOP with EN = 1, CAUSE 0x9 (R436). -/
def execLeaseStop (mid : Mid) (c : Fin 128) (l : Fin 16) (key : Fin 4) (s : State) : Host.Outcome State Fault Refusal :=
  .next (s.leaseWrite mid c l (BitVec.ofNat 32 (2 ^ 31 + 2 ^ 29 + key.val * 2 ^ 24)))

/-- LEASE_RESTART: a write of RESTART with EN = 1 (R438). -/
def execLeaseRestart (mid : Mid) (c : Fin 128) (l : Fin 16) (key : Fin 4) (s : State) : Host.Outcome State Fault Refusal :=
  .next (s.leaseWrite mid c l (BitVec.ofNat 32 (2 ^ 31 + 2 ^ 28 + key.val * 2 ^ 24)))

/-- Does the page let a grant register of lease `l` be written: EN is 0, or it is LSE_TBL_USED (R429, R434)? -/
def State.grantOpen (s : State) (p : PageKey) (off : Nat) : Bool :=
  off < 0x200 || off % 0x40 == 0 || off % 0x40 == 0x20 || !bit (s.rd p (off / 0x40 * 0x40)) 31

/-- VLOCK: a write of LEASE_PART with VLOCK = 1 (R427). -/
def execVlock (mid : Mid) (c : Fin 128) (v : Reg) (s : State) : Host.Outcome State Fault Refusal :=
  .next (s.ownWrite mid (leasePage c) 0x100 (setBit v 31 true) id)

/-! ### The vendor patch (R443) -/

/-- Load a verified patch into one cluster whose vendor partition is unlocked. -/
def State.patchCluster (s : State) (img pl : List Byte) (c : Nat) : State :=
  if s.vlock c then s
  else
    let s := (s.eraseRange (csBase c) 0x40000).setBytes (csBase c + 16 * leAt img 20 2) pl
    let s := { s with csBad := s.csBad.filter fun k => !(k / 32768 == c && decide (k % 32768 < 0x4000)) }
    let p := leasePage c
    s.postBoth p 0x100 (setBit (setFld (s.rd p 0x100) 0 8 (min 255 (leAt img 24 4))) 31 true)

/-- The patch of a bank, where it is valid: image and plaintext. -/
def State.bankPatchOk (s : State) (b : Nat) : Option (List Byte × List Byte) :=
  let h := s.bytes (bankPatch b) 256
  let img := s.bytes (bankPatch b) (256 + min (leAt h 92 4) 0x40000 + 7412)
  match s.patchOpen img with
  | .ok pl => some (img, pl)
  | .error _ => none

/-- VENDOR_PATCH_LOAD: running firmware loads the patch of its own bank, else of the other, into every cluster and sets
VLOCK; with no valid patch VLOCK stays 0. -/
def execVendorPatchLoad (s : State) : Host.Outcome State Fault Refusal :=
  .next (if !s.omc.running then s
    else match (s.bankPatchOk s.runBank).orElse fun _ => s.bankPatchOk (1 - s.runBank) with
    | none => s
    | some (img, pl) =>
      let s := (List.range 128).foldl (fun s c => s.patchCluster img pl c) s
      { s with
        omc := { s.omc with patchId := imgId img, patchSvn := leAt img 12 4, patchLoaded := true }
        sec := { s.sec with meas := tabPut 0 s.sec.meas 3 (imgId img) } })

/-! ### Operator images (R441, R442, R444) -/

/-- Step 1 of R442 for an operator image. -/
def leaseHeaderOk (h : List Byte) (total : Nat) : Bool :=
  let words := leAt h 16 4
  let n := leAt h 22 2
  slice h 0 4 == [0x48, 0x51, 0x49, 0x4D] && leAt h 4 2 == 1 && h.getD 6 0 == 2 && h.getD 7 0 == 0 &&
  leAt h 8 2 == 0x00B0 && decide (leAt h 10 2 < 4) && decide (1 ≤ words) && decide (words ≤ 16384) &&
  leAt h 20 2 == 0 && decide (1 ≤ n) && decide (n ≤ 16) &&
  decide (1 ≤ leAt h 28 4) && decide (leAt h 28 4 ≤ 64) &&
  ((List.range 16).all fun i => if i < n then decide (leAt h (32 + 2 * i) 2 < words) else leAt h (32 + 2 * i) 2 == 0) &&
  slice h 64 28 == zeros 28 && leAt h 92 4 == 16 * words && slice h 192 64 == zeros 64 &&
  decide (total = 256 + 16 * words + 7412)

/-- The first step of R442 that an operator image fails; 0 if none. -/
def State.leaseImage (s : State) (img : List Byte) : Nat :=
  let len := leAt img 92 4
  let slot := leAt img 10 2
  if !leaseHeaderOk img img.length then 1
  else if !(imgKeysOk img len (s.fuses.slotHash.getD slot 0) && s.fuses.enrolled.getLsbD slot &&
      !s.fuses.revoked.getLsbD slot) then 2
  else if !imgSigsOk img len then 4
  else if Config.sha384 (slice img 256 len) ≠ imgId img then 6
  else if !imgWordsOk (slice img 256 len) then 7
  else 0

/-- A payload word with LV = 1 and the lease's number (R444). -/
def leasedWord (l : Nat) (w : List Byte) : List Byte :=
  overlay w 15 [BitVec.ofNat 8 ((w.getD 15 0).toNat / 64 * 64 + 32 + 2 * l + (w.getD 15 0).toNat % 2)]

/-- Measurement 7: the digest of the list of loaded images. -/
def State.measureImages (s : State) : State :=
  let bs := s.omc.images.flatMap fun e =>
    [BitVec.ofNat 8 (e.1 / 16), BitVec.ofNat 8 (e.1 % 16)] ++ leBytes 48 e.2.1.toNat ++ leBytes 4 e.2.2
  { s with sec := { s.sec with meas := tabPut 0 s.sec.meas 7 (Config.sha384 bs) } }

/-- Steps 2 to 6 of R444 for an accepted image: 0x18 and 0x19 are the failures of R535, 0 is success. -/
def State.leaseLoad (s : State) (c l : Nat) (img : List Byte) : Nat × State :=
  let p := leasePage c
  let o := leaseOff l
  let words := leAt img 16 4
  let ts := s.leaseThreads c l
  if s.lseWords c l < words ∨ s.rdFld p (o + 0x10) 8 8 + 1 < leAt img 24 4 ∨ ts.length < leAt img 28 4 then (0x18, s)
  else
    let first := s.lseFirst c l
    let s := (List.range words).foldl (fun s i => s.csStore c (first + i) (leasedWord l (slice img (256 + 16 * i) 16))) s
    let s := (s.postBoth p o (setFld (setBit (s.rd p o) 31 true) 24 2 (leAt img 10 2))).leaseEnable c l
    if s.lseSt c l ≠ 1 then (0x19, s)
    else
      let n := leAt img 22 2
      let s := (List.range ts.length).foldl (fun s j =>
        let i := ts.getD j 0
        s.postBoth (fcorePage c i) (0x100 + 4 * (i % 8))
          (setFld (s.rd (fcorePage c i) (0x100 + 4 * (i % 8))) 0 15 (first + leAt img (32 + 2 * (j % n)) 2))) s
      let s := { s with omc := { s.omc with
        images := tabInsert s.omc.images (c * 16 + l) (imgId img, leAt img 12 4) } }
      (0, s.measureImages)

/-! ### Vendor commands (R534, R535) -/

/-- The registers that LEASE_GRANT fills, in the order of its payload. -/
def grantRegs : List Nat := [0x04, 0x08, 0x0C, 0x10, 0x14, 0x18, 0x1C, 0x24, 0x28, 0x2C, 0x30, 0x34]

/-- LEASE_GRANT writes the grants of an IDLE lease. -/
def execLeaseGrant (tag : Byte) (len : Nat) (payload : List Byte) (s : State) : Host.Outcome State Fault Refusal :=
  .next (s.vendor 0x02 tag len payload fun s =>
    let c := leAt payload 0 1
    let l := leAt payload 1 1
    if payload.length ≠ 56 ∨ 16 ≤ l then s.vendorReply 0x02 tag 0x02 0 []
    else if !s.leaseCluster c then s.vendorReply 0x02 tag 0x02 0x01 []
    else if s.lseSt c l ≠ 0 then s.vendorReply 0x02 tag 0x01 0x02 []
    else
      let p := leasePage c
      let put := fun (s : State) (off : Nat) (v : Reg) =>
        let s := s.land p off v
        s.setFast p off (s.rd p off)
      let s := (List.range 12).foldl (fun s i =>
        put s (leaseOff l + grantRegs.getD i 0) (BitVec.ofNat 32 (leAt payload (4 + 4 * i) 4))) s
      let s := put s (leaseOff l) (BitVec.ofNat 32 (leAt payload 52 1 % 4 * 2 ^ 24))
      s.vendorReply 0x02 tag 0 0 [])

/-- LEASE_LOAD takes a part of an image; the completing part starts R444. LOCKED from A2 on (R505). -/
def execLeaseLoad (tag : Byte) (len : Nat) (payload : List Byte) (s : State) : Host.Outcome State Fault Refusal :=
  .next (s.vendor 0x03 tag len payload fun s =>
    let c := leAt payload 0 1
    let l := leAt payload 1 1
    let bs := payload.drop 12
    if 2 ≤ s.alarmLevel then s.vendorReply 0x03 tag 0x04 0 []
    else if payload.length ≤ 12 ∨ 4096 < bs.length ∨ 16 ≤ l then s.vendorReply 0x03 tag 0x02 0 []
    else if !s.leaseCluster c then s.vendorReply 0x03 tag 0x02 0x01 []
    else if s.lseSt c l ≠ 0 then s.vendorReply 0x03 tag 0x01 0x02 []
    else match takePart s.omc.leaseUp c l (leAt payload 2 2) (leAt payload 4 4) (leAt payload 8 4) 269812 bs with
    | .error r => ({ s with omc := { s.omc with leaseUp := none } }).vendorReply 0x03 tag 0x02 r []
    | .ok u =>
      if u.bytes.length < u.total then
        ({ s with omc := { s.omc with leaseUp := some u } }).vendorReply 0x03 tag 0 0 []
      else
        let s := { s with omc := { s.omc with leaseUp := none } }
        let step := s.leaseImage u.bytes
        if step ≠ 0 then s.vendorReply 0x03 tag 0x01 (0x10 + step) []
        else
          let r := s.leaseLoad c l u.bytes
          if r.1 ≠ 0 then r.2.vendorReply 0x03 tag 0x01 r.1 []
          else r.2.vendorReply 0x03 tag 0 0 (leBytes 4 (r.2.lseSt c l)))

/-- LEASE_REVOKE_CMD revokes a lease. -/
def execLeaseRevokeCmd (tag : Byte) (len : Nat) (payload : List Byte) (s : State) : Host.Outcome State Fault Refusal :=
  .next (s.vendor 0x04 tag len payload fun s =>
    let c := leAt payload 0 1
    let l := leAt payload 1 1
    if payload.length ≠ 2 ∨ 16 ≤ l then s.vendorReply 0x04 tag 0x02 0 []
    else if !s.leaseCluster c then s.vendorReply 0x04 tag 0x02 0x01 []
    else if s.lseSt c l = 0 then s.vendorReply 0x04 tag 0x01 0x02 []
    else
      let s := (s.leaseRevoke c l).measureImages
      let v := setBit (s.rd (leasePage c) (leaseOff l)) 31 false
      (s.setFast (leasePage c) (leaseOff l) v).vendorReply 0x04 tag 0 0 [])

/-- The backend queues homed on a die: the I/O queues of its sessions and an admin queue each. -/
def State.dieQueues (s : State) (d : Nat) : Nat :=
  s.omc.sessions.foldl (fun n e => if e.2.die = d then n + e.2.queues + 1 else n) 0

/-- SESSION_CREATE: `up` says that the backend accepts the association. -/
def execSessionCreate (tag : Byte) (len : Nat) (payload : List Byte) (up : Bool) (s : State) :
    Host.Outcome State Fault Refusal :=
  .next (s.vendor 0x05 tag len payload fun s =>
    let tr := leAt payload 1 1
    let q := leAt payload 2 1
    let t := leAt payload 4 2
    let n := leAt payload 6 2
    let d := leAt payload 8 1
    if payload.length ≠ 512 ∨ leAt payload 0 1 ≠ 1 then s.vendorReply 0x05 tag 0x02 0 []
    else if tr = 0 ∨ 2 < tr ∨ q = 0 ∨ 64 < q ∨ 8 ≤ leAt payload 3 1 ∨ 60 < t ∨ n < 2 ∨ 1024 < n ∨ 3 < d ∨
        64 ≤ leAt payload 9 1 ∨ 7 < leAt payload 10 1 then s.vendorReply 0x05 tag 0x02 0x03 []
    else match (List.range 4096).find? fun i => (tabFind s.omc.sessions i).isNone with
    | none => s.vendorReply 0x05 tag 0x01 0x05 []
    | some i =>
      if 16384 < s.dieQueues d + q + 1 then s.vendorReply 0x05 tag 0x01 0x05 []
      else if !up then s.vendorReply 0x05 tag 0x01 0x06 []
      else
        let x : Session := { transport := tr, queues := q, flags := payload.getD 3 0,
                             timeout := if t = 0 then 2 else t, entries := n, die := d, params := payload }
        ({ s with omc := { s.omc with sessions := tabInsert s.omc.sessions i x } }).vendorReply 0x05 tag 0 0
          (leBytes 2 i ++ zeros 2))

/-- SESSION_DESTROY: refused while a namespace is attached to the session (R535). -/
def execSessionDestroy (tag : Byte) (len : Nat) (payload : List Byte) (s : State) : Host.Outcome State Fault Refusal :=
  .next (s.vendor 0x05 tag len payload fun s =>
    let i := leAt payload 2 2
    if payload.length ≠ 4 ∨ leAt payload 0 1 ≠ 2 then s.vendorReply 0x05 tag 0x02 0 []
    else if (tabFind s.omc.sessions i).isNone then s.vendorReply 0x05 tag 0x02 0x03 []
    else if s.nvs.any fun x => x.2.nss.any fun y => y.2.session == i then s.vendorReply 0x05 tag 0x01 0x04 []
    else ({ s with omc := { s.omc with sessions := tabErase s.omc.sessions i } }).vendorReply 0x05 tag 0 0 [])

end Sys2Proof.Machine
end

