-- ==== Sys2Proof/Machine/Nvme.lean ====
section
/-! DEFINITION. NVMe controllers: properties, doorbells, command fetch, completions, admin and I/O commands, namespaces
and backends (R449–R466). Codes and places inside NVMe structures that the manual does not repeat are those of the NVMe
specifications it names (PRESUMED, log entry 30). -/
namespace Sys2Proof.Machine

/-! ### Steering and slots (R451, R452) -/

/-- The steering cluster of a controller. -/
def State.nvCluster (s : State) (e f : Nat) : Nat := epRegion e * 8 + s.rdFld (ictlPage e f) 0x180 24 3
/-- The steering channel. -/
def State.nvChannel (s : State) (e f : Nat) : Nat := s.rdFld (ictlPage e f) 0x180 16 6
/-- Command slots of a controller. -/
def State.nvSlots (s : State) (e f : Nat) : Nat := 2 ^ s.rdFld (ictlPage e f) 0x180 8 4
/-- Cluster-memory address of a slot. -/
def State.nvSlotAt (s : State) (e f i : Nat) : Nat := s.rdFld (ictlPage e f) 0x184 0 8 * 4096 + 64 * i
/-- Can the microcode of the steering cluster run? -/
def State.nvRuns (s : State) (e f : Nat) : Bool :=
  let c := s.nvCluster e f
  s.cluReady c && !s.isFenced (cluPage c 0)
/-- Opcode of a command. -/
def nvOp (c : NvCmd) : Nat := byteAt c.sqe 0
/-- Command dword. -/
def cdw (c : NvCmd) (i : Nat) : Nat := leAt c.sqe (4 * i) 4
/-- Replace a slot. -/
def NvCtl.putSlot (x : NvCtl) (i : Nat) (c : NvCmd) : NvCtl := { x with slots := tabInsert (tabErase x.slots i) i c }
/-- Replace a submission queue. -/
def NvCtl.putSq (x : NvCtl) (q : Nat) (c : NvSq) : NvCtl := { x with sqs := tabInsert (tabErase x.sqs q) q c }
/-- Replace a completion queue. -/
def NvCtl.putCq (x : NvCtl) (q : Nat) (c : NvCq) : NvCtl := { x with cqs := tabInsert (tabErase x.cqs q) q c }
/-- Completions posted and not yet consumed. -/
def NvCq.posted (c : NvCq) : Nat := (c.tail + c.size - c.head) % c.size

/-! ### Statuses: SC, SCT and DNR as bits of the Status Field -/

/-- Generic status. -/
def nvSt (sct sc : Nat) : Nat := sct * 256 + sc
/-- Do Not Retry. -/
def dnr (st : Nat) : Nat := st + 2 ^ 14

/-! ### Completions (R455) -/

/-- Write bytes to host memory for a controller; a drain in discard mode suppresses and counts each write. -/
def State.nvHost (s : State) (e f a : Nat) (b : List Byte) : State :=
  if s.drainMode e f = 3 then s.count (ictlPage e f) 0x02 1
  else if !s.mayRead e f then s
  else (split4k a b.length (b.length / 4096 + 2)).foldl (fun (s : State) (q : Nat × Nat) =>
    s.emit (.hostWrite e f q.1 (slice b (q.1 - a) q.2))) s

/-- The CQE of a command: dwords 0 and 1, SQ head, SQID, CID, phase and status. -/
def nvCqe (d01 head sq cid st : Nat) (phase : Bool) : List Byte :=
  leBytes 8 d01 ++ leBytes 2 head ++ leBytes 2 sq ++ leBytes 2 cid ++ leBytes 2 (st % 2 ^ 15 * 2 + (if phase then 1 else 0))

/-- Complete a command: its CQE goes into the reserved slot, and its command slot is free. An abort drain gives every
command Command Abort Requested; a discard drain writes nothing. -/
def State.nvPost (s : State) (e f i d01 st : Nat) : State :=
  let x := s.nv e f
  match tabFind x.slots i with
  | none => s
  | some c =>
    let st := if s.drainMode e f = 2 then dnr (nvSt 0 0x07) else st
    let x := { x with slots := tabErase x.slots i, errors := if st % 2048 = 0 then x.errors else x.errors + 1 }
    let s := s.setNv e f x
    let s := s.post (ictlPage e f) 0x188 (BitVec.ofNat 32 x.slots.length)
    match tabFind x.sqs c.sq with
    | none => s
    | some q => match tabFind x.cqs q.cq with
      | none => s
      | some y =>
        if s.drainMode e f = 3 then
          (s.count (ictlPage e f) 0x02 1).setNv e f (x.putCq q.cq { y with reserved := y.reserved - 1 })
        else
          let s := s.nvHost e f (y.base + 16 * y.tail) (nvCqe d01 q.head c.sq c.cid st y.phase)
          let last := decide (y.tail + 1 = y.size)
          let y := { y with
            tail := if last then 0 else y.tail + 1, phase := if last then !y.phase else y.phase
            reserved := y.reserved - 1, unsig := y.unsig + 1
            oldest := if y.unsig = 0 then s.clk else y.oldest }
          (s.setNv e f (x.putCq q.cq y)).nvSignal e f q.cq

/-- Has an I/O command a namespace? -/
def nvNsid (c : NvCmd) : Nat := leAt c.sqe 4 4

/-- The page and base of the half of a general channel of PF1 (R323): H2O, or O2H. -/
def nvHalf (e ch : Nat) (h2o : Bool) : PageKey × Nat :=
  (instPage e 1 (18 + ch / 16), 0x100 + 0xC0 * (ch % 16) + (if h2o then 0 else 0x60))

/-- OMC firmware answers on a general channel. -/
def State.nvReply (s : State) (e ch res : Nat) : State :=
  let h := nvHalf e ch false
  let m : Mid := BitVec.ofNat 16 (fld (s.gchBind h.1 h.2) 0 16)
  (s.mailMsg m h.1 h.2 (BitVec.ofNat 32 res)).mailSend m h.1 h.2 0x80000000

/-- Deletions and detachments whose last command is done (R458, R465). -/
def State.nvSettle (s : State) (e f : Nat) : State :=
  let x := s.nv e f
  let s := x.sqs.foldl (fun (s : State) (q : Nat × NvSq) => match q.2.deleting with
    | some i =>
      if (s.nv e f).slots.any fun c => c.2.sq == q.1 then s
      else
        let y := s.nv e f
        (s.setNv e f { y with sqs := tabErase y.sqs q.1 }).nvPost e f i 0 0
    | none => s) s
  let x := s.nv e f
  x.nss.foldl (fun (s : State) (n : Nat × NvNs) => match n.2.leaving with
    | some ch =>
      if (s.nv e f).slots.any fun c => c.2.sq != 0 && nvNsid c.2 == n.1 then s
      else
        let y := s.nv e f
        (s.setNv e f { y with nss := tabErase y.nss n.1 }).nvReply e ch 0
    | none => s) s

/-- Complete a command, and what waited for it. -/
def State.nvDone (s : State) (e f i d01 st : Nat) : State := (s.nvPost e f i d01 st).nvSettle e f

/-! ### Asynchronous events (R449, R453) -/

/-- Hand waiting events to outstanding requests. -/
def State.nvEventsFuel (s : State) (e f : Nat) : Nat → State
  | 0 => s
  | k + 1 =>
    let x := s.nv e f
    match x.events, x.slots.find? fun (c : Nat × NvCmd) => c.2.sq == 0 && c.2.waits && nvOp c.2 == 0x0C with
    | v :: vs, some c =>
      ((s.setNv e f { x with events := vs }).nvDone e f c.1 (v.1 + v.2.1 * 256 + v.2.2 * 65536) 0).nvEventsFuel e f k
    | _, _ => s

/-- Hand waiting events to outstanding requests. -/
def State.nvEvents (s : State) (e f : Nat) : State := s.nvEventsFuel e f 4

/-- Post an event: type, information, log page. -/
def State.nvEvent (s : State) (e f type info page : Nat) : State :=
  let x := s.nv e f
  (s.setNv e f { x with events := x.events ++ [(type, info, page)] }).nvEvents e f

/-! ### Properties and doorbells (R450, R451, R453) -/

/-- CAP. -/
def nvCap : Nat := 0x0FFF + 2 ^ 16 + 0x80 * 2 ^ 24 + 2 ^ 37

/-- A property of an NVMe function, at BAR0 offset 0x200 + `x`. -/
def State.nvProp (s : State) (e f x : Nat) : Reg :=
  let p := ictlPage e f
  match x with
  | 0x00 => BitVec.ofNat 32 nvCap
  | 0x04 => BitVec.ofNat 32 (nvCap / 2 ^ 32)
  | 0x08 => 0x00020000
  | 0x14 => s.rd p 0x214 ||| 0x00460000
  | 0x1C | 0x24 | 0x28 | 0x2C | 0x30 | 0x34 => s.rd p (0x200 + x)
  | _ => 0

/-- The queues of a controller that is enabled. -/
def State.nvStart (s : State) (e f : Nat) : State :=
  let p := ictlPage e f
  let x := s.nv e f
  let sq : NvSq := { base := s.rd64 p 0x228, size := s.rdFld p 0x224 0 12 + 1, cq := 0 }
  let cq : NvCq := { base := s.rd64 p 0x230, size := s.rdFld p 0x224 16 12 + 1, ien := true }
  (s.setNv e f { nss := x.nss, changed := x.changed, sqs := [(0, sq)], cqs := [(0, cq)] }).post p 0x21C 1

/-- A write of CC: EN enables the instance or starts a drain of cause 0x1, and so does SHN. -/
def State.nvCc (s : State) (e f : Nat) (v : Reg) : State :=
  let p := ictlPage e f
  let old := s.rd p 0x214
  let s := s.post p 0x214 (v &&& 0xC001)
  let s :=
    if bit v 0 && !bit old 0 then
      if s.instSt e f = 1 then (s.enable e f true).nvStart e f
      else (s.enable e f true).postBit p 0x214 0 false
    else if !bit v 0 && bit old 0 then s.drainStart e f 1
    else s
  if fld v 14 2 ≠ 0 ∧ fld old 14 2 = 0 then
    let x := s.nv e f
    if s.instSt e f = 2 ∨ s.instSt e f = 3 then
      ((s.setNv e f { x with shn := true }).postFld p 0x21C 2 2 1).drainStart e f 1
    else s.postFld p 0x21C 2 2 2
  else s

/-- A write of a property. CC, AQA, ASQ and ACQ take it; the queue registers only while EN is 0. -/
def State.nvPropWrite (s : State) (e f x : Nat) (v : Reg) : State :=
  let p := ictlPage e f
  match x with
  | 0x14 => s.nvCc e f v
  | 0x24 => if bit (s.rd p 0x214) 0 then s else s.post p 0x224 (v &&& 0x0FFF0FFF)
  | 0x28 | 0x30 => if bit (s.rd p 0x214) 0 then s else s.post p (0x200 + x) (v &&& 0xFFFFF000)
  | 0x2C | 0x34 => if bit (s.rd p 0x214) 0 then s else s.post p (0x200 + x) v
  | _ => s

/-- A write of a property reaches the controller; R314 stops a manager of a locked function. -/
def State.nvAccess (s : State) (mid : Mid) (e f x : Nat) (v : Reg) : State :=
  let p := ictlPage e f
  if !s.isNvme e f then s
  else if s.managerStopped mid e f then s.refuseClass mid p
  else s.accessWrite mid p (0x200 + x) fun s => ((s.stamp p).nvPropWrite e f x v).applied p

/-- NVME_CC_ENABLE: a write of CC with EN = `on` (R451). -/
def execNvmeCcEnable (mid : Mid) (e : Fin 32) (f : BitVec 8) (on : Bool) (s : State) : Host.Outcome State Fault Refusal :=
  .next (s.nvAccess mid e f.toNat 0x14 (if on then 0x00460001 else 0x00460000))

/-- NVME_SHUTDOWN: a write of CC.SHN, normal or abrupt, with EN as it is (R451). -/
def execNvmeShutdown (mid : Mid) (e : Fin 32) (f : BitVec 8) (abrupt : Bool) (s : State) :
    Host.Outcome State Fault Refusal :=
  let v := s.rd (ictlPage e f.toNat) 0x214 &&& 1
  .next (s.nvAccess mid e f.toNat 0x14 (0x00460000 ||| v ||| (if abrupt then 0x8000 else 0x4000)))

/-- A doorbell write that R453 discards. -/
def State.nvOverrun (s : State) (e f info : Nat) : State :=
  let p := ictlPage e f
  ((s.count p 0x04 1).raiseBit p 2).nvEvent e f 0 info 1

/-- A doorbell: the tail of submission queue `y`, or the head of completion queue `y`. -/
def State.nvDoorbell (s : State) (e f y : Nat) (cq : Bool) (v : Nat) : State :=
  let x := s.nv e f
  if s.instSt e f = 3 then s.count (ictlPage e f) 0x01 1
  else if !cq then
    match tabFind x.sqs y with
    | none => s.nvOverrun e f 0
    | some q => if q.size ≤ v then s.nvOverrun e f 1 else s.setNv e f (x.putSq y { q with tail := v })
  else
    match tabFind x.cqs y with
    | none => s.nvOverrun e f 0
    | some q =>
      if q.size ≤ v ∨ q.posted < (v + q.size - q.head) % q.size then s.nvOverrun e f 1
      else if v = q.head then s
      else
        let q := { q with head := v }
        (s.setNv e f (x.putCq y { q with armed := true, unsig := q.posted, oldest := s.clk })).nvSignal e f y

/-- A doorbell write of a host reaches the IMBX page of an NVMe function. -/
def State.nvRing (s : State) (mid : Mid) (e f y : Nat) (cq : Bool) (v : Nat) : State :=
  let p := instPage e f 1
  if !s.isNvme e f then s
  else s.accessWrite mid p (0x200 + 8 * y + (if cq then 4 else 0)) fun s => ((s.stamp p).nvDoorbell e f y cq v).applied p

/-- NVME_SQ_DOORBELL (R453). -/
def execNvmeSqDoorbell (mid : Mid) (e : Fin 32) (f : BitVec 8) (y : Fin 65) (v : BitVec 16) (s : State) :
    Host.Outcome State Fault Refusal :=
  .next (s.nvRing mid e f.toNat y false v.toNat)

/-- NVME_CQ_DOORBELL (R453). -/
def execNvmeCqDoorbell (mid : Mid) (e : Fin 32) (f : BitVec 8) (y : Fin 65) (v : BitVec 16) (s : State) :
    Host.Outcome State Fault Refusal :=
  .next (s.nvRing mid e f.toNat y true v.toNat)

/-! ### Fetching commands (R452) -/

/-- May the head entry of a queue be fetched? -/
def NvCtl.fetchable (x : NvCtl) (q : NvSq) : Bool :=
  q.head != q.tail && q.deleting.isNone &&
  (match tabFind x.cqs q.cq with
   | none => false
   | some c => decide (c.reserved + c.posted + 1 < c.size))

/-- The queue that the mover serves next: the admin queue, else the I/O queues in turn. -/
def NvCtl.nextSq (x : NvCtl) : Option Nat :=
  let io := x.sqs.filter fun (q : Nat × NvSq) => q.1 != 0
  let order := (x.sqs.filter fun (q : Nat × NvSq) => q.1 == 0) ++
    (io.filter fun (q : Nat × NvSq) => decide (x.last < q.1)) ++ io.filter fun (q : Nat × NvSq) => decide (q.1 ≤ x.last)
  (order.find? fun (q : Nat × NvSq) => x.fetchable q.2).map fun (q : Nat × NvSq) => q.1

/-- A fetch begins: a command slot and a completion slot are taken, and the entry is read. -/
def State.nvFetchStart (s : State) (e f : Nat) : State :=
  let x := s.nv e f
  let free := (List.range (s.nvSlots e f)).find? fun i => (tabFind x.slots i).isNone
  if s.instSt e f ≠ 2 ∨ !bit (s.rd (ictlPage e f) 0x180) 31 ∨ !bit (s.rd (ictlPage e f) 0x21C) 0 ∨ !s.mayRead e f then s
  else match x.nextSq, free with
    | some q, some i =>
      (match tabFind x.sqs q with
       | none => s
       | some y => match tabFind x.cqs y.cq with
         | none => s
         | some c =>
           let x := { x.putCq y.cq { c with reserved := c.reserved + 1 } with
             fetching := some (q, i), last := if q = 0 then x.last else q }
           (s.setNv e f x).askHost e f (.nvme (e * 256 + f) q) (y.base + 64 * y.head) 64)
    | _, _ => s

/-- The entry has arrived: it goes into its slot, and the steering channel gets a work message, as soon as it takes one.
A read that failed is given up and made again. -/
def State.nvFetchDone (s t : State) (e f q i st : Nat) (sqe : List Byte) : State :=
  let x := t.nv e f
  match tabFind x.sqs q with
  | none => t
  | some y =>
    if st ≠ 0 then
      match tabFind x.cqs y.cq with
      | none => t
      | some c => t.setNv e f { x.putCq y.cq { c with reserved := c.reserved - 1 } with fetching := none }
    else
      let c := t.nvCluster e f
      let a := t.nvSlotAt e f i
      let head := (y.head + 1) % y.size
      let ws : List Word := [BitVec.ofNat 64 ((hostMid e f).toNat * 2 ^ 48 + q * 2 ^ 32 + leAt sqe 2 2 * 2 ^ 16 + head),
        BitVec.ofNat 64 a, t.ptime]
      let n := t.nvChannel e f
      if t.kind c n ≠ 1 ∨ !bit (t.bind c n) 25 then s
      else match t.offer c n { words := ws, src := 1 } with
        | none => s
        | some t =>
          let cmd : NvCmd := { sq := q, cid := leAt sqe 2 2, sqe := sqe }
          let x := { (x.putSq q { y with head := head }).putSlot i cmd with fetching := none }
          ((t.setBytes (cmemBase c + a) sqe).setNv e f x).post (ictlPage e f) 0x188 (BitVec.ofNat 32 x.slots.length)

/-- NVME_FETCH: one turn of the mover for one controller. -/
def execNvmeFetch (e : Fin 32) (f : BitVec 8) (s : State) : Host.Outcome State Fault Refusal :=
  let e := e.val
  let f := f.toNat
  .next (if !s.isNvme e f then s
    else match (s.nv e f).fetching with
    | none => s.nvFetchStart e f
    | some (q, i) => match s.takeRead (.nvme (e * 256 + f) q) 64 with
      | (none, _) => s
      | (some (st, b), t) => s.nvFetchDone t e f q i st b)

/-! ### MEMPORT_CPL (R455) -/

/-- The controller and slot whose command lies at an address of a cluster's memory. -/
def State.nvSlotOf (s : State) (c a : Nat) : Option (Nat × Nat × Nat) :=
  s.nvs.findSome? fun (k : Nat × NvCtl) =>
    let e := k.1 / 256
    let f := k.1 % 256
    if s.nvCluster e f ≠ c then none
    else (k.2.slots.find? fun (i : Nat × NvCmd) => s.nvSlotAt e f i.1 == a).map fun (i : Nat × NvCmd) => (e, f, i.1)

/-- MEMPORT_CPL: a thread completes a command. -/
def execMemportCpl (c : Fin 128) (n : Fin 64) (s : State) : Host.Outcome State Fault Refusal :=
  .next (s.memPort c n 3 fun q s =>
    let w := fun (i : Nat) => (q.words.getD i 0).toNat
    if q.words.length ≠ 3 ∨ natField (w 0) 20 36 ≠ 0 ∨ natField (w 2) 15 49 ≠ 0 then s.memFail q 5
    else match q.lease with
    | some l => (s.leaseRefuse c l 5 7 q.mid).memFail q 7
    | none => match s.nvSlotOf c (natField (w 0) 0 20) with
      | none => s.memFail q 5
      | some (e, f, i) =>
        let gone := s.drainMode e f = 3
        let s := s.nvDone e f i (w 1) (w 2)
        s.memFail q (if gone then 1 else 0))

/-! ### Data pointers (R449) -/

/-- The pieces of host memory that PRPs name; `list` holds the entries of the PRP list in order. -/
def prpPieces (prp1 prp2 n : Nat) (list : List Byte) : List (Nat × Nat) :=
  let first := min n (4096 - prp1 % 4096)
  let rest := n - first
  if rest = 0 then [(prp1, first)]
  else if rest ≤ 4096 then [(prp1, first), (prp2, rest)]
  else (prp1, first) :: (List.range ((rest + 4095) / 4096)).map fun i =>
    (leAt list (8 * i) 8, min 4096 (rest - 4096 * i))

/-- Cut pieces to a total length. -/
def cutPieces : List (Nat × Nat) → Nat → List (Nat × Nat)
  | [], _ => []
  | p :: ps, n => if n = 0 then [] else (p.1, min p.2 n) :: cutPieces ps (n - min p.2 n)

/-- The pieces that SGL descriptors name: data blocks; segment descriptors lead on. An unsupported type is an error. -/
def sglPieces : List (List Byte) → Option (List (Nat × Nat))
  | [] => some []
  | d :: ds =>
    match byteAt d 15 / 16, sglPieces ds with
    | 0, some t => some ((leAt d 0 8, leAt d 8 4) :: t)
    | 2, some t | 3, some t => some t
    | _, _ => none

/-- The host memory of a command's data, or a status: SGL Descriptor Type Invalid, Data SGL Length Invalid. `list` holds
the PRP list, or the SGL segments, as host memory holds them. -/
def nvPieces (c : NvCmd) (n : Nat) (list : List Byte) : Except Nat (List (Nat × Nat)) :=
  let psdt := byteAt c.sqe 1 / 64
  if psdt = 0 then .ok (prpPieces (leAt c.sqe 24 8) (leAt c.sqe 32 8) n list)
  else if psdt = 3 then .error (dnr (nvSt 0 0x02))
  else
    let d := slice c.sqe 24 16
    let ds := d :: (if byteAt d 15 / 16 = 0 then [] else (List.range (list.length / 16)).map fun i => slice list (16 * i) 16)
    match sglPieces ds with
    | none => .error (dnr (nvSt 0 0x11))
    | some ps =>
      if (ps.map fun (p : Nat × Nat) => p.2).sum < n then .error (dnr (nvSt 0 0x0F)) else .ok (cutPieces ps n)

/-- Write a command's data to the host. -/
def State.nvScatter (s : State) (e f : Nat) : List (Nat × Nat) → List Byte → State
  | [], _ => s
  | p :: ps, b => (s.nvHost e f p.1 (b.take p.2)).nvScatter e f ps (b.drop p.2)

/-! ### What every command row does first -/

/-- Admin and I/O opcodes that the controllers support. -/
def nvKnown (admin : Bool) (op : Nat) : Bool :=
  if admin then [0x00, 0x01, 0x02, 0x04, 0x05, 0x06, 0x08, 0x09, 0x0A, 0x0C].contains op
  else [0x00, 0x01, 0x02, 0x08, 0x09].contains op

/-- The command in slot `i` is worked on, if it is one of the row's; a command of no row fails with Invalid Command
Opcode, a fused one with Invalid Field, whichever row looks at it. -/
def State.nvDo (s : State) (e f i : Nat) (admin : Bool) (op : Nat) (act : NvCmd → State → State) : State :=
  match tabFind (s.nv e f).slots i with
  | none => s
  | some c =>
    let adm := c.sq == 0
    if !s.isNvme e f || !s.nvRuns e f || c.waits then s
    else if !nvKnown adm (nvOp c) then s.nvDone e f i 0 (dnr (nvSt 0 0x01))
    else if byteAt c.sqe 1 % 4 ≠ 0 then s.nvDone e f i 0 (dnr (nvSt 0 0x02))
    else if adm != admin || nvOp c != op then s
    else act c s

/-! ### Queues (R454, R465) -/

/-- Size of a queue in CDW10. -/
def nvQsize (c : NvCmd) : Nat := cdw c 10 / 65536 + 1
/-- Queue identifier in CDW10. -/
def nvQid (c : NvCmd) : Nat := cdw c 10 % 65536
/-- What is wrong with a new queue's identifier, size, contiguity or base. -/
def nvQueueBad (c : NvCmd) (exists_ : Bool) : Nat :=
  if nvQid c = 0 ∨ 64 < nvQid c ∨ exists_ then dnr (nvSt 1 0x01)
  else if nvQsize c < 2 ∨ 4096 < nvQsize c then dnr (nvSt 1 0x02)
  else if !(cdw c 11).testBit 0 then dnr (nvSt 0 0x02)
  else if leAt c.sqe 24 8 % 4096 ≠ 0 then dnr (nvSt 0 0x13)
  else 0

/-- CREATE_IO_CQ. -/
def execCreateIoCq (e : Fin 32) (f : BitVec 8) (i : BitVec 12) (s : State) : Host.Outcome State Fault Refusal :=
  let e := e.val
  let f := f.toNat
  .next (s.nvDo e f i.toNat true 0x05 fun c s =>
    let x := s.nv e f
    let v := cdw c 11 / 65536
    let bad := nvQueueBad c (tabFind x.cqs (nvQid c)).isSome
    if bad ≠ 0 then s.nvDone e f i.toNat 0 bad
    else if vectors f ≤ v then s.nvDone e f i.toNat 0 (dnr (nvSt 1 0x08))
    else
      let q : NvCq := { base := leAt c.sqe 24 8, size := nvQsize c, vector := v, ien := (cdw c 11).testBit 1 }
      (s.setNv e f (x.putCq (nvQid c) q)).nvDone e f i.toNat 0 0)

/-- CREATE_IO_SQ: the bound CQ must keep room for every entry of its SQs (R454). -/
def execCreateIoSq (e : Fin 32) (f : BitVec 8) (i : BitVec 12) (s : State) : Host.Outcome State Fault Refusal :=
  let e := e.val
  let f := f.toNat
  .next (s.nvDo e f i.toNat true 0x01 fun c s =>
    let x := s.nv e f
    let cq := cdw c 11 / 65536
    let bad := nvQueueBad c (tabFind x.sqs (nvQid c)).isSome
    let bound := ((x.sqs.filter fun (q : Nat × NvSq) => q.2.cq == cq).map fun (q : Nat × NvSq) => q.2.size - 1).sum
    if bad ≠ 0 then s.nvDone e f i.toNat 0 bad
    else match (if cq = 0 then none else tabFind x.cqs cq) with
    | none => s.nvDone e f i.toNat 0 (dnr (nvSt 1 0x00))
    | some y =>
      if y.size - 1 < bound + (nvQsize c - 1) then s.nvDone e f i.toNat 0 (dnr (nvSt 1 0x02))
      else
        let q : NvSq := { base := leAt c.sqe 24 8, size := nvQsize c, cq := cq }
        (s.setNv e f (x.putSq (nvQid c) q)).nvDone e f i.toNat 0 0)

/-- DELETE_IO_SQ: unsent commands of the queue end with Command Aborted due to SQ Deletion, sent ones are waited for. -/
def execDeleteIoSq (e : Fin 32) (f : BitVec 8) (i : BitVec 12) (s : State) : Host.Outcome State Fault Refusal :=
  let e := e.val
  let f := f.toNat
  .next (s.nvDo e f i.toNat true 0x00 fun c s =>
    let x := s.nv e f
    let q := nvQid c
    match (if q = 0 then none else tabFind x.sqs q) with
    | none => s.nvDone e f i.toNat 0 (dnr (nvSt 1 0x01))
    | some y =>
      if y.deleting.isSome then s.nvDone e f i.toNat 0 (dnr (nvSt 1 0x01))
      else
        let unsent := (x.slots.filter fun (k : Nat × NvCmd) => k.2.sq == q && !k.2.sent).map fun (k : Nat × NvCmd) => k.1
        let x := (x.putSq q { y with deleting := some i.toNat }).putSlot i.toNat { c with waits := true }
        let s := unsent.foldl (fun (s : State) k => s.nvPost e f k 0 (dnr (nvSt 0 0x08))) (s.setNv e f x)
        s.nvSettle e f)

/-- DELETE_IO_CQ: fails while an SQ is bound. -/
def execDeleteIoCq (e : Fin 32) (f : BitVec 8) (i : BitVec 12) (s : State) : Host.Outcome State Fault Refusal :=
  let e := e.val
  let f := f.toNat
  .next (s.nvDo e f i.toNat true 0x04 fun c s =>
    let x := s.nv e f
    let q := nvQid c
    if q = 0 ∨ (tabFind x.cqs q).isNone then s.nvDone e f i.toNat 0 (dnr (nvSt 1 0x01))
    else if x.sqs.any fun (y : Nat × NvSq) => y.2.cq == q then s.nvDone e f i.toNat 0 (dnr (nvSt 1 0x0C))
    else (s.setNv e f { x with cqs := tabErase x.cqs q }).nvDone e f i.toNat 0 0)

/-! ### Other admin commands (R449, R456, R464) -/

/-- ABORT: a command that has been fetched and not sent ends with Command Abort Requested (R464). -/
def execAbort (e : Fin 32) (f : BitVec 8) (i : BitVec 12) (s : State) : Host.Outcome State Fault Refusal :=
  let e := e.val
  let f := f.toNat
  .next (s.nvDo e f i.toNat true 0x08 fun c s =>
    let sq := cdw c 10 % 65536
    let cid := cdw c 10 / 65536
    match (s.nv e f).slots.find? fun (k : Nat × NvCmd) =>
      k.1 != i.toNat && k.2.sq == sq && k.2.cid == cid && !k.2.sent && !(k.2.waits && nvOp k.2 == 0x00) with
    | some k => (s.nvDone e f k.1 0 (dnr (nvSt 0 0x07))).nvDone e f i.toNat 0 0
    | none => s.nvDone e f i.toNat 1 0)

/-- Bytes that the manual does not state, of a data structure of a kind and number. -/
def nvBytes (kind n len : Nat) : List Byte := (List.range len).map fun i => Config.nvmeByte kind n i

/-- Identify Controller. -/
def State.nvIdCtrl (s : State) (e f : Nat) : List Byte :=
  let b := nvBytes 1 (e * 256 + f) 4096
  let b := overlay b 0 (leBytes 2 (s.cfgFld e 1 0 0 16))
  let b := overlay b 77 [5]
  let b := overlay b 80 (leBytes 4 0x00020000)
  let b := overlay b 256 [0, 0]
  let b := overlay b 259 [3]
  let b := overlay b 512 [0x66, 0x44]
  let b := overlay b 516 (leBytes 4 1024)
  overlay b 520 (leBytes 2 0x000C)

/-- Logical block formats: index by data size, PI and guard. -/
def nsBlock (n : NvNs) : Nat := if n.format.testBit 0 then 4096 else 512
/-- PI type of a namespace. -/
def nsPi (n : NvNs) : Nat := natField n.format 1 2
/-- 64-bit guard. -/
def nsWide (n : NvNs) : Bool := n.format.testBit 3
/-- Metadata bytes of a block. -/
def nsMeta (n : NvNs) : Nat := if nsPi n = 0 then 0 else if nsWide n then 16 else 8

/-- Identify Namespace: size, capacity, utilisation, format, protection; one format, the one in use. -/
def nvIdNs (k id : Nat) (n : NvNs) : List Byte :=
  let b := nvBytes 2 (k * 1024 + id) 4096
  let b := overlay b 0 (leBytes 8 n.lbas ++ leBytes 8 n.lbas)
  let b := overlay b 25 [0, if nsPi n = 0 then 0 else 0x10]
  let b := overlay b 29 [BitVec.ofNat 8 (nsPi n)]
  let b := overlay b 99 [if n.format.testBit 4 then 1 else 0]
  overlay b 128 (leBytes 2 (nsMeta n) ++ [if n.format.testBit 0 then 12 else 9])

/-- Write a data structure to the host and complete. -/
def State.nvReturn (s : State) (e f i : Nat) (c : NvCmd) (list b : List Byte) : State :=
  match nvPieces c b.length list with
  | .error st => s.nvDone e f i 0 st
  | .ok ps => (s.nvScatter e f ps b).nvDone e f i 0 0

/-- IDENTIFY: CNS 0x00, 0x01, 0x02, 0x03. -/
def execIdentify (e : Fin 32) (f : BitVec 8) (i : BitVec 12) (list : List Byte) (s : State) :
    Host.Outcome State Fault Refusal :=
  let e := e.val
  let f := f.toNat
  .next (s.nvDo e f i.toNat true 0x06 fun c s =>
    let nss := (s.nv e f).nss.filter fun (n : Nat × NvNs) => n.2.leaving.isNone
    let id := nvNsid c
    match cdw c 10 % 256 with
    | 0x01 => s.nvReturn e f i.toNat c list (s.nvIdCtrl e f)
    | 0x00 =>
      (if id = 0 ∨ 1024 < id then s.nvDone e f i.toNat 0 (dnr (nvSt 0 0x0B))
       else match tabFind nss id with
        | none => s.nvReturn e f i.toNat c list (zeros 4096)
        | some n => s.nvReturn e f i.toNat c list (nvIdNs (e * 256 + f) id n))
    | 0x02 =>
      if 0xFFFFFFFE ≤ id then s.nvDone e f i.toNat 0 (dnr (nvSt 0 0x0B))
      else
        let ids := (nss.map fun (n : Nat × NvNs) => n.1).filter fun n => decide (id < n)
        s.nvReturn e f i.toNat c list (padTo ((ids.take 1024).flatMap fun n => leBytes 4 n) 4096)
    | 0x03 =>
      if (tabFind nss id).isNone then s.nvDone e f i.toNat 0 (dnr (nvSt 0 0x0B))
      else s.nvReturn e f i.toNat c list (nvBytes 3 ((e * 256 + f) * 1024 + id) 4096)
    | _ => s.nvDone e f i.toNat 0 (dnr (nvSt 0 0x02)))

/-- GET_LOG_PAGE: Error, SMART/Health, Changed Namespace List; the last is cleared as it is read. -/
def execGetLogPage (e : Fin 32) (f : BitVec 8) (i : BitVec 12) (list : List Byte) (s : State) :
    Host.Outcome State Fault Refusal :=
  let e := e.val
  let f := f.toNat
  .next (s.nvDo e f i.toNat true 0x02 fun c s =>
    let x := s.nv e f
    let k := e * 256 + f
    let n := 4 * (cdw c 10 / 65536 + cdw c 11 % 65536 * 65536 + 1)
    let off := cdw c 12 + cdw c 13 * 2 ^ 32
    let whole : Option (List Byte) := match cdw c 10 % 256 with
      | 0x01 => some (nvBytes 4 k 4096)
      | 0x02 => some (overlay (nvBytes 5 k 512) 176 (leBytes 16 x.errors))
      | 0x04 => some (padTo (if 1024 < x.changed.length then leBytes 4 0xFFFFFFFF
          else x.changed.flatMap fun n => leBytes 4 n) 4096)
      | _ => none
    match whole with
    | none => s.nvDone e f i.toNat 0 (dnr (nvSt 1 0x09))
    | some b =>
      if b.length < off ∨ 131072 < n then s.nvDone e f i.toNat 0 (dnr (nvSt 0 0x02))
      else
        let s := if cdw c 10 % 256 = 4 ∧ off = 0 then s.setNv e f { x with changed := [] } else s
        s.nvReturn e f i.toNat c list (slice b off n))

/-- Key of a feature; the vector configuration is one value for each vector. -/
def nvFeat (f : Nat) (c : NvCmd) : Option Nat :=
  match cdw c 10 % 256 with
  | 0x07 => some 0x07
  | 0x08 => some 0x08
  | 0x0B => some 0x0B
  | 0x09 => if cdw c 11 % 65536 < vectors f then some (0x10000 + cdw c 11 % 65536) else none
  | _ => none

/-- Queues that Number of Queues reports: 64 of each kind, counted from 0. -/
def nvQueues : Nat := 63 * 65536 + 63

/-- SET_FEATURES: features 0x07, 0x08, 0x09 and 0x0B; none can be saved. -/
def execSetFeatures (e : Fin 32) (f : BitVec 8) (i : BitVec 12) (s : State) : Host.Outcome State Fault Refusal :=
  let e := e.val
  let f := f.toNat
  .next (s.nvDo e f i.toNat true 0x09 fun c s =>
    let x := s.nv e f
    if (cdw c 10).testBit 31 then s.nvDone e f i.toNat 0 (dnr (nvSt 1 0x0D))
    else match nvFeat f c with
    | none => s.nvDone e f i.toNat 0 (dnr (nvSt 0 0x02))
    | some k =>
      let v := if k = 0x07 then nvQueues else cdw c 11
      (s.setNv e f { x with feats := tabInsert (tabErase x.feats k) k v }).nvDone e f i.toNat
        (if k = 0x07 then nvQueues else 0) 0)

/-- GET_FEATURES. -/
def execGetFeatures (e : Fin 32) (f : BitVec 8) (i : BitVec 12) (s : State) : Host.Outcome State Fault Refusal :=
  let e := e.val
  let f := f.toNat
  .next (s.nvDo e f i.toNat true 0x0A fun c s =>
    match nvFeat f c with
    | none => s.nvDone e f i.toNat 0 (dnr (nvSt 0 0x02))
    | some k =>
      let d := if k = 0x07 then nvQueues else if 0x10000 ≤ k then k - 0x10000 else 0
      s.nvDone e f i.toNat (tabGet d (s.nv e f).feats k) 0)

/-- ASYNC_EVENT_REQUEST: it waits for an event; a fifth one fails. -/
def execAsyncEventRequest (e : Fin 32) (f : BitVec 8) (i : BitVec 12) (s : State) : Host.Outcome State Fault Refusal :=
  let e := e.val
  let f := f.toNat
  .next (s.nvDo e f i.toNat true 0x0C fun c s =>
    let x := s.nv e f
    let out := x.slots.filter fun (k : Nat × NvCmd) => k.2.waits && k.2.sq == 0 && nvOp k.2 == 0x0C
    if 4 ≤ out.length then s.nvDone e f i.toNat 0 (dnr (nvSt 1 0x05))
    else (s.setNv e f (x.putSlot i.toNat { c with waits := true })).nvEvents e f)

/-! ### I/O commands (R458–R463) -/

/-- What a command's blocks and PI are, in the form of a mover's descriptor (R370): PI from CDW10–CDW15. -/
def nvPiDesc (n : NvNs) (c : NvCmd) : List Byte :=
  let ctl := nsPi n * 2 ^ 24 + (if nsWide n then 2 ^ 23 else 0) + (if nsBlock n = 4096 then 2 ^ 22 else 0)
  zeros 32 ++ leBytes 4 ctl ++ zeros 4 ++ leBytes 6 (cdw c 14 + (if nsWide n then cdw c 3 % 65536 * 2 ^ 32 else 0)) ++
    zeros 2 ++ leBytes 2 (cdw c 15) ++ leBytes 2 (cdw c 15 / 65536) ++ zeros 12

/-- PRACT. -/
def nvPract (c : NvCmd) : Bool := (cdw c 12).testBit 29

/-- The status of the first block whose PI fails a check that PRCHK asks for, 0 if none does. -/
def nvPiCheck (n : NvNs) (c : NvCmd) (b : List Byte) : Nat :=
  let d := nvPiDesc n c
  let size := nsBlock n + nsMeta n
  let on := fun (fl i : Nat) => fl.testBit i
  let ask := fun (i : Nat) => (cdw c 12).testBit i
  let bad := (List.range (b.length / size)).findSome? fun i =>
    let x := slice b (i * size) size
    let fl := piFault d i (x.take (nsBlock n)) (x.drop (nsBlock n))
    if on fl 1 && ask 28 then some 0x82 else if on fl 2 && ask 27 then some 0x83
    else if on fl 3 && ask 26 then some 0x84 else none
  match bad with
  | none => 0
  | some sc => nvSt 2 sc

/-- The guard of a block. -/
def nvGuard (n : NvNs) (b : List Byte) : List Byte :=
  if nsWide n then beBytes 8 (crcNvme b).toNat else beBytes 2 (crcT10 b).toNat

/-- One block through the XTS context of a namespace: its data, with the guard made anew over the result. -/
def State.nvXts1 (s : State) (n : NvNs) (r ctx lba : Nat) (enc : Bool) (blk : List Byte) : Option (List Byte) × State :=
  match s.ctxStart r ctx enc with
  | (.inl _, s) => (none, s)
  | (.inr m, s) =>
    let b := nsBlock n
    let data := slice (Config.xts enc (s.ctxKey m) lba (blk.take b)) 0 b
    let pi := blk.drop b
    let g := if nsPi n = 0 then [] else nvGuard n data ++ pi.drop (if nsWide n then 8 else 2)
    (some (data ++ g), s)

/-- Every block of a command through the XTS context; `none` where one is refused. -/
def State.nvXts (s : State) (n : NvNs) (r ctx lba : Nat) (enc : Bool) : List (List Byte) → Option (List Byte) × State
  | [] => (some [], s)
  | b :: bs =>
    match s.nvXts1 n r ctx lba enc b with
    | (none, s) => (none, s)
    | (some x, s) =>
      match s.nvXts n r ctx (lba + 1) enc bs with
      | (none, s) => (none, s)
      | (some y, s) => (some (x ++ y), s)

/-- The context of a namespace. -/
def State.nvCtx (s : State) (e f : Nat) (n : NvNs) : Nat := (s.rd (instPage e f 2) 0x100).toNat + n.xts

/-- Blocks of a size. -/
def blocksOf (size : Nat) (b : List Byte) : List (List Byte) :=
  (List.range (b.length / size)).map fun i => slice b (i * size) size

/-- Number of blocks of a Read, Write or Write Zeroes. -/
def nvNlb (c : NvCmd) : Nat := cdw c 12 % 65536 + 1
/-- Starting LBA. -/
def nvSlba (c : NvCmd) : Nat := leAt c.sqe 40 8

/-- A command with a range goes to a namespace, or fails: namespace, capacity, transfer size, read-only. -/
def State.nvRange (s : State) (e f : Nat) (c : NvCmd) (data write : Bool) : Except Nat NvNs :=
  match tabFind (s.nv e f).nss (nvNsid c) with
  | none => .error (nvSt 0 0x0B)
  | some n =>
    if n.leaving.isSome then .error (nvSt 0 0x0B)
    else if data && decide (131072 < nvNlb c * (nsBlock n + (if nvPract c then 0 else nsMeta n))) then .error (dnr (nvSt 0 0x02))
    else if n.lbas < nvSlba c + nvNlb c then .error (dnr (nvSt 0 0x80))
    else if write && n.format.testBit 4 then .error (dnr (nvSt 1 0x82))
    else .ok n

/-- Send a command and its data to its session's queue; a session that is gone fails it. -/
def State.nvSend1 (s : State) (e f i : Nat) (c : NvCmd) (n : NvNs) (data : List Byte) : State :=
  match tabFind s.omc.sessions n.session with
  | none => s.nvDone e f i 0 (nvSt 3 0x00)
  | some x =>
    let s := s.emit (.backend n.session (c.sq % x.queues) c.sqe data)
    s.setNv e f ((s.nv e f).putSlot i { c with sent := true, sentAt := s.clk, data := data })

/-- What happens next with a command that the backend serves: `go` checks and sends it; `back` takes the answer. -/
def State.nvBackend (s : State) (e f i : Nat) (c : NvCmd) (ev : Backend) (go : State → State)
    (back : Nat → List Byte → State → State) : State :=
  match ev with
  | .down => s.nvDone e f i 0 (nvSt 3 0x00)
  | .send => if c.sent then s else go s
  | .reply st b => if c.sent then back st.toNat b s else s

/-- NVME_READ: the backend's blocks are checked, decrypted, and written to the host (R459, R460). `list` is the PRP list
or the SGL segments, as host memory holds them. -/
def execNvmeRead (e : Fin 32) (f : BitVec 8) (i : BitVec 12) (list : List Byte) (ev : Backend) (s : State) :
    Host.Outcome State Fault Refusal :=
  let e := e.val
  let f := f.toNat
  let i := i.toNat
  .next (s.nvDo e f i false 0x02 fun c s =>
    s.nvBackend e f i c ev
      (fun s => match s.nvRange e f c true false with
        | .error st => s.nvDone e f i 0 st
        | .ok n => s.nvSend1 e f i c n [])
      (fun st b s => match tabFind (s.nv e f).nss (nvNsid c) with
        | none => s.nvDone e f i 0 (nvSt 0 0x0B)
        | some n =>
          if st ≠ 0 then s.nvDone e f i 0 st
          else
            let size := nsBlock n + nsMeta n
            let b := slice b 0 (nvNlb c * size)
            let chk := if nsPi n = 0 then 0 else nvPiCheck n c b
            if chk ≠ 0 then s.nvDone e f i 0 chk
            else
              let r := if n.format.testBit 5 then
                  s.nvXts n (epRegion e) (s.nvCtx e f n) (nvSlba c) false (blocksOf size b)
                else (some b, s)
              match r with
              | (none, s) => s.nvDone e f i 0 (dnr (nvSt 0 0x06))
              | (some b, s) =>
                s.nvReturn e f i c list (if nvPract c && nsPi n != 0 then piStrip (nvPiDesc n c) b else b)))

/-- NVME_WRITE: the host's data is checked, given PI, encrypted and sent (R459, R460). `host` is the data that the host
buffer holds; `none` where its read fails. -/
def execNvmeWrite (e : Fin 32) (f : BitVec 8) (i : BitVec 12) (list : List Byte) (host : Option (List Byte))
    (ev : Backend) (s : State) : Host.Outcome State Fault Refusal :=
  let e := e.val
  let f := f.toNat
  let i := i.toNat
  .next (s.nvDo e f i false 0x01 fun c s =>
    s.nvBackend e f i c ev
      (fun s => match s.nvRange e f c true true with
        | .error st => s.nvDone e f i 0 st
        | .ok n =>
          let act := nvPract c && nsPi n != 0
          let len := nvNlb c * (nsBlock n + (if act then 0 else nsMeta n))
          match nvPieces c len list, host with
          | .error st, _ => s.nvDone e f i 0 st
          | _, none => s.nvDone e f i 0 (nvSt 0 0x04)
          | .ok _, some b =>
            let b := slice b 0 len
            let chk := if nsPi n = 0 || act then 0 else nvPiCheck n c b
            if chk ≠ 0 then s.nvDone e f i 0 (dnr chk)
            else
              let b := if act then piInsert (nvPiDesc n c) b else b
              let r := if n.format.testBit 5 then
                  s.nvXts n (epRegion e) (s.nvCtx e f n) (nvSlba c) true (blocksOf (nsBlock n + nsMeta n) b)
                else (some b, s)
              match r with
              | (none, s) => s.nvDone e f i 0 (dnr (nvSt 0 0x06))
              | (some b, s) => s.nvSend1 e f i c n b)
      (fun st _ s => s.nvDone e f i 0 st))

/-- A command without a transfer of blocks is passed to the backend. -/
def State.nvPass (s : State) (e f i : Nat) (c : NvCmd) (ev : Backend) (n : Except Nat NvNs) (data : List Byte) : State :=
  s.nvBackend e f i c ev
    (fun s => match n with
      | .error st => s.nvDone e f i 0 st
      | .ok n => s.nvSend1 e f i c n data)
    (fun st _ s => s.nvDone e f i 0 st)

/-- The namespace of a command without a range. -/
def State.nvNs (s : State) (e f : Nat) (c : NvCmd) (write : Bool) : Except Nat NvNs :=
  match tabFind (s.nv e f).nss (nvNsid c) with
  | none => .error (nvSt 0 0x0B)
  | some n =>
    if n.leaving.isSome then .error (nvSt 0 0x0B)
    else if write && n.format.testBit 4 then .error (dnr (nvSt 1 0x82)) else .ok n

/-- FLUSH. -/
def execFlush (e : Fin 32) (f : BitVec 8) (i : BitVec 12) (ev : Backend) (s : State) : Host.Outcome State Fault Refusal :=
  .next (s.nvDo e f.toNat i.toNat false 0x00 fun c s =>
    s.nvPass e f.toNat i.toNat c ev (s.nvNs e f.toNat c false) [])

/-- WRITE_ZEROES. -/
def execWriteZeroes (e : Fin 32) (f : BitVec 8) (i : BitVec 12) (ev : Backend) (s : State) :
    Host.Outcome State Fault Refusal :=
  .next (s.nvDo e f.toNat i.toNat false 0x08 fun c s =>
    s.nvPass e f.toNat i.toNat c ev (s.nvRange e f.toNat c false true) [])

/-- DATASET_MANAGEMENT: Deallocate is passed on with its ranges, which `host` holds; without it the command has no
effect. -/
def execDatasetManagement (e : Fin 32) (f : BitVec 8) (i : BitVec 12) (host : Option (List Byte)) (ev : Backend)
    (s : State) : Host.Outcome State Fault Refusal :=
  let e := e.val
  let f := f.toNat
  let i := i.toNat
  .next (s.nvDo e f i false 0x09 fun c s =>
    let n := s.nvNs e f c true
    let len := 16 * (cdw c 10 % 256 + 1)
    match n, host with
    | .ok n, some b =>
      let beyond := (List.range (len / 16)).any fun k => decide (n.lbas < leAt b (16 * k + 8) 8 + leAt b (16 * k + 4) 4)
      if !(cdw c 11).testBit 2 then s.nvDone e f i 0 0
      else s.nvPass e f i c ev (if beyond then .error (dnr (nvSt 0 0x80)) else .ok n) (slice b 0 len)
    | .ok _, none => s.nvPass e f i c ev (.error (nvSt 0 0x04)) []
    | .error st, _ => s.nvPass e f i c ev (.error st) [])

/-! ### Namespaces (R457, R458, R460) -/

/-- A request of the manager on general channel `ch` of PF1 with the row's OP: it is taken and served by firmware. -/
def State.nvManage (s : State) (e ch op : Nat) (act : (Nat → Nat) → State → State) : State :=
  let h := nvHalf e ch true
  let o := nvHalf e ch false
  let m : Mid := BitVec.ofNat 16 (fld (s.gchBind h.1 h.2) 0 16)
  let msg := fun (i : Nat) => (s.rd h.1 (h.2 + 4 * i)).toNat
  if !s.omc.running ∨ fld (s.gchBind h.1 h.2) 16 16 = 0 ∨ !s.halfFull h.1 h.2 ∨ s.halfFull o.1 o.2 ∨ msg 0 % 256 ≠ op then s
  else act msg (s.mailTake m h.1 h.2).2

/-- The target function of a request, if it is PF1 or a VF of it. -/
def State.nvTarget (s : State) (e : Nat) (msg : Nat → Nat) : Option Nat :=
  let f := msg 0 / 65536 % 256
  if s.ofPf e 1 f && s.fnEnabled e f then some f else none

/-- Is the context of an ATTACH usable: one of the instance, XTS, with the namespace's data unit? -/
def State.nvKeyOk (s : State) (e f : Nat) (fmt h : Nat) : Bool :=
  let p := instPage e f 2
  let x := s.ctx ((s.rd p 0x100).toNat + h)
  decide (h < (s.rd p 0x104).toNat) && (x.st == 1 || x.st == 2) && x.proto == 5 &&
    (leAt x.pstate 0 1 == (if fmt.testBit 0 then 1 else 0))

/-- NS_ATTACH (R457, R460). -/
def execNsAttach (e : Fin 32) (ch : Fin 64) (s : State) : Host.Outcome State Fault Refusal :=
  .next (s.nvManage e ch 1 fun msg s =>
    let id := msg 1 % 2048
    let fmt := msg 6 % 64
    match s.nvTarget e msg with
    | none => s.nvReply e ch 1
    | some f =>
      let x := s.nv e f
      if id = 0 ∨ 1024 < id then s.nvReply e ch 4
      else if (tabFind x.nss id).isSome then s.nvReply e ch 2
      else if (tabFind s.omc.sessions (msg 2 % 4096)).isNone then s.nvReply e ch 3
      else if (natField fmt 1 2 = 0 ∧ fmt.testBit 3) ∨ msg 6 / 64 ≠ 0 ∨ msg 4 + msg 5 * 2 ^ 32 = 0 then s.nvReply e ch 4
      else if fmt.testBit 5 ∧ !s.nvKeyOk e f fmt (msg 7 % 2 ^ 24) then s.nvReply e ch 5
      else
        let n : NvNs := { session := msg 2 % 4096, remote := msg 3, lbas := msg 4 + msg 5 * 2 ^ 32, format := fmt
                          xts := msg 7 % 2 ^ 24 }
        let x := { x with nss := tabInsert x.nss id n, changed := if x.changed.contains id then x.changed else x.changed ++ [id] }
        ((s.setNv e f x).nvEvent e f 2 0 4).nvReply e ch 0)

/-- NS_DETACH: new commands stop at once, and the reply follows the last one fetched (R458). -/
def execNsDetach (e : Fin 32) (ch : Fin 64) (s : State) : Host.Outcome State Fault Refusal :=
  .next (s.nvManage e ch 2 fun msg s =>
    let id := msg 1 % 2048
    match s.nvTarget e msg with
    | none => s.nvReply e ch 1
    | some f =>
      let x := s.nv e f
      match tabFind x.nss id with
      | none => s.nvReply e ch 6
      | some n =>
        if n.leaving.isSome then s.nvReply e ch 6
        else
          let x := { x with
            nss := tabInsert (tabErase x.nss id) id { n with leaving := some ch.val }
            changed := if x.changed.contains id then x.changed else x.changed ++ [id] }
          ((s.setNv e f x).nvEvent e f 2 0 4).nvSettle e f)

/-- NS_QUERY. -/
def execNsQuery (e : Fin 32) (ch : Fin 64) (s : State) : Host.Outcome State Fault Refusal :=
  .next (s.nvManage e ch 3 fun msg s =>
    match s.nvTarget e msg with
    | none => s.nvReply e ch 1
    | some f => match tabFind (s.nv e f).nss (msg 1 % 2048) with
      | some n => s.nvReply e ch (if n.leaving.isSome then 6 else 0)
      | none => s.nvReply e ch 6)

/-! ### Backends (R462, R463) -/

/-- The commands that wait for a queue of a session: controller, slot, command. -/
def State.nvWaiting (s : State) (n q : Nat) : List (Nat × Nat × NvCmd) :=
  let qs := ((tabFind s.omc.sessions n).map Session.queues).getD 1
  s.nvs.flatMap fun (k : Nat × NvCtl) =>
    (k.2.slots.filter fun (c : Nat × NvCmd) => c.2.sent && c.2.sq % qs == q &&
      (match tabFind k.2.nss (nvNsid c.2) with
       | none => false
       | some x => x.session == n)).map fun (c : Nat × NvCmd) => (k.1, c.1, c.2)

/-- BACKEND_DIGEST_FAIL on queue `q` of session `n`: the queue is reset; its commands are issued once more, and one that
fails again ends with Transient Transport Error. -/
def execBackendDigestFail (n : BitVec 12) (q : Fin 64) (s : State) : Host.Outcome State Fault Refusal :=
  .next ((s.nvWaiting n.toNat q).foldl (fun (s : State) (c : Nat × Nat × NvCmd) =>
    let e := c.1 / 256
    let f := c.1 % 256
    if c.2.2.again then s.nvDone e f c.2.1 0 (nvSt 0 0x22)
    else
      let s := s.emit (.backend n.toNat q c.2.2.sqe c.2.2.data)
      s.setNv e f ((s.nv e f).putSlot c.2.1 { c.2.2 with again := true })) s)

/-- SESSION_TIMEOUT: a sent command has waited for its session's timeout. -/
def execSessionTimeout (e : Fin 32) (f : BitVec 8) (i : BitVec 12) (s : State) : Host.Outcome State Fault Refusal :=
  let x := s.nv e f.toNat
  .next (match tabFind x.slots i.toNat with
    | none => s
    | some c =>
      match (tabFind x.nss (nvNsid c)).bind fun n => tabFind s.omc.sessions n.session with
      | none => s
      | some y =>
        if c.sent ∧ c.sentAt + y.timeout * 1000000000 ≤ s.clk then s.nvDone e f.toNat i.toNat 0 (nvSt 0 0x22) else s)

/-! ### The steering cluster is reset or fenced (R451, R466) -/

/-- Every command slot of every controller steered to the cluster completes with Internal Error. -/
def State.nvClusterGone (s : State) (c : Nat) : State :=
  s.nvs.foldl (fun (s : State) (k : Nat × NvCtl) =>
    let e := k.1 / 256
    let f := k.1 % 256
    if s.nvCluster e f ≠ c then s
    else ((s.nv e f).slots.map fun (i : Nat × NvCmd) => i.1).foldl (fun (s : State) i => s.nvDone e f i 0 (nvSt 0 0x06)) s) s

/-- CSTS.CFS of every controller steered to a cluster that is fenced. -/
def State.nvFailed (s : State) (c : Nat) : State :=
  s.nvs.foldl (fun (s : State) (k : Nat × NvCtl) =>
    let e := k.1 / 256
    let f := k.1 % 256
    if s.nvCluster e f = c ∧ bit (s.rd (ictlPage e f) 0x180) 31 then s.postBit (ictlPage e f) 0x21C 1 true else s) s

end Sys2Proof.Machine
end

