-- ==== Sys2Proof/Machine/Gone.lean ====
section
/-! DEFINITION. What a fence and a reset take away from the units in their scope (R17, R18, R21, R22, R139, R236, R403,
R561). -/
namespace Sys2Proof.Machine

/-! ### Pipelines, ingress sources and queues -/

/-- A pipeline discards its headers; the sequencers get hole tokens for them (R139). -/
def State.pipeGone (s : State) (p : Nat) : State :=
  let mine := s.hdrs.filter fun (h : Hdr) => h.pipe == p
  let s := { s with hdrs := s.hdrs.filter fun (h : Hdr) => h.pipe != p }
  mine.foldl (fun (s : State) (h : Hdr) => s.passEnd h false) s

/-- Frames of a source that wait to be spread are discarded, and its unresolved frames get hole tokens. -/
def State.sourceGone (s : State) (k : Nat) : State :=
  let f := s.fifo k
  if f == {} ∧ (s.seq k).unres = [] then s
  else
    let s := (f.exp ++ f.ord).foldl (fun (s : State) (x : Frame) => s.bufDone x.buf) s
    (s.setFifo k {}).seqHoles k fun _ => false

/-- A reset of the source's region starts its sequencer over; every landing learns it (R135). -/
def State.sourceReset (s : State) (k : Nat) : State :=
  let s := s.sourceGone k
  if s.seq k == {} then s
  else
    let s := s.setSeq k {}
    [0, 1, 2, 3].foldl (fun s d => s.linkSend (k / 128) d (.mark k 65535)) s

/-- The sources of a region. -/
def regionSources (r : Nat) : List Nat := (List.range 19).map (srcKey r)

/-- Discard the entries that satisfy `p` in the scheduler and the landing of die `d` and on the links to it, each counted
in FAB_DROP_FENCED of that die (R22). -/
def State.dieDiscard (s : State) (d : Nat) (p : Entry → Bool) : State :=
  let qs := s.queues.filter fun q => q.1 / 2 ^ 20 == d
  let sel := s.sel.filter fun q => q.1 / 256 == d && p q.2
  let held := tabGet [] s.held d
  let ls := s.links.filter fun l => l.1 % 4 == d
  let onLink := fun (t : Transit) => match t with
    | .entry e => p e
    | .mark _ _ => false
  let gone := (qs.flatMap fun q => q.2.filter p) ++ sel.map (fun q => q.2) ++ held.filter p ++
    (ls.flatMap fun l => l.2.filterMap fun t => match t with
      | .entry e => if p e then some e else none
      | .mark _ _ => none)
  let s := { s with
    sel := s.sel.filter fun q => !(q.1 / 256 == d && p q.2)
    held := tabPut [] s.held d (held.filter fun e => !p e) }
  let s := qs.foldl (fun (s : State) q => s.setBacklog q.1 (q.2.filter fun e => !p e)) s
  let s := ls.foldl (fun (s : State) l => { s with links := tabPut [] s.links l.1 (l.2.filter fun t => !onLink t) }) s
  gone.foldl (fun (s : State) (e : Entry) => (s.bufDone e.buf).countFenced d) s

/-- A core die is fenced or reset: the other core dies discard entries whose payload lies there, and nothing stays on
its links (R22). -/
def State.corePeers (s : State) (d : Nat) : State :=
  let s := [0, 1, 2, 3].foldl (fun s k => if k = d then s else s.dieDiscard k fun e => bufDie e.buf == d) s
  let mine := s.links.filter fun l => l.1 / 4 == d || l.1 % 4 == d
  let s := { s with links := s.links.filter fun l => !(l.1 / 4 == d || l.1 % 4 == d) }
  (mine.flatMap fun l => l.2.map fun t => (if l.1 % 4 = d then l.1 / 4 else l.1 % 4, t)).foldl
    (fun (s : State) x => match x.2 with
      | .entry e => (s.bufDone e.buf).countFenced x.1
      | .mark _ _ => s) s

/-- Shaper buckets of a die refilled to their depths (R18). -/
def State.shapersFill (s : State) (d : Nat) : State :=
  { s with
    nodes := s.nodes.map fun (n : Nat × Node) =>
      if n.1 / 2 ^ 20 = d then
        (n.1, { n.2 with ctok := (n.2.cbs * 1000 : Nat), ptok := (n.2.pbs * 1000 : Nat), deficit := 0 }) else n
    outlets := s.outlets.map fun (o : Nat × Outlet) =>
      if o.1 / 256 = d then (o.1, { o.2 with etok := (o.2.expBurst * 1000 : Nat) }) else o }

/-- Policer buckets of a die refilled (R18). -/
def State.policersFill (s : State) (d : Nat) : State :=
  { s with plcrs := s.plcrs.map fun (n : Nat × Plcr) =>
      if n.1 / 2 ^ 18 = d then (n.1, { n.2 with ctok := n.2.cbs * 1000, ptok := n.2.pbs * 1000 }) else n }

/-! ### Region-shared units -/

/-- A unit that cannot produce its replies answers every request that waits at it with ones (R21, R388). -/
def State.answerOnes (s : State) (p : PageKey) : State :=
  let mine := s.ureqs.filter fun (q : Ureq) => s.unitOf q.cluster q.chan == p
  mine.foldl (fun (s : State) (q : Ureq) =>
    let k := s.kind q.cluster q.chan
    let s := s.dropRequest q
    if hasReply k q.words then
      (s.reply q (List.replicate (replyLen k q.words) (BitVec.allOnes 64)) true).pump q.cluster q.chan
    else s) s

/-- A TBL page's reset or fence: the walk ends with WALK_END, and the aging pass ends (R561). -/
def State.tblGone (s : State) (r : Nat) : State :=
  let s := s.walkEnd r
  s.setTblR r { s.tblR r with aging := none }

/-- An LRN page's reset: held requests are dropped and counted (R561). -/
def State.lrnGone (s : State) (r : Nat) : State :=
  let n := (s.learn r).queue.length
  let s := if n = 0 then s else s.count (lrnPage r) 0x02 n
  (s.setLearn r { s.learn r with queue := [] }).postQueued r

/-- A fenced mover ends its transfers with INTERNAL, and a MSG request is answered with ones (R21). -/
def State.dmaFenced (s : State) (r : Nat) : State :=
  (s.dmas.filter fun c => c.1 / 64 == r).foldl (fun (s : State) (c : Nat × DmaChan) =>
    match c.2.xfer with
    | none => s
    | some x => match x.req with
      | some q =>
        let s := s.forget fun k => match k with
          | .dmaSrc n _ _ => n == c.1
          | _ => false
        let s := s.setDma r (c.1 % 64) { c.2 with xfer := none }
        (s.reply q (List.replicate 8 (BitVec.allOnes 64)) true).pump q.cluster q.chan
      | none => if x.finished then s else s.dmaEnd r (c.1 % 64) x 0x0F 0 0 0) s

/-- A mover's reset discards its transfers; rings start over at index 0 (R18). -/
def State.dmaReset (s : State) (r : Nat) : State :=
  let s := s.dmaFenced r
  let s := s.forget fun k => match k with
    | .dmaDesc n => n / 64 == r
    | .dmaSrc n _ _ => n / 64 == r
    | _ => false
  let mine := s.dmas.filter fun c => c.1 / 64 == r
  let s := { s with dmas := s.dmas.filter fun c => c.1 / 64 != r }
  mine.foldl (fun (s : State) c => s.post (dmachPage r (c.1 % 64)) (dmachOff (c.1 % 64) + 0x18) 0) s

/-- The messages of a region's inbound queue that satisfy `p` are discarded, counted in INQ 4c + 3. -/
def State.inqGone (s : State) (r : Nat) (p : InMsg → Bool) : State :=
  let q := s.inQueue r
  let gone := q.filter p
  if gone = [] then s
  else
    let s := s.setInQueue r (q.filter fun m => !p m)
    gone.foldl (fun (s : State) (m : InMsg) =>
      let s := match m.msg.frame with
        | none => s
        | some b => s.dropOwned b
      s.count (regPage r 14) (4 * (m.cluster % 8) + 3) 1) s

/-! ### Clusters (R403) -/

/-- Check channels of a cluster close without a result. -/
def State.checksGone (s : State) (c : Nat) : State :=
  (List.range 16).foldl (fun s k =>
    let s := { s with checks := tabErase s.checks (c * 16 + k) }
    s.postBit (chkPage c) (chkOff k + 4) 31 false) s

/-- Threads of a cluster enter RESET. -/
def State.threadsReset (s : State) (c : Nat) (p : Nat → Bool) : State :=
  ((List.range 64).filter fun i => p i && (s.thr c i).st != 0).foldl (fun s i => s.thrPark c i 7) s

/-- What a cluster reset discards. -/
def State.clusterWipe (s : State) (c : Nat) : State :=
  let n := regPage (c / 8) 14
  let s := s.threadsReset c fun _ => true
  let f := s.freeOwned c none
  let s := if f.1 = 0 then f.2 else f.2.count n (4 * (c % 8) + 2) f.1
  let waiting := ((List.range 64).map fun k => (s.chan c k).fifo.length).sum
  let s := (List.range 64).foldl (fun s k => if (s.chan c k).fifo = [] then s else s.chanEmpty c k) s
  let s := if waiting = 0 then s else s.count n (4 * (c % 8) + 3) waiting
  let s := s.inqGone (c / 8) fun m => m.cluster == c
  let s := (s.killRequests c fun _ _ => true).checksGone c
  let s := s.releaseLocks (fun m => midIsThread m && midCluster m == c) (fun _ => false) 5
  let s := { s with still := tabErase s.still c }
  s.nvClusterGone c

/-- Enabled threads start at START_PC once the reset is done; the others are DISABLED. -/
def State.threadsStart (s : State) (c : Nat) (p : Nat → Bool) : State :=
  ((List.range 64).filter p).foldl (fun s i =>
    let x := s.thr c i
    let s := s.setThr c i { x with on := false, st := 0 }
    if s.thrExists i && s.thrEn c i then s.threadCtl c i else s) s

/-! ### One unit -/

/-- The port groups and peer ports of a scope go link-down (R21). -/
def State.portsGone (s : State) (cov : PageKey → Bool) : State :=
  let s := (List.range 32).foldl (fun s n =>
    if cov (npgPage n 0) then s.portsDown (npgPage n 0)
    else [1, 2, 3, 4, 5, 6, 7, 8].foldl (fun s k => if cov (npgPage n k) then s.linkDown (npgPage n k) else s) s) s
  (List.range 16).foldl (fun s q =>
    if cov (peerPage q 0) then s.portsDown (peerPage q 0)
    else
      let s := if cov (peerPage q 3) then s.linkDown (peerPage q 3) else s
      if cov (peerPage q 1) then s.aplDown q else s) s

/-- A fenced endpoint takes its link down, and its instances drain with cause 0xA (R291, R309). -/
def State.epFenced (s : State) (e : Nat) : State :=
  let s := s.epFundamental e 0xA 2
  s.setEp e { s.ep e with hot := true }

/-- The effects of a fence as it is applied to what its scope holds (R21, R22, R139, R236, R291, R466). -/
def State.fenceEffects (s : State) (sc : Scope) : State :=
  let cov := fenceCovers sc
  let regions := (List.range 16).filter fun r => cov (regPage r 0) && (match sc with
    | .unit _ => false
    | _ => true)
  let s := regions.foldl (fun s r => (regionSources r).foldl State.sourceGone s) s
  let s := ((List.range 64).filter fun p => cov (pipeKey p)).foldl State.pipeGone s
  let s := ((List.range 16).filter fun r => cov (regPage r 3)).foldl State.dmaFenced s
  let s := (List.range 16).foldl (fun s r =>
    let s := [0, 2, 3].foldl (fun s k => if cov (regPage r k) then s.answerOnes (regPage r k) else s) s
    if cov (ciphPage r) then s.ciphReset r else s) s
  let s := ((List.range 128).filter fun c => cov (chkPage c)).foldl (fun s c => s.answerOnes (chkPage c)) s
  let s := ((List.range 128).filter fun c => cov (cluPage c 0)).foldl (fun s c => (s.nvClusterGone c).nvFailed c) s
  let s := s.portsGone cov
  let s := ((List.range 32).filter fun e => cov (epPage e 0)).foldl State.epFenced s
  match sc with
  | .die d => if isCore d then s.corePeers d else s
  | _ => s

/-- A fence takes effect, unless its scope is fenced already (R475). -/
def State.fence (s : State) (sc : Scope) : State :=
  if s.fences.any fun f => scopeContains f sc then s
  else ({ s with fences := s.fences ++ [sc] }).fenceEffects sc

/-- What the reset of one unit discards (R18, R561). -/
def State.unitReset (s : State) (p : PageKey) : State :=
  let r := regionIdx p
  match pageType p with
  | none => s
  | some t => match t with
    | .pipe => s.pipeGone (r * 4 + pgPage p)
    | .tbl => s.tblGone r
    | .lrn => s.lrnGone r
    | .ciph => (s.answerOnes p).ciphReset r
    | .dma | .dmach => (s.answerOnes (regPage r 3)).dmaReset r
    | .arb => { s with arbs := s.arbs.filter fun a => a.1 / 4 != r }
    | .inq => s.inqGone r fun _ => true
    | .fcore => s.threadsReset (clusterOf p) fun i => 1 + i / 8 == pgPage p
    | .chan => (List.range 64).foldl (fun s k => if (s.chan (clusterOf p) k).fifo = [] then s else s.chanEmpty (clusterOf p) k) s
    | .chk => (s.answerOnes p).checksGone (clusterOf p)
    | .cdbg => s.endSession (clusterOf p)
    | .sched => (s.dieDiscard (pgSite p) fun _ => true).shapersFill (pgSite p)
    | .plcr => s.policersFill (pgSite p)
    | .npg | .peer => s.portsDown p
    | .mac => s.linkDown p
    | .apl => s.aplDown (peerOf p)
    | .ep => if s.dlUp (epOf p) then s.hotReset (epOf p) 2 else s
    | _ => s

/-- Everything in flight in a region is discarded (R18). -/
def State.regionWipe (s : State) (r : Nat) : State :=
  let s := (regionSources r).foldl State.sourceReset s
  let s := [0, 1, 2, 3].foldl (fun s k => s.pipeGone (4 * r + k)) s
  let s := [0, 1, 2, 3, 12, 14].foldl (fun s k => s.unitReset (regPage r k)) s
  let s := (List.range 8).foldl (fun s k => (s.endSession (8 * r + k)).clusterWipe (8 * r + k)) s
  let s := [2 * r, 2 * r + 1].foldl (fun s n => s.portsDown (npgPage n 0)) s
  let s := s.portsDown (peerPage r 0)
  [2 * r, 2 * r + 1].foldl State.epReset s

/-- The packet buffer of a core die is emptied. -/
def State.bufsGone (s : State) (d : Nat) : State :=
  (s.bufs.filter fun b => bufDie b.1 == d).foldl (fun (s : State) (b : Nat × Buf) =>
    (s.setBuf b.1 { b.2 with owner := none, refs := 1 }).bufDone b.1) s

end Sys2Proof.Machine
end

