-- ==== Sys2Proof/Machine/Faults.lean ====
section
/-! DEFINITION. Fault reports, collectors, fences and traces (R468–R486). -/
namespace Sys2Proof.Machine

/-! ### Collectors (R474–R477) -/

/-- A collector. -/
def State.coll (s : State) (p : PageKey) : Collector := tabGet {} s.colls p
/-- Store it, and post FLT_STS. -/
def State.setColl (s : State) (p : PageKey) (x : Collector) : State :=
  let s := { s with colls := tabPut {} s.colls p x }
  if p = logPage then s
  else s.post p 0x104 (setBit (BitVec.ofNat 32 x.ents.length) 31 (decide (x.ovf ≠ 0)))

/-- Entries of an accused table (R475). -/
def collSize (p : PageKey) : Nat := if p = logPage then 16 else 64

/-- Post an entry's registers; a free one reads 0. -/
def State.postEntry (s : State) (p : PageKey) (i : Nat) : State :=
  match tabFind (s.coll p).ents i with
  | none => (s.post p (0x200 + 8 * i) 0).post p (0x204 + 8 * i) 0
  | some e =>
    (s.post p (0x200 + 8 * i) (BitVec.ofNat 32 (e.unit.toNat * 65536 + e.code.toNat * 256 + e.cls.toNat))).post p
      (0x204 + 8 * i) (BitVec.ofNat 32 (min e.count (2 ^ 32 - 1)))

/-- A counter of a collector; the LOG page's table has none. -/
def State.collCount (s : State) (p : PageKey) (i : Nat) : State := if p = logPage then s else s.count p i 1

/-- The eight bytes of a report (R471). -/
def FaultRep.bytes (r : FaultRep) : List Byte :=
  leBytes 2 r.detail.toNat ++ [r.cls, r.code] ++ leBytes 2 r.reporter.toNat ++ leBytes 2 r.accused.toNat

/-- Severity of a class (R482). -/
def classSeverity (c : Byte) : Nat := if c.toNat ≤ 2 then 3 else if c.toNat ≤ 5 then 2 else 0

/-- Is the class a machine check or a fence? -/
def machineClass (c : Byte) : Bool := c == 6 || decide (8 ≤ c.toNat)

/-- The machine-check interrupt of the OMC (R477). -/
def State.machineCheck (s : State) : State :=
  let v := s.rd omcPage 0x108
  ((s.post omcPage 0x108 (setBit v 31 true)).postFld omcPage 0x108 0 16 (satAdd (fld v 0 16) 1 16)).raiseBit omcPage 0

/-- A record of a report reaches the log writer. `first` says that it is a first forwarding, `coll` names the collector
that accepted it, `fence` is the class of the fence applied. -/
def State.faultLog (s : State) (r : FaultRep) (family : Byte) (coll : PageKey) (fence : Byte) (notApplied first : Bool)
    (count : Nat) : State :=
  let s := s.stageLog {
    time := s.ptime, source := r.accused, severity := classSeverity r.cls, notApplied := notApplied
    family := family, code := r.code.setWidth 16, count := count
    data := r.bytes ++ leBytes 2 (unitPath coll).toNat ++ [fence] ++ zeros 29 }
  if first && machineClass r.cls then s.machineCheck else s

/-- The DFLT page above a region collector. -/
def upper (p : PageKey) : PageKey := diePage (pgSite p) 5

/-- A first cause leaves its collector (R475, R477): a region's goes through the DFLT, which passes 16 of each region in
10 µs and folds the rest. -/
def State.forward (s : State) (p : PageKey) (r : FaultRep) (fence : Byte) (notApplied : Bool) : State :=
  let log := fun (s : State) => s.faultLog r 1 p fence notApplied true 1
  if p = logPage then log s
  else
    let s := (s.count p 0x01 1).raiseBit p 1
    if pageType p ≠ some .rflt then log s
    else
      let u := upper p
      let x := s.coll u
      let per := s.ptime.toNat / 10000
      let x := if x.firstPer = per then x else { x with firsts := [0, 0, 0, 0], firstPer := per }
      let q := pgRegion p
      if x.firsts.getD q 0 < 16 then
        log (((s.setColl u { x with firsts := x.firsts.modify q (· + 1) }).count u 0x01 1).raiseBit u 1)
      else
        let c := if (x.foldCls.getD q 0).toNat < r.cls.toNat then r.cls else x.foldCls.getD q 0
        (s.setColl u { x with folded := x.folded.modify q (· + 1), foldCls := x.foldCls.set q c }).count u 0x04 1

/-- A summary leaves its collector, a region's through its DFLT (R476, R477). -/
def State.summary (s : State) (p : PageKey) (accused : UnitPath) (code cls : Byte) (detail n : Nat) : State :=
  let r : FaultRep := { accused := accused, reporter := unitPath p, code := code, cls := cls, detail := BitVec.ofNat 16 detail }
  let s := s.collCount p 0x02
  let s := if pageType p = some .rflt then s.count (upper p) 0x02 1 else s
  s.faultLog r 2 p 0 false (code == 0xFE) n

/-- An entry forwards the growth of its count (R476). -/
def State.stormOne (s : State) (p : PageKey) (i : Nat) : State :=
  match tabFind (s.coll p).ents i with
  | none => s
  | some e =>
    if e.count ≤ e.sent then s
    else
      let n := e.count - e.sent
      let x := s.coll p
      let s := s.setColl p { x with ents := tabInsert (tabErase x.ents i) i { e with sent := e.count } }
      s.summary p e.unit 0xFF e.cls (min n 0xFFFF) n

/-- The overflow entry forwards its growth (R475, R476). -/
def State.stormOvf (s : State) (p : PageKey) : State :=
  let x := s.coll p
  if x.ovf ≤ x.ovfSent then s
  else
    let s := s.setColl p { x with ovfSent := x.ovf }
    s.summary p 0xFFFF 0xFE x.ovfCls x.ovfUnit.toNat (x.ovf - x.ovfSent)

/-- First causes of a region that a DFLT folded are summed up, with the region index as the detail (R477). -/
def State.stormFold (s : State) (p : PageKey) (q : Nat) : State :=
  let x := s.coll p
  let n := x.folded.getD q 0
  if n = 0 then s
  else
    let s := s.setColl p { x with folded := x.folded.set q 0, foldCls := x.foldCls.set q 0 }
    s.summary p 0xFFFF 0xFE (x.foldCls.getD q 0) (pgSite p * 4 + q) n

/-- An entry is freed, after it has forwarded what it had not (R476). -/
def State.entryFree (s : State) (p : PageKey) (i : Nat) : State :=
  let s := s.stormOne p i
  let x := s.coll p
  (s.setColl p { x with ents := tabErase x.ents i }).postEntry p i

/-! ### Fences (R21, R471, R475) -/

/-- What a fence class takes in around an accused unit. -/
def fenceScope (p : PageKey) (cls : Nat) : Scope :=
  let site := pgSite p
  if cls = 9 then
    if isCore site && decide (pgGroup p < 8) then .cluster (clusterOf p)
    else if isLine site && decide (pgGroup p < 2) then .npg (npgOf p)
    else if isLine site && pgGroup p == 2 then .peer (peerOf p)
    else if isHost site && decide (pgGroup p < 2) then .endpoint (epOf p)
    else .unit p
  else if cls = 10 then
    match homeRegion p with
    | some r => .region r
    | none => .unit p
  else if cls = 11 ∧ site < 12 then .die site
  else .unit p

/-- Is a reset of a scope that holds the page in progress (R478)? A unit's own reset holds it too. -/
def State.resetOver (s : State) (p : PageKey) : Bool := s.inReset p

/-- The collector fences the scope of a report's class: answers the class applied, whether a reset prevented it, and the
state after (R475, R478). -/
def State.applyFence (s : State) (c p : PageKey) (cls : Byte) : Byte × Bool × State :=
  if cls.toNat < 8 ∨ (pageType p).isNone then (0, false, s)
  else
    let sc := fenceScope p cls.toNat
    if s.resetOver p then (0, true, s.collCount c 0x06)
    else if s.fences.any fun f => scopeContains f sc then (0, false, s)
    else (cls, false, ((s.fence sc).collCount c 0x05).raiseBit c 2)

/-! ### Accepting a report (R40, R473, R475, R483) -/

/-- FAULT_COUNT and FAULT_FIRST of the accused page (R40). -/
def State.pageFault (s : State) (p : PageKey) (r : FaultRep) : State :=
  if (pageType p).isNone then s
  else
    let n := s.rdFld p 0x024 0 16
    let s := if n = 0 then
        s.post p 0x020 (BitVec.ofNat 32 (r.code.toNat * 2 ^ 24 + r.cls.toNat * 65536 + r.reporter.toNat))
      else s
    (s.postFld p 0x024 0 16 (satAdd n 1 16)).raiseBit p 31

/-- A trace of an accepted report (R483). -/
def State.traceReport (s : State) (c : PageKey) (r : FaultRep) : State :=
  if !bit (s.fr logPage 0x128) 31 then s
  else
    let x := s.coll c
    let t := s.tracePut (unitPath c) x.trcSeq x.trcGap r.bytes (zeros 8)
    t.2.setColl c { x with trcSeq := idxAdd x.trcSeq 1, trcGap := !t.1 }

/-- The lowest free entry of a table. -/
def Collector.free (x : Collector) (n : Nat) : Option Nat := (List.range n).find? fun i => (tabFind x.ents i).isNone

/-- A collector accepts a report. -/
def State.accept (s : State) (r : FaultRep) : State :=
  let p := pathPage r.accused
  let c := collectorOf r.accused
  let s := ((s.pageFault p r).collCount c 0x00).traceReport c r
  let f := s.applyFence c p r.cls
  let s := f.2.2
  let x := s.coll c
  match x.ents.find? fun e => e.2.unit == r.accused with
  | some (i, e) =>
    let up := decide (e.cls.toNat < r.cls.toNat)
    let e := { e with count := e.count + 1, last := s.clk, cls := if up then r.cls else e.cls
                      sent := if up then e.count + 1 else e.sent }
    let s := (s.setColl c { x with ents := tabInsert (tabErase x.ents i) i e }).postEntry c i
    if up then s.forward c r f.1 f.2.1 else s
  | none => match x.free (collSize c) with
    | some i =>
      let e : Accused := { unit := r.accused, code := r.code, cls := r.cls, count := 1, sent := 1, last := s.clk }
      ((s.setColl c { x with ents := tabInsert x.ents i e }).postEntry c i).forward c r f.1 f.2.1
    | none =>
      (s.setColl c { x with ovf := x.ovf + 1, ovfUnit := r.accused
                            ovfCls := if x.ovfCls.toNat < r.cls.toNat then r.cls else x.ovfCls }).collCount c 0x04

/-! ### What hardware detects (R153, R236, R470, R472) -/

/-- A word index as a report's detail. -/
def det (i : Nat) : Nat := i % 65536

/-- The unit that owns an array, and the detail that names the word. -/
def State.eccOwner (s : State) : EccHit → PageKey × Nat
  | .entry t a =>
    let n := if ovfPlace ≤ a.toNat then a.toNat - ovfPlace else a.toNat / 4
    (tblPage t, t.val % 8 * 8192 + n % 8192)
  | .ctx c => (ciphPage ((s.ctx c.toNat).holder.getD 0), det c.toNat)
  | .aset r i => (pipePage r 0, i.val)
  | .tpl r i => (pipePage r 0, i.val)
  | .rule r _ i => (pipePage r 4, det i.toNat)
  | .node d _ i => (schedPage d, det i.toNat)
  | .plcr d i => (plcrPage d, det i.toNat)
  | .pbuf d h => (diePage d 1, det (h.toNat / 8))
  | .cmem c w => (cluPage c 0, det w.toNat)
  | .chanBuf c w => (chanPage c, w.toNat)
  | .hbm d g => (diePage d 4, det g.toNat)

/-- An uncorrectable error in a way of a table: the way is lost, with an ECC_LOST record (R153). -/
def State.tblUe (s : State) (t place : Nat) : State :=
  let e := s.entAt t place
  let s := if e.valid then s.tblRemove t place else s
  let ectl : Nat := if ovfPlace ≤ place then 2 ^ 25 else 0
  let s := s.ringRecord (t / 8) (learnRec [] 0 0 ectl (locOf place) 7 (t % 8) false)
  (s.raiseBit (tblPage t) 4).count (tblPage t) (16 * (t % 8) + 10) 1

/-- A template whose lines hold line `i` becomes bad: its header line is cleared (R196, R472). -/
def State.tplUe (s : State) (r i : Nat) : State :=
  let head := (List.range 6).find? fun j =>
    decide (j ≤ i) && decide (64 * j < 16 + leAt (tabGet [] s.tpls (r * 8192 + (i - j))) 0 2)
  { s with tpls := tabErase s.tpls (r * 8192 + (i - head.getD 0)) }

/-- What an uncorrectable error does to the word (R153, R236, R472). -/
def State.eccLose (s : State) : EccHit → State
  | .entry t a => s.tblUe t a.toNat
  | .ctx c => s.setCtx c.toNat { s.ctx c.toNat with st := 3 }
  | .aset r i => { s with asets := tabPut [] s.asets (r.val * 16384 + i.val) (List.replicate 32 0xFF) }
  | .tpl r i => s.tplUe r i
  | .rule r b i =>
    let k := (r.val * 2 + b.val) * 131072 + i.toNat
    { s with rules := tabPut {} s.rules k { tabGet {} s.rules k with valid := false } }
  | .node d k i => s.setNode d k i.toNat { s.node d k i.toNat with en := false }
  | .plcr d i =>
    let k := d.val * 2 ^ 18 + i.toNat
    { s with plcrs := tabPut {} s.plcrs k { tabGet {} s.plcrs k with en := false } }
  | .pbuf d h => match s.buf (bufKey d h.toNat) with
    | none => s
    | some b => s.setBuf (bufKey d h.toNat) { b with parity := true }
  | .cmem _ _ | .chanBuf _ _ | .hbm _ _ => s

/-- The code of an uncorrectable error, where the table gives one. -/
def ueCode : EccHit → Option Nat
  | .entry _ _ => some 0x11
  | .ctx _ => some 0x12
  | .aset _ _ | .tpl _ _ | .rule _ _ _ | .node _ _ _ | .plcr _ _ => some 0x13
  | .pbuf _ _ => some 0x10
  | .hbm _ _ => some 0x14
  | .cmem _ _ | .chanBuf _ _ => none

/-- A word of an array is found in error by `reporter`. -/
def State.eccFound (s : State) (reporter : PageKey) (hit : EccHit) (ue : Bool) : State :=
  let o := s.eccOwner hit
  if ue then
    let s := s.eccLose hit
    match ueCode hit with
    | none => s
    | some k => s.report o.1 reporter k 3 o.2
  else
    let s := match hit with
      | .entry t _ => s.count (tblPage t) (16 * (t.val % 8) + 9) 1
      | _ => s
    s.report o.1 reporter 0x01 1 o.2

/-- A context is in a key cache, whose words R470 protects, only while a region holds it. -/
def State.eccReal (s : State) : EccHit → Bool
  | .ctx c => (s.ctx c.toNat).holder.isSome
  | _ => true

/-- The class of the unit faults, and the units that each may accuse (R472). -/
def unitFault (code : Byte) (t : PageType) : Option Nat :=
  match code.toNat with
  | 0x20 => some 8
  | 0x21 => if [PageType.clu, .npg, .peer, .ep].contains t then some 9 else none
  | 0x22 => if [PageType.tbl, .inq, .arb, .rflt].contains t then some 10 else none
  | 0x23 => if [PageType.cfab, .pbuf, .sched, .land, .hfab, .lfab].contains t then some 11 else none
  | _ => none

/-- A fault arises at a reporter. -/
def State.detect (s : State) (reporter : PageKey) : HwFault → State
  | .word hit ue => if s.eccReal hit then s.eccFound reporter hit ue else s
  | .unit a code detail =>
    match (pageType (pathPage a)).bind (unitFault code) with
    | none => s
    | some cls => s.report (pathPage a) reporter code.toNat cls detail.toNat

/-- FAULT_REPORT: a fault may arise at the reporter (`hw`), and the report that the reporter holds is accepted by the
collector of the accused unit (R473–R475). -/
def execFaultReport (reporter : BitVec 16) (hw : Option HwFault) (s : State) : Host.Outcome State Fault Refusal :=
  let s := match hw with
    | none => s
    | some f => s.detect (pathPage reporter) f
  .next (match s.reports.find? fun r => r.reporter == reporter with
    | none => s
    | some r => ({ s with reports := s.reports.erase r }).accept r)

/-- STORM_SUMMARY: once in every 10 µs of package time a collector forwards the growth of its entries and of its overflow
entry (R476, R477). -/
def execStormSummary (p : PageKey) (s : State) : Host.Outcome State Fault Refusal :=
  let x := s.coll p
  let per := s.ptime.toNat / 10000
  let isColl := pageType p == some .rflt || pageType p == some .dflt || p == logPage
  .next (if !isColl || x.per = per then s
    else
      let s := s.setColl p { x with per := per }
      let s := (List.range (collSize p)).foldl (fun s i => s.stormOne p i) s
      let s := s.stormOvf p
      if pageType p = some .dflt then [0, 1, 2, 3].foldl (fun s q => s.stormFold p q) s else s)

/-- ENTRY_IDLE_FREE: an entry without a report for IDLE_MS, whose unit is not fenced, is freed (R476). The LOG page has
no IDLE_MS. -/
def execEntryIdleFree (p : PageKey) (i : Fin 64) (s : State) : Host.Outcome State Fault Refusal :=
  .next (if pageType p ≠ some .rflt ∧ pageType p ≠ some .dflt then s
    else match tabFind (s.coll p).ents i with
    | none => s
    | some e =>
      if e.last + s.frFld p 0x100 0 16 * 1000000 ≤ s.clk ∧ !s.isFenced (pathPage e.unit) then s.entryFree p i else s)

/-- What a GO to FLT_CLR does. -/
def State.fltClr (s : State) (p : PageKey) (v : Reg) : State :=
  let s := s.postBit p 0x10C 31 false
  if !bit v 31 then s
  else
    let es := (s.coll p).ents.filter fun e => bit v 30 || e.2.unit == BitVec.ofNat 16 (fld v 0 16)
    let s := es.foldl (fun s e => s.entryFree p e.1) s
    if bit v 30 then
      let s := s.stormOvf p
      let x := s.coll p
      s.setColl p { x with ovf := 0, ovfSent := 0, ovfUnit := 0, ovfCls := 0 }
    else s

/-- FLT_CLR: a write of FLT_CLR with GO frees an entry, or with ALL every one (R476). -/
def execFltClr (mid : Mid) (p : PageKey) (all : Bool) (u : BitVec 16) (s : State) : Host.Outcome State Fault Refusal :=
  let v := BitVec.ofNat 32 (2 ^ 31 + (if all then 2 ^ 30 else 0) + u.toNat)
  .next (if pageType p = some .rflt ∨ pageType p = some .dflt then
      s.nowWrite mid p 0x10C v fun s => s.fltClr p v
    else s)

/-- What a GO to FLT_FENCE does: the fence of CLASS against UNIT (R475). -/
def State.fltFence (s : State) (mid : Mid) (p : PageKey) : State :=
  let v := s.rd p 0x108
  let s := s.postBit p 0x108 31 false
  if !bit v 31 || !midIsOmc mid then s
  else (s.applyFence p (pathPage (BitVec.ofNat 16 (fld v 0 16))) (BitVec.ofNat 8 (fld v 16 8))).2.2

/-- FLT_FENCE: a write of FLT_FENCE with GO; OMC only. -/
def execFltFence (mid : Mid) (p : PageKey) (cls : Byte) (u : BitVec 16) (s : State) :
    Host.Outcome State Fault Refusal :=
  let v := BitVec.ofNat 32 (2 ^ 31 + cls.toNat * 65536 + u.toNat)
  .next (if pageType p = some .rflt ∨ pageType p = some .dflt then
      s.nowWrite mid p 0x108 v fun s => s.fltFence mid p
    else s)

/-! ### The fabric (R468, R469) -/

/-- Is there a link between two dies (R7)? -/
def linked (a b : Nat) : Bool :=
  (isCore a && isCore b && a != b) || (isCore b && (a == 4 + b || a == 8 + b || a == 12)) ||
    (isCore a && (b == 4 + a || b == 8 + a || b == 12))

/-- The die that a failed hop fences (R469). -/
def hopDie (a b : Nat) : Nat := if a = 12 then b else if b = 12 then a else max a b

/-- FAB_REPLAY: a word from die `tx` fails its parity at die `rx`, for the `n`th consecutive time; the sender replays, or,
with the 8th failure, the hop is failed and a die is fenced. -/
def execFabReplay (tx rx : Fin 13) (hop : BitVec 16) (n : Fin 9) (s : State) : Host.Outcome State Fault Refusal :=
  .next (if !linked tx rx ∨ n.val = 0 ∨ s.fences.contains (.die tx) ∨ s.fences.contains (.die rx) then s
    else
      let p := diePage rx 0
      if n.val < 8 then (if rx.val = 12 then s else s.report p p 0x02 2 hop.toNat).emit (.replay hop.toNat)
      else
        let d := hopDie tx rx
        let u := diePage d 0
        let rep := if rx.val = 12 then omcPage else p
        let s := s.report u rep 0x03 11 hop.toNat
        (s.applyFence (collectorOf (unitPath u)) u 11).2.2)

/-- ECC_SCRUB: the scrubber reads every word of the protected arrays but the packet buffer (R470); `found` are the
words in error, each with whether it is uncorrectable. -/
def execEccScrub (found : List (EccHit × Bool)) (s : State) : Host.Outcome State Fault Refusal :=
  .next (found.foldl (fun (s : State) h =>
    let o := (s.eccOwner h.1).1
    let skip := match h.1 with
      | .pbuf _ _ => true
      | _ => false
    if skip || !s.litPage o || !s.eccReal h.1 then s else s.eccFound o h.1 h.2) s)

end Sys2Proof.Machine
end

