-- ==== Sys2Proof/Machine/Resets.lean ====
section
/-! DEFINITION. Resets of units, clusters, regions, dies and the package, references, fabric barriers and deferred
reads (R16–R19, R23, R46, R59, R403, R476, R478, R545–R549). -/
namespace Sys2Proof.Machine

/-! ### What every reset of a level does (R18, R21, R48, R52, R476, R478) -/

/-- Is the page's seal scope reset by a reset of this scope (R48)? -/
def sealReset (sc : Scope) (p : PageKey) : Bool :=
  resetCovers sc p &&
    (match sc with
     | .unit _ => false
     | .region _ => isInst p || decide (pgGroup p < 10)
     | .die _ => true
     | _ => isInst p || decide (pgGroup p < 8))

/-- RWL fields and CFG_SEAL of the pages whose seal scope is reset; a cluster reset keeps the channel bindings (R48,
R403). -/
def State.sealsClear (s : State) (sc : Scope) : State :=
  let keep := fun (k : Nat) => match sc with
    | .cluster _ => pageType (k / 4096) == some .chan && k % 4096 != 0x028
    | _ => false
  let ks := s.regs.filter fun r => sealReset sc (r.1 / 4096) && !keep r.1
  ks.foldl (fun (s : State) (r : Nat × Reg) =>
    match regDesc (r.1 / 4096) (r.1 % 4096) with
    | none => s
    | some d =>
      let m := if r.1 % 4096 = 0x028 then 1 else d.rwl
      if m = 0 then s
      else s.postBoth (r.1 / 4096) (r.1 % 4096) ((r.2 &&& ~~~m) ||| (regReset r.1 &&& m))) s

/-- Interrupt bits of the pages in a scope (R18). -/
def State.intsClear (s : State) (sc : Scope) : State :=
  { s with regs := s.regs.filter fun r => !(r.1 % 4096 == 0x010 && resetCovers sc (r.1 / 4096)) }

/-- Accused entries of units in the scope are freed, and pending reports of reporters there removed (R476, R478). -/
def State.accusedClear (s : State) (sc : Scope) : State :=
  let s := { s with reports := s.reports.filter fun (r : FaultRep) => !resetCovers sc (pathPage r.reporter) }
  s.colls.foldl (fun (s : State) c =>
    (c.2.ents.filter fun e => resetCovers sc (pathPage e.2.unit)).foldl (fun (s : State) e => s.entryFree c.1 e.1) s) s

/-- A reset lifts the fences of its own level and of the levels it contains (R21). -/
def State.fencesLift (s : State) (sc : Scope) : State :=
  { s with fences := s.fences.filter fun f => !scopeContains sc f }

/-- The resets below a level end with its own. -/
def State.resetsEnd (s : State) (sc : Scope) : State :=
  let mine := s.resets.filter fun r => scopeContains sc r.1 && r.1 != sc
  let s := { s with resets := s.resets.filter fun r => !(scopeContains sc r.1 && r.1 != sc) }
  mine.foldl (fun (s : State) r => match r.1 with
    | .unit p => s.postBit p 0x008 1 false
    | .cluster c => s.postBit (cluPage c 0) 0x100 0 false
    | _ => s) s

/-- The common part of a cluster, region or die reset. -/
def State.levelReset (s : State) (sc : Scope) : State :=
  let s := ((s.accusedClear sc).fencesLift sc).resetsEnd sc
  let s := s.releaseLocks (fun _ => false) (sealReset sc) 6
  (s.sealsClear sc).intsClear sc

/-- A reset wakes the domains of its level (R66). -/
def State.wakeScope (s : State) (sc : Scope) : State :=
  ((List.range 338).filter fun d => resetCovers sc (governing d)).foldl State.wake s

/-! ### Units (R18, R39, R44) -/

/-- SOFT_RESET: a write of PAGE_CTL with SOFT_RESET = 1 and the other fields as they stand. -/
def execSoftReset (mid : Mid) (p : PageKey) (s : State) : Host.Outcome State Fault Refusal :=
  .next (s.pageCtl mid p (s.rd p 0x008 ||| bitR 1))

/-- SOFT_RESET_DONE: the unit is in its state after reset, SOFT_RESET clears, and the writes that waited form the next
batch. The block must be lit. -/
def execSoftResetDone (p : PageKey) (s : State) : Host.Outcome State Fault Refusal :=
  .next (if !(s.resets.any fun r => r.1 == .unit p) ∨ !s.litPage p then s
    else
      let s := (s.unitReset p).accusedClear (.unit p)
      let s := (s.fencesLift (.unit p)).intsClear (.unit p)
      let s := { s with resets := s.resets.filter fun r => !(r.1 == Scope.unit p) }
      let s := s.postBit p 0x008 1 false
      let s := s.setFast p 0x008 (s.rd p 0x008)
      if pageType p = some .fcore then s.threadsStart (clusterOf p) fun i => 1 + i / 8 == pgPage p else s)

/-! ### Clusters (R403) -/

/-- A cluster reset starts. -/
def State.clusterReset (s : State) (c : Nat) : State :=
  if s.resets.any fun r => r.1 == .cluster c then s
  else
    let s := s.levelReset (.cluster c)
    let s := (s.wake c).clusterWipe c
    { s with resets := s.resets ++ [(.cluster c, s.clk)] }

/-- CLUSTER_RESET: a write of CLU_CTL with RESET = 1, and CLEAR. -/
def execClusterReset (mid : Mid) (c : Fin 128) (clear : Bool) (s : State) : Host.Outcome State Fault Refusal :=
  let v : Reg := if clear then 3 else 1
  .next (s.accessWrite mid (cluPage c 0) 0x100 fun s =>
    -- a fenced or stopped cluster's reset does not wait for the ferry
    let s := (s.stamp (cluPage c 0)).land (cluPage c 0) 0x100 v
    let s := s.setFast (cluPage c 0) 0x100 (s.rd (cluPage c 0) 0x100)
    (s.clusterReset c).applied (cluPage c 0))

/-- Cluster memory and both partitions of the control store are zeroized, and the vendor partition is open (R403, R427). -/
def State.clusterClear (s : State) (c : Nat) : State :=
  let hit := fun (a : Nat) => (decide (csBase c ≤ a) && decide (a < csBase c + 2 ^ 19)) ||
    (decide (cmemBase c ≤ a) && decide (a < cmemBase c + 2 ^ 20))
  let s := { s with mem := s.mem.filter fun x => !hit x.1
                    csBad := s.csBad.filter fun k => k / 32768 != c
                    csStage := tabErase s.csStage c }
  let p := leasePage c
  (s.postBit p 0x100 31 false).setFast p 0x100 (setBit (s.fr p 0x100) 31 false)

/-- CLUSTER_RESET_DONE. -/
def execClusterResetDone (c : Fin 128) (s : State) : Host.Outcome State Fault Refusal :=
  .next (if !(s.resets.any fun r => r.1 == .cluster c) ∨ !s.litDom c then s
    else
      let p := cluPage c 0
      let s := if bit (s.fr p 0x100) 1 then s.clusterClear c else s
      let s := { s with resets := s.resets.filter fun r => !(r.1 == Scope.cluster c) }
      let s := s.postBit p 0x100 0 false
      let s := s.setFast p 0x100 (s.rd p 0x100)
      (s.threadsStart c fun _ => true).raiseBit p 0)

/-! ### Regions and dies (R17, R18, R22, R236) -/

/-- After a reset that clears the bindings, the channel pages show them so. -/
def State.chansAfter (s : State) (c : Nat) : State :=
  let s := (List.range 64).foldl (fun s n => if s.rd (chanPage c) (0x200 + 8 * n) = 0 then s
    else s.post (chanPage c) (0x200 + 8 * n) 0) s
  s.postFld (chanPage c) 0x104 0 10 (s.slotSum c)

/-- A region reset. -/
def State.regionReset (s : State) (r : Nat) : State :=
  let s := s.regionWipe r
  let s := s.levelReset (.region r)
  let s := (List.range 8).foldl (fun s k => (s.chansAfter (8 * r + k)).threadsStart (8 * r + k) fun _ => true) s
  s.wakeScope (.region r)

/-- REGION_RESET: the OMC resets a region. -/
def execRegionReset (r : Fin 16) (s : State) : Host.Outcome State Fault Refusal := .next (s.regionReset r)

/-- A die reset: its regions or its port groups, peer ports and endpoints, and the die-shared units. -/
def State.dieReset (s : State) (d : Nat) : State :=
  let s := if isCore d then
      let s := [0, 1, 2, 3].foldl (fun s q => s.regionReset (4 * d + q)) s
      let s := s.dieDiscard d fun _ => true
      let s := (s.corePeers d).bufsGone d
      (s.shapersFill d).policersFill d
    else if isLine d then
      let s := (List.range 8).foldl (fun s n => s.portsDown (npgPage (8 * (d - 4) + n) 0)) s
      [0, 1, 2, 3].foldl (fun s q => s.portsDown (peerPage (4 * (d - 4) + q) 0)) s
    else (List.range 8).foldl (fun s k => s.epReset (8 * (d - 8) + k)) s
  (s.levelReset (.die d)).wakeScope (.die d)

/-- DIE_RESET: the OMC resets a core, line or host die. -/
def execDieReset (d : Fin 12) (s : State) : Host.Outcome State Fault Refusal := .next (s.dieReset d)

/-! ### The package (R19, R545–R549, R553) -/

/-- Every field and store returns to its reset value; fuses, flash, the TAPs and the pins that the board drives stay. -/
def State.pkgReset (s : State) : State :=
  let t := State.reset
  let s' := { t with
    pending := s.pending, clk := s.clk, fresh := s.fresh, out := s.out, fuses := s.fuses
    mem := s.mem.filter fun c => decide (flashBase ≤ c.1) && decide (c.1 < flashBase + 2 ^ 26)
    log := { t.log with persist := s.log.persist }
    jtag := { s.jtag with tested := [] }
    pins := { t.pins with
      pkgResetN := false, hiZ := true, pwrGood := s.pins.pwrGood, perstN := s.pins.perstN, clkreqN := s.pins.clkreqN
      thermTripN := s.pins.thermTripN, netref := s.pins.netref, pcieref := s.pins.pcieref, gpioIn := s.pins.gpioIn }
    eps := s.eps.filterMap fun (e : Nat × EpState) =>
      if s.pins.perstN.getLsbD e.1 then some (e.1, { deassertAt := e.2.deassertAt }) else none }
  let s' := (List.range 32).foldl (fun (s : State) e => s.postBit (epPage e 0) 0x104 31 (!s.pins.perstN.getLsbD e)) s'
  s'.dropTaps

/-- PKG_RESET_ASSERT. -/
def execPkgResetAssert (s : State) : Host.Outcome State Fault Refusal :=
  .next (if s.pins.pkgResetN then s.pkgReset else s)

/-- PKG_RESET_RELEASE: outputs are driven again, and the boot agent makes a cold start, all of it in this step (R517).
`State.reset` is the state at which this command comes first. -/
def execPkgResetRelease (s : State) : Host.Outcome State Fault Refusal :=
  .next (if !s.pins.pwrGood ∨ (s.pins.pkgResetN ∧ s.sec.lcKnown) then s
    else
      ({ s with pins := { s.pins with pkgResetN := true, hiZ := false, netref := 0xF, pcieref := 0xF } }).coldBoot)

/-- PWR_GOOD_FALL: as PKG_RESET_N, with THERM_TRIP_N released. -/
def execPwrGoodFall (s : State) : Host.Outcome State Fault Refusal :=
  .next (if !s.pins.pwrGood then s
    else
      let s := { s with pins := { s.pins with perstN := 0 } }.pkgReset
      { s with pins := { s.pins with pwrGood := false, thermTripN := true } })

/-- PWR_GOOD_RISE: every TAP is reset, and PERST_N is sampled from here on; `perst` are its levels (R546, R549). -/
def execPwrGoodRise (perst : BitVec 32) (s : State) : Host.Outcome State Fault Refusal :=
  .next (if s.pins.pwrGood then s
    else
      let s := { s with pins := { s.pins with pwrGood := true, perstN := perst }, jtag := {} }
      ((List.range 32).filter fun e => perst.getLsbD e).foldl (fun (s : State) e =>
        (s.setEp e { s.ep e with deassertAt := some s.clk }).postBit (epPage e 0) 0x104 31 false) s)

/-! ### Reference clocks (R59) -/

/-- NETREF_LOSS: every port of the line die loses its link, and the event is logged. -/
def execNetrefLoss (d : Fin 4) (s : State) : Host.Outcome State Fault Refusal :=
  .next (if !s.pins.netref.getLsbD d then s
    else
      let s := { s with pins := { s.pins with netref := s.pins.netref &&& ~~~(BitVec.ofNat 4 (2 ^ d.val)) } }
      let s := (List.range 8).foldl (fun s n => s.portsDown (npgPage (8 * d.val + n) 0)) s
      let s := [0, 1, 2, 3].foldl (fun s q => s.portsDown (peerPage (4 * d.val + q) 0)) s
      s.stageLog { time := s.ptime, source := unitPath (diePage (4 + d.val) 0), severity := 1, family := 0x05,
                   code := 0x0059, data := zeros 40 })

/-- PCIEREF_LOSS: every endpoint of the host die goes link-down. -/
def execPcierefLoss (d : Fin 4) (s : State) : Host.Outcome State Fault Refusal :=
  .next (if !s.pins.pcieref.getLsbD d then s
    else
      let s := { s with pins := { s.pins with pcieref := s.pins.pcieref &&& ~~~(BitVec.ofNat 4 (2 ^ d.val)) } }
      (List.range 8).foldl (fun s k =>
        if s.dlUp (8 * d.val + k) then s.hotReset (8 * d.val + k) 2 else s) s)

/-! ### Fabric barriers (R23) -/

/-- Has everything that the master issued been applied: no write of it waits for a ferry, and no commit of it is on its
way? -/
def State.mastersDone (s : State) (m : Mid) : Bool :=
  !(s.ferry.any fun w => w.mid == m) && !(s.inq.any fun q => q.2.any fun x => x.msg.mid == m)

/-- FABRIC_BARRIER: the OMC issues a barrier through the PFAB page; a thread's is issued by its BARRIER word, and a host
function has none. -/
def execFabricBarrier (mid : Mid) (s : State) : Host.Outcome State Fault Refusal :=
  .next (if midIsOmc mid ∧ !s.barriers.contains mid then { s with barriers := s.barriers ++ [mid] } else s)

/-- FABRIC_BARRIER_DONE: a barrier of the OMC completes. -/
def execFabricBarrierDone (mid : Mid) (s : State) : Host.Outcome State Fault Refusal :=
  .next (if midIsOmc mid ∧ s.barriers.contains mid ∧ s.mastersDone mid then
      { s with barriers := s.barriers.erase mid }
    else s)

/-! ### Deferred reads (R46) -/

/-- Does the index name a counter of the page (R91, R93, R115, R141, R142, R179, R180, R240, R261, R267–R269, R300, R315,
R353, R374, R410–R413, R448, R486, R487)? -/
def State.ctrExists (s : State) (p : PageKey) (i : Nat) : Bool :=
  match pageType p with
  | none => false
  | some t => match t with
    | .mac => s.frFld p 0x100 16 2 != 1 && (decide (i < 0x26) || (decide (0x40 ≤ i) && decide (i < 0x54)))
    | .apl => decide (i < 15)
    | .pipe => decide (1 ≤ i) && decide (i < 20)
    | .land => decide (i < 4)
    | .tbl => (decide (i < 0x80) && decide (i % 16 < 11)) || (decide (0x80 ≤ i) && decide (i < 0x85))
    | .lrn => decide (i < 9)
    | .ciph => decide (i < 12)
    | .sched => decide (i < 11) || (decide (0x100000 ≤ i) && decide (i < 0x100000 + 4 * 131072))
    | .plcr => decide (i < 4)
    | .arb => (decide (i < 0xC0) && decide (i % 64 / 4 < arbCount (i / 64)) && decide (i % 4 < 3)) ||
        (decide (0xC0 ≤ i) && decide (i < 0xC3))
    | .ep => decide (i < 13)
    | .ictl => decide (i < 5)
    | .mbxw => i == 0
    | .rcfg => instIdx p == 4 && decide (i < 10)
    | .dma => decide (i < 0x106)
    | .fcore => decide (i < 4 * s.tPer)
    | .chan => decide (i < 256)
    | .inq => decide (i < 32)
    | .chk => decide (i < 0x42)
    | .lease => decide (i < 0x43)
    | .rflt | .dflt | .log => decide (i < 7)
    | _ => false

/-- Does a read clear the counter whatever CLEAR says (R261, LONGEST_WAIT)? -/
def readClears (p : PageKey) (i : Nat) : Bool := pageType p == some .arb && decide (i < 0xC0) && i % 4 == 2

/-- The deferred read in progress at a page completes. -/
def State.drwDone (s : State) (d : DrwRead) : State :=
  let p := d.page
  let ok := s.ctrExists p d.index
  let v : Nat := if ok then (s.ctr p d.index).toNat else 0
  let s := if ok && (d.clear || readClears p d.index) then s.setCtr p d.index 0 else s
  let s := { s with drw := s.drw.erase d }
  let s := s.post64 p 0x0E8 v
  let s := (((s.postBit p 0x0E4 31 true).postBit p 0x0E4 30 false).postBit p 0x0E4 28 (!ok))
  s.raiseBit p 28

/-- DRW_COMPLETE. -/
def execDrwComplete (p : PageKey) (s : State) : Host.Outcome State Fault Refusal :=
  .next (match s.drw.find? fun d => d.page == p with
    | none => s
    | some d => s.drwDone d)

end Sys2Proof.Machine
end

