-- ==== Sys2Proof/Machine/Late.lean ====
section
/-! DEFINITION. What fast logic does with each accepted write that it applies (R41, R42, R44): the command registers of
the pages, and the batch of the ferry. -/
namespace Sys2Proof.Machine

/-- The state that a meaning leads to. -/
def State.after (s : State) : Host.Outcome State Fault Refusal → State
  | .next t => t
  | _ => s

/-- A write of PAGE_CTL as fast logic applies it: ENABLE starts or stops the block, whose ports lose their links with
it, and SOFT_RESET starts a reset (R39, R190). -/
def State.pageCtlApply (s : State) (p : PageKey) (v : Reg) : State :=
  let s := s.enabledNow p
  let s :=
    if s.enabled p then s
    else match pageType p with
      | some .mac => if s.linkUp p then s.linkDown p else s
      | some .npg | some .peer => s.portsDown p
      | _ => s
  if bit v 1 then s.startSoftReset p else s

/-- A BUSY command register: act, and clear BUSY. -/
def State.unbusy (s : State) (p : PageKey) (off : Nat) : State := s.postBit p off 31 false

/-- A GO to SEC_CMD that carries no outcome of the fuses: every fuse takes. -/
def State.secGo (s : State) : State :=
  let v := s.fr secPage 0x108
  let s := (s.postBit secPage 0x108 31 false).setFast secPage 0x108 (setBit v 31 false)
  if !bit v 31 then s
  else match fld v 0 4 with
    | 1 => s.advanceLc (fld v 8 4) 3
    | 2 => s.enrol (fld v 8 4) (bit v 16) true
    | 3 => s.revoke (fld v 8 4) true
    | 4 => s.burn false true
    | 5 => s.burn true true
    | _ => s.secDone 3

/-- Fast logic of a region-shared page, of a pipeline, of the scheduler or of a policer: `v` is what was written. -/
def State.lateCore (s : State) (t : PageType) (p : PageKey) (off : Nat) (v : Reg) : State :=
  let r := regionIdx p
  match t with
  | .pipe =>
    if off = 0x128 then (if bit v 0 then s.cntFlushAct p else s)
    else if off = 0x134 then (s.asAct p v).unbusy p off
    else if off = 0x164 then (s.tplAct p v).unbusy p off
    else s
  | .cls =>
    if off = 0x104 then (if bit v 0 then s.clsSwapAct r else s)
    else if off = 0x110 then (s.clsRuleAct r v).unbusy p off
    else s
  | .tbl =>
    if off = 0x118 then s.cmdCfg r
    else if off = 0x11C then (s.setTblR r { s.tblR r with stall := false, stallAt := none }).cmdFetch r
    else if off = 0x124 then (if bit v 30 then (s.walkEnd r).postBit p 0x124 30 false else s)
    else if 0x200 ≤ off && off % 0x20 == 0 then
      let k := r * 8 + (off - 0x200) / 0x20
      if bit v 31 then s.tableEnable k else s.tableDisable k
    else s
  | .lrn => if off = 0x104 then s.ringRestart r else if off = 0x110 then s.ringCons r else s
  | .ciph => if off = 0x208 ∧ bit v 31 then s.cuRun p else s
  | .dmach =>
    let k := (pgPage p - 4) * 8 + (off - 0x100) / 0x40
    if off % 0x40 = 0 then s.dmaCtl r k v
    else if off % 0x40 = 0x14 then s.dmaDoorbell r k (fld v 0 16)
    else s
  | .sched =>
    let d := pgSite p
    if off = 0x104 then (s.nodeAct d v).unbusy p off
    else if off = 0x144 then (s.outAct d v).unbusy p off
    else if off = 0x184 then (s.gateAct d v).unbusy p off
    else s
  | .plcr => if off = 0x104 then (s.plcrAct (pgSite p) v).unbusy p off else s
  | .arb =>
    let a := (off - 0x100) / 0x40
    if off % 0x40 = 0x10 ∧ v ≠ 0 then s.setArb r a { s.arb r a with lfsr := v } else s
  | _ => s

/-- Fast logic of a cluster's pages. -/
def State.lateCluster (s : State) (t : PageType) (p : PageKey) (off : Nat) (v : Reg) (mid : Mid) : State :=
  let c := clusterOf p
  match t with
  | .clu => if off = 0x100 ∧ bit v 0 then s.clusterReset c else s
  | .fcore => if off < 0x120 then s.threadCtl c (8 * (pgPage p - 1) + (off - 0x100) / 4) else s
  | .lease =>
    if off = 0x120 then (if bit v 31 then s.csRepair mid c (fld v 0 15) else s)
    else if 0x200 ≤ off ∧ off % 0x40 = 0 then s.leaseCtl c ((off - 0x200) / 0x40) v
    else s
  | .chan =>
    if off = 0x108 then (if bit v 31 then s.omcSend mid c else s)
    else if 0x200 ≤ off ∧ off % 8 = 0 then s.chanBound c ((off - 0x200) / 8)
    else s
  | .cdbg =>
    if off = 0x100 then s.attach mid c (bit v 31)
    else if off = 0x108 then s.cdbgCmd c v
    else if off = 0x110 then s.cdbgPut c false v
    else if off = 0x114 then s.cdbgPut c true v
    else s
  | _ => s

/-- Fast logic of the line and host dies, of the OMC and of the security engine. -/
def State.lateEdge (s : State) (t : PageType) (p : PageKey) (off : Nat) (v : Reg) (mid : Mid) : State :=
  match t with
  | .npg | .peer => if off ≤ 0x108 then s.portsDown p else s
  | .mac => if off = 0x110 then s.preemptStart p else if off = 0x100 then s.statMode p else s
  | .pwin => if off = 0x104 ∧ bit v 0 then s.pwinGo (peerOf p) else s
  | .ep =>
    let e := epOf p
    -- LTSSM held in Detect
    if off = 0x100 then (if bit v 1 ∧ s.dlUp e then s.hotReset e 2 else s)
    -- TotalVFs are SR-IOV fields that the lock of a TDI fixes (R296)
    else if off = 0x10C then (s.tdis e).foldl (fun s f => s.tdiError e f) s
    else s
  | .epLink =>
    let e := epOf p
    if off = 0x110 ∧ (s.cfgRd e 0 0x078).getLsbD 10 then s.setEp e { s.ep e with ltrDue := true } else s
  | .cu => if off = 0x108 ∧ bit v 31 then s.cuRun p else s
  | .rcfg => if off = 0x104 then (s.rcfgAct mid p v).unbusy p off else s
  | .omc =>
    if off = 0x100 ∧ bit v 30 then
      let s := s.postBit omcPage 0x100 30 false
      { s with omc := { s.omc with kickAt := s.clk } }
    else s
  | .sec =>
    if off = 0x108 then s.secGo
    else if off = 0x118 then (if bit v 0 then (s.postBit secPage 0x118 0 false).relock else s)
    else if off = 0x200 then
      let s := if bit v 31 then s.dbgNonce else s
      if bit v 30 then s.dbgGo else s
    else if off = 0x208 then { s with sec := { s.sec with fifo := s.sec.fifo ++ leBytes 4 v.toNat } }
    else s
  | _ => s

/-- What fast logic does with a write of one register: it holds the new value already, and `v` is what was written. -/
def State.late (p : PageKey) (off : Nat) (v : Reg) (mid : Mid) (s : State) : State :=
  match pageType p with
  | none => s
  | some t =>
    if off = 0x008 then s.pageCtlApply p v
    else if off < 0x100 then s
    else ((s.lateCore t p off v).lateCluster t p off v mid).lateEdge t p off v mid

/-- FERRY_BATCH: the writes that a page has accepted and not applied are applied in acceptance order, once its block is
lit and out of reset (R41, R42, R44). -/
def execFerryBatch (p : PageKey) (s : State) : Host.Outcome State Fault Refusal := .next (s.batch State.late p)

end Sys2Proof.Machine
end

