-- ==== Sys2Proof/Machine/Apply.lean ====
section
/-! DEFINITION. Register accesses as pages take them: what a write of each register does at acceptance, what a read
returns, and the addresses of the lantern bus and of BAR0 (R30–R36, R302, R304, R450). -/
namespace Sys2Proof.Machine

/-! ### What a page does with a write it accepts -/

/-- A write of a register that is applied like any other: at acceptance or by the ferry. -/
def State.genericWrite (s : State) (mid : Mid) (p : PageKey) (off : Nat) (v : Reg) : State :=
  if lanternReg p off then s.nowWrite mid p off v (State.late p off v mid)
  else s.ownWrite mid p off v (State.late p off v mid)

/-- An accepted write that changes nothing. -/
def State.voidWrite (s : State) (mid : Mid) (p : PageKey) (off : Nat) : State :=
  s.accessWrite mid p off fun s => (s.stamp p).applied p

/-- A write of PAGE_CTL (R39, R43). -/
def State.pageCtlWrite (s : State) (mid : Mid) (p : PageKey) (v : Reg) : State :=
  s.accessWrite mid p 0x008 fun s =>
    let old := s.rd p 0x008
    let s := ((s.stamp p).land p 0x008 v).applyPolicy p
    if !bit v 1 && bit v 0 == bit old 0 then (s.setFast p 0x008 (s.rd p 0x008)).applied p
    else if s.fastReady p then ((s.setFast p 0x008 (s.rd p 0x008)).pageCtlApply p v).applied p
    else s.pend mid p 0x008 [s.rd p 0x008] [v]

/-- Write of a region-shared, pipeline, scheduler or policer register. -/
def State.writeCore (s : State) (mid : Mid) (t : PageType) (p : PageKey) (off : Nat) (v : Reg) : State :=
  let r := regionIdx p
  match t with
  | .pipe =>
    if off = 0x134 ∨ off = 0x164 then s.accessWrite mid p off fun s => s.busyCmd mid p off v (State.late p off v mid)
    else s.genericWrite mid p off v
  | .cls =>
    if off = 0x104 then s.accessWrite mid p off fun s => s.clsSwap mid r v
    else if off = 0x110 then s.accessWrite mid p off fun s => s.clsRuleCmd mid r v
    else if 0x400 ≤ off then s.accessWrite mid p off fun s => s.clsProf mid r off v
    else s.genericWrite mid p off v
  | .sched | .plcr =>
    if off = 0x104 ∨ (t = .sched ∧ (off = 0x144 ∨ off = 0x184)) then s.recordCmd mid p off v (State.late p off v mid)
    else s.genericWrite mid p off v
  | .tbl =>
    if off = 0x110 ∨ off = 0x114 then s.cmdBase mid r off v
    else if h : r < 16 then
      if off = 0x118 then s.after (execTblCmdCfgWrite mid ⟨r, h⟩ v s)
      else if off = 0x11C then s.after (execTblCmdDb mid ⟨r, h⟩ v s)
      -- BASE and the seeds stay while the table is enabled (R178)
      else if 0x200 ≤ off ∧ (off % 0x20 = 4 ∨ off % 0x20 = 8 ∨ off % 0x20 = 12) ∧ bit (s.rd p (off / 0x20 * 0x20)) 31 then
        s.voidWrite mid p off
      else s.genericWrite mid p off v
    else s
  | .dmach =>
    if (off % 0x40 = 8 ∨ off % 0x40 = 12 ∨ off % 0x40 = 16) ∧ bit (s.rd p (off / 0x40 * 0x40)) 31 then s.voidWrite mid p off
    else s.genericWrite mid p off v
  | .ciph => if off = 0x208 then s.cuWrite mid p v else s.genericWrite mid p off v
  | .rflt | .dflt =>
    if off = 0x108 then s.nowWrite mid p off v fun s => s.fltFence mid p
    else if off = 0x10C then s.nowWrite mid p off v fun s => s.fltClr p v
    else s.genericWrite mid p off v
  | _ => s.genericWrite mid p off v

/-- Write of a register of a cluster. -/
def State.writeCluster (s : State) (mid : Mid) (t : PageType) (p : PageKey) (off : Nat) (v : Reg) : State :=
  let c := clusterOf p
  match t with
  | .clu =>
    if h : c < 128 then
      if off = 0x100 ∧ bit v 0 then s.after (execClusterReset mid ⟨c, h⟩ (bit v 1) s) else s.genericWrite mid p off v
    else s
  | .fcore =>
    if off < 0x120 then
      let i := 8 * (pgPage p - 1) + (off - 0x100) / 4
      s.ownWrite mid p off (s.threadGate c i v) fun s => s.threadCtl c i
    else s.genericWrite mid p off v
  | .lease =>
    if off = 0x120 then
      if !midIsOmc mid then s.refuseClass mid p else s.genericWrite mid p off v
    else if s.grantOpen p off then s.genericWrite mid p off v
    else s.voidWrite mid p off
  | .chan =>
    let o := off / 8 * 8
    if 0x200 ≤ off ∧ off % 8 = 0 then s.accessWrite mid p off fun s => s.chanBind mid c ((off - 0x200) / 8) v none
    else if 0x200 ≤ off ∧ fld (s.rd p o) 28 4 ≠ 0 ∧ !s.isSealed p then s.voidWrite mid p off
    else s.genericWrite mid p off v
  | _ => s.genericWrite mid p off v

/-- GPIO outputs follow MGMT_GPIO_DIR and MGMT_GPIO_OUT. -/
def State.gpioOut (s : State) (dir out : Reg) : State :=
  let d := s.rd mgmtPageKey 0x108
  let o := s.rd mgmtPageKey 0x10C
  (List.range 16).foldl (fun s n =>
    if bit d n && !s.pins.hiZ && (bit dir n != bit d n || bit out n != bit o n) then s.emit (.pin "GPIO" n (bit o n)) else s) s

/-- Write of a register of die M or of a package-global page. -/
def State.writeMgmt (s : State) (mid : Mid) (t : PageType) (p : PageKey) (off : Nat) (v : Reg) : State :=
  match t with
  | .ptime => if off = 0x108 then s.after (execPtimeRate mid v s) else s.genericWrite mid p off v
  | .log =>
    if off = 0x138 then s.nowWrite mid p off v fun s => if bit v 31 then s.logPost mid else s
    else if off = 0x108 ∨ off = 0x10C then
      s.nowWrite mid p off v fun s => s.postBit p 0x110 31 (s.logRoom == 0)
    else s.genericWrite mid p off v
  | .boot =>
    if off = 0x108 ∧ bit v 0 then s.after (execBootEpRelease mid s)
    else if off = 0x120 ∧ bit v 31 then s.after (execQspiCommand mid v s)
    else s.genericWrite mid p off v
  | .sens =>
    if off = 0x100 then s.nowWrite mid p off v fun s => s.post p 0x104 (s.sensor (s.rdFld p 0x100 0 8))
    else s.genericWrite mid p off v
  | .mgmt =>
    if off = 0x114 then s.nowWrite mid p off v fun s => s.emit (.uart (v.setWidth 8))
    else if off = 0x108 ∨ off = 0x10C then
      s.nowWrite mid p off v fun t => t.gpioOut (s.rd p 0x108) (s.rd p 0x10C)
    else s.genericWrite mid p off v
  | .almap =>
    if off = 0x100 then
      -- a sealed page keeps the levels, whatever the write carries
      s.nowWrite mid p off (if s.isSealed p then v else almapStore (s.rd p off) v) id
    else if off = 0x108 then s.after (execAlmapLatchClear mid v s)
    else s.genericWrite mid p off v
  | .bindp => if off = 0x104 then s.recordCmd mid p off v fun s => s.bindAct v else s.genericWrite mid p off v
  | _ => s.genericWrite mid p off v

/-- Write of a register of an instance page. -/
def State.writeInst (s : State) (mid : Mid) (t : PageType) (p : PageKey) (off : Nat) (v : Reg) : State :=
  let f := instFn p
  let mail := s.mailAccess mid p off fun q o s =>
    let k := (o - 0x100) % 0x60
    if k < 0x40 then s.mailMsg mid q o v else if k = 0x40 then s.mailSend mid q (o - 0x40) v else s
  if h : instEp p < 32 then
    let e : Fin 32 := ⟨instEp p, h⟩
    match t with
    | .ictl =>
      if off = 0x100 then s.after (execIctlEnable mid e (BitVec.ofNat 8 f) (bit v 0) s)
      else if 0x200 ≤ off then s.nvAccess mid e f (off - 0x200) v
      else if 0x180 ≤ off then
        if !s.isNvme e f then s else if midIsHost mid then s.refuseClass mid p else s.genericWrite mid p off v
      else s.genericWrite mid p off v
    | .imbx =>
      if 0x200 ≤ off then s.nvRing mid e f ((off - 0x200) / 8) (bit (BitVec.ofNat 32 off) 2) (fld v 0 16) else mail
    | .gch => if off = 0xD00 then s.genericWrite mid p off v else mail
    | .mbxw =>
      if off = 0x114 then s.nowWrite mid p off v fun s => if bit v 0 then (s.postBit p 0x114 0 false).retract p else s
      else if 0x200 ≤ off then mail
      else s.genericWrite mid p off v
    | .iadm =>
      if off = 0x114 then (if bit v 31 then s.iadmGo mid p (fld v 0 4) else s.genericWrite mid p off v)
      else if 0x140 ≤ off ∧ off < 0x150 then s.accessWrite mid p off fun s => ((s.stamp p).poolWrite mid p off v).applied p
      else s.genericWrite mid p off v
    | .rcfg => if off = 0x104 then s.recordCmd mid p off v (State.late p off v mid) else s.genericWrite mid p off v
    | .cu => if off = 0x108 then s.cuWrite mid p v else s.genericWrite mid p off v
    -- a doorbell is a 64-bit write (R333)
    | .idb => s.accessWrite mid p off fun s => ((s.stamp p).count (instPage e f 4) 0x03 1).applied p
    | .imsix =>
      let w := if off % 16 = 12 then v &&& 1 else v
      s.nowWrite mid p off w fun s => s.msixFlush e f
    | _ => s.genericWrite mid p off v
  else s

/-- Write of a register of an endpoint, of a peer port's windows, or of any other page. -/
def State.writeEdge (s : State) (mid : Mid) (t : PageType) (p : PageKey) (off : Nat) (v : Reg) : State :=
  match t with
  | .ep =>
    if h : epOf p < 32 then
      if off = 0x100 then
        if bit v 0 && midIsOmc mid then s.after (execEpReset mid ⟨epOf p, h⟩ s)
        else s.genericWrite mid p off (v &&& 2)
      else s.genericWrite mid p off v
    else s
  | .pwin =>
    if 0x400 ≤ off ∧ ((off - 0x400) / 0x400 = s.rdFld p 0x100 0 1 ∨ !bit (s.rd p 0x108) 31) then
      -- a refused write of a window sets REFUSED (R299)
      s.accessWrite mid p off fun s => (((s.stamp p).postBit p 0x108 29 true).raiseBit p 2).applied p
    else s.genericWrite mid p off v
  | _ => s.genericWrite mid p off v

/-- A 32-bit write reaches an offset of a page: header registers and locks as every page has them, the others as the
block says. -/
def State.pageWrite (s : State) (mid : Mid) (p : PageKey) (off : Nat) (v : Reg) : State :=
  match pageType p with
  | none => s.accessWrite mid p off id
  | some t =>
    if off = 0x008 then s.pageCtlWrite mid p v
    else if off < 0x100 ∨ lockOff p = some off then s.plainWrite mid p off v
    else if isInst p then s.writeInst mid t p off v
    else if pgSite p < 4 ∧ pgGroup p < 8 then s.writeCluster mid t p off v
    else if pgSite p < 4 then s.writeCore mid t p off v
    else if 12 ≤ pgSite p then s.writeMgmt mid t p off v
    else s.writeEdge mid t p off v

/-- The page and offset behind the instance window of an endpoint, while the selected function is enabled (EP_IWIN). -/
def State.iwin (s : State) (p : PageKey) (off : Nat) : Option (PageKey × Nat) :=
  let e := epOf p
  let sel := s.rd p 0x100
  if s.fnEnabled e (fld sel 8 8) then some (instPage e (fld sel 8 8) (fld sel 1 5), fld sel 0 1 * 0x800 + (off - 0x800))
  else none

/-- A 32-bit write of a register, through the instance window where it names one. -/
def State.regWrite (s : State) (mid : Mid) (p : PageKey) (off : Nat) (v : Reg) : State :=
  if pageType p = some .epIwin ∧ 0x800 ≤ off then
    if !s.classAdmits mid p off then s.refuseClass mid p
    else match s.iwin p off with
      | none => s
      | some (q, o) => s.pageWrite mid q o v
  else s.pageWrite mid p off v

/-- A 64-bit write: two registers, low offset first, in one access, for which PAGE_SEQ advances by 1 (R34). The pair of a
channel binding is one write (R389), and a doorbell is 64 bits (R333). -/
def State.regWrite64 (s : State) (mid : Mid) (p : PageKey) (off : Nat) (v : Word) : State :=
  let lo : Reg := v.setWidth 32
  let hi : Reg := v.extractLsb' 32 32
  let t := pageType p
  if t = some .idb ∧ off = 0x100 then
    s.accessWrite mid p off fun s =>
      ((s.stamp p).doorbell (instEp p) (instFn p) (natField v.toNat 32 16) (natField v.toNat 0 16)).applied p
  else if t = some .chan ∧ 0x200 ≤ off then
    s.accessWrite mid p off fun s => s.chanBind mid (clusterOf p) ((off - 0x200) / 8) lo (some hi)
  else if !s.classAdmits mid p off && t.isSome then s.refuseClass mid p
  else if t = some .epIwin ∧ 0x800 ≤ off then
    match s.iwin p off with
    | none => s
    | some (q, o) =>
      let a := s.pageWrite mid q o lo
      let a := if (regDesc q (o + 4)).isSome ∧ a.rd q 0x030 ≠ s.rd q 0x030 then a.post q 0x030 (s.rd q 0x030) else a
      a.pageWrite mid q (o + 4) hi
  else
    let a := s.pageWrite mid p off lo
    if (regDesc p (off + 4)).isNone then a
    else
      let a := if a.rd p 0x030 = s.rd p 0x030 then a else a.post p 0x030 (s.rd p 0x030)
      a.pageWrite mid p (off + 4) hi

/-! ### Reads -/

/-- Two halves of a 64-bit status. -/
def wordHalf (w : Nat) (hi : Bool) : Reg := BitVec.ofNat 32 (if hi then w / 2 ^ 32 else w)

/-- Registers that show a block as it is: package time, counts of what is in flight, identities. -/
def State.live (s : State) (p : PageKey) (off : Nat) : Option Reg :=
  let r := regionIdx p
  match pageType p with
  | some .ptime => if off = 0x100 ∨ off = 0x104 then some (wordHalf s.ptime.toNat (off == 0x104)) else none
  | some .tsu => if off = 0x100 then some (if s.ready p then 0x80000000 else 0) else none
  | some .pipe =>
    let mine := s.hdrs.filter fun h => h.pipe == r * 4 + pgPage p
    if off = 0x118 then
      some (BitVec.ofNat 32 (mine.length % 65536 * 65536 + (mine.filter fun h => h.park.isSome).length % 65536))
    else none
  | some .cls =>
    match (tabGet {} s.clsSt r).old with
    | some b => if off = 0x108 then some (setFld (s.rd p off) 0 16 (s.stamped r b)) else none
    | none => none
  | some .land => if off = 0x104 then some (BitVec.ofNat 16 (tabGet [] s.held (pgSite p)).length |>.setWidth 32) else none
  | some .sched =>
    if off = 0x190 then
      some (BitVec.ofNat 21 ((s.outlets.filter fun o => o.1 / 256 == pgSite p).map fun o => o.2.expBurst).sum |>.setWidth 32)
    else none
  | some .ep =>
    let e := epOf p
    let rs := s.hreads.filter fun x => x.1 / 16384 == e
    if off = 0x114 then
      some (BitVec.ofNat 32 ((rs.filter fun x => x.2.quar.isSome).length % 65536 * 65536
        + (rs.filter fun x => x.2.quar.isNone).length % 65536))
    else if off = 0x110 then some (BitVec.ofNat 32 (s.cfgFld e 1 0x078 0 4 * 16 + s.cfgFld e 0 0x078 0 4))
    else none
  | some .ictl =>
    let e := instEp p
    let f := instFn p
    if off = 0x110 then some ((hostMid e f).setWidth 32)
    else if 0x200 ≤ off then some (if s.isNvme e f then s.nvProp e f (off - 0x200) else 0)
    else if 0x180 ≤ off ∧ !s.isNvme e f then some 0
    else none
  | some .iadm =>
    let st := s.rd (ictlPage (instEp p) (s.rdFld p 0x110 0 8)) 0x104
    if off = 0x130 then
      some (BitVec.ofNat 32 (fld st 0 2 * 2 ^ 30 + fld st 30 1 * 2 ^ 29 + fld st 20 4 * 2 ^ 20))
    else none
  | some .clu =>
    let c := clusterOf p
    if off = 0x104 then
      some (BitVec.ofNat 32 ((if s.omc.t8 then 2 ^ 31 else 0) + (s.bufs.filter fun b => b.2.owner == some c).length % 65536))
    else if off = 0x108 then some (BitVec.ofNat 32 c)
    else none
  | some .chan => if off = 0x100 then some (setFld (s.rd p off) 0 13 (s.stillCount (clusterOf p))) else none
  | some .cdbg => s.cdbgLive (clusterOf p) off
  | some .mgmt =>
    if off = 0x110 then some (s.pins.gpioIn.setWidth 32)
    else if off = 0x114 then
      some (BitVec.ofNat 32 ((if s.omc.uartRx = [] then 0 else 2 ^ 30) + (s.omc.uartRx.headD 0).toNat))
    else none
  | _ => none

/-- A read that a page has admitted: what it returns, and what it does. -/
def State.pageRead (s : State) (mid : Mid) (p : PageKey) (off : Nat) : Reg × State :=
  let mail := fun (q : PageKey) (o : Nat) =>
    if (o - 0x100) % 0x60 = 0x48 then s.mailTake mid q (o - 0x48) else (s.peek q o, s)
  match pageType p with
  | some .imbx | some .gch =>
    if 0x100 ≤ off ∧ off < 0xD00 ∧ (regDesc p off).isSome then mail p off else s.plainRead mid p off
  | some .mbxw =>
    if 0x200 ≤ off then match s.mailAt p off with
      | some (q, o) => mail q o
      | none => (0, s)
    else s.plainRead mid p off
  | some .cu | some .ciph => if off = cuBase p + 0x114 then s.cuPop p else s.plainRead mid p off
  | some .mgmt =>
    if off = 0x114 then
      ((s.live p off).getD 0, { s with omc := { s.omc with uartRx := s.omc.uartRx.drop 1 } })
    else match s.live p off with
      | some v => (v, s)
      | none => s.plainRead mid p off
  | _ => match s.live p off with
    | some v => (v, s)
    | none => s.plainRead mid p off

/-- A 32-bit read of a register: the value and the state after it; refused, it returns 0 (R35, R36). -/
def State.regRead (s : State) (mid : Mid) (p : PageKey) (off : Nat) : Reg × State :=
  match pageType p, s.hostGate mid p true with
  | none, _ => (0, s)
  | some _, some g => (0, g.2)
  | some t, none =>
    if !s.classAdmits mid p off then (0, s.refuseClass mid p)
    else if t = .epIwin ∧ 0x800 ≤ off then match s.iwin p off with
      | none => (0, s)
      | some (q, o) => s.pageRead mid q o
    else s.pageRead mid p off

/-! ### Addresses (R30–R34) -/

/-- Where an access goes: an offset of a page, the window of a cluster's memory or control store, nowhere (an offset of
a BAR that reads 0), or an unimplemented internal address. -/
inductive Spot where
  | page (p : PageKey) (off : Nat)
  | cmem (c a : Nat)
  | store (c a : Nat)
  | nowhere
  | unmapped
  deriving DecidableEq, Repr

/-- The place in BAR0 of function `f` of endpoint `e`. -/
def State.bar0 (s : State) (e f a : Nat) : Spot :=
  let o := a % 4096
  let n := a / 4096
  if n < 32 then .page (instPage e f n) o
  else if 2 ≤ f then .nowhere
  else if n < 0x24 then .page (epPage e (n - 0x20)) o
  else if n < 0x28 then .page (regPage (e / 8 * 4 + (n - 0x24)) 0) o
  else if n < 0x2C then .page (regPage (e / 8 * 4 + (n - 0x28)) 1) o
  else if 0x2000 ≤ n then
    let g := (n - 0x2000) / 32
    if 2 ≤ g ∧ s.pfOf e g = f ∧ s.fnEnabled e g then .page (instPage e g (n % 32)) o else .nowhere
  else .nowhere

/-- Where an address of a master leads. A host never addresses the internal space (R32). -/
def State.spot (s : State) (mid : Mid) : BusAddr → Spot
  | .internal a =>
    let n := a.toNat
    if midIsHost mid then .nowhere
    else match natField n 28 4 with
      | 4 => .page (n / 4096 % 2 ^ 20) (n % 4096)
      | 8 => if natField n 20 1 = 0 then .cmem (natField n 21 7) (natField n 0 20) else .unmapped
      | 0xC => if natField n 19 2 = 0 then .store (natField n 21 7) (natField n 0 19) else .unmapped
      | _ => .unmapped
  | .bar0 off => if midIsHost mid then s.bar0 (midEp mid) (midFn mid) off.toNat else .nowhere

end Sys2Proof.Machine
end

