-- ==== Sys2Proof/Machine/Lantern.lean ====
section
/-! DEFINITION. The commands of the lantern bus that every page shares: register writes, ENABLE and reads that clear
(R31–R35, R39, R41, R45). -/
namespace Sys2Proof.Machine

/-- One access of 4 bytes, or of 8 where `wide`, that writes `v`. -/
def State.busPiece (s : State) (mid : Mid) (tee : Bool) (addr : BusAddr) (wide : Bool) (v : Word) : State :=
  match s.spot mid addr with
  | .page p off =>
    match s.hostGate mid p tee with
    | some g => g.2
    | none => if wide then s.regWrite64 mid p off v else s.regWrite mid p off (v.setWidth 32)
  | .cmem c a =>
    if h : c < 128 ∧ a < 1048576 then s.after (execCmemWindowAccess mid ⟨c, h.1⟩ ⟨a, h.2⟩ wide (some v) s) else s
  | .store c a =>
    if h : c < 128 ∧ a < 524288 then
      s.after (execCsWindowWrite mid ⟨c, h.1⟩ ⟨a / 16, by omega⟩ ⟨a % 16 / 4, by omega⟩ wide v s)
    else s
  | .nowhere => s
  | .unmapped => s.bumpReg lbusPage 0x100 0 32

/-- The address `n` bytes on. -/
def addrPlus : BusAddr → Nat → BusAddr
  | .internal a, n => .internal (a + BitVec.ofNat 32 n)
  | .bar0 a, n => .bar0 (a + BitVec.ofNat 26 n)

/-- Byte offset of an address. -/
def addrLow : BusAddr → Nat
  | .internal a => a.toNat
  | .bar0 a => a.toNat

/-- A write of up to 64 bytes: 64-bit accesses in ascending order, 32 bits where alignment or length leave no more;
a narrower or misaligned rest is refused and counted (R34). -/
def State.busWrite (s : State) (mid : Mid) (tee : Bool) (addr : BusAddr) : Nat → List Byte → State
  | 0, _ => s
  | fuel + 1, data =>
    let n := data.length
    if n = 0 then s
    else
      let k := if addrLow addr % 8 = 0 ∧ 8 ≤ n then 8 else if addrLow addr % 4 = 0 ∧ 4 ≤ n then 4 else 0
      if k = 0 then s.bumpReg lbusPage 0x104 0 32
      else
        (s.busPiece mid tee addr (k == 8) (BitVec.ofNat 64 (leNat (data.take k)))).busWrite mid tee (addrPlus addr k) fuel
          (data.drop k)

/-- REGISTER_WRITE: a write access with its master, and for a host the T bit of its request. Only a host writes more
than 8 bytes at once; any other access of a size that is not 4 or 8, or misaligned, is refused (R34). -/
def execRegisterWrite (mid : Mid) (tee : Bool) (addr : BusAddr) (data : List Byte) (s : State) :
    Host.Outcome State Fault Refusal :=
  let n := data.length
  .next (
    if midIsHost mid && decide (n ≤ 64) then s.busWrite mid tee addr 17 data
    else if (n = 4 ∨ n = 8) ∧ addrLow addr % n = 0 then
      s.busPiece mid tee addr (n == 8) (BitVec.ofNat 64 (leNat data))
    else s.bumpReg lbusPage 0x104 0 32)

/-- PAGE_ENABLE: a write of PAGE_CTL that changes ENABLE and nothing else (R39). -/
def execPageEnable (mid : Mid) (p : PageKey) (on : Bool) (s : State) : Host.Outcome State Fault Refusal :=
  .next (s.pageCtlWrite mid p (setBit (s.rd p 0x008 &&& ~~~(bitR 1)) 0 on))

/-- RC_COUNTER_READ: a read of a register with RC fields returns and clears them (R4, R45). -/
def execRcCounterRead (mid : Mid) (p : PageKey) (off : BitVec 12) (s : State) : Host.Outcome State Fault Refusal :=
  .next (match regDesc p off.toNat with
    | none => s
    | some d => if d.rc = 0 then s else s.accessRead mid p off.toNat fun s => s.pageRead mid p off.toNat)

end Sys2Proof.Machine
end

