-- ==== Sys2Proof/Machine/Jtag.lean ====
section
/-! DEFINITION. The TAPs: instructions, captures, the debug access of die M, and boundary-scan test of a die
(R548–R556). The nine TAPs are numbered along the chain: M, H0–H3, L0–L3. -/
namespace Sys2Proof.Machine

/-- The site of a TAP's die. -/
def tapSite (t : Nat) : Nat := if t = 0 then 12 else if t ≤ 4 then 7 + t else t - 1

/-- IDCODE of a TAP's die (R552). -/
def idcode (t : Nat) : Reg :=
  let kind := if t = 0 then 1 else if t ≤ 4 then 2 else 3
  let die := if t = 0 then 0 else (t - 1) % 4
  BitVec.ofNat 32 (2 ^ 28 + 0x64 * 2 ^ 20 + kind * 2 ^ 16 + die * 2 ^ 12 + 0x3B5 * 2 + 1)

/-- Length of a die's boundary register (R554). -/
def boundaryLen (t : Nat) : Nat := if t = 0 then 86 else if t ≤ 4 then 433 else 289

/-- A TAP's state. -/
def State.tap (s : State) (t : Nat) : Tap := s.jtag.taps.getD t {}

/-- Store a TAP's state. -/
def State.setTap (s : State) (t : Nat) (x : Tap) : State :=
  { s with jtag := { s.jtag with taps := s.jtag.taps.set t x } }

/-- Does the instruction disconnect the die's pins (R556)? -/
def disconnects (op : Byte) : Bool := decide (3 ≤ op.toNat) && decide (op.toNat ≤ 7)

/-- The pins of a die are disconnected: its ports and endpoints go link-down (R81, R290, R556). -/
def State.disconnect (s : State) (site : Nat) : State :=
  let s := { s with jtag := { s.jtag with
    tested := if s.jtag.tested.contains site then s.jtag.tested else s.jtag.tested ++ [site] } }
  if isLine site then
    (List.range 8).foldl (fun s k => s.portsDown (npgPage ((site - 4) * 8 + k) 0))
      ((List.range 4).foldl (fun s k => s.portsDown (peerPage ((site - 4) * 4 + k) 0)) s)
  else if isHost site then
    (List.range 8).foldl (fun s k =>
      let e := (site - 8) * 8 + k
      if s.dlUp e then s.hotReset e 4 else s) s
  else s

/-- Update-IR with an opcode: refused, the TAP selects BYPASS (R551, R553). -/
def State.updateIr (s : State) (t : Nat) (op : Byte) : State :=
  if !s.irAdmits op then s.setTap t { ir := 0xFF, refused := true }
  else
    let known := op == 0x01 || op == 0x02 || disconnects op || (op == 0x20 && t == 0) ||
      (decide (0x80 ≤ op.toNat) && decide (op.toNat ≤ 0xFE))
    let s := s.setTap t { ir := if known then op else 0xFF, refused := false }
    if disconnects op then s.disconnect (tapSite t) else s

/-- TAP_RESET: TRST_N low, or five TCK cycles with TMS high, which reach every TAP of the chain (R549). -/
def execTapReset (s : State) : Host.Outcome State Fault Refusal :=
  .next { s with jtag := { s.jtag with taps := List.replicate 9 {} } }

/-- UPDATE_IR at one TAP of the chain (R553). -/
def execUpdateIr (t : Fin 9) (op : Byte) (s : State) : Host.Outcome State Fault Refusal := .next (s.updateIr t op)

/-- EXTEST at one TAP: Update-IR selects it, where it is admitted, and the die is disconnected (R556). -/
def execExtest (t : Fin 9) (s : State) : Host.Outcome State Fault Refusal := .next (s.updateIr t 0x03)

/-- CAPTURE_IR: every TAP captures 0b0000_0001, with bit 7 set after a refused Update-IR (R550). -/
def execCaptureIr (s : State) : Host.Outcome State Fault Refusal :=
  .next { s with jtag := { s.jtag with
    irCapture := s.jtag.taps.map fun (x : Tap) => if x.refused then 0x81 else 0x01 } }

/-- Bits of a number, least significant first. -/
def bitsOf (n w : Nat) : List Bool := (List.range w).map n.testBit

/-- DBG_ACCESS as Capture-DR loads it (R555). -/
def JtagState.dbgWord (j : JtagState) : List Bool :=
  bitsOf j.dbgData.toNat 32 ++ bitsOf j.dbgAddr.toNat 32 ++ [j.dbgRefused, j.dbgDone]

/-- CAPTURE_DR at one TAP: IDCODE, DBG_ACCESS, the boundary cells as the pins and cores drive them (`cells`), a private
register, or the bypass bit, 0 (R551, R554, R555). Bits are listed least significant first. -/
def execCaptureDr (t : Fin 9) (cells : List Bool) (s : State) : Host.Outcome State Fault Refusal :=
  let op := (s.tap t).ir
  let d :=
    if op = 0x01 then bitsOf (idcode t).toNat 32
    else if op = 0x20 then s.jtag.dbgWord
    else if op = 0x02 ∨ op = 0x03 ∨ op = 0x04 ∨ op = 0x05 then
      (List.range (boundaryLen t)).map fun i => cells.getD i false
    else if 0x80 ≤ op.toNat ∧ op ≠ 0xFF then cells
    else [false]
  .next { s with jtag := { s.jtag with drCapture := s.jtag.drCapture.set t d } }

/-- May the debug port make an access (R35, R499, R555)? -/
def State.dbgAdmits (s : State) (sp : Spot) : Bool :=
  match sp with
  | .page p off => (pageType p).isNone || s.classAdmits jtagMid p off
  | .cmem _ _ | .store _ _ => s.windowAdmits jtagMid
  | _ => true

/-- The data of a read of the debug port, and the state after it. -/
def State.dbgRead (s : State) (a : Reg) : Reg × State :=
  match s.spot jtagMid (.internal a) with
  | .page p off => s.regRead jtagMid p off
  | .cmem c b =>
    if s.windowAdmits jtagMid then (BitVec.ofNat 32 (leNat (s.bytes (cmemBase c + b) 4)), s.wake c)
    else (0, s.refuseClass jtagMid (cluPage c 0))
  | .store c b =>
    if s.windowAdmits jtagMid then (BitVec.ofNat 32 (leNat (s.bytes (csBase c + b) 4)), s.wake c)
    else (0, s.refuseClass jtagMid (cluPage c 0))
  | _ => (0, s)

/-- DBG_ACCESS: Update-DR on die M issues one 32-bit access with MID 0xA000 (R555); a misaligned one is refused (R34). -/
def execDbgAccess (write : Bool) (addr data : BitVec 32) (s : State) : Host.Outcome State Fault Refusal :=
  if (s.tap 0).ir ≠ 0x20 then .next s
  else
    let ok := s.dbgAdmits (s.spot jtagMid (.internal addr))
    let r : Reg × State :=
      if addr.toNat % 4 ≠ 0 then (0, s.bumpReg lbusPage 0x104 0 32)
      else if write then (0, s.busPiece jtagMid false (.internal addr) false (data.setWidth 64))
      else s.dbgRead addr
    let t := r.2
    .next { t with jtag := { t.jtag with dbgDone := true, dbgRefused := !ok, dbgAddr := addr, dbgData := r.1 } }

end Sys2Proof.Machine
end

