-- ==== Sys2Proof/Machine/Dispatch.lean ====
section
/-! DEFINITION. One arm per command of the table: each is one direct call of its meaning. -/
namespace Sys2Proof.Machine
def exec (i : Instr) (s : State) : Host.Outcome State Fault Refusal :=
  match i with
  | .registerWrite mid tee addr data => Sys2Proof.Machine.execRegisterWrite mid tee addr data s
  | .ferryBatch p => Sys2Proof.Machine.execFerryBatch p s
  | .softReset mid p => Sys2Proof.Machine.execSoftReset mid p s
  | .softResetDone p => Sys2Proof.Machine.execSoftResetDone p s
  | .pageEnable mid p on => Sys2Proof.Machine.execPageEnable mid p on s
  | .pwrPolicy mid p pol => Sys2Proof.Machine.execPwrPolicy mid p pol s
  | .intSet mid p v => Sys2Proof.Machine.execIntSet mid p v s
  | .intRawClear mid p v hw => Sys2Proof.Machine.execIntRawClear mid p v hw s
  | .faultCountRead mid p => Sys2Proof.Machine.execFaultCountRead mid p s
  | .cfgSeal mid p => Sys2Proof.Machine.execCfgSeal mid p s
  | .wakeNow mid p => Sys2Proof.Machine.execWakeNow mid p s
  | .drwGo mid p v => Sys2Proof.Machine.execDrwGo mid p v s
  | .drwComplete p => Sys2Proof.Machine.execDrwComplete p s
  | .lockAcquire mid p => Sys2Proof.Machine.execLockAcquire mid p s
  | .lockRelease mid p v => Sys2Proof.Machine.execLockRelease mid p v s
  | .lockBadrelRead mid p => Sys2Proof.Machine.execLockBadrelRead mid p s
  | .idleToDim d => Sys2Proof.Machine.execIdleToDim d s
  | .dimToDark d => Sys2Proof.Machine.execDimToDark d s
  | .darkEntryDone d => Sys2Proof.Machine.execDarkEntryDone d s
  | .wakeRequest d src => Sys2Proof.Machine.execWakeRequest d src s
  | .wakeComplete d => Sys2Proof.Machine.execWakeComplete d s
  | .netrefLoss d => Sys2Proof.Machine.execNetrefLoss d s
  | .pcierefLoss d => Sys2Proof.Machine.execPcierefLoss d s
  | .clusterReset mid c clear => Sys2Proof.Machine.execClusterReset mid c clear s
  | .clusterResetDone c => Sys2Proof.Machine.execClusterResetDone c s
  | .regionReset r => Sys2Proof.Machine.execRegionReset r s
  | .dieReset d => Sys2Proof.Machine.execDieReset d s
  | .pkgResetAssert => Sys2Proof.Machine.execPkgResetAssert s
  | .pkgResetRelease => Sys2Proof.Machine.execPkgResetRelease s
  | .pwrGoodFall => Sys2Proof.Machine.execPwrGoodFall s
  | .pwrGoodRise perst => Sys2Proof.Machine.execPwrGoodRise perst s
  | .fabricBarrier mid => Sys2Proof.Machine.execFabricBarrier mid s
  | .fabricBarrierDone mid => Sys2Proof.Machine.execFabricBarrierDone mid s
  | .frameReceive p m b => Sys2Proof.Machine.execFrameReceive p m b s
  | .portModeChange mid g off v => Sys2Proof.Machine.execPortModeChange mid g off v s
  | .linkUp p => Sys2Proof.Machine.execLinkUp p s
  | .linkDown p localFault remoteFault => Sys2Proof.Machine.execLinkDown p localFault remoteFault s
  | .macTransmit p => Sys2Proof.Machine.execMacTransmit p s
  | .preemptVerify p ok => Sys2Proof.Machine.execPreemptVerify p ok s
  | .ptimeStepGo mid => Sys2Proof.Machine.execPtimeStepGo mid s
  | .ptimeStepApply => Sys2Proof.Machine.execPtimeStepApply s
  | .ptimeRate mid v => Sys2Proof.Machine.execPtimeRate mid v s
  | .ppsOutPulse => Sys2Proof.Machine.execPpsOutPulse s
  | .ppsInEdge => Sys2Proof.Machine.execPpsInEdge s
  | .aplFrameReceive q delim b => Sys2Proof.Machine.execAplFrameReceive q delim b s
  | .data q seq cls body => Sys2Proof.Machine.execData q seq cls body s
  | .ack q ackSeq => Sys2Proof.Machine.execAck q ackSeq s
  | .nak q ackSeq => Sys2Proof.Machine.execNak q ackSeq s
  | .credit q body => Sys2Proof.Machine.execCredit q body s
  | .init q body => Sys2Proof.Machine.execInit q body s
  | .aplDataSend q cls => Sys2Proof.Machine.execAplDataSend q cls s
  | .aplReplayTimeout q => Sys2Proof.Machine.execAplReplayTimeout q s
  | .aplInitTick q => Sys2Proof.Machine.execAplInitTick q s
  | .aplCreditTick q => Sys2Proof.Machine.execAplCreditTick q s
  | .aplDown q => Sys2Proof.Machine.execAplDown q s
  | .mwr q addr data => Sys2Proof.Machine.execMwr q addr data s
  | .mrd q tag addr len => Sys2Proof.Machine.execMrd q tag addr len s
  | .cpl q tag status remaining data => Sys2Proof.Machine.execCpl q tag status remaining data s
  | .aplMrdTimeout q tag => Sys2Proof.Machine.execAplMrdTimeout q tag s
  | .aplTagQuarantineEnd q tag => Sys2Proof.Machine.execAplTagQuarantineEnd q tag s
  | .spread src => Sys2Proof.Machine.execSpread src s
  | .expressSpread src => Sys2Proof.Machine.execExpressSpread src s
  | .pipelinePass p => Sys2Proof.Machine.execPipelinePass p s
  | .farResume p k => Sys2Proof.Machine.execFarResume p k s
  | .farTimeout p k => Sys2Proof.Machine.execFarTimeout p k s
  | .landingEntryArrive a d => Sys2Proof.Machine.execLandingEntryArrive a d s
  | .landingWatermarkArrive a d => Sys2Proof.Machine.execLandingWatermarkArrive a d s
  | .forcedHole src => Sys2Proof.Machine.execForcedHole src s
  | .clsRuleWrite mid r valid => Sys2Proof.Machine.execClsRuleWrite mid r valid s
  | .clsRuleRead mid r => Sys2Proof.Machine.execClsRuleRead mid r s
  | .clsProfWrite mid r bank prof j v => Sys2Proof.Machine.execClsProfWrite mid r bank prof j v s
  | .clsSwap mid r => Sys2Proof.Machine.execClsSwap mid r s
  | .swapDone r => Sys2Proof.Machine.execSwapDone r s
  | .insert c n => Sys2Proof.Machine.execInsert c n s
  | .update c n => Sys2Proof.Machine.execUpdate c n s
  | .upsert c n => Sys2Proof.Machine.execUpsert c n s
  | .delete c n => Sys2Proof.Machine.execDelete c n s
  | .tblRead c n => Sys2Proof.Machine.execTblRead c n s
  | .walkFull c n => Sys2Proof.Machine.execWalkFull c n s
  | .walkDelta c n => Sys2Proof.Machine.execWalkDelta c n s
  | .flushLearned c n => Sys2Proof.Machine.execFlushLearned c n s
  | .tblPortLock c n => Sys2Proof.Machine.execTblPortLock c n s
  | .tblPortUnlock c n => Sys2Proof.Machine.execTblPortUnlock c n s
  | .tblCmdBaseWrite mid r v => Sys2Proof.Machine.execTblCmdBaseWrite mid r v s
  | .tblCmdCfgWrite mid r v => Sys2Proof.Machine.execTblCmdCfgWrite mid r v s
  | .tblCmdDb mid r v => Sys2Proof.Machine.execTblCmdDb mid r v s
  | .tblCmdFetch r => Sys2Proof.Machine.execTblCmdFetch r s
  | .tblCmdRefetch r => Sys2Proof.Machine.execTblCmdRefetch r s
  | .agingPassStart r => Sys2Proof.Machine.execAgingPassStart r s
  | .agingVisit r => Sys2Proof.Machine.execAgingVisit r s
  | .learnExecute r => Sys2Proof.Machine.execLearnExecute r s
  | .learnRingStall r => Sys2Proof.Machine.execLearnRingStall r s
  | .lrnRingRestart mid r v => Sys2Proof.Machine.execLrnRingRestart mid r v s
  | .lrnConsWrite mid r v => Sys2Proof.Machine.execLrnConsWrite mid r v s
  | .walkVisit r => Sys2Proof.Machine.execWalkVisit r s
  | .walkAbort mid r => Sys2Proof.Machine.execWalkAbort mid r s
  | .tableEnable mid r slot v => Sys2Proof.Machine.execTableEnable mid r slot v s
  | .tableClearDone r slot => Sys2Proof.Machine.execTableClearDone r slot s
  | .tableDisable mid r slot v => Sys2Proof.Machine.execTableDisable mid r slot v s
  | .pipeAsWrite mid p => Sys2Proof.Machine.execPipeAsWrite mid p s
  | .pipeAsRead mid p => Sys2Proof.Machine.execPipeAsRead mid p s
  | .pipeTplWrite mid p => Sys2Proof.Machine.execPipeTplWrite mid p s
  | .pipeTplRead mid p => Sys2Proof.Machine.execPipeTplRead mid p s
  | .pipeCntFlush mid p => Sys2Proof.Machine.execPipeCntFlush mid p s
  | .counterWriteback r pair => Sys2Proof.Machine.execCounterWriteback r pair s
  | .tagVerdict p => Sys2Proof.Machine.execTagVerdict p s
  | .contextFill r c => Sys2Proof.Machine.execContextFill r c s
  | .contextMigrate r c => Sys2Proof.Machine.execContextMigrate r c s
  | .cipherRequest c n => Sys2Proof.Machine.execCipherRequest c n s
  | .importKey mid p h => Sys2Proof.Machine.execImport mid p h s
  | .generate mid p h => Sys2Proof.Machine.execGenerate mid p h s
  | .cuLoad mid p h => Sys2Proof.Machine.execCuLoad mid p h s
  | .setNext mid p h => Sys2Proof.Machine.execSetNext mid p h s
  | .retire mid p h => Sys2Proof.Machine.execRetire mid p h s
  | .query mid p h => Sys2Proof.Machine.execQuery mid p h s
  | .resync mid p h => Sys2Proof.Machine.execResync mid p h s
  | .contextFreed c => Sys2Proof.Machine.execContextFreed c s
  | .cuEvtPop mid p => Sys2Proof.Machine.execCuEvtPop mid p s
  | .tokenTick => Sys2Proof.Machine.execTokenTick s
  | .outletSelect d o => Sys2Proof.Machine.execOutletSelect d o s
  | .gateEntryAdvance d o => Sys2Proof.Machine.execGateEntryAdvance d o s
  | .gateBankChange d o => Sys2Proof.Machine.execGateBankChange d o s
  | .schedNodeWrite mid d => Sys2Proof.Machine.execSchedNodeWrite mid d s
  | .schedNodeRead mid d => Sys2Proof.Machine.execSchedNodeRead mid d s
  | .schedOutWrite mid d => Sys2Proof.Machine.execSchedOutWrite mid d s
  | .schedOutRead mid d => Sys2Proof.Machine.execSchedOutRead mid d s
  | .schedGateWrite mid d => Sys2Proof.Machine.execSchedGateWrite mid d s
  | .schedGateRead mid d => Sys2Proof.Machine.execSchedGateRead mid d s
  | .plcrWrite mid d => Sys2Proof.Machine.execPlcrWrite mid d s
  | .plcrRead mid d => Sys2Proof.Machine.execPlcrRead mid d s
  | .arbDraw r a ask => Sys2Proof.Machine.execArbDraw r a ask s
  | .backoffExpire r a q => Sys2Proof.Machine.execBackoffExpire r a q s
  | .fordGrant r a => Sys2Proof.Machine.execFordGrant r a s
  | .arbSeed mid r a v => Sys2Proof.Machine.execArbSeed mid r a v s
  | .arbMask r a => Sys2Proof.Machine.execArbMask r a s
  | .perstAssert e => Sys2Proof.Machine.execPerstAssert e s
  | .perstDeassert e => Sys2Proof.Machine.execPerstDeassert e s
  | .cfgReady e => Sys2Proof.Machine.execCfgReady e s
  | .hotReset e removed => Sys2Proof.Machine.execHotReset e removed s
  | .dlUp e speed width flit => Sys2Proof.Machine.execDlUp e speed width flit s
  | .pfFlr e p => Sys2Proof.Machine.execPfFlr e p s
  | .vfFlr e f => Sys2Proof.Machine.execVfFlr e f s
  | .flrComplete e f => Sys2Proof.Machine.execFlrComplete e f s
  | .epReset mid e => Sys2Proof.Machine.execEpReset mid e s
  | .configRequest e f off write => Sys2Proof.Machine.execConfigRequest e f off write s
  | .dStateChange e f d3 => Sys2Proof.Machine.execDStateChange e f d3 s
  | .linkPmEntry e target light off => Sys2Proof.Machine.execLinkPmEntry e target light off s
  | .linkPmExit e => Sys2Proof.Machine.execLinkPmExit e s
  | .ltrSend e => Sys2Proof.Machine.execLtrSend e s
  | .hostReadIssue e tag => Sys2Proof.Machine.execHostReadIssue e tag s
  | .hostCompletion e tag fn status poisoned hdr data => Sys2Proof.Machine.execHostCompletion e tag fn status poisoned hdr data s
  | .hostReadTimeout e tag => Sys2Proof.Machine.execHostReadTimeout e tag s
  | .tagQuarantineEnd e tag => Sys2Proof.Machine.execTagQuarantineEnd e tag s
  | .doeObject e type body km => Sys2Proof.Machine.execDoeObject e type body km s
  | .ideCheckFail e sel stream => Sys2Proof.Machine.execIdeCheckFail e sel stream s
  | .lockInterface e f stream => Sys2Proof.Machine.execLockInterface e f stream s
  | .startInterface e f => Sys2Proof.Machine.execStartInterface e f s
  | .stopInterface e f => Sys2Proof.Machine.execStopInterface e f s
  | .getDeviceInterfaceReport e f => Sys2Proof.Machine.execGetDeviceInterfaceReport e f s
  | .getDeviceInterfaceState e f => Sys2Proof.Machine.execGetDeviceInterfaceState e f s
  | .getTdispVersion e => Sys2Proof.Machine.execGetTdispVersion e s
  | .getTdispCapabilities e => Sys2Proof.Machine.execGetTdispCapabilities e s
  | .pwinCommit mid q => Sys2Proof.Machine.execPwinCommit mid q s
  | .pwinBankSwitch q => Sys2Proof.Machine.execPwinBankSwitch q s
  | .create mid e p => Sys2Proof.Machine.execCreate mid e p s
  | .destroy mid e p => Sys2Proof.Machine.execDestroy mid e p s
  | .quiesce mid e p => Sys2Proof.Machine.execQuiesce mid e p s
  | .iadmQuery mid e p => Sys2Proof.Machine.execIadmQuery mid e p s
  | .ictlEnable mid e f on => Sys2Proof.Machine.execIctlEnable mid e f on s
  | .drainEnd e f => Sys2Proof.Machine.execDrainEnd e f s
  | .poolWrite mid e p j v => Sys2Proof.Machine.execPoolWrite mid e p j v s
  | .msgWrite mid p b j v => Sys2Proof.Machine.execMsgWrite mid p b j v s
  | .send mid p b len => Sys2Proof.Machine.execSend mid p b len s
  | .take mid p b => Sys2Proof.Machine.execTake mid p b s
  | .cross p b => Sys2Proof.Machine.execCross p b s
  | .mbxwRetract mid e p => Sys2Proof.Machine.execMbxwRetract mid e p s
  | .bindWrite mid => Sys2Proof.Machine.execBindWrite mid s
  | .bindRead mid => Sys2Proof.Machine.execBindRead mid s
  | .rcfgWrite mid e f port => Sys2Proof.Machine.execRcfgWrite mid e f port s
  | .rcfgRead mid e f port => Sys2Proof.Machine.execRcfgRead mid e f port s
  | .doorbell mid e f n v => Sys2Proof.Machine.execDoorbell mid e f n v s
  | .descFetch r => Sys2Proof.Machine.execDescFetch r s
  | .descRefetch e f h => Sys2Proof.Machine.execDescRefetch e f h s
  | .sendDesc e f h => Sys2Proof.Machine.execSendDesc e f h s
  | .sendTls e f h => Sys2Proof.Machine.execSendTls e f h s
  | .rxBuf e f h => Sys2Proof.Machine.execRxBuf e f h s
  | .cqeWrite e => Sys2Proof.Machine.execCqeWrite e s
  | .rxDeliver e => Sys2Proof.Machine.execRxDeliver e s
  | .irqTimer e f h => Sys2Proof.Machine.execIrqTimer e f h s
  | .ringIdle e f h => Sys2Proof.Machine.execRingIdle e f h s
  | .dmaCopy r k => Sys2Proof.Machine.execDmaCopy r k s
  | .dmaFill r k => Sys2Proof.Machine.execDmaFill r k s
  | .dmaCompare r k => Sys2Proof.Machine.execDmaCompare r k s
  | .dmaComplete r k => Sys2Proof.Machine.execDmaComplete r k s
  | .dmachDb mid r k v => Sys2Proof.Machine.execDmachDb mid r k v s
  | .dmachAbort mid r k => Sys2Proof.Machine.execDmachAbort mid r k s
  | .dmachResume mid r k => Sys2Proof.Machine.execDmachResume mid r k s
  | .dmachEnable mid r k v => Sys2Proof.Machine.execDmachEnable mid r k v s
  | .threadEnable mid c j v => Sys2Proof.Machine.execThreadEnable mid c j v s
  | .hqNop c j => Sys2Proof.Machine.execHqNop c j s
  | .add c j => Sys2Proof.Machine.execAdd c j s
  | .sub c j => Sys2Proof.Machine.execSub c j s
  | .and c j => Sys2Proof.Machine.execAnd c j s
  | .or c j => Sys2Proof.Machine.execOr c j s
  | .xor c j => Sys2Proof.Machine.execXor c j s
  | .shl c j => Sys2Proof.Machine.execShl c j s
  | .shr c j => Sys2Proof.Machine.execShr c j s
  | .sar c j => Sys2Proof.Machine.execSar c j s
  | .cmpeq c j => Sys2Proof.Machine.execCmpeq c j s
  | .cmpltu c j => Sys2Proof.Machine.execCmpltu c j s
  | .cmplt c j => Sys2Proof.Machine.execCmplt c j s
  | .mul c j => Sys2Proof.Machine.execMul c j s
  | .mulhu c j => Sys2Proof.Machine.execMulhu c j s
  | .bswap c j => Sys2Proof.Machine.execBswap c j s
  | .extr c j => Sys2Proof.Machine.execExtr c j s
  | .popc c j => Sys2Proof.Machine.execPopc c j s
  | .clz c j => Sys2Proof.Machine.execClz c j s
  | .mov c j => Sys2Proof.Machine.execMov c j s
  | .movh c j => Sys2Proof.Machine.execMovh c j s
  | .cmov c j => Sys2Proof.Machine.execCmov c j s
  | .mfs c j => Sys2Proof.Machine.execMfs c j s
  | .ld1 c j ecc => Sys2Proof.Machine.execLd1 c j ecc s
  | .ld2 c j ecc => Sys2Proof.Machine.execLd2 c j ecc s
  | .ld4 c j ecc => Sys2Proof.Machine.execLd4 c j ecc s
  | .ld8 c j ecc => Sys2Proof.Machine.execLd8 c j ecc s
  | .st1 c j => Sys2Proof.Machine.execSt1 c j s
  | .st2 c j => Sys2Proof.Machine.execSt2 c j s
  | .st4 c j => Sys2Proof.Machine.execSt4 c j s
  | .st8 c j => Sys2Proof.Machine.execSt8 c j s
  | .cas8 c j => Sys2Proof.Machine.execCas8 c j s
  | .fadd8 c j => Sys2Proof.Machine.execFadd8 c j s
  | .chw c j => Sys2Proof.Machine.execChw c j s
  | .chc c j => Sys2Proof.Machine.execChc c j s
  | .chr c j => Sys2Proof.Machine.execChr c j s
  | .chp c j => Sys2Proof.Machine.execChp c j s
  | .ucall c j => Sys2Proof.Machine.execUcall c j s
  | .ldp c j => Sys2Proof.Machine.execLdp c j s
  | .stp c j => Sys2Proof.Machine.execStp c j s
  | .br c j => Sys2Proof.Machine.execBr c j s
  | .beq c j => Sys2Proof.Machine.execBeq c j s
  | .bne c j => Sys2Proof.Machine.execBne c j s
  | .bltu c j => Sys2Proof.Machine.execBltu c j s
  | .bgeu c j => Sys2Proof.Machine.execBgeu c j s
  | .blt c j => Sys2Proof.Machine.execBlt c j s
  | .bge c j => Sys2Proof.Machine.execBge c j s
  | .call c j => Sys2Proof.Machine.execCall c j s
  | .jr c j => Sys2Proof.Machine.execJr c j s
  | .trap c j => Sys2Proof.Machine.execTrap c j s
  | .barrierWordDone c j => Sys2Proof.Machine.execBarrierWordDone c j s
  | .budget c j => Sys2Proof.Machine.execBudget c j s
  | .unitReply c n => Sys2Proof.Machine.execUnitReply c n s
  | .remoteCommitDeliver c j => Sys2Proof.Machine.execRemoteCommitDeliver c j s
  | .inboundDeliver c n => Sys2Proof.Machine.execInboundDeliver c n s
  | .memportRead c n => Sys2Proof.Machine.execMemportRead c n s
  | .memportWrite c n => Sys2Proof.Machine.execMemportWrite c n s
  | .memportCpl c n => Sys2Proof.Machine.execMemportCpl c n s
  | .free c n => Sys2Proof.Machine.execFree c n s
  | .alloc c n => Sys2Proof.Machine.execAlloc c n s
  | .inject c n => Sys2Proof.Machine.execInject c n s
  | .openChk c n => Sys2Proof.Machine.execOpen c n s
  | .feed c n => Sys2Proof.Machine.execFeed c n s
  | .feedMem c n => Sys2Proof.Machine.execFeedMem c n s
  | .closeChk c n => Sys2Proof.Machine.execClose c n s
  | .stillWater c => Sys2Proof.Machine.execStillWater c s
  | .chanBindWrite mid c n v v2 => Sys2Proof.Machine.execChanBindWrite mid c n v v2 s
  | .chanOmcSend mid c n lenM1 => Sys2Proof.Machine.execChanOmcSend mid c n lenM1 s
  | .attach mid c on => Sys2Proof.Machine.execAttach mid c on s
  | .halt mid c => Sys2Proof.Machine.execHalt mid c s
  | .resume mid c => Sys2Proof.Machine.execResume mid c s
  | .step mid c => Sys2Proof.Machine.execStep mid c s
  | .discard mid c => Sys2Proof.Machine.execDiscard mid c s
  | .commit mid c => Sys2Proof.Machine.execCommit mid c s
  | .cdbgRegWrite mid c hi v => Sys2Proof.Machine.execCdbgRegWrite mid c hi v s
  | .cmemWindowAccess mid c a wide write => Sys2Proof.Machine.execCmemWindowAccess mid c a wide write s
  | .csWindowWrite mid c w o wide v => Sys2Proof.Machine.execCsWindowWrite mid c w o wide v s
  | .leaseEnable mid c l key => Sys2Proof.Machine.execLeaseEnable mid c l key s
  | .leaseRevoke mid c l key => Sys2Proof.Machine.execLeaseRevoke mid c l key s
  | .leaseStop mid c l key => Sys2Proof.Machine.execLeaseStop mid c l key s
  | .leaseRestart mid c l key => Sys2Proof.Machine.execLeaseRestart mid c l key s
  | .vlock mid c v => Sys2Proof.Machine.execVlock mid c v s
  | .csRepair mid c w => Sys2Proof.Machine.execCsRepair mid c w s
  | .scrubPass c bad => Sys2Proof.Machine.execScrubPass c bad s
  | .vendorPatchLoad => Sys2Proof.Machine.execVendorPatchLoad s
  | .nvmeCcEnable mid e f on => Sys2Proof.Machine.execNvmeCcEnable mid e f on s
  | .nvmeShutdown mid e f abrupt => Sys2Proof.Machine.execNvmeShutdown mid e f abrupt s
  | .nvmeSqDoorbell mid e f y v => Sys2Proof.Machine.execNvmeSqDoorbell mid e f y v s
  | .nvmeCqDoorbell mid e f y v => Sys2Proof.Machine.execNvmeCqDoorbell mid e f y v s
  | .nvmeFetch e f => Sys2Proof.Machine.execNvmeFetch e f s
  | .createIoSq e f j => Sys2Proof.Machine.execCreateIoSq e f j s
  | .createIoCq e f j => Sys2Proof.Machine.execCreateIoCq e f j s
  | .deleteIoSq e f j => Sys2Proof.Machine.execDeleteIoSq e f j s
  | .deleteIoCq e f j => Sys2Proof.Machine.execDeleteIoCq e f j s
  | .abort e f j => Sys2Proof.Machine.execAbort e f j s
  | .identify e f j list => Sys2Proof.Machine.execIdentify e f j list s
  | .getLogPage e f j list => Sys2Proof.Machine.execGetLogPage e f j list s
  | .setFeatures e f j => Sys2Proof.Machine.execSetFeatures e f j s
  | .getFeatures e f j => Sys2Proof.Machine.execGetFeatures e f j s
  | .asyncEventRequest e f j => Sys2Proof.Machine.execAsyncEventRequest e f j s
  | .nvmeRead e f j list ev => Sys2Proof.Machine.execNvmeRead e f j list ev s
  | .nvmeWrite e f j list host ev => Sys2Proof.Machine.execNvmeWrite e f j list host ev s
  | .flush e f j ev => Sys2Proof.Machine.execFlush e f j ev s
  | .writeZeroes e f j ev => Sys2Proof.Machine.execWriteZeroes e f j ev s
  | .datasetManagement e f j host ev => Sys2Proof.Machine.execDatasetManagement e f j host ev s
  | .nsAttach e ch => Sys2Proof.Machine.execNsAttach e ch s
  | .nsDetach e ch => Sys2Proof.Machine.execNsDetach e ch s
  | .nsQuery e ch => Sys2Proof.Machine.execNsQuery e ch s
  | .backendDigestFail n q => Sys2Proof.Machine.execBackendDigestFail n q s
  | .sessionTimeout e f j => Sys2Proof.Machine.execSessionTimeout e f j s
  | .fabReplay tx rx hop n => Sys2Proof.Machine.execFabReplay tx rx hop n s
  | .eccScrub found => Sys2Proof.Machine.execEccScrub found s
  | .faultReport reporter hw => Sys2Proof.Machine.execFaultReport reporter hw s
  | .stormSummary p => Sys2Proof.Machine.execStormSummary p s
  | .entryIdleFree p j => Sys2Proof.Machine.execEntryIdleFree p j s
  | .fltClr mid p all u => Sys2Proof.Machine.execFltClr mid p all u s
  | .fltFence mid p cls u => Sys2Proof.Machine.execFltFence mid p cls u s
  | .logRecordPost source severity family code count data => Sys2Proof.Machine.execLogRecordPost source severity family code count data s
  | .logWrite => Sys2Proof.Machine.execLogWrite s
  | .logPost mid trace => Sys2Proof.Machine.execLogPost mid trace s
  | .advanceLc mid target got => Sys2Proof.Machine.execAdvanceLc mid target got s
  | .enrol mid slot debug ok => Sys2Proof.Machine.execEnrol mid slot debug ok s
  | .revoke mid slot ok => Sys2Proof.Machine.execRevoke mid slot ok s
  | .burnFwSvn mid ok => Sys2Proof.Machine.execBurnFwSvn mid ok s
  | .burnPatchSvn mid ok => Sys2Proof.Machine.execBurnPatchSvn mid ok s
  | .dbgNonce mid => Sys2Proof.Machine.execDbgNonce mid s
  | .dbgFifoWrite mid v => Sys2Proof.Machine.execDbgFifoWrite mid v s
  | .dbgGo mid => Sys2Proof.Machine.execDbgGo mid s
  | .relock mid => Sys2Proof.Machine.execRelock mid s
  | .fuseCompare agree => Sys2Proof.Machine.execFuseCompare agree s
  | .alarmFire src => Sys2Proof.Machine.execAlarmFire src s
  | .alarmPulseEnd => Sys2Proof.Machine.execAlarmPulseEnd s
  | .almapLatchClear mid v => Sys2Proof.Machine.execAlmapLatchClear mid v s
  | .isoWindowStart => Sys2Proof.Machine.execIsoWindowStart s
  | .bootEpRelease mid => Sys2Proof.Machine.execBootEpRelease mid s
  | .kick mid => Sys2Proof.Machine.execKick mid s
  | .wdtWarn => Sys2Proof.Machine.execWdtWarn s
  | .omcRestart => Sys2Proof.Machine.execOmcRestart s
  | .bankGood => Sys2Proof.Machine.execBankGood s
  | .sensorRefresh vals => Sys2Proof.Machine.execSensorRefresh vals s
  | .pldmUpdate fw patch cfg => Sys2Proof.Machine.execPldmUpdate fw patch cfg s
  | .mctpControl cmd eid => Sys2Proof.Machine.execMctpControl cmd eid s
  | .pldmRequest type cmd arg => Sys2Proof.Machine.execPldmRequest type cmd arg s
  | .getInfo tag len payload => Sys2Proof.Machine.execGetInfo tag len payload s
  | .leaseGrant tag len payload => Sys2Proof.Machine.execLeaseGrant tag len payload s
  | .leaseLoad tag len payload => Sys2Proof.Machine.execLeaseLoad tag len payload s
  | .leaseRevokeCmd tag len payload => Sys2Proof.Machine.execLeaseRevokeCmd tag len payload s
  | .sessionCreate tag len payload up => Sys2Proof.Machine.execSessionCreate tag len payload up s
  | .sessionDestroy tag len payload => Sys2Proof.Machine.execSessionDestroy tag len payload s
  | .secCommandMsg tag len payload ok got => Sys2Proof.Machine.execSecCommandMsg tag len payload ok got s
  | .svnCommit tag len payload ok => Sys2Proof.Machine.execSvnCommit tag len payload ok s
  | .logRead tag len payload => Sys2Proof.Machine.execLogRead tag len payload s
  | .setCertificate tag len payload => Sys2Proof.Machine.execSetCertificate tag len payload s
  | .statusReadBlock addr => Sys2Proof.Machine.execStatusReadBlock addr s
  | .tapReset => Sys2Proof.Machine.execTapReset s
  | .updateIr t op => Sys2Proof.Machine.execUpdateIr t op s
  | .dbgAccess write addr data => Sys2Proof.Machine.execDbgAccess write addr data s
  | .extest t => Sys2Proof.Machine.execExtest t s
  | .dmachRefetch r k => Sys2Proof.Machine.execDmachRefetch r k s
  | .clkreqNChange e released => Sys2Proof.Machine.execClkreqNChange e released s
  | .spdmMctpMessage code body => Sys2Proof.Machine.execSpdmMctpMessage code body s
  | .captureIr => Sys2Proof.Machine.execCaptureIr s
  | .captureDr t cells => Sys2Proof.Machine.execCaptureDr t cells s
  | .fecCodewordReceive p symbols uncorrectable blocks => Sys2Proof.Machine.execFecCodewordReceive p symbols uncorrectable blocks s
  | .rcCounterRead mid p off => Sys2Proof.Machine.execRcCounterRead mid p off s
  | .qspiCommand mid v => Sys2Proof.Machine.execQspiCommand mid v s
end Sys2Proof.Machine
end

