-- ==== Sys2Proof/Machine/Tick.lean ====
section
/-! DEFINITION. One nanosecond with no command: package time, the PPS pulse, the still-water counts and the idle counts of
the power domains (R61, R94, R97, R396; log entry 3). -/
namespace Sys2Proof.Machine

/-- Parts per 10^12 of a nanosecond. -/
def ptUnit : Int := 1000000000000

/-- Package time counts a nanosecond, corrected by PTIME_RATE in parts per 10^12 (R97). In reset it stands. -/
def State.ptimeTick (s : State) : State :=
  if !s.pins.pkgResetN then s
  else
    let f := s.ptFrac + ptUnit + (s.fr ptimePage 0x108).toInt
    { s with ptime := s.ptime + BitVec.ofInt 64 (f / ptUnit), ptFrac := f % ptUnit }

/-- PPS_OUT falls WIDTH_NS after it rose. -/
def State.ppsTick (s : State) : State :=
  if s.pins.ppsOut && decide (fld (s.fr ptimePage 0x128) 0 30 ≤ (s.ptime - s.pins.ppsAt).toNat) then
    let t := { s with pins := { s.pins with ppsOut := false } }
    t.emit (.pin "PPS_OUT" 0 false)
  else s

/-- The nanosecond that passes when no command waits. -/
def State.tickNs (s : State) : State :=
  let s := s.stillLook
  let s := { s with clk := s.clk + 1 }
  (s.ptimeTick.ppsTick).busyTick

end Sys2Proof.Machine
end

