-- ==== Sys2Proof/WellFormed.lean ====
section
/-!
DEFINITION. What a well-formed command is: every operand names something that the package has. A command that is not
well-formed names a page of the wrong kind, or a domain, port, region or outlet that does not exist. A command that
is well-formed and that the package turns away (a misaligned access, a message of a wrong length) has its meaning.
-/
namespace Sys2Proof
open Sys2Proof.Machine

/-- Does the key name a page (R30, R54)? -/
def isPage (p : PageKey) : Bool := (pageType p).isSome
/-- A MAC page. -/
def isMac (p : PageKey) : Bool := pageType p == some .mac
/-- A page of a port group or of a peer port. -/
def isPort (p : PageKey) : Bool := pageType p == some .npg || pageType p == some .peer
/-- A page of a cipher user. -/
def isCuser (p : PageKey) : Bool := pageType p == some .cu || pageType p == some .ciph
/-- A page with mailbox halves (R319, R321, R322). -/
def isBox (p : PageKey) : Bool := pageType p == some .imbx || pageType p == some .gch || pageType p == some .mbxw
/-- A page of a fault collector (R474). -/
def isCollector (p : PageKey) : Bool := pageType p == some .rflt || pageType p == some .dflt
/-- A page with a page lock (R49). -/
def hasLock (p : PageKey) : Bool := (pageType p).any fun t => lockCount t != 0

/-- A wake names a page where a page asks (R66). -/
def WakeSource.wf : WakeSource → Bool
  | .ferry p | .wakeNow p => isPage p
  | .work | .policy | .floor | .reset | .debugger => true

/-- The place of an array word exists by its type, except that an HBM3E page
lies in the 36 GiB of a stack (R6, R470). -/
def EccHit.wf : EccHit → Bool
  | .hbm _ pg => decide (pg.toNat < 9437184)
  | .entry .. | .ctx .. | .aset .. | .tpl .. | .rule .. | .node .. | .plcr .. | .pbuf .. | .cmem .. | .chanBuf .. => true

/-- A well-formed command. -/
def Instr.wf : Instr → Bool
  | .registerWrite _ _ _ bs => decide (0 < bs.length ∧ bs.length ≤ 64)
  | .ferryBatch p => isPage p
  | .softReset _ p => isPage p
  | .softResetDone p => isPage p
  | .pageEnable _ p _ => isPage p
  | .pwrPolicy _ p _ => isPage p
  | .intSet _ p _ => isPage p
  | .intRawClear _ p _ _ => isPage p
  | .faultCountRead _ p => isPage p
  | .cfgSeal _ p => isPage p
  | .wakeNow _ p => isPage p
  | .drwGo _ p _ => isPage p
  | .drwComplete p => isPage p
  | .lockAcquire _ p => hasLock p
  | .lockRelease _ p _ => hasLock p
  | .lockBadrelRead _ p => hasLock p
  | .idleToDim d => decide (d < 338)
  | .dimToDark d => decide (d < 338)
  | .darkEntryDone d => decide (d < 338)
  | .wakeRequest d src => d < 338 && src.wf
  | .wakeComplete d => decide (d < 338)
  | .frameReceive p _ _ => isMac p
  | .portModeChange _ g off _ => isPort g && (off == 0x100 || off == 0x104 || off == 0x108)
  | .linkUp p => isMac p
  | .linkDown p _ _ => isMac p
  | .macTransmit p => isMac p
  | .preemptVerify p _ => isMac p
  | .ack q _ => decide (q < 16)
  | .nak q _ => decide (q < 16)
  | .credit q _ => decide (q < 16)
  | .init q _ => decide (q < 16)
  | .aplReplayTimeout q => decide (q < 16)
  | .aplInitTick q => decide (q < 16)
  | .aplCreditTick q => decide (q < 16)
  | .aplDown q => decide (q < 16)
  | .cpl q _ _ remaining bs => q < 16 && decide (bs.length ≤ remaining)
  | .aplMrdTimeout q _ => decide (q < 16)
  | .aplTagQuarantineEnd q _ => decide (q < 16)
  | .spread src => decide (src < 512)
  | .expressSpread src => decide (src < 512)
  | .forcedHole src => decide (src < 512)
  | .agingPassStart r => decide (r < 16)
  | .agingVisit r => decide (r < 16)
  | .learnExecute r => decide (r < 16)
  | .learnRingStall r => decide (r < 16)
  | .lrnRingRestart _ r _ => decide (r < 16)
  | .lrnConsWrite _ r _ => decide (r < 16)
  | .walkVisit r => decide (r < 16)
  | .walkAbort _ r => decide (r < 16)
  | .tableEnable _ r slot _ => decide (r < 16) && decide (slot < 8)
  | .tableClearDone r slot => decide (r < 16) && decide (slot < 8)
  | .tableDisable _ r slot _ => decide (r < 16) && decide (slot < 8)
  | .importKey _ p _ => isCuser p
  | .generate _ p _ => isCuser p
  | .cuLoad _ p _ => isCuser p
  | .setNext _ p _ => isCuser p
  | .retire _ p _ => isCuser p
  | .query _ p _ => isCuser p
  | .resync _ p _ => isCuser p
  | .cuEvtPop _ p => isCuser p
  | .outletSelect _ o => decide (o < 256)
  | .gateEntryAdvance _ o => decide (o < 256)
  | .gateBankChange _ o => decide (o < 256)
  | .msgWrite _ p b _ _ => isBox p && decide (b < 0xD00)
  | .send _ p b _ => isBox p && decide (b < 0xD00)
  | .take _ p b => isBox p && decide (b < 0xD00)
  | .cross p b => isBox p && decide (b < 0xD00)
  | .eccScrub found => found.all fun h => h.1.wf
  | .faultReport _ hw => match hw with | some (.word h _) => h.wf | _ => true
  | .stormSummary p => isCollector p || p == logPage
  | .entryIdleFree p _ => isCollector p
  | .fltClr _ p _ _ => isCollector p
  | .fltFence _ p _ _ => isCollector p
  | .sensorRefresh vals => vals.all fun v => decide (v.1 < 256)
  | .fecCodewordReceive p _ _ _ => isMac p
  | .rcCounterRead _ p off => (regDesc p off.toNat).any fun d => d.rc != 0
  | .netrefLoss .. | .pcierefLoss .. | .clusterReset .. | .clusterResetDone .. | .regionReset ..
  | .dieReset .. | .pkgResetAssert .. | .pkgResetRelease .. | .pwrGoodFall .. | .pwrGoodRise ..
  | .fabricBarrier .. | .fabricBarrierDone .. | .ptimeStepGo .. | .ptimeStepApply .. | .ptimeRate ..
  | .ppsOutPulse .. | .ppsInEdge .. | .aplFrameReceive .. | .data .. | .aplDataSend .. | .mwr .. | .mrd ..
  | .pipelinePass .. | .farResume .. | .farTimeout .. | .landingEntryArrive .. | .landingWatermarkArrive ..
  | .clsRuleWrite .. | .clsRuleRead .. | .clsProfWrite .. | .clsSwap .. | .swapDone .. | .insert ..
  | .update .. | .upsert .. | .delete .. | .tblRead .. | .walkFull .. | .walkDelta .. | .flushLearned ..
  | .tblPortLock .. | .tblPortUnlock .. | .tblCmdBaseWrite .. | .tblCmdCfgWrite .. | .tblCmdDb ..
  | .tblCmdFetch .. | .tblCmdRefetch .. | .pipeAsWrite .. | .pipeAsRead .. | .pipeTplWrite ..
  | .pipeTplRead .. | .pipeCntFlush .. | .counterWriteback .. | .tagVerdict .. | .contextFill ..
  | .contextMigrate .. | .cipherRequest .. | .contextFreed .. | .tokenTick .. | .schedNodeWrite ..
  | .schedNodeRead .. | .schedOutWrite .. | .schedOutRead .. | .schedGateWrite .. | .schedGateRead ..
  | .plcrWrite .. | .plcrRead .. | .arbDraw .. | .backoffExpire .. | .fordGrant .. | .arbSeed ..
  | .arbMask .. | .perstAssert .. | .perstDeassert .. | .cfgReady .. | .hotReset .. | .dlUp .. | .pfFlr ..
  | .vfFlr .. | .flrComplete .. | .epReset .. | .configRequest .. | .dStateChange .. | .linkPmEntry ..
  | .linkPmExit .. | .ltrSend .. | .hostReadIssue .. | .hostCompletion .. | .hostReadTimeout ..
  | .tagQuarantineEnd .. | .doeObject .. | .ideCheckFail .. | .lockInterface .. | .startInterface ..
  | .stopInterface .. | .getDeviceInterfaceReport .. | .getDeviceInterfaceState .. | .getTdispVersion ..
  | .getTdispCapabilities .. | .pwinCommit .. | .pwinBankSwitch .. | .create .. | .destroy .. | .quiesce ..
  | .iadmQuery .. | .ictlEnable .. | .drainEnd .. | .poolWrite .. | .mbxwRetract .. | .bindWrite ..
  | .bindRead .. | .rcfgWrite .. | .rcfgRead .. | .doorbell .. | .descFetch .. | .descRefetch ..
  | .sendDesc .. | .sendTls .. | .rxBuf .. | .cqeWrite .. | .rxDeliver .. | .irqTimer .. | .ringIdle ..
  | .dmaCopy .. | .dmaFill .. | .dmaCompare .. | .dmaComplete .. | .dmachDb .. | .dmachAbort ..
  | .dmachResume .. | .dmachEnable .. | .threadEnable .. | .hqNop .. | .add .. | .sub .. | .and .. | .or ..
  | .xor .. | .shl .. | .shr .. | .sar .. | .cmpeq .. | .cmpltu .. | .cmplt .. | .mul .. | .mulhu ..
  | .bswap .. | .extr .. | .popc .. | .clz .. | .mov .. | .movh .. | .cmov .. | .mfs .. | .ld1 .. | .ld2 ..
  | .ld4 .. | .ld8 .. | .st1 .. | .st2 .. | .st4 .. | .st8 .. | .cas8 .. | .fadd8 .. | .chw .. | .chc ..
  | .chr .. | .chp .. | .ucall .. | .ldp .. | .stp .. | .br .. | .beq .. | .bne .. | .bltu .. | .bgeu ..
  | .blt .. | .bge .. | .call .. | .jr .. | .trap .. | .barrierWordDone .. | .budget .. | .unitReply ..
  | .remoteCommitDeliver .. | .inboundDeliver .. | .memportRead .. | .memportWrite .. | .memportCpl ..
  | .free .. | .alloc .. | .inject .. | .openChk .. | .feed .. | .feedMem .. | .closeChk .. | .stillWater ..
  | .chanBindWrite .. | .chanOmcSend .. | .attach .. | .halt .. | .resume .. | .step .. | .discard ..
  | .commit .. | .cdbgRegWrite .. | .cmemWindowAccess .. | .csWindowWrite .. | .leaseEnable ..
  | .leaseRevoke .. | .leaseStop .. | .leaseRestart .. | .vlock .. | .csRepair .. | .scrubPass ..
  | .vendorPatchLoad .. | .nvmeCcEnable .. | .nvmeShutdown .. | .nvmeSqDoorbell .. | .nvmeCqDoorbell ..
  | .nvmeFetch .. | .createIoSq .. | .createIoCq .. | .deleteIoSq .. | .deleteIoCq .. | .abort ..
  | .identify .. | .getLogPage .. | .setFeatures .. | .getFeatures .. | .asyncEventRequest .. | .nvmeRead ..
  | .nvmeWrite .. | .flush .. | .writeZeroes .. | .datasetManagement .. | .nsAttach .. | .nsDetach ..
  | .nsQuery .. | .backendDigestFail .. | .sessionTimeout .. | .fabReplay .. | .logRecordPost ..
  | .logWrite .. | .logPost .. | .advanceLc .. | .enrol .. | .revoke .. | .burnFwSvn .. | .burnPatchSvn ..
  | .dbgNonce .. | .dbgFifoWrite .. | .dbgGo .. | .relock .. | .fuseCompare .. | .alarmFire ..
  | .alarmPulseEnd .. | .almapLatchClear .. | .isoWindowStart .. | .bootEpRelease .. | .kick .. | .wdtWarn ..
  | .omcRestart .. | .bankGood .. | .pldmUpdate .. | .mctpControl .. | .pldmRequest .. | .getInfo ..
  | .leaseGrant .. | .leaseLoad .. | .leaseRevokeCmd .. | .sessionCreate .. | .sessionDestroy ..
  | .secCommandMsg .. | .svnCommit .. | .logRead .. | .setCertificate .. | .statusReadBlock .. | .tapReset ..
  | .updateIr .. | .dbgAccess .. | .extest .. | .dmachRefetch .. | .clkreqNChange .. | .spdmMctpMessage ..
  | .captureIr .. | .captureDr .. | .qspiCommand .. => true

end Sys2Proof
end

