-- ==== Sys2Proof/Safety.lean ====
section
/-! DEFINITION. What a safe run is, and the terms that statements use: a command that completes, an access that no rule
turns away, and what a step leaves alone. -/
namespace Sys2Proof.Safety
open Sys2Proof.Machine

/-- Memory is in its canonical form. -/
abbrev MemOk (s : State) : Prop := Memory.wf s.mem = true

/-- Every fuse bit and count that is blown in `a` is blown in `b`; the fields written in manufacture, and the hash of an
enrolled slot, are as they were (R488). -/
def FusesGrow (a b : Fuses) : Prop :=
  a.enrolled &&& ~~~b.enrolled = 0 ∧ a.revoked &&& ~~~b.revoked = 0 ∧ a.dbgSlots &&& ~~~b.dbgSlots = 0 ∧
  a.lc &&& ~~~b.lc = 0 ∧ a.fwSvn ≤ b.fwSvn ∧ a.patchSvn ≤ b.patchSvn ∧
  b.serial = a.serial ∧ b.vendorImgSecret = a.vendorImgSecret ∧ b.vendorHash = a.vendorHash ∧
  b.vendorDbgHash = a.vendorDbgHash ∧ ∀ i : Fin 4, a.enrolled.getLsbD i = true → b.slotHash[i]? = a.slotHash[i]?

/-- A safe step answers a next state, which keeps memory canonical and unblows no fuse. -/
def StepOk (s : State) : Prop := ∃ t, step s = .next t ∧ (MemOk s → MemOk t) ∧ FusesGrow s.fuses t.fuses

/-- The command completes in the state, and the next state is as `P` says. -/
def Runs (c : Instr) (s : State) (P : State → Prop) : Prop := ∃ t, exec c s = .next t ∧ P t

/-- A master's access to an offset of a page is turned away by no rule: the page and the register exist, no function-level
reset or TDI state stands before it, and the page's class admits the master (R31, R33, R35). -/
abbrev Admitted (s : State) (mid : Mid) (p : PageKey) (off : Nat) : Prop :=
  (pageType p).isSome = true ∧ s.hostGate mid p true = none ∧ s.classAdmits mid p off = true ∧
    (regDesc p off).isSome = true

/-- Every register but those listed reads the same. -/
def RegsBut (ks : List Nat) (s t : State) : Prop :=
  ∀ k, k ∉ ks → tabGet (regReset k) t.regs k = tabGet (regReset k) s.regs k

/-- Nothing but registers, what fast logic holds of them, and the record of outputs has changed: memory, threads,
channels, queues, tables, power domains, fuses and the rest are as they were. -/
abbrev OnlyRegs (s t : State) : Prop := t = { s with regs := t.regs, fast := t.fast, out := t.out }

end Sys2Proof.Safety
end

