-- ==== Sys2Proof/Certificates/Slice0/Obligations.lean ====
section
/-!
DEFINITION. The statements about the model. Each says what commands of one family do in every state that meets its
hypotheses, and what they leave alone. `Runs c s P` says that the command completes with a next state as `P` says, and
`Admitted` that no rule of the lantern bus turns the access away.
-/
open Sys2Proof Sys2Proof.Machine Sys2Proof.Safety

/-! ### The machine as a whole -/

/-- A step with a command waiting is `exec` of the command at the front on the state with the queue's rest. -/
def Obligations.StepRunsFront : Prop :=
  ∀ (s : State) (c : Instr) (cs : List Instr), s.pending = c :: cs → step s = exec c { s with pending := cs }

/-- Every step answers a next state: no command stops the machine, since the rules give each an effect in every state,
if only to be counted or to leave it as it is. No command touches the queue of waiting commands or the model's clock.
With no command waiting a nanosecond passes: the clock counts it, package time advances by the nanosecond that
PTIME_RATE corrects (R94, R97), and neither memory, registers, fuses nor the queue change. That a step on an empty
queue is a nanosecond is the model's choice (log entry 3). -/
def Obligations.EveryStepAnswers : Prop :=
  ((∀ s : State, ∃ t, step s = .next t) ∧
  ∀ (c : Instr) (s : State), ∃ t, exec c s = .next t ∧ t.pending = s.pending ∧ t.clk = s.clk) ∧
  (∀ s : State, s.pending = [] → ∃ t, step s = .next t ∧ t.clk = s.clk + 1 ∧ t.pending = [] ∧ t.mem = s.mem ∧
    t.regs = s.regs ∧ t.fast = s.fast ∧ t.fuses = s.fuses ∧ t.ctrs = s.ctrs ∧ t.thrs = s.thrs ∧ t.chans = s.chans ∧
    (s.pins.pkgResetN = true → s.fr ptimePage 0x108 = 0 → 0 ≤ s.ptFrac → s.ptFrac < ptUnit → t.ptime = s.ptime + 1) ∧
    (s.pins.pkgResetN = false → t.ptime = s.ptime))

/-- Every step keeps memory in its canonical form: addresses rise strictly and nothing is listed that reads the same
unlisted. -/
def Obligations.EveryStepKeepsMemoryCanonical : Prop := ∀ s t : State, MemOk s → step s = .next t → MemOk t

/-- Every step keeps every fuse that has blown: whatever fuses `F` are blown before a step are blown after it
(R488). -/
def Obligations.EveryStepKeepsFuses : Prop :=
  ∀ (F : Fuses) (s t : State), FusesGrow F s.fuses → step s = .next t → FusesGrow F t.fuses

/-- What reset leaves: the invariants hold, no command waits and memory lists nothing; and in the common header of
every page ENABLE, policy and seal are clear, INT_RAW and INT_EN are clear, no fault is counted, both wake enables are
set, and PAGE_SEQ is 0 (R39, R40). That the queue is empty is the model's own (log entry 3). -/
def Obligations.ResetState : Prop :=
  MemOk State.reset ∧ State.reset.pending = [] ∧ State.reset.mem = [] ∧ FusesGrow State.reset.fuses State.reset.fuses ∧
  ∀ p : PageKey, (pageType p).isSome = true →
    State.reset.rd p 0x008 = 0 ∧ State.reset.rd p 0x010 = 0 ∧ State.reset.rd p 0x014 = 0 ∧ State.reset.rd p 0x020 = 0 ∧
    State.reset.rd p 0x024 = 0 ∧ State.reset.rd p 0x028 = 0 ∧ State.reset.rd p 0x02C = 3 ∧ State.reset.rd p 0x030 = 0 ∧
    State.reset.rd p 0x034 = 0 ∧ State.reset.isFenced p = false ∧ State.reset.inReset p = false

/-! ### What every page has -/

/-- Locks (R49–R51). A read of a free lock takes it for the reader and returns ACQUIRED with the reader's MID; the
holder's own read returns ACQUIRED and any other read HELD with the holder's MID, and both change nothing. A release by
the holder that names it frees the lock. Any other write by a master that is neither holder nor OMC leaves the holder,
counts in BADREL up to its end and sets LOCK_BAD_RELEASE. -/
def Obligations.LockRows : Prop :=
  ∀ (s : State) (mid : Mid) (p : PageKey), hasLock p = true → Admitted s mid p 0x100 →
    (fld (s.rd p 0x104) 30 2 = 0 → Runs (.lockAcquire mid p) s fun t =>
      t.rd p 0x104 = 0x40000000 ||| mid.setWidth 32 ∧
      t.out = .readData mid (rkey p 0x100) (0x40000000 ||| mid.setWidth 64) :: s.out ∧
      RegsBut [rkey p 0x100, rkey p 0x104] s t ∧ OnlyRegs s t) ∧
    (fld (s.rd p 0x104) 30 2 = 1 → fld (s.rd p 0x104) 0 16 = mid.toNat → Runs (.lockAcquire mid p) s fun t =>
      t = s.emit (.readData mid (rkey p 0x100) (0x40000000 ||| mid.setWidth 64))) ∧
    (∀ h : Mid, fld (s.rd p 0x104) 30 2 = 1 → fld (s.rd p 0x104) 0 16 = h.toNat → h ≠ mid →
      Runs (.lockAcquire mid p) s fun t =>
        t = s.emit (.readData mid (rkey p 0x100) (0x80000000 ||| h.setWidth 64))) ∧
    (∀ v : Reg, fld (s.rd p 0x104) 30 2 = 1 → fld (s.rd p 0x104) 0 16 = mid.toNat → fld v 0 16 = mid.toNat →
      Runs (.lockRelease mid p v) s fun t =>
        t.rd p 0x104 = 0 ∧ t.rd p 0x030 = s.rd p 0x030 + 1 ∧
        RegsBut [rkey p 0x100, rkey p 0x104, rkey p 0x030, rkey p 0x034] s t ∧ OnlyRegs s t) ∧
    (∀ v : Reg, fld (s.rd p 0x104) 0 16 ≠ mid.toNat → midIsOmc mid = false →
      Runs (.lockRelease mid p v) s fun t =>
        t.rd p 0x104 = s.rd p 0x104 ∧ bit (t.rd p 0x010) 29 = true ∧
        fld (t.rd p 0x108) 0 16 = min (fld (s.rd p 0x108) 0 16 + 1) 65535)

/-- Interrupts, and counters that clear on a read (R4, R39, R40, R45, R49, R236). A read of FAULT_COUNT or LOCK_BADREL
returns the value before it, the RC field reads 0 afterwards, and nothing else changes. INT_SET sets the written bits
of INT_RAW. A write of ones to INT_RAW clears them, but for the bits that fast logic sets in the same cycle, on a page
that no cipher event holds. PAGE_SEQ advances by 1. The interrupt output rises when INT_PEND leaves 0. -/
def Obligations.InterruptRows : Prop :=
  ∀ (s : State) (mid : Mid) (p : PageKey),
    (Admitted s mid p 0x024 → ∀ c ∈ [Instr.faultCountRead mid p, .rcCounterRead mid p 0x024], Runs c s fun t =>
      t.out = .readData mid (rkey p 0x024) ((s.rd p 0x024).setWidth 64) :: s.out ∧ fld (t.rd p 0x024) 0 16 = 0 ∧
      RegsBut [rkey p 0x024] s t ∧ OnlyRegs s t) ∧
    (hasLock p = true → Admitted s mid p 0x108 → Runs (.lockBadrelRead mid p) s fun t =>
      t.out = .readData mid (rkey p 0x108) ((s.rd p 0x108).setWidth 64) :: s.out ∧ fld (t.rd p 0x108) 0 16 = 0 ∧
      RegsBut [rkey p 0x108] s t ∧ OnlyRegs s t) ∧
    (∀ v : Reg, Admitted s mid p 0x01C → Runs (.intSet mid p v) s fun t =>
      t.rd p 0x010 = s.rd p 0x010 ||| v ∧ t.rd p 0x030 = s.rd p 0x030 + 1 ∧ OnlyRegs s t ∧
      (s.rd p 0x010 &&& s.rd p 0x014 = 0 → (s.rd p 0x010 ||| v) &&& s.rd p 0x014 ≠ 0 → .omcIrq p ∈ t.out) ∧
      ((s.rd p 0x010 ||| v) &&& s.rd p 0x014 = 0 → t.out = s.out ∧
        RegsBut [rkey p 0x010, rkey p 0x030, rkey p 0x034] s t)) ∧
    (∀ v hw : Reg, Admitted s mid p 0x010 → tabFind s.cuEvts p = none → Runs (.intRawClear mid p v hw) s fun t =>
      t.rd p 0x010 = (s.rd p 0x010 &&& ~~~v) ||| hw ∧ t.rd p 0x030 = s.rd p 0x030 + 1 ∧ OnlyRegs s t ∧
      (hw = 0 → t.out = s.out ∧ RegsBut [rkey p 0x010, rkey p 0x030, rkey p 0x034] s t))

/-- The control registers of the common header (R5, R39, R48, R62, R66). CFG_SEAL.SEAL reads 1 after a write of it.
PWR_POLICY takes any encoding but the reserved one, which leaves it. ENABLE is visible at once, whether or not the ferry
has taken it. WAKE_NOW reads 0 where the block is lit, and otherwise reads 1 and takes a dim domain to waking. -/
def Obligations.HeaderRows : Prop :=
  ∀ (s : State) (mid : Mid) (p : PageKey),
    (Admitted s mid p 0x028 → Runs (.cfgSeal mid p) s fun t =>
      t.isSealed p = true ∧ RegsBut [rkey p 0x028, rkey p 0x030, rkey p 0x034] s t ∧ OnlyRegs s t) ∧
    (∀ pol : BitVec 2, Admitted s mid p 0x008 → Runs (.pwrPolicy mid p pol) s fun t =>
      fld (t.rd p 0x008) 4 2 = (if pol = 3 then fld (s.rd p 0x008) 4 2 else pol.toNat) ∧
      bit (t.rd p 0x008) 0 = bit (s.rd p 0x008) 0 ∧
      RegsBut [rkey p 0x008, rkey p 0x030, rkey p 0x034] s t) ∧
    (∀ on : Bool, Admitted s mid p 0x008 →
      (on = true ∨ (pageType p ≠ some .mac ∧ pageType p ≠ some .npg ∧ pageType p ≠ some .peer)) →
      Runs (.pageEnable mid p on) s fun t =>
        bit (t.rd p 0x008) 0 = on ∧ t.mem = s.mem ∧ (s.fastReady p = true → bit (t.fr p 0x008) 0 = on) ∧
        RegsBut [rkey p 0x008, rkey p 0x030, rkey p 0x034] s t) ∧
    (∀ d : Nat, Admitted s mid p 0x02C → domainOf p = some d →
      Runs (.wakeNow mid p) s fun t =>
        (s.litDom d = true → bit (t.rd p 0x02C) 8 = false ∧ t.doms = s.doms) ∧
        (s.litDom d = false → bit (t.rd p 0x02C) 8 = true) ∧
        ((s.dom d).st = .dim → s.domFenced d = false → (t.dom d).st = .wakingDim) ∧
        RegsBut [rkey p 0x02C, rkey p 0x030, rkey p 0x034] s t)

/-- A register write and its ferry, on a port's page (R5, R34, R41, R42, R43, R48). A write of the OMC to a register
of a MAC page without reserved encodings is visible at once, field by field as the access types say. Where the block
takes it at once fast logic holds the new value, else the write is the last that waits. A batch gives fast logic the
values in acceptance order and advances APPLIED_SEQ to the last. (MAC_CTL also changes the statistics mode and
MAC_PREEMPT starts verification, and the header's registers have rows of their own.) -/
def Obligations.RegisterWriteAndFerry : Prop :=
  ∀ (s : State) (mid : Mid) (p : PageKey) (off : Nat) (d : RegDesc), pageType p = some .mac → 0x100 < off → off < 4096 →
    off % 4 = 0 → off ≠ 0x110 → regDesc p off = some d → d.legal = [] →
    (∀ v : Reg, midIsOmc mid = true →
      Runs (.registerWrite mid false (.internal (BitVec.ofNat 32 (p * 4096 + off))) (leBytes 4 v.toNat)) s fun t =>
        t.rd p off = mergeWrite d (s.isSealed p) (s.rd p off) v ∧ t.rd p 0x030 = s.rd p 0x030 + 1 ∧
        (s.fastReady p = true → t.fr p off = t.rd p off ∧ t.ferry = s.ferry) ∧
        (s.fastReady p = false → ∃ w : FerryWrite, t.ferry = s.ferry ++ [w] ∧ w.page = p ∧ w.off = off ∧
          w.vals = [t.rd p off] ∧ t.fast = s.fast) ∧
        t.mem = s.mem) ∧
    (∀ w : FerryWrite, ∀ v r : Reg, s.litPage p = true → s.inReset p = false → s.ferry.filter (fun x => x.page == p) = [w] →
      w.page = p → w.off = off → w.vals = [v] → w.raw = [r] → Runs (.ferryBatch p) s fun t =>
        t.fr p off = v ∧ fld (t.rd p 0x034) 16 16 = w.seq.toNat % 65536 ∧
        t.ferry = s.ferry.filter (fun x => !(x.page == p)) ∧ t.waiting p = false ∧ RegsBut [rkey p 0x034] s t) ∧
    (∀ w x : FerryWrite, ∀ v u r q : Reg, s.litPage p = true → s.inReset p = false →
      s.ferry.filter (fun y => y.page == p) = [w, x] → w.page = p → x.page = p → w.off = off → x.off = off →
      w.vals = [v] → w.raw = [r] → x.vals = [u] → x.raw = [q] → Runs (.ferryBatch p) s fun t =>
        t.fr p off = u ∧ fld (t.rd p 0x034) 16 16 = x.seq.toNat % 65536 ∧ t.waiting p = false)

/-- Soft reset and the deferred-read window (R18, R39, R46). A write of SOFT_RESET = 1 that fast logic takes at once
starts the unit's reset, and SOFT_RESET reads 1. When the reset is done it reads 0 and no reset of the unit is under
way. A GO to DRW_REQ while BUSY is 0 clears READY, sets BUSY and records the MID; while BUSY is 1 it sets REFUSED and
the request in progress stays. A read that completes shows READY and no BUSY and sets DRW_READY. -/
def Obligations.SoftResetAndDeferredRead : Prop :=
  ∀ (s : State) (mid : Mid) (p : PageKey),
    (Admitted s mid p 0x008 → s.fastReady p = true → s.inReset p = false → Runs (.softReset mid p) s fun t =>
      bit (t.rd p 0x008) 1 = true ∧ t.resets = s.resets ++ [(.unit p, s.clk)] ∧ t.mem = s.mem) ∧
    ((s.resets.any fun r => r.1 == .unit p) = true → s.litPage p = true → pageType p ≠ some .fcore →
      Runs (.softResetDone p) s fun t =>
        bit (t.rd p 0x008) 1 = false ∧ (t.resets.any fun r => r.1 == .unit p) = false) ∧
    (∀ v : Reg, Admitted s mid p 0x0E0 → Runs (.drwGo mid p v) s fun t =>
      (bit (s.rd p 0x0E4) 30 = false → t.rd p 0x0E4 = 0x40000000 ||| mid.setWidth 32 ∧
        t.drw = s.drw ++ [{ page := p, index := fld v 0 24, clear := bit v 30, start := s.clk }]) ∧
      (bit (s.rd p 0x0E4) 30 = true → bit (t.rd p 0x0E4) 29 = true ∧ t.drw = s.drw) ∧
      RegsBut [rkey p 0x0E0, rkey p 0x0E4, rkey p 0x030, rkey p 0x034] s t) ∧
    (∀ d : DrwRead, s.drw.find? (fun d => d.page == p) = some d → (pageType p).isSome = true → s.ctrExists p d.index = true →
      Runs (.drwComplete p) s fun t =>
        bit (t.rd p 0x0E4) 31 = true ∧ bit (t.rd p 0x0E4) 30 = false ∧ bit (t.rd p 0x010) 28 = true ∧
        (t.rd p 0x0E8).toNat = (s.ctr p d.index).toNat % 2 ^ 32 ∧ t.drw = s.drw.erase d ∧
        (d.clear = true → t.ctr p d.index = 0))

/-! ### Power and reset -/

/-- Power domains (R60, R61, R62, R65, R66, R68, R70). A lit domain that has been idle for 64 cycles of its clock goes
to dim, and one that is pinned lit or fenced stays; an idle dim domain starts its entry into dark after 20 µs; the
entry ends after 240 ns. A wake request takes a dim domain, a dark one, or one that is entering dark to waking, and a
fenced domain stays as it is. A wake that completes leaves the domain lit and WAKE_NOW clear in its pages. No step
touches another domain. Loss of a reference takes down the links of the die that it feeds, and fabric barriers of the
OMC (R23, R59). A barrier completes when no write of its master waits and no commit of it is on its way. That a command
that is not due leaves the state as it is is the model's choice (log entry 2). -/
def Obligations.PowerAndReferenceRows : Prop :=
  (∀ (s : State) (d : Nat), d < 338 →
    ((s.dom d).st = .lit → s.domIdle d = true → s.domFenced d = false → 1 ≤ s.depth d →
      64 * 1000 ≤ (s.clk - (s.dom d).lastWork) * clockMhz d → Runs (.idleToDim d) s fun t =>
        (t.dom d).st = .dim ∧ (∀ k, k ≠ d → t.dom k = s.dom k) ∧ t = { s with doms := t.doms }) ∧
    (s.policy d = 1 ∨ s.domFenced d = true → Runs (.idleToDim d) s (· = s) ∧ Runs (.dimToDark d) s (· = s)) ∧
    ((s.dom d).st = .dim → s.domIdle d = true → s.domFenced d = false → 2 ≤ s.depth d →
      20000 ≤ s.clk - (s.dom d).lastWork → Runs (.dimToDark d) s fun t =>
        (t.dom d).st = .enteringDark ∧ (∀ k, k ≠ d → t.dom k = s.dom k) ∧ t = { s with doms := t.doms }) ∧
    ((s.dom d).st = .enteringDark → 240 ≤ s.clk - (s.dom d).since → Runs (.darkEntryDone d) s fun t =>
        (t.dom d).st = .dark ∧ (∀ k, k ≠ d → t.dom k = s.dom k) ∧ t = { s with doms := t.doms }) ∧
    (∀ src : WakeSource, s.wakeAdmits d src = true → s.domFenced d = false → Runs (.wakeRequest d src) s fun t =>
        ((s.dom d).st = .dim → (t.dom d).st = .wakingDim) ∧
        ((s.dom d).st = .dark ∨ (s.dom d).st = .enteringDark → (t.dom d).st = .wakingDark) ∧
        ((s.dom d).st = .lit → t = s) ∧ (∀ k, k ≠ d → t.dom k = s.dom k) ∧ t = { s with doms := t.doms }) ∧
    (∀ src : WakeSource, s.domFenced d = true → Runs (.wakeRequest d src) s (· = s)) ∧
    ((s.dom d).st = .wakingDim ∨ (s.dom d).st = .wakingDark → Runs (.wakeComplete d) s fun t =>
        t.litDom d = true ∧ (∀ p, domainOf p = some d → bit (t.rd p 0x02C) 8 = false) ∧
        (∀ k, k ≠ d → t.dom k = s.dom k) ∧ t = { s with doms := t.doms, regs := t.regs })) ∧
  ((∀ (s : State) (d : Fin 4), s.pins.netref.getLsbD d = true → Runs (.netrefLoss d) s fun t =>
    t.pins.netref.getLsbD d = false ∧ ∀ n < 8, ∀ k, 1 ≤ k → k ≤ 8 → t.linkUp (npgPage (8 * d.val + n) k) = false) ∧
  (∀ (s : State) (d : Fin 4), s.pins.pcieref.getLsbD d = true → Runs (.pcierefLoss d) s fun t =>
    t.pins.pcieref.getLsbD d = false) ∧
  (∀ (s : State) (mid : Mid), midIsOmc mid = true → mid ∉ s.barriers → Runs (.fabricBarrier mid) s fun t =>
    t = { s with barriers := s.barriers ++ [mid] }) ∧
  (∀ (s : State) (mid : Mid), midIsOmc mid = true → mid ∈ s.barriers → s.mastersDone mid = true →
    Runs (.fabricBarrierDone mid) s fun t => t = { s with barriers := s.barriers.erase mid }) ∧
  (∀ (s : State) (mid : Mid), s.mastersDone mid = false → Runs (.fabricBarrierDone mid) s (· = s)))

/-- Resets of clusters, regions and dies (R18, R19, R21, R403). CLU_CTL.RESET reads 1 from a cluster reset's acceptance
until it is done, and with CLEAR the cluster's memory reads 0 afterwards, else it is kept. A reset lifts the fence of
its level; a die reset lifts those of every level in the die. Resets of the package (R18, R19, R488, R545, R549).
PKG_RESET_N and the fall of PWR_GOOD return every register to its reset value, but for the PERST_N level that EP_STS
shows, and empty every memory but the flash; fuses stay. The release with power good drives the outputs again, and with
the lifecycle not read yet leaves it read. The rise of PWR_GOOD resets every TAP. What a reset of each level covers is
deduced (log entry 20). -/
def Obligations.ResetRows : Prop :=
  ((∀ (s : State) (mid : Mid) (c : Fin 128) (clear : Bool), Admitted s mid (cluPage c 0) 0x100 →
    (s.resets.any fun r => r.1 == .cluster c) = false → Runs (.clusterReset mid c clear) s fun t =>
      (t.resets.any fun r => r.1 == .cluster c) = true ∧ .cluster c.val ∉ t.fences ∧
      bit (t.rd (cluPage c 0) 0x100) 0 = true) ∧
  (∀ (s : State) (c : Fin 128), (s.resets.any fun r => r.1 == .cluster c) = true → s.litDom c = true →
    Runs (.clusterResetDone c) s fun t =>
      (t.resets.any fun r => r.1 == .cluster c) = false ∧
      (bit (s.fr (cluPage c 0) 0x100) 1 = false → t.mem = s.mem) ∧
      (bit (s.fr (cluPage c 0) 0x100) 1 = true → ∀ a, cmemBase c ≤ a → a < cmemBase c + 2 ^ 20 → t.byte a = 0)) ∧
  (∀ (s : State) (r : Fin 16), Runs (.regionReset r) s fun t => .region r.val ∉ t.fences) ∧
  (∀ (s : State) (d : Fin 12), Runs (.dieReset d) s fun t => ∀ f ∈ t.fences, scopeContains (.die d) f = false)) ∧
  (∀ s : State,
    (s.pins.pkgResetN = true → Runs .pkgResetAssert s fun t =>
      t.pins.pkgResetN = false ∧ t.pins.hiZ = true ∧ t.fuses = s.fuses ∧
      (∀ k, (∀ e < 32, k ≠ rkey (epPage e 0) 0x104) → tabGet (regReset k) t.regs k = regReset k) ∧
      (∀ a, flashBase ≤ a → a < flashBase + 2 ^ 26 → t.byte a = s.byte a) ∧
      (∀ a, a < flashBase ∨ flashBase + 2 ^ 26 ≤ a → t.byte a = 0)) ∧
    (s.pins.pwrGood = true → Runs .pwrGoodFall s fun t =>
      t.pins.pwrGood = false ∧ t.pins.thermTripN = true ∧ t.pins.hiZ = true ∧ t.fuses = s.fuses ∧
      (∀ k, (∀ e < 32, k ≠ rkey (epPage e 0) 0x104) → tabGet (regReset k) t.regs k = regReset k)) ∧
    (∀ perst : BitVec 32, s.pins.pwrGood = false → Runs (.pwrGoodRise perst) s fun t =>
      t.pins.pwrGood = true ∧ t.pins.perstN = perst ∧ t.jtag = {} ∧ t.mem = s.mem ∧ t.fuses = s.fuses) ∧
    (s.pins.pwrGood = true → s.pins.pkgResetN = false ∨ s.sec.lcKnown = false → Runs .pkgResetRelease s fun t =>
      t.pins.pkgResetN = true ∧ t.sec.lcKnown = true))


/-! ### Ports -/

/-- A MAC with native statistics whose link is up takes what the wire brings. -/
abbrev MacOpen (s : State) (p : PageKey) : Prop :=
  pageType p = some .mac ∧ s.linkUp p = true ∧ s.isFenced p = false ∧ s.inReset p = false ∧ s.macApl p = false ∧
    s.frFld p 0x100 16 2 = 0

/-- Links (R77, R80, R81, R87, R89, R91, R190). A link that may come up comes up at the port's rate, with its lanes
aligned. A link that goes down shows the fault bits, counts in counter 0x24 and leaves no entry selected for its
outlet. A write of a port mode that fast logic takes takes down every port of the group, and ENABLE = 0 takes down its
own. Verification ends in succeeded and ACTIVE, or in failed with PREEMPT_VERIFY_FAIL. Frames and codewords (R82, R87,
R91). Every received frame counts in 0x03 and its octets in 0x02. One with a wrong FCS counts in 0x04 where its length
is legal; one that passes every test of R82 counts in 0x00 with its octets in 0x01. Codewords count as corrected, with
their symbols, or as uncorrectable. The frame selected for the port goes out padded to 60 bytes with its FCS, and the
outlet is free for the next. -/
def Obligations.MacRows : Prop :=
  (∀ (s : State) (p : PageKey), pageType p = some .mac →
    (s.linkAllowed p = true → s.linkUp p = false → Runs (.linkUp p) s fun t =>
      t.linkUp p = true ∧ fld (t.rd p 0x10C) 0 3 = s.macRate p ∧ bit (t.rd p 0x10C) 28 = true ∧
      bit (t.rd p 0x010) 0 = true ∧ t.mem = s.mem) ∧
    (∀ l r : Bool, s.linkUp p = true → Runs (.linkDown p l r) s fun t =>
      t.linkUp p = false ∧ bit (t.rd p 0x10C) 27 = l ∧ bit (t.rd p 0x10C) 26 = r ∧
      (s.frFld p 0x100 16 2 = 0 → t.ctr p 0x24 = s.ctr p 0x24 + 1) ∧
      tabFind t.sel ((macOutlet p).1 * 256 + (macOutlet p).2) = none) ∧
    (∀ ok : Bool, s.rdFld p 0x114 0 3 = 2 → Runs (.preemptVerify p ok) s fun t =>
      t.rd p 0x114 = (if ok then 0x103 else 0x4) ∧ (ok = false → bit (t.rd p 0x010) 3 = true)) ∧
    (∀ mid : Mid, Admitted s mid p 0x008 → s.fastReady p = true → bit (s.rd p 0x008) 0 = true →
      Runs (.pageEnable mid p false) s fun t => bit (t.rd p 0x008) 0 = false ∧ t.linkUp p = false) ∧
    (∀ (g : PageKey) (mid : Mid) (off : Nat) (v : Reg), off = 0x100 ∨ off = 0x104 ∨ off = 0x108 →
      Admitted s mid g off → s.fastReady g = true →
      (pageType g = some .npg → Runs (.portModeChange mid g off v) s fun t =>
        ∀ k, 1 ≤ k → k ≤ 8 → t.linkUp (g + k) = false) ∧
      (pageType g = some .peer → Runs (.portModeChange mid g off v) s fun t => t.linkUp (g + 3) = false))) ∧
  (∀ (s : State) (p : PageKey), MacOpen s p →
    (∀ (b fcs : List Byte), fcs.length = 4 → fcs ≠ fcsBytes b → 60 ≤ b.length → b.length + 4 ≤ s.frFld p 0x100 0 14 →
      Runs (.frameReceive p .whole (b ++ fcs)) s fun t =>
        t.ctr p 0x03 = s.ctr p 0x03 + 1 ∧ t.ctr p 0x04 = s.ctr p 0x04 + 1 ∧ t.ctr p 0x00 = s.ctr p 0x00 ∧
        t.ctr p 0x02 = s.ctr p 0x02 + BitVec.ofNat 48 (b.length + 4) ∧ t.fifos = s.fifos ∧ t.bufs = s.bufs) ∧
    (∀ b : List Byte, 60 ≤ b.length → b.length + 4 ≤ s.frFld p 0x100 0 14 → beAt b 12 2 ≠ 0x8808 →
      s.macFilter p (beAt b 0 6) = true → Runs (.frameReceive p .whole (b ++ fcsBytes b)) s fun t =>
        t.ctr p 0x03 = s.ctr p 0x03 + 1 ∧ t.ctr p 0x00 = s.ctr p 0x00 + 1 ∧ t.ctr p 0x04 = s.ctr p 0x04 ∧
        t.ctr p 0x01 = s.ctr p 0x01 + BitVec.ofNat 48 (b.length + 4)) ∧
    (∀ b : List Byte, 60 ≤ b.length → b.length + 4 ≤ s.frFld p 0x100 0 14 → beAt b 12 2 ≠ 0x8808 →
      s.macFilter p (beAt b 0 6) = false → Runs (.frameReceive p .whole (b ++ fcsBytes b)) s fun t =>
        t.ctr p 0x17 = s.ctr p 0x17 + 1 ∧ t.ctr p 0x00 = s.ctr p 0x00 ∧ t.fifos = s.fifos) ∧
    (∀ (symbols blocks : Nat) (ue : Bool), s.linkAllowed p = true →
      Runs (.fecCodewordReceive p symbols ue blocks) s fun t =>
        t.ctr p 0x21 = s.ctr p 0x21 + (if ue then 1 else 0) ∧
        t.ctr p 0x20 = s.ctr p 0x20 + (if ue ∨ symbols = 0 then 0 else 1) ∧
        t.ctr p 0x22 = s.ctr p 0x22 + (if ue then 0 else BitVec.ofNat 48 symbols) ∧
        t.ctr p 0x23 = s.ctr p 0x23 + BitVec.ofNat 48 blocks ∧ t.mem = s.mem) ∧
    (∀ e : Entry, tabFind s.sel ((macOutlet p).1 * 256 + (macOutlet p).2) = some e → e.enc = [] → e.dec = none →
      e.tsMode = 0 → e.bad = false → s.bufBad e.buf = false → (padTo e.bytes 60).length + 4 ≤ s.frFld p 0x100 0 14 →
      Runs (.macTransmit p) s fun t =>
        .frame p (padTo e.bytes 60 ++ fcsBytes (padTo e.bytes 60)) true ∈ t.out ∧
        tabFind t.sel ((macOutlet p).1 * 256 + (macOutlet p).2) = none))

/-- Package time (R94, R97). GO of a step reads 1 until the step is applied. At a whole microsecond a requested step is
added to package time. A rate beyond 1,000 ppm is clamped and RATE_LIMIT set. PPS_OUT rises at a whole second, and an
edge on PPS_IN is timestamped. That a command that is not due leaves the state as it is is the model's choice (log
entry 2). -/
def Obligations.PackageTimeRows : Prop :=
  ∀ (s : State) (mid : Mid),
    (Admitted s mid ptimePage 0x118 → Runs (.ptimeStepGo mid) s fun t =>
      bit (t.rd ptimePage 0x118) 0 = true ∧ t.ptime = s.ptime ∧ OnlyRegs s t ∧
      RegsBut [rkey ptimePage 0x118, rkey ptimePage 0x030, rkey ptimePage 0x034] s t) ∧
    (bit (s.rd ptimePage 0x118) 0 = true → s.ptime.toNat % 1000 = 0 → Runs .ptimeStepApply s fun t =>
      t.ptime = s.ptime + BitVec.ofNat 64 (s.rd64 ptimePage 0x110) ∧ bit (t.rd ptimePage 0x118) 0 = false ∧
      RegsBut [rkey ptimePage 0x118] s t ∧ t = { s with regs := t.regs, ptime := t.ptime }) ∧
    (s.ptime.toNat % 1000 ≠ 0 → Runs .ptimeStepApply s (· = s)) ∧
    (∀ v : Reg, Admitted s mid ptimePage 0x108 → Runs (.ptimeRate mid v) s fun t =>
      (t.rd ptimePage 0x108).toInt = max (-1000000000) (min 1000000000 v.toInt) ∧
      bit (t.rd ptimePage 0x11C) 0 = decide (v.toInt < -1000000000 ∨ 1000000000 < v.toInt) ∧ OnlyRegs s t ∧
      RegsBut [rkey ptimePage 0x108, rkey ptimePage 0x11C, rkey ptimePage 0x030, rkey ptimePage 0x034] s t) ∧
    (bit (s.fr ptimePage 0x128) 31 = true → s.ptime.toNat % 1000000000 = 0 → s.pins.ppsOut = false →
      s.pins.hiZ = false → Runs .ppsOutPulse s fun t =>
        t.pins.ppsOut = true ∧ t.pins.ppsAt = s.ptime ∧ .pin "PPS_OUT" 0 true ∈ t.out ∧ t.regs = s.regs) ∧
    Runs .ppsInEdge s fun t =>
      t.rd64 ptimePage 0x120 = s.ptime.toNat ∧ bit (t.rd ptimePage 0x010) 0 = true ∧ OnlyRegs s t ∧
      RegsBut [rkey ptimePage 0x120, rkey ptimePage 0x124, rkey ptimePage 0x010] s t

/-! ### The Areano Peer Link -/

/-- Peer port `q` in APL mode with its link and APL up, its page's counters at work. -/
abbrev AplUp (s : State) (q : Nat) : Prop := s.aplLive q = true ∧ s.aplSt q = 2

/-- Sequence, acknowledgement and replay (R98, R99, R100, R109, R110, R111). A DATA frame with SEQ = NEXT advances NEXT
mod 4,096 and is acknowledged; a duplicate is acknowledged and changes nothing; any other sends NAK with NEXT − 1, once
until a frame is accepted. An ACK frees the held frames up to ACK_SEQ and restarts the replay count; one outside them
is counted. A NAK and the replay timer resend every held frame; the timer's resends are counted toward REPLAY_MAX. A
DATA frame that starts takes the next SEQ and is held. Bring-up and credits (R101, R107, R108, R112, R113). INIT frames
go out in bring-up; one with VERSION 1 and a sufficient MAX_TLU is valid, and a side that has sent and received
PEER_SEEN is up and sends CREDIT at once. An INIT of another version keeps bring-up and sets VERSION_MISMATCH. CREDIT
sets the limits of the classes. When APL goes down sequences and credits start over, and with the PHY up bring-up
starts again. Which class goes first when several wait is the command's operand (log entry 13). -/
def Obligations.AplRows : Prop :=
  (∀ (s : State) (q : Fin 16), AplUp s q →
    (∀ (cls : Fin 8) (body : List Byte), cls.val ≤ 1 ∨ cls.val = 4 → aplBodyOk cls body = true → (s.apl q).next < 4096 →
      Runs (.data q (BitVec.ofNat 12 (s.apl q).next) cls body) s fun t =>
        (t.apl q).next = ((s.apl q).next + 1) % 4096 ∧ (t.apl q).nakSent = false ∧
        .apl q (aplWire (aplHdr 2 0 (s.apl q).next 1 0 0) []) ∈ t.out ∧
        t.ctr (aplPage q) 0x01 = s.ctr (aplPage q) 0x01 + 1) ∧
    (∀ (seq : BitVec 12) (cls : Fin 8) (body : List Byte), cls.val ≤ 4 → aplBodyOk cls body = true →
      (s.apl q).next < 4096 → seq.toNat ≠ (s.apl q).next →
      ((s.apl q).next + 4096 - seq.toNat) % 4096 ≤ 2048 → Runs (.data q seq cls body) s fun t =>
        t = s.emit (.apl q (aplWire (aplHdr 2 0 (s.apl q).ackSeq 1 0 0) []))) ∧
    (∀ (seq : BitVec 12) (cls : Fin 8) (body : List Byte), cls.val ≤ 4 → aplBodyOk cls body = true →
      2048 < ((s.apl q).next + 4096 - seq.toNat) % 4096 → Runs (.data q seq cls body) s fun t =>
        (t.apl q).next = (s.apl q).next ∧ (t.apl q).nakSent = true ∧ t.fifos = s.fifos ∧ t.mem = s.mem ∧
        ((s.apl q).nakSent = true → t = s) ∧
        ((s.apl q).nakSent = false → .apl q (aplWire (aplHdr 3 0 (s.apl q).ackSeq 1 0 0) []) ∈ t.out)) ∧
    (∀ (a b : List (Nat × List Byte)) (w : List Byte) (ack : BitVec 12), (s.apl q).held = a ++ (ack.toNat, w) :: b →
      (∀ h ∈ a, h.1 ≠ ack.toNat) →
      (Runs (.ack q ack) s fun t => (t.apl q).held = b ∧ (t.apl q).replays = 0 ∧ (t.apl q).timer = s.clk ∧
        t = { s with apls := t.apls }) ∧
      (0 < s.frFld (aplPage q) 0x100 0 4 → Runs (.nak q ack) s fun t =>
        (t.apl q).held = b ∧ (t.apl q).replays = 0 ∧ (∀ h ∈ b, .apl q h.2 ∈ t.out) ∧
        t.ctr (aplPage q) 0x04 = s.ctr (aplPage q) 0x04 + 1)) ∧
    (∀ ack : BitVec 12, (∀ h ∈ (s.apl q).held, h.1 ≠ ack.toNat) → Runs (.ack q ack) s fun t =>
      t.apls = s.apls ∧ t.ctr (aplPage q) 0x0C = s.ctr (aplPage q) 0x0C + 1) ∧
    (∀ ack : BitVec 12, exec (.aplFrameReceive q 0xA7 (aplWire (aplHdr 2 0 ack.toNat 1 0 0) [])) s = exec (.ack q ack) s) ∧
    (∀ b : List Byte, b.length < 12 → Runs (.aplFrameReceive q 0xA7 b) s fun t =>
      t.ctr (aplPage q) 0x02 = s.ctr (aplPage q) 0x02 + 1 ∧ (t.apl q).next = (s.apl q).next ∧ t.fifos = s.fifos) ∧
    ((s.apl q).held ≠ [] → s.frFld (aplPage q) 0x100 16 8 * 1000 ≤ s.clk - (s.apl q).timer →
      (s.apl q).replays + 1 < s.frFld (aplPage q) 0x100 0 4 → Runs (.aplReplayTimeout q) s fun t =>
        (t.apl q).held = (s.apl q).held ∧ (t.apl q).replays = (s.apl q).replays + 1 ∧
        (∀ h ∈ (s.apl q).held, .apl q h.2 ∈ t.out) ∧ t.aplSt q = 2) ∧
    ((s.apl q).held ≠ [] → s.frFld (aplPage q) 0x100 16 8 * 1000 ≤ s.clk - (s.apl q).timer →
      s.frFld (aplPage q) 0x100 0 4 ≤ (s.apl q).replays + 1 → Runs (.aplReplayTimeout q) s fun t =>
        t.aplSt q = 1 ∧ t.apl q = {}) ∧
    (∀ (cls : Fin 5) (u : Nat × List Byte), 2 ≤ cls.val → (∀ r ∈ s.winReqs, r.peer ≠ q) → s.isFenced (aplPage q) = false →
      (s.apl q).sendq.find? (fun u => u.1 == cls.val) = some u → (s.apl q).roomFor cls u.2.length = true →
      Runs (.aplDataSend q cls) s fun t =>
        (t.apl q).txSeq = ((s.apl q).txSeq + 1) % 4096 ∧
        (t.apl q).held = (s.apl q).held ++ [((s.apl q).txSeq,
          aplWire (aplHdr 1 (s.apl q).txSeq (s.apl q).ackSeq 1 cls u.2.length) u.2)] ∧
        (t.apl q).sendq = (s.apl q).sendq.erase u)) ∧
  (∀ (s : State) (q : Fin 16), s.aplLive q = true →
    (s.aplSt q = 1 → Runs (.aplInitTick q) s fun t =>
      (∃ w, .apl q w ∈ t.out) ∧
      ((s.apl q).gotInit = true → (t.apl q).sentSeen = true) ∧
      ((s.apl q).gotInit = true → (s.apl q).gotSeen = true → t.aplSt q = 2 ∧ bit (t.rd (aplPage q) 0x010) 0 = true) ∧
      ((s.apl q).gotSeen = false → t.aplSt q = 1)) ∧
    (∀ (id : BitVec 24) (seen : Bool) (tlu : BitVec 16), s.aplSt q = 1 → 4112 ≤ tlu.toNat →
      Runs (.init q (beBytes 8 (2 ^ 56 + (if seen then 2 ^ 55 else 0) + id.toNat * 2 ^ 24 + tlu.toNat))) s fun t =>
        (t.apl q).gotInit = true ∧ (t.apl q).maxTlu = tlu.toNat ∧
        fld (t.rd (aplPage q) 0x10C) 0 24 = id.toNat ∧ fld (t.rd (aplPage q) 0x10C) 24 8 = 1 ∧
        (seen = true → (s.apl q).sentSeen = true → t.aplSt q = 2) ∧
        ((s.apl q).sentSeen = false → t.aplSt q = 1)) ∧
    (∀ (ver : BitVec 8) (low : Nat), s.aplSt q = 1 → ver ≠ 1 → low < 2 ^ 56 →
      Runs (.init q (beBytes 8 (ver.toNat * 2 ^ 56 + low))) s fun t =>
        t.aplSt q = 1 ∧ bit (t.rd (aplPage q) 0x010) 1 = true ∧ t.apl q = s.apl q ∧
        t.ctr (aplPage q) 0x0D = s.ctr (aplPage q) 0x0D + 1) ∧
    (∀ body : List Byte, s.aplSt q = 2 → body.length = 32 → Runs (.credit q body) s fun t =>
      (t.apl q).gotCredit = true ∧ (t.apl q).hdrLim = (List.range 4).map (fun i => natField (beAt body (8 * i) 8) 48 12) ∧
      (t.apl q).dataLim = (List.range 4).map (fun i => natField (beAt body (8 * i) 8) 0 20) ∧
      (t.apl q).held = (s.apl q).held ∧ t = { s with apls := t.apls }) ∧
    (s.aplSt q = 2 → Runs (.aplCreditTick q) s fun t =>
      .apl q (aplWire (aplHdr 4 0 0 0 0 32) (creditBody (s.apl q))) ∈ t.out ∧ (t.apl q).lastCredit = s.clk) ∧
    (s.aplSt q ≠ 0 → Runs (.aplDown q) s fun t =>
      t.aplSt q = 1 ∧ t.apl q = {} ∧ (∀ r ∈ t.winReqs, r.peer ≠ q.val)))

/-- Memory traffic of a peer card (R103, R104, R105, R113, R297). A write with a valid translation into device memory
stores its bytes there and nothing else; a request without one counts in 0x0A, sets INBOUND_UR and stores nothing, and
a read gets a CPL with STATUS 1. A CPL gives its reader the data of the read in order; one for an unknown or quarantined
tag counts in 0x09. A read that times out ends as such, and its tag stays quarantined for twice APL_CPL_TO. -/
def Obligations.AplMemory : Prop :=
  ∀ (s : State) (q : Fin 16), AplUp s q →
    (∀ (addr : BitVec 64) (data : List Byte) (b a : Nat) (c : Reg), s.winTranslate q addr.toNat data.length true = some (b, c, a) →
      bit c 28 = true → Runs (.mwr q addr data) s fun t =>
        (∀ i, i < data.length → t.byte (hbmBase (fld c 0 2) + a + i) = data.getD i 0) ∧
        (∀ x, x < hbmBase (fld c 0 2) + a ∨ hbmBase (fld c 0 2) + a + data.length ≤ x → t.byte x = s.byte x) ∧
        t = { s with mem := t.mem }) ∧
    (∀ (addr : BitVec 64) (data : List Byte), s.winTranslate q addr.toNat data.length true = none →
      s.winTdiError q addr.toNat = none → Runs (.mwr q addr data) s fun t =>
        t.ctr (aplPage q) 0x0A = s.ctr (aplPage q) 0x0A + 1 ∧ bit (t.rd (aplPage q) 0x010) 3 = true ∧ t.mem = s.mem) ∧
    (∀ (tag : BitVec 10) (addr : BitVec 64) (len : BitVec 13), s.winTranslate q addr.toNat len.toNat false = none →
      s.winTdiError q addr.toNat = none → Runs (.mrd q tag addr len) s fun t =>
        t.ctr (aplPage q) 0x0A = s.ctr (aplPage q) 0x0A + 1 ∧ t.winReqs = s.winReqs ∧
        (t.apl q).sendq = (s.apl q).sendq ++ [(4, tluHdr 4 tag.toNat 1 0 0)]) ∧
    (∀ (tag : BitVec 10) (addr : BitVec 64) (len : BitVec 13) (b a : Nat) (c : Reg),
      s.winTranslate q addr.toNat len.toNat false = some (b, c, a) → bit c 28 = true → 0 < len.toNat →
      addr.toNat % 512 + len.toNat ≤ 512 → Runs (.mrd q tag addr len) s fun t =>
        (t.apl q).sendq = (s.apl q).sendq ++
          [(4, tluHdr 4 tag.toNat 0 len.toNat 0 ++ s.bytes (hbmBase (fld c 0 2) + a) len.toNat)] ∧ t.mem = s.mem) ∧
    (∀ (tag : BitVec 10) (r : AplRead) (data : List Byte), tabFind s.aplReads (q * 1024 + tag.toNat) = some r →
      r.quar = none →
      (Runs (.cpl q tag 0 0 data) s fun t =>
        t = { s with aplReads := tabErase s.aplReads (q * 1024 + tag.toNat),
                     arrived := s.arrived ++ [{ client := r.who, status := 0, data := r.got ++ data }] }) ∧
      (∀ n, 0 < n → Runs (.cpl q tag 0 n data) s fun t =>
        tabFind t.aplReads (q * 1024 + tag.toNat) = some { r with got := r.got ++ data } ∧ t.arrived = s.arrived) ∧
      (s.frFld (aplPage q) 0x104 0 16 * 1000 ≤ s.clk - r.at_ → Runs (.aplMrdTimeout q tag) s fun t =>
        tabFind t.aplReads (q * 1024 + tag.toNat) = some { r with quar := some s.clk } ∧
        t.arrived = s.arrived ++ [{ client := r.who, status := 2, data := [] }])) ∧
    (∀ (tag : BitVec 10) (status : BitVec 4) (n : Nat) (data : List Byte),
      (∀ r, tabFind s.aplReads (q * 1024 + tag.toNat) = some r → r.quar.isSome = true) →
      Runs (.cpl q tag status n data) s fun t =>
        t.ctr (aplPage q) 0x09 = s.ctr (aplPage q) 0x09 + 1 ∧ bit (t.rd (aplPage q) 0x010) 2 = true ∧
        t.arrived = s.arrived ∧ t.aplReads = s.aplReads) ∧
    (∀ (tag : BitVec 10) (r : AplRead) (since : Ns), tabFind s.aplReads (q * 1024 + tag.toNat) = some r → r.quar = some since →
      2 * s.frFld (aplPage q) 0x104 0 16 * 1000 ≤ s.clk - since → Runs (.aplTagQuarantineEnd q tag) s fun t =>
        t = { s with aplReads := tabErase s.aplReads (q * 1024 + tag.toNat) })

/-! ### Pipelines -/

/-- Classification stores (R130–R133). A WRITE to a bank that is not locked stores the rule of the data registers at
the index; one to a locked bank is refused with WRITE_REFUSED and its interrupt, and stores nothing; a READ loads the
data registers. A selector of an unlocked bank takes effect. GO of a swap makes the other bank active where the last
swap is DONE, and is refused otherwise; DONE follows when no header of the old bank is left. That a command that is not
due leaves the state as it is is the model's choice (log entry 2). -/
def Obligations.ClassifierRows : Prop :=
  ∀ (s : State) (mid : Mid) (r : Fin 16), s.fastReady (clsPage r) = true →
    (∀ valid : Bool, Admitted s mid (clsPage r) 0x110 → bit (s.rd (clsPage r) 0x110) 31 = false →
      s.bankLocked r (s.rdFld (clsPage r) 0x10C 17 1) = false → Runs (.clsRuleWrite mid r valid) s fun t =>
        tabGet {} t.rules (ruleKey r (s.frFld (clsPage r) 0x10C 17 1) (s.frFld (clsPage r) 0x10C 0 17)) =
          { value := s.frBytes (clsPage r) 0x120 10, mask := s.frBytes (clsPage r) 0x150 10, valid := valid,
            result := s.fr (clsPage r) 0x180 } ∧
        (∀ k, k ≠ ruleKey r (s.frFld (clsPage r) 0x10C 17 1) (s.frFld (clsPage r) 0x10C 0 17) →
          tabGet {} t.rules k = tabGet {} s.rules k) ∧
        t = { s with regs := t.regs, fast := t.fast, rules := t.rules }) ∧
    (∀ valid : Bool, Admitted s mid (clsPage r) 0x110 → s.bankLocked r (s.rdFld (clsPage r) 0x10C 17 1) = true →
      Runs (.clsRuleWrite mid r valid) s fun t =>
        t.rules = s.rules ∧ bit (t.rd (clsPage r) 0x110) 30 = true ∧ bit (t.rd (clsPage r) 0x010) 1 = true ∧
        t.mem = s.mem) ∧
    (Admitted s mid (clsPage r) 0x110 → bit (s.rd (clsPage r) 0x110) 31 = false → Runs (.clsRuleRead mid r) s fun t =>
      t.fr (clsPage r) 0x180 = (tabGet {} s.rules
        (ruleKey r (s.frFld (clsPage r) 0x10C 17 1) (s.frFld (clsPage r) 0x10C 0 17))).result ∧
      bit (t.rd (clsPage r) 0x110) 2 = (tabGet {} s.rules
        (ruleKey r (s.frFld (clsPage r) 0x10C 17 1) (s.frFld (clsPage r) 0x10C 0 17))).valid ∧
      bit (t.rd (clsPage r) 0x110) 31 = false ∧ t = { s with regs := t.regs, fast := t.fast }) ∧
    (∀ (bank : Fin 2) (prof : Fin 16) (i : Fin 10) (v : Reg),
      Admitted s mid (clsPage r) (0x400 + 0x400 * bank.val + 0x40 * prof.val + 4 * i.val) →
      s.bankLocked r bank = false → Runs (.clsProfWrite mid r bank prof i v) s fun t =>
        t.fr (clsPage r) (0x400 + 0x400 * bank.val + 0x40 * prof.val + 4 * i.val) =
          t.rd (clsPage r) (0x400 + 0x400 * bank.val + 0x40 * prof.val + 4 * i.val) ∧
        t.rules = s.rules ∧ t.mem = s.mem) ∧
    (Admitted s mid (clsPage r) 0x104 → bit (s.rd (clsPage r) 0x108) 31 = true → Runs (.clsSwap mid r) s fun t =>
      t.rd (clsPage r) 0x100 = BitVec.ofNat 32 (1 - s.rdFld (clsPage r) 0x100 0 1) ∧
      (tabGet {} t.clsSt r).old = some (s.rdFld (clsPage r) 0x100 0 1) ∧
      bit (t.rd (clsPage r) 0x108) 31 = false ∧ bit (t.rd (clsPage r) 0x108) 30 = true ∧ t.rules = s.rules) ∧
    (Admitted s mid (clsPage r) 0x104 → bit (s.rd (clsPage r) 0x108) 31 = false → Runs (.clsSwap mid r) s fun t =>
      bit (t.rd (clsPage r) 0x108) 29 = true ∧ t.clsSt = s.clsSt ∧ t.rd (clsPage r) 0x100 = s.rd (clsPage r) 0x100) ∧
    (∀ b : Nat, (tabGet {} s.clsSt r).old = some b →
      (s.stamped r b = 0 → Runs (.swapDone r) s fun t =>
        bit (t.rd (clsPage r) 0x108) 31 = true ∧ bit (t.rd (clsPage r) 0x108) 30 = false ∧
        (tabGet {} t.clsSt r).old = none ∧ bit (t.rd (clsPage r) 0x010) 0 = true) ∧
      (s.stamped r b ≠ 0 → Runs (.swapDone r) s (· = s)))

/-- Action sets, templates and the counter cache (R196, R199, R202, R207). A WRITE replaces the entry that INDEX names
by the data registers and leaves every other; a READ loads the data registers; template line 0 holds none. A write-back
adds the pair's packets and octets to its 16 bytes in HBM3E, changes no other byte, and empties the pair; a flush leaves
no pair of its region in the cache. -/
def Obligations.StoreRows : Prop :=
  ∀ (s : State) (mid : Mid) (p : Fin 64), s.fastReady (pipeKey p) = true →
    (Admitted s mid (pipeKey p) 0x134 → bit (s.rd (pipeKey p) 0x134) 31 = false →
      (Runs (.pipeAsWrite mid p) s fun t =>
        padTo (tabGet [] t.asets (p.val / 4 * 16384 + s.frFld (pipeKey p) 0x130 0 14)) 32 = s.frBytes (pipeKey p) 0x140 8 ∧
        (∀ k, k ≠ p.val / 4 * 16384 + s.frFld (pipeKey p) 0x130 0 14 → tabGet [] t.asets k = tabGet [] s.asets k) ∧
        t = { s with regs := t.regs, fast := t.fast, asets := t.asets }) ∧
      (Runs (.pipeAsRead mid p) s fun t =>
        ((tabGet [] s.asets (p.val / 4 * 16384 + s.frFld (pipeKey p) 0x130 0 14)).length ≤ 32 → ∀ i, i < 8 →
          (t.fr (pipeKey p) (0x140 + 4 * i)).toNat =
            leAt (tabGet [] s.asets (p.val / 4 * 16384 + s.frFld (pipeKey p) 0x130 0 14)) (4 * i) 4) ∧
        bit (t.rd (pipeKey p) 0x134) 31 = false ∧ t = { s with regs := t.regs, fast := t.fast })) ∧
    (Admitted s mid (pipeKey p) 0x164 → bit (s.rd (pipeKey p) 0x164) 31 = false →
      (Runs (.pipeTplWrite mid p) s fun t =>
        (s.frFld (pipeKey p) 0x160 0 13 ≠ 0 →
          padTo (tabGet [] t.tpls (p.val / 4 * 8192 + s.frFld (pipeKey p) 0x160 0 13)) 64 = s.frBytes (pipeKey p) 0x180 16) ∧
        (s.frFld (pipeKey p) 0x160 0 13 = 0 → t.tpls = s.tpls) ∧
        (∀ k, k ≠ p.val / 4 * 8192 + s.frFld (pipeKey p) 0x160 0 13 → tabGet [] t.tpls k = tabGet [] s.tpls k) ∧
        t = { s with regs := t.regs, fast := t.fast, tpls := t.tpls }) ∧
      (Runs (.pipeTplRead mid p) s fun t => t = { s with regs := t.regs, fast := t.fast } ∧
        bit (t.rd (pipeKey p) 0x164) 31 = false)) ∧
    (Admitted s mid (pipeKey p) 0x128 → Runs (.pipeCntFlush mid p) s fun t =>
      (∀ e ∈ t.cnts, e.1 / 2 ^ 22 ≠ p.val / 4) ∧ (∀ e ∈ s.cnts, e.1 / 2 ^ 22 ≠ p.val / 4 → e ∈ t.cnts) ∧
      t.rd (pipeKey p) 0x128 = 0) ∧
    (∀ (r : Fin 16) (pair : BitVec 22) (c : CntPair), tabFind s.cnts (r.val * 2 ^ 22 + pair.toNat) = some c →
      Runs (.counterWriteback r pair) s fun t =>
        let a := hbmBase (r.val / 4) + s.frFld (pipePage r 0) 0x120 0 24 * 4096 + 16 * pair.toNat
        leAt (t.bytes a 16) 0 8 = (leAt (s.bytes a 16) 0 8 + c.packets) % 2 ^ 64 ∧
        leAt (t.bytes a 16) 8 8 = (leAt (s.bytes a 16) 8 8 + c.octets) % 2 ^ 64 ∧
        (∀ x, x < a ∨ a + 16 ≤ x → t.byte x = s.byte x) ∧
        tabFind t.cnts (r.val * 2 ^ 22 + pair.toNat) = none ∧ t = { s with mem := t.mem, cnts := t.cnts })

/-- Spreading (R119, R120, R121, R135, R138). The oldest ordered frame of a source receives the sequence's next ferry
number, its number stays unresolved, and it goes to a pipeline of the region; at a full window spreading pauses and
counts once. An express frame goes to the pinned pipeline without a number. The oldest unresolved frame that has waited
FERRY_TO_US receives a forced hole, which is counted, and its number no longer holds W. That a command that is not due
leaves the state as it is is the model's choice (log entry 2). -/
def Obligations.SpreadRows : Prop :=
  ∀ (s : State) (src : Nat), src < 512 →
    (∀ (f : Frame) (fs : List Frame) (p : Nat) (ps : List Nat), (s.fifo src).ord = f :: fs → (s.seq src).above < 8192 →
      s.openPipes (src / 32) = p :: ps → Runs (.spread src) s fun t =>
        (t.fifo src).ord = fs ∧ (t.fifo src).exp = (s.fifo src).exp ∧
        t.hdrs = s.hdrs ++ [{ pipe := (p :: ps).getD (((s.seq src).next + src % 32) % (p :: ps).length) p,
                              frame := f, seq := some src, ferry := (s.seq src).next }] ∧
        (t.seq src).next = ((s.seq src).next + 1) % 65536 ∧ (t.seq src).w = (s.seq src).w ∧
        (t.seq src).unres.length = (s.seq src).unres.length + 1 ∧ t.mem = s.mem ∧ t.bufs = s.bufs) ∧
    (∀ (f : Frame) (fs : List Frame), (s.fifo src).ord = f :: fs → 8192 ≤ (s.seq src).above →
      Runs (.spread src) s fun t =>
        t.fifos = s.fifos ∧ t.hdrs = s.hdrs ∧ (t.seq src).paused = true ∧
        ((s.seq src).paused = true → t = s) ∧
        ((s.seq src).paused = false → t.ctr (diePage (src / 128) 6) 0x03 = s.ctr (diePage (src / 128) 6) 0x03 + 1)) ∧
    ((s.fifo src).ord = [] → Runs (.spread src) s (· = s)) ∧
    (∀ (f : Frame) (fs : List Frame) (p : Nat), (s.fifo src).exp = f :: fs → s.pinnedPipe src = some p →
      Runs (.expressSpread src) s fun t =>
        (t.fifo src).exp = fs ∧ (t.fifo src).ord = (s.fifo src).ord ∧
        t.hdrs = s.hdrs ++ [{ pipe := p, frame := f, seq := none }] ∧ t.seqs = s.seqs ∧ t.mem = s.mem) ∧
    (∀ (o : OpenF) (us : List OpenF), (s.seq src).unres = o :: us →
      s.frFld (diePage (src / 128) 6) 0x100 0 16 * 1000 ≤ s.clk - max o.at_ (s.seq src).wAt →
      Runs (.forcedHole src) s fun t =>
        o.f ∈ (t.seq src).late ∧ (t.seq src).unres = us ∧ (t.seq src).next = (s.seq src).next ∧
        t.ctr (diePage (src / 128) 6) 0x00 = s.ctr (diePage (src / 128) 6) 0x00 + 1) ∧
    (∀ (o : OpenF) (us : List OpenF), (s.seq src).unres = o :: us →
      s.clk - max o.at_ (s.seq src).wAt < s.frFld (diePage (src / 128) 6) 0x100 0 16 * 1000 →
      Runs (.forcedHole src) s (· = s))

/-- A pass that has asked for nothing yet: its destination is 0. -/
abbrev BarePass (x : PassSt) : Prop := x = { prv := x.prv, parsed := x.parsed, head := x.head } ∧ x.at_ 108 4 = 0

/-- Every stage of a pipeline is off and runs no action set on a miss. -/
abbrev StagesOff (s : State) (g : PageKey) : Prop :=
  ∀ st, st < 12 → bit (s.fr g (0x200 + 0x10 * st)) 31 = false ∧ bit (s.fr g (0x200 + 0x10 * st)) 30 = false ∧
    s.frFld g (0x204 + 0x10 * st) 0 24 = 0

/-- Passes (R121, R124, R184, R185, R191, R201, R230, R231). A pipeline with nothing ready, and one that is not at
work, does nothing. The header that starts is counted; a malformed one under a DROP profile is counted by its cause and
ends. A frame that passes the stages without a destination ends and sends nothing. A far reply resumes its header
before 880 ns, and from then on it is a miss that sets LOOKUP_TIMEOUT. A good verdict moves its context's window, and a
failed one counts as a tag failure. That a command that is not due leaves the state as it is is the model's choice (log
entry 2). -/
def Obligations.PassRows : Prop :=
  ∀ (s : State) (p : Fin 64),
    (s.pipeOn p = false ∨ s.nextHdr p = none → Runs (.pipelinePass p) s (· = s)) ∧
    (∀ (i : Nat) (h : Hdr) (q : Parsed), s.pipeOn p = true → s.nextHdr p = some i → s.hdrs[i]? = some h → h.seq = none →
      q = parseFrame { s.parseCfg (pipeKey h.pipe) with csum := some (if h.pass = 0 then h.frame.csum else 0) }
        (h.bytes.getD (s.bufBytes h.frame.buf)) →
      (q.malf ≠ 0 → q.malf < 16 → s.frFld (pipeKey h.pipe) 0x108 (2 * q.malf - 2) 2 = 0 →
        Runs (.pipelinePass p) s fun t =>
          t.hdrs = s.hdrs.eraseIdx i ∧ t.ctr (pipeKey h.pipe) 0x10 = s.ctr (pipeKey h.pipe) 0x10 + 1 ∧
          t.ctr (pipeKey h.pipe) q.malf = s.ctr (pipeKey h.pipe) q.malf + 1 ∧ t.links = s.links ∧ t.queues = s.queues ∧
          t.mem = s.mem) ∧
      (q.malf = 0 → h.metab = [] → h.frame.tx = none → StagesOff s (pipeKey h.pipe) →
        Runs (.pipelinePass p) s fun t =>
          t.hdrs = s.hdrs.eraseIdx i ∧ t.ctr (pipeKey h.pipe) 0x10 = s.ctr (pipeKey h.pipe) 0x10 + 1 ∧
          t.links = s.links ∧ t.queues = s.queues ∧ t.chans = s.chans)) ∧
    (∀ k : Nat, (s.parked p)[k]? = none → Runs (.farResume p k) s (· = s) ∧ Runs (.farTimeout p k) s (· = s)) ∧
    (∀ (k i : Nat) (h : Hdr) (q : Park), (s.parked p)[k]? = some (i, h, q) → s.pipeOn p = true →
      (880 ≤ s.clk - q.since → Runs (.farResume p k) s (· = s)) ∧
      (s.clk - q.since < 880 → Runs (.farTimeout p k) s (· = s)) ∧
      (h.seq = none → h.frame.tx = none → h.pipe = p → q.stage = 11 → q.tern = none → BarePass q.pass →
        s.frFld (pipeKey p) 0x2B4 0 24 = 0 →
        (s.clk - q.since < 880 → q.reply = none → Runs (.farResume p k) s fun t =>
          t.hdrs = s.hdrs.eraseIdx i ∧ t.links = s.links ∧ t.queues = s.queues) ∧
        (880 ≤ s.clk - q.since → Runs (.farTimeout p k) s fun t =>
          t.hdrs = s.hdrs.eraseIdx i ∧ t.links = s.links ∧ t.queues = s.queues ∧
          bit (t.rd (pipeKey p) 0x010) 2 = true))) ∧
    ((s.hdrs.zipIdx.find? fun e => e.1.pipe == p.val && e.1.owed.isSome) = none → Runs (.tagVerdict p) s (· = s)) ∧
    (∀ (h : Hdr) (i : Nat) (x : PassSt) (k : Check),
      (s.hdrs.zipIdx.find? fun e => e.1.pipe == p.val && e.1.owed.isSome) = some (h, i) → h.owed = some x →
      h.checks = [k] → h.seq = none → BarePass x →
      (k.good = true → (s.ctx k.ctx).replayed k.number = false → Runs (.tagVerdict p) s fun t =>
        t.ctx k.ctx = (s.ctx k.ctx).accept k.number ∧ (∀ c, c ≠ k.ctx → t.ctx c = s.ctx c) ∧
        t.hdrs = s.hdrs.eraseIdx i ∧ t.links = s.links) ∧
      (k.good = false ∨ (s.ctx k.ctx).replayed k.number = true → Runs (.tagVerdict p) s fun t =>
        t.ctxs = s.ctxs ∧ t.ctr (ciphPage k.region) 0x01 = s.ctr (ciphPage k.region) 0x01 + 1 ∧
        t.hdrs = s.hdrs.eraseIdx i ∧ t.links = s.links))

/-- Landings (R136, R137). An entry that is ordered and above its watermark is held; an unordered one, an express one
and one at or below its watermark leave what is held. A watermark is the sequence's own from then on, and no entry of
the sequence that it covers stays held. That a command that is not due leaves the state as it is is the model's choice
(log entry 2). -/
def Obligations.LandingRows : Prop :=
  ∀ (s : State) (a d : Fin 4),
    (∀ (e : Entry) (ts : List Transit) (k : Nat), tabGet [] s.links (a.val * 4 + d.val) = .entry e :: ts → e.seq = some k →
      e.express = false → e.unordered = false →
      (atOrBelow e.ferry (s.landMark d k) = false → Runs (.landingEntryArrive a d) s fun t =>
        tabGet [] t.held d = tabGet [] s.held d ++ [e] ∧ tabGet [] t.links (a.val * 4 + d.val) = ts ∧
        t = { s with links := t.links, held := t.held }) ∧
      (atOrBelow e.ferry (s.landMark d k) = true → Runs (.landingEntryArrive a d) s fun t =>
        t.held = s.held ∧ t.landW = s.landW ∧ tabGet [] t.links (a.val * 4 + d.val) = ts ∧
        t.ctr (landPage d) 0x02 = s.ctr (landPage d) 0x02 + 1)) ∧
    (∀ (e : Entry) (ts : List Transit), tabGet [] s.links (a.val * 4 + d.val) = .entry e :: ts →
      e.seq = none ∨ e.express = true ∨ e.unordered = true → Runs (.landingEntryArrive a d) s fun t =>
        t.held = s.held ∧ t.landW = s.landW ∧ tabGet [] t.links (a.val * 4 + d.val) = ts) ∧
    (∀ (q w : Nat) (ts : List Transit), tabGet [] s.links (a.val * 4 + d.val) = .mark q w :: ts →
      Runs (.landingWatermarkArrive a d) s fun t =>
        t.landMark d q = w ∧ tabGet [] t.links (a.val * 4 + d.val) = ts ∧
        tabGet [] t.held d = (tabGet [] s.held d).filter (fun e => !(e.seq == some q && atOrBelow e.ferry w)) ∧
        t.ctr (landPage d) 0x02 = s.ctr (landPage d) 0x02 +
          BitVec.ofNat 48 ((tabGet [] s.held d).filter (fun e => e.seq == some q && atOrBelow e.ferry w)).length) ∧
    (tabGet [] s.links (a.val * 4 + d.val) = [] →
      Runs (.landingEntryArrive a d) s (· = s) ∧ Runs (.landingWatermarkArrive a d) s (· = s))

/-! ### Exact-match tables -/

/-- The oldest request of channel `n` of cluster `c` is a table command with opcode `op` of a thread under no lease,
which holds the lock of the table `t` of its region that the command names; the table is enabled. -/
abbrev TblAsk (s : State) (c : Fin 128) (n : Fin 64) (op : Nat) (q : Ureq) (cmd : List Byte) (t : Nat) : Prop :=
  s.request c n = some q ∧ s.kind c n = 3 ∧ q.words.length = 8 ∧ cmd = wordBytes q.words ∧ leAt cmd 0 1 = op ∧
    q.lease = none ∧ leAt cmd 4 1 < 32 ∧ t = c.val / 8 / 4 * 32 + leAt cmd 4 1 ∧ t / 8 = c.val / 8 ∧
    s.holdsTbl q.mid t = true ∧ bit (s.fr (tblPage t) (descOff t)) 31 = true

/-- The port answers the request with a reply of 64 bytes that `P` describes, and takes the request. -/
def TblReply (s t : State) (q : Ureq) (P : List Byte → Prop) : Prop :=
  t.ureqs = s.ureqs.erase q ∧ ∃ b, b.length = 64 ∧ P b ∧
    t.ureps = s.ureps ++ [{ cluster := q.cluster, chan := q.chan, words := bytesWords b, dead := q.dead }]

/-- No entry of any table has changed. -/
def TablesKept (s t : State) : Prop := t.near = s.near ∧ t.ovf = s.ovf ∧ t.mem = s.mem

/-- Mutations and reads at a table port (R147, R154, R160, R161, R163, R174). INSERT of a present key is EXISTS and of
an absent one takes the first free way of its first bucket, with the next generation; a full table is TABLE_FULL.
UPDATE and DELETE of an absent key are NOT_FOUND; UPDATE writes the entry's result in place and DELETE removes the
entry. UPSERT does the one or the other. A READ returns the entry. A command without the lock changes no entry and is
counted. -/
def Obligations.TablePortRows : Prop :=
  ∀ (s : State) (c : Fin 128) (n : Fin 64) (q : Ureq) (cmd : List Byte) (t : Nat), (s.geo t).far = false →
    (TblAsk s c n 1 q cmd t → s.findKey t (slice cmd 8 40) ≠ [] → Runs (.insert c n) s fun u =>
      TablesKept s u ∧ TblReply s u q fun b => leAt b 5 1 = 1) ∧
    (∀ (pl op : Nat), (op = 1 ∨ op = 3) → TblAsk s c n op q cmd t → s.findKey t (slice cmd 8 40) = [] → pl < ovfPlace →
      s.freeWay t (buckets (s.geo t) (s.keyOf t (slice cmd 8 40))).1 = some pl →
      Runs (if op = 1 then .insert c n else .upsert c n) s fun u =>
        (u.entAt t pl).key = s.keyOf t (slice cmd 8 40) ∧ (u.entAt t pl).result.toNat = leAt cmd 48 4 ∧
        (u.entAt t pl).data.toNat = leAt cmd 52 8 ∧
        (u.entAt t pl).ectl = BitVec.ofNat 32 (2 ^ 31 + ectlFlags (leAt cmd 1 1) + (s.tblGen t + 1) % 2 ^ 24) ∧
        u.tblGen t = (s.tblGen t + 1) % 2 ^ 24 ∧ u.ovf = s.ovf ∧ u.mem = s.mem ∧
        (∀ k, k ≠ nearKey t (s.geo t) pl → tabGet {} u.near k = tabGet {} s.near k) ∧
        TblReply s u q fun b => leAt b 5 1 = 0 ∧ leAt b 60 3 = (s.tblGen t + 1) % 2 ^ 24) ∧
    (TblAsk s c n 1 q cmd t → s.findKey t (slice cmd 8 40) = [] →
      s.freeWay t (buckets (s.geo t) (s.keyOf t (slice cmd 8 40))).1 = none →
      s.freeWay t (buckets (s.geo t) (s.keyOf t (slice cmd 8 40))).2 = none →
      s.movable t (buckets (s.geo t) (s.keyOf t (slice cmd 8 40))).1 (buckets (s.geo t) (s.keyOf t (slice cmd 8 40))).2 = none →
      s.freeOvf t = none → Runs (.insert c n) s fun u =>
        TablesKept s u ∧ bit (u.rd (tblPage t) 0x010) 3 = true ∧ TblReply s u q fun b => leAt b 5 1 = 3) ∧
    (TblAsk s c n 2 q cmd t → s.findKey t (slice cmd 8 40) = [] → Runs (.update c n) s fun u =>
      TablesKept s u ∧ TblReply s u q fun b => leAt b 5 1 = 2) ∧
    (∀ (pl op : Nat) (more : List Nat), (op = 2 ∨ op = 3) → TblAsk s c n op q cmd t →
      s.findKey t (slice cmd 8 40) = pl :: more → pl < ovfPlace →
      Runs (if op = 2 then .update c n else .upsert c n) s fun u =>
        (u.entAt t pl).key = (s.entAt t pl).key ∧ (u.entAt t pl).result.toNat = leAt cmd 48 4 ∧
        (u.entAt t pl).data.toNat = leAt cmd 52 8 ∧ (u.entAt t pl).gen = (s.tblGen t + 1) % 2 ^ 24 ∧
        u.ovf = s.ovf ∧ u.mem = s.mem ∧
        (∀ k, k ≠ nearKey t (s.geo t) pl → tabGet {} u.near k = tabGet {} s.near k) ∧
        TblReply s u q fun b => leAt b 5 1 = 0 ∧ leAt b 60 3 = (s.tblGen t + 1) % 2 ^ 24) ∧
    (TblAsk s c n 4 q cmd t → s.findKey t (slice cmd 8 40) = [] → Runs (.delete c n) s fun u =>
      TablesKept s u ∧ TblReply s u q fun b => leAt b 5 1 = 2) ∧
    (∀ (pl : Nat) (more : List Nat), TblAsk s c n 4 q cmd t → s.findKey t (slice cmd 8 40) = pl :: more → pl < ovfPlace →
      s.ovfPlaces t = [] → Runs (.delete c n) s fun u =>
        u.entAt t pl = {} ∧ u.tblGen t = (s.tblGen t + 1) % 2 ^ 24 ∧
        u.ctr (tblPage t) (16 * (t % 8) + 6) = s.ctr (tblPage t) (16 * (t % 8) + 6) + 1 ∧
        (∀ k, k ≠ nearKey t (s.geo t) pl → tabGet {} u.near k = tabGet {} s.near k) ∧ u.ovf = s.ovf ∧
        TblReply s u q fun b => leAt b 5 1 = 0) ∧
    (∀ (pl : Nat) (more : List Nat), TblAsk s c n 5 q cmd t → s.findKey t (slice cmd 8 40) = pl :: more →
      Runs (.tblRead c n) s fun u =>
        u = { s with ureqs := u.ureqs, ureps := u.ureps } ∧
        TblReply s u q fun b => leAt b 5 1 = 0 ∧ leAt b 48 4 = (s.entAt t pl).result.toNat ∧
          leAt b 52 8 = (s.entAt t pl).data.toNat ∧ leAt b 60 3 = (s.entAt t pl).gen) ∧
    (s.request c n = some q → s.kind c n = 3 → q.words.length = 8 → cmd = wordBytes q.words → leAt cmd 0 1 = 1 →
      q.lease = none → leAt cmd 4 1 < 32 → t = c.val / 8 / 4 * 32 + leAt cmd 4 1 → t / 8 = c.val / 8 →
      s.holdsTbl q.mid t = false → Runs (.insert c n) s fun u =>
        TablesKept s u ∧ u.ctr (tblPage t) 0x82 = s.ctr (tblPage t) 0x82 + 1 ∧ TblReply s u q fun b => leAt b 5 1 = 4)

/-- Walks, flushes and the lock at a table port (R50, R147, R163, R175, R177). A walk starts at bucket 0 where none
runs, and is WALK_BUSY otherwise; a delta walk from too old a generation is STALE_GEN. A flush removes a LEARNED entry
that is not PINNED. LOCK takes the free lock, and UNLOCK by the holder frees it. -/
def Obligations.TableWalkRows : Prop :=
  ∀ (s : State) (c : Fin 128) (n : Fin 64) (q : Ureq) (cmd : List Byte) (t : Nat),
    (∀ op : Nat, (op = 6 ∨ op = 7) → TblAsk s c n op q cmd t →
      (bit (s.rd (tblPage t) 0x124) 31 = true → Runs (if op = 6 then .walkFull c n else .walkDelta c n) s fun u =>
        u = { s with ureqs := u.ureqs, ureps := u.ureps } ∧ TblReply s u q fun b => leAt b 5 1 = 0x0B) ∧
      (bit (s.rd (tblPage t) 0x124) 31 = false →
        (op = 7 → (s.tblGen t + 2 ^ 24 - leAt cmd 60 3) % 2 ^ 24 ≤ 2 ^ 23) →
        Runs (if op = 6 then .walkFull c n else .walkDelta c n) s fun u =>
          bit (u.rd (tblPage t) 0x124) 31 = true ∧ bit (u.rd (tblPage t) 0x124) 29 = (op == 7) ∧
          fld (u.rd (tblPage t) 0x124) 24 3 = t % 8 ∧ u.rd (tblPage t) 0x128 = 0 ∧ u.near = s.near ∧ u.ovf = s.ovf ∧
          TblReply s u q fun b => leAt b 5 1 = 0)) ∧
    (TblAsk s c n 7 q cmd t → bit (s.rd (tblPage t) 0x124) 31 = false →
      2 ^ 23 < (s.tblGen t + 2 ^ 24 - leAt cmd 60 3) % 2 ^ 24 → Runs (.walkDelta c n) s fun u =>
        u = { s with ureqs := u.ureqs, ureps := u.ureps } ∧ TblReply s u q fun b => leAt b 5 1 = 7) ∧
    (TblAsk s c n 8 q cmd t → s.placesOf t = [] → Runs (.flushLearned c n) s fun u =>
      u = { s with ureqs := u.ureqs, ureps := u.ureps } ∧ TblReply s u q fun b => leAt b 5 1 = 0 ∧ leAt b 60 3 = s.tblGen t) ∧
    (∀ pl : Nat, TblAsk s c n 8 q cmd t → (s.geo t).far = false → s.placesOf t = [pl] → s.ovfPlaces t = [] → pl < ovfPlace →
      (s.entAt t pl).valid = true → (s.entAt t pl).learned = true → (s.entAt t pl).pinned = false →
      Runs (.flushLearned c n) s fun u =>
        u.entAt t pl = {} ∧ u.ctr (tblPage t) (16 * (t % 8) + 6) = s.ctr (tblPage t) (16 * (t % 8) + 6) + 1 ∧
        TblReply s u q fun b => leAt b 5 1 = 0 ∧ leAt b 60 3 = (s.tblGen t + 1) % 2 ^ 24) ∧
    (s.request c n = some q → s.kind c n = 3 → q.words.length = 8 → cmd = wordBytes q.words → q.lease = none →
      leAt cmd 4 1 < 32 → t = c.val / 8 / 4 * 32 + leAt cmd 4 1 → t / 8 = c.val / 8 →
      (leAt cmd 0 1 = 0x10 → fld (s.rd (tblPage t) 0x104) 30 2 = 0 → Runs (.tblPortLock c n) s fun u =>
        u.rd (tblPage t) 0x104 = 0x40000000 ||| q.mid.setWidth 32 ∧
        TblReply s u q fun b => leAt b 5 1 = 0 ∧ leAt b 8 4 = 0x40000000 + q.mid.toNat) ∧
      (leAt cmd 0 1 = 0x11 → s.holdsTbl q.mid t = true → leAt cmd 8 4 % 65536 = q.mid.toNat →
        Runs (.tblPortUnlock c n) s fun u =>
          u.rd (tblPage t) 0x104 = 0 ∧ TblReply s u q fun b => leAt b 5 1 = 0))

/-- Learning, aging and the learn ring (R157, R158, R169, R173, R175). A learned key enters the table with its source
and the flag LEARNED; a known learned one changes its source. Aging clears ACT, then sets IDLE, then removes an entry
that is neither STATIC nor PINNED where AGE_EN is set. A pass that is due starts, and a late one is counted. A stalled
ring stops; a restarted one starts over at 0; CONS lets a full one run on. That a command that is not due leaves the
state as it is is the model's choice (log entry 2). -/
def Obligations.LearnAgeRows : Prop :=
  ∀ (s : State) (r : Nat), r < 16 →
    (∀ (x : LearnReq) (more : List LearnReq), (s.learn r).queue = x :: more → x.slot < 8 →
      bit (s.fr (lrnPage r) 0x100) 31 = true → bit (s.fr (lrnPage r) 0x100) 30 = false → s.ringSt r ≠ 2 →
      s.isFenced (regPage r 0) = false →
      (s.tblLive (r * 8 + x.slot) = false → Runs (.learnExecute r) s fun t =>
        (t.learn r).queue = more ∧ TablesKept s t ∧ t.ctr (lrnPage r) 0x02 = s.ctr (lrnPage r) 0x02 + 1) ∧
      (∀ (pl : Nat) (ms : List Nat), s.tblLive (r * 8 + x.slot) = true →
        bit (s.fr (tblPage (r * 8 + x.slot)) (descOff (r * 8 + x.slot))) 26 = true →
        s.findKey (r * 8 + x.slot) x.key = pl :: ms → (s.geo (r * 8 + x.slot)).far = false → pl < ovfPlace →
        (s.entAt (r * 8 + x.slot) pl).static = false → (s.entAt (r * 8 + x.slot) pl).pinned = false →
        (s.entAt (r * 8 + x.slot) pl).learned = true → x.src < 65536 →
        natField (s.entAt (r * 8 + x.slot) pl).data.toNat 0 16 ≠ x.src → Runs (.learnExecute r) s fun t =>
          natField (t.entAt (r * 8 + x.slot) pl).data.toNat 0 16 = x.src ∧
          t.ctr (lrnPage r) 0x04 = s.ctr (lrnPage r) 0x04 + 1)) ∧
    ((s.learn r).queue = [] ∨ s.ringSt r = 2 ∨ bit (s.fr (lrnPage r) 0x100) 30 = true → Runs (.learnExecute r) s (· = s)) ∧
    (∀ (slot : Nat) (due : Ns), (s.tblR r).aging = none → s.duePass r = some (slot, due) → Runs (.agingPassStart r) s fun t =>
      (t.tblR r).aging = some (slot, 0) ∧
      (due < s.clk → t.ctr (regPage r 0) 0x83 = s.ctr (regPage r 0) 0x83 + 1 ∧ bit (t.rd (regPage r 0) 0x010) 5 = true) ∧
      (s.clk ≤ due → t.ctrs = s.ctrs)) ∧
    ((s.tblR r).aging.isSome = true ∨ s.duePass r = none → Runs (.agingPassStart r) s (· = s)) ∧
    (∀ (slot cur : Nat) (e : TEnt), slot < 8 → (s.tblR r).aging = some (slot, cur) → s.tblLive (r * 8 + slot) = true →
      (s.geo (r * 8 + slot)).far = false → cur < 4 * 2 ^ (s.geo (r * 8 + slot)).log2 → cur < ovfPlace →
      e = s.entAt (r * 8 + slot) cur → e.valid = true →
      (bit e.ectl 30 = true → Runs (.agingVisit r) s fun t =>
        bit (t.entAt (r * 8 + slot) cur).ectl 30 = false ∧ bit (t.entAt (r * 8 + slot) cur).ectl 29 = false ∧
        (t.tblR r).aging = some (slot, cur + 1) ∧ (t.entAt (r * 8 + slot) cur).key = e.key) ∧
      (bit e.ectl 30 = false → bit e.ectl 29 = false → Runs (.agingVisit r) s fun t =>
        bit (t.entAt (r * 8 + slot) cur).ectl 29 = true ∧ (t.tblR r).aging = some (slot, cur + 1)) ∧
      (bit e.ectl 30 = false → bit e.ectl 29 = true → e.static = true ∨ e.pinned = true → Runs (.agingVisit r) s fun t =>
        TablesKept s t ∧ (t.tblR r).aging = some (slot, cur + 1)) ∧
      (bit e.ectl 30 = false → bit e.ectl 29 = true → e.static = false → e.pinned = false →
        bit (s.fr (tblPage (r * 8 + slot)) (descOff (r * 8 + slot))) 27 = true → s.ringSt r ≠ 2 →
        s.ovfPlaces (r * 8 + slot) = [] → Runs (.agingVisit r) s fun t =>
          t.entAt (r * 8 + slot) cur = {} ∧ (t.tblR r).aging = some (slot, cur + 1) ∧
          t.ctr (regPage r 0) (16 * slot + 7) = s.ctr (regPage r 0) (16 * slot + 7) + 1)) ∧
    (s.ringSt r = 2 → s.frFld (lrnPage r) 0x100 0 16 * 1000000 ≤ s.clk - (s.learn r).fullAt →
      Runs (.learnRingStall r) s fun t => t.ringSt r = 3 ∧ (t.learn r).pend = [] ∧
        bit (t.rd (lrnPage r) 0x010) 2 = true ∧
        t.ctr (lrnPage r) 0x07 = s.ctr (lrnPage r) 0x07 + BitVec.ofNat 48 (s.learn r).pend.length) ∧
    (∀ (mid : Mid) (v : Reg), Admitted s mid (lrnPage r) 0x104 → s.fastReady (lrnPage r) = true →
      Runs (.lrnRingRestart mid r v) s fun t =>
        t.rd (lrnPage r) 0x110 = 0 ∧ (t.learn r).pend = [] ∧ (t.learn r).restart = true ∧
        t.ringSt r = (if bit (s.fr (lrnPage r) 0x100) 31 then 1 else 0)) ∧
    (∀ (mid : Mid) (v : Reg), Admitted s mid (lrnPage r) 0x110 → s.fastReady (lrnPage r) = true → s.ringSt r = 2 →
      (s.learn r).pend = [] → idxDiff (s.rdFld (lrnPage r) 0x110 0 16) (fld v 16 16) < 2 ^ s.frFld (lrnPage r) 0x10C 0 4 →
      Runs (.lrnConsWrite mid r v) s fun t =>
        t.ringSt r = 1 ∧ t.rdFld (lrnPage r) 0x110 16 16 = fld v 16 16 ∧ TablesKept s t)

/-- Walk steps, tables that come and go, and the command ring (R165, R166, R167, R175, R178). A walk in a running ring
moves to the next bucket, or on to the overflow store; an abort ends it. A table that is enabled with a geometry that
keeps the rules starts clearing, and reads EN once cleared; one that does not is refused. A base write of a running
ring is counted and changes nothing; only the owner or the OMC changes EN; only the owner's doorbell counts, and one
that announces too much sets DB_OVERRUN. A valid entry is executed, its OWN cleared and CONS advanced; an entry without
OWN is read again after 1 µs. That a command that is not due leaves the state as it is is the model's choice (log entry
2). -/
def Obligations.TableRingRows : Prop :=
  ∀ (s : State) (mid : Mid) (r : Fin 16),
    (bit (s.rd (regPage r 0) 0x124) 31 = true → s.ringSt r ≠ 2 →
      bit (s.rd (regPage r 0) 0x128) 31 = false →
      s.rdFld (regPage r 0) 0x128 0 25 + 1 < 2 ^ (s.geo (r.val * 8 + s.rdFld (regPage r 0) 0x124 24 3)).log2 →
      s.rdFld (regPage r 0) 0x128 0 25 + 1 < 2 ^ 25 → Runs (.walkVisit r) s fun t =>
        t.rdFld (regPage r 0) 0x128 0 25 = s.rdFld (regPage r 0) 0x128 0 25 + 1 ∧ t.near = s.near ∧ t.ovf = s.ovf) ∧
    (bit (s.rd (regPage r 0) 0x124) 31 = false ∨ s.ringSt r = 2 → Runs (.walkVisit r) s (· = s)) ∧
    (Admitted s mid (regPage r 0) 0x124 → s.fastReady (regPage r 0) = true → bit (s.rd (regPage r 0) 0x124) 31 = true →
      Runs (.walkAbort mid r) s fun t =>
        bit (t.rd (regPage r 0) 0x124) 31 = false ∧ bit (t.rd (regPage r 0) 0x010) 2 = true ∧ t.near = s.near) ∧
    (∀ (slot : Fin 8) (v : Reg), Admitted s mid (regPage r 0) (descOff (r.val * 8 + slot.val)) →
      s.fastReady (regPage r 0) = true →
      (bit (s.rd (regPage r 0) (descOff (r.val * 8 + slot.val))) 31 = false →
        bit (s.rd (regPage r 0) (descOff (r.val * 8 + slot.val))) 29 = false →
        Runs (.tableEnable mid r slot v) s fun t =>
          bit (t.rd (regPage r 0) (descOff (r.val * 8 + slot.val))) 31 = false ∧
          bit (t.rd (regPage r 0) (descOff (r.val * 8 + slot.val))) 29 =
            (geoOk (r.val * 8 + slot.val) (t.geo (r.val * 8 + slot.val)) && !t.geoOverlap (r.val * 8 + slot.val)) ∧
          bit (t.rd (regPage r 0) (descOff (r.val * 8 + slot.val))) 30 =
            !(geoOk (r.val * 8 + slot.val) (t.geo (r.val * 8 + slot.val)) && !t.geoOverlap (r.val * 8 + slot.val))) ∧
      (Runs (.tableDisable mid r slot v) s fun t =>
        bit (t.rd (regPage r 0) (descOff (r.val * 8 + slot.val))) 31 = false ∧ t.tblLive (r.val * 8 + slot.val) = false)) ∧
    (∀ slot : Fin 8, (s.tblR r).clearing.contains slot.val = true → Runs (.tableClearDone r slot) s fun t =>
      bit (t.rd (regPage r 0) (descOff (r.val * 8 + slot.val))) 31 = true ∧
      bit (t.fr (regPage r 0) (descOff (r.val * 8 + slot.val))) 31 = true ∧
      bit (t.rd (regPage r 0) (descOff (r.val * 8 + slot.val))) 29 = false ∧ TablesKept s t) ∧
    (∀ v : Reg, Admitted s mid (regPage r 0) 0x110 → bit (s.rd (regPage r 0) 0x118) 15 = true →
      Runs (.tblCmdBaseWrite mid r v) s fun t =>
        t.rd (regPage r 0) 0x110 = s.rd (regPage r 0) 0x110 ∧ t.fr (regPage r 0) 0x110 = s.fr (regPage r 0) 0x110 ∧
        t.ctr (regPage r 0) 0x84 = s.ctr (regPage r 0) 0x84 + 1) ∧
    (∀ v : Reg, Admitted s mid (regPage r 0) 0x118 → bit v 15 ≠ bit (s.rd (regPage r 0) 0x118) 15 → mid ≠ s.cmdOwner r →
      midIsOmc mid = false → Runs (.tblCmdCfgWrite mid r v) s fun t =>
        t.rd (regPage r 0) 0x118 = s.rd (regPage r 0) 0x118 ∧ t.ctr (regPage r 0) 0x84 = s.ctr (regPage r 0) 0x84 + 1) ∧
    (∀ v : Reg, Admitted s mid (regPage r 0) 0x118 → s.fastReady (regPage r 0) = true → mid = s.cmdOwner r →
      bit v 15 = false → Runs (.tblCmdCfgWrite mid r v) s fun t =>
        bit (t.rd (regPage r 0) 0x118) 15 = false ∧ bit (t.rd (regPage r 0) 0x120) 31 = false ∧
        (t.tblR r).fetching = false) ∧
    (∀ v : Reg, Admitted s mid (regPage r 0) 0x11C →
      (mid ≠ s.cmdOwner r → Runs (.tblCmdDb mid r v) s fun t =>
        t.ctr (regPage r 0) 0x81 = s.ctr (regPage r 0) 0x81 + 1 ∧ t.rd (regPage r 0) 0x11C = s.rd (regPage r 0) 0x11C) ∧
      (mid = s.cmdOwner r → 2 ^ s.rdFld (regPage r 0) 0x118 0 4 < idxDiff (fld v 0 16) (s.rdFld (regPage r 0) 0x120 0 16) →
        Runs (.tblCmdDb mid r v) s fun t =>
          bit (t.rd (regPage r 0) 0x120) 30 = true ∧ t.fr (regPage r 0) 0x11C = s.fr (regPage r 0) 0x11C) ∧
      (mid = s.cmdOwner r → idxDiff (fld v 0 16) (s.rdFld (regPage r 0) 0x120 0 16) ≤ 2 ^ s.rdFld (regPage r 0) 0x118 0 4 →
        s.fastReady (regPage r 0) = true → Runs (.tblCmdDb mid r v) s fun t =>
          fld (t.fr (regPage r 0) 0x11C) 0 16 = fld v 0 16 ∧ t.rd (regPage r 0) 0x120 = s.rd (regPage r 0) 0x120)) ∧
    (∀ cmd : List Byte, (s.tblR r).fetching = true → s.isFenced (regPage r 0) = false → midIsHost (s.cmdOwner r) = false →
      cmd = s.bytes (omcMem + s.cmdAddr r) 64 →
      ((byteAt cmd 63).testBit 7 = false → Runs (.tblCmdFetch r) s fun t =>
        (t.tblR r).stall = true ∧ (t.tblR r).stallAt = some s.clk ∧ t.regs = s.regs ∧ t.mem = s.mem) ∧
      ((byteAt cmd 63).testBit 7 = true → leAt cmd 0 1 = 5 → 32 ≤ leAt cmd 4 1 → Runs (.tblCmdFetch r) s fun t =>
        t.rdFld (regPage r 0) 0x120 0 16 = idxAdd (s.rdFld (regPage r 0) 0x120 0 16) 1 ∧
        t.byte (omcMem + s.cmdAddr r + 5) = 5 ∧ t.byte (omcMem + s.cmdAddr r + 63) = 0 ∧
        t.ctr (regPage r 0) 0x80 = s.ctr (regPage r 0) 0x80 + 1 ∧ bit (t.rd (regPage r 0) 0x010) 1 = true)) ∧
    (∀ at_ : Ns, (s.tblR r).stallAt = some at_ →
      (s.clk < at_ + 1000 → Runs (.tblCmdRefetch r) s (· = s)) ∧
      (at_ + 1000 ≤ s.clk → Runs (.tblCmdRefetch r) s fun t => (t.tblR r).stall = false ∧ t.mem = s.mem))

/-! ### The cipher -/

/-- A command register of a cipher user page takes a GO at once. -/
abbrev CuReady (s : State) (mid : Mid) (p : PageKey) : Prop :=
  isCuPage p = true ∧ Admitted s mid p (cuBase p + 0x108) ∧ s.fastReady p = true ∧
    bit (s.rd p (cuBase p + 0x10C)) 31 = false

/-- The command has ended with a RESULT: DONE is 1, BUSY 0, and CU_KEY is cleared. -/
abbrev CuResult (t : State) (p : PageKey) (res : Nat) : Prop :=
  t.rd p (cuBase p + 0x10C) = BitVec.ofNat 32 (0x40000000 + res) ∧
    ∀ i, i < 16 → t.fr p (cuBase p + 0x1C0 + 4 * i) = 0

/-- Every key context but `c` is as it was. -/
def CtxBut (c : Nat) (s t : State) : Prop := ∀ k, k ≠ c → t.ctx k = s.ctx k

/-- Cipher user commands (R224, R228, R235, R237). From alarm level A2 on only RETIRE and QUERY run: every other command
ends LOCKED and changes no context. IMPORT and GENERATE wrap a key and change no context. LOAD of a context that is not
FREE loads nothing; one of a good blob that the rules allow leaves it ACTIVE with no usage, and one of a blob whose
key does not unwrap ends BAD_BLOB and changes no context. RETIRE leaves the context RETIRED. QUERY
shows state and usage. SET_NEXT sets a successor of the same owner, and the context itself as its NEXT clears it. RESYNC
of a context that is no TLS receive one ends BAD_PARAM. A handle outside the page's window ends BAD_HANDLE. -/
def Obligations.CipherUserRows : Prop :=
  ∀ (s : State) (mid : Mid) (p : PageKey) (h : BitVec 24), CuReady s mid p →
    (2 ≤ s.alarmLevel → ∀ c ∈ [Instr.importKey mid p h, .generate mid p h, .cuLoad mid p h, .setNext mid p h,
      .resync mid p h], Runs c s fun t => CuResult t p 5 ∧ t.ctxs = s.ctxs) ∧
    (∀ k : BitVec 256, s.alarmLevel < 2 → s.sec.kek = some k →
      (Runs (.importKey mid p h) s fun t => CuResult t p 0 ∧ t.ctxs = s.ctxs ∧ t.fresh = s.fresh + 1 ∧
        (pageType p = some .ciph → t.cuBytes p 0x140 32 = wrapBlob k (s.cuBytes p 0x140 12) (s.cuBytes p 0x1C0 16)
          (leBytes 12 (Config.random256 s.fresh).toNat))) ∧
      (Runs (.generate mid p h) s fun t => CuResult t p 0 ∧ t.ctxs = s.ctxs ∧ t.fresh = s.fresh + 3)) ∧
    (s.cuCtx p h.toNat = none → s.alarmLevel < 2 → ∀ c ∈ [Instr.cuLoad mid p h, .setNext mid p h, .retire mid p h,
      .query mid p h, .resync mid p h], Runs c s fun t => CuResult t p 1 ∧ t.ctxs = s.ctxs) ∧
    (∀ c : Nat, s.cuCtx p h.toNat = some c →
      ((s.ctx c).st ≠ 0 → s.alarmLevel < 2 → Runs (.cuLoad mid p h) s fun t =>
        t.ctxs = s.ctxs ∧ fld (t.rd p (cuBase p + 0x10C)) 0 8 ≠ 0) ∧
      (∀ k : BitVec 4, (s.ctx c).st = 0 → s.alarmLevel < 2 → k.toNat = fld (s.fr p (cuBase p + 0x118)) 24 4 → 1 ≤ k.toNat →
        k.toNat ≤ 7 → bit (s.fr p (cuBase p + 0x118)) 22 = false → bit (s.fr p (cuBase p + 0x118)) 23 = false →
        cuScopeOk p (BitVec.ofNat 32 (leAt (s.cuBytes p 0x140 32) 12 4)) = true → Runs (.cuLoad mid p h) s fun t =>
          (∀ key : List Byte, s.unwrapBlob (s.cuBytes p 0x140 32) k.toNat = some key →
            CuResult t p 0 ∧ (t.ctx c).st = 1 ∧ (t.ctx c).usage = 0 ∧ (t.ctx c).key = key ∧
            (t.ctx c).proto = k.toNat ∧
            (t.ctx c).owner = BitVec.ofNat 32 (leAt (s.cuBytes p 0x140 32) 12 4) ∧ CtxBut c s t) ∧
          (s.unwrapBlob (s.cuBytes p 0x140 32) k.toNat = none → CuResult t p 2 ∧ t.ctxs = s.ctxs)) ∧
      ((s.ctx c).st ≠ 0 → Runs (.retire mid p h) s fun t => CuResult t p 0 ∧ (t.ctx c).st = 4 ∧ CtxBut c s t) ∧
      (Runs (.query mid p h) s fun t => CuResult t p 0 ∧ t.ctxs = s.ctxs ∧
        t.rd p (cuBase p + 0x130) = BitVec.ofNat 32 (s.ctx c).usage ∧
        fld (t.rd p (cuBase p + 0x134)) 28 4 = (s.ctx c).st % 16) ∧
      (s.alarmLevel < 2 → fld (s.fr p (cuBase p + 0x110)) 0 24 = h.toNat → Runs (.setNext mid p h) s fun t =>
        CuResult t p 0 ∧ (t.ctx c).next = none ∧ CtxBut c s t) ∧
      (∀ n : Nat, s.alarmLevel < 2 → fld (s.fr p (cuBase p + 0x110)) 0 24 ≠ h.toNat →
        s.cuCtx p (fld (s.fr p (cuBase p + 0x110)) 0 24) = some n → (s.ctx n).owner = (s.ctx c).owner →
        Runs (.setNext mid p h) s fun t =>
          CuResult t p 0 ∧ t.ctx c = { s.ctx c with next := some n, switched := false } ∧ CtxBut c s t) ∧
      (s.alarmLevel < 2 → (s.ctx c).proto ≠ 4 → Runs (.resync mid p h) s fun t => CuResult t p 6 ∧ t.ctxs = s.ctxs) ∧
      (s.alarmLevel < 2 → (s.ctx c).proto = 4 → (s.ctx c).st = 5 → Runs (.resync mid p h) s fun t =>
        CuResult t p 0 ∧ (t.ctx c).st = (if (s.ctx c).soft ≤ (s.ctx c).usage then 2 else 1) ∧ (t.ctx c).record = [] ∧
        CtxBut c s t))

/-- Contexts and their events (R219, R220, R228, R237). A retired context with nothing in flight is FREE again. A fill
gives a context to a region that had none, and a migration moves it from a region that does not pin it; both change
nothing else of it and are counted. A read of CU_EVT removes the oldest event. A command while one is BUSY is ignored
and counted. That a command that is not due leaves the state as it is is the model's choice (log entry 2). Which
context leaves a full cache is the model's choice (log entry 10). -/
def Obligations.ContextRows : Prop :=
  ∀ (s : State) (c : BitVec 24) (r : Fin 16),
    ((s.ctx c.toNat).st = 4 → s.ctxBusy c.toNat = false → Runs (.contextFreed c) s fun t =>
      t.ctx c.toNat = {} ∧ CtxBut c.toNat s t) ∧
    ((s.ctx c.toNat).st ≠ 4 ∨ s.ctxBusy c.toNat = true → Runs (.contextFreed c) s (· = s)) ∧
    (s.eclipsed = false → s.vaultOn c.toNat = true → (s.ctx c.toNat).usable = true → (s.ctx c.toNat).holder = none →
      (s.heldBy r).length < 65536 → Runs (.contextFill r c) s fun t =>
        t.ctx c.toNat = { s.ctx c.toNat with holder := some r.val } ∧ CtxBut c.toNat s t ∧
        t.ctr (ciphPage r) 0x05 = s.ctr (ciphPage r) 0x05 + 1) ∧
    ((s.ctx c.toNat).holder.isSome = true → Runs (.contextFill r c) s (· = s)) ∧
    (∀ h : Nat, s.eclipsed = false → s.vaultOn c.toNat = true → (s.ctx c.toNat).usable = true →
      (s.ctx c.toNat).holder = some h → h ≠ r.val → s.isFenced (ciphPage h) = false →
      (s.heldBy r).length < 65536 →
      ((s.ctx c.toNat).pin = false → Runs (.contextMigrate r c) s fun t =>
        t.ctx c.toNat = { s.ctx c.toNat with holder := some r.val } ∧ CtxBut c.toNat s t ∧
        t.ctr (ciphPage r) 0x06 = s.ctr (ciphPage r) 0x06 + 1) ∧
      ((s.ctx c.toNat).pin = true → Runs (.contextMigrate r c) s (· = s))) ∧
    (∀ (mid : Mid) (p : PageKey), isCuPage p = true → Admitted s mid p (cuBase p + 0x114) → Runs (.cuEvtPop mid p) s fun t =>
      tabGet [] t.cuEvts p = (tabGet [] s.cuEvts p).drop 1 ∧ t.ctxs = s.ctxs ∧
      .readData mid (rkey p (cuBase p + 0x114)) ((s.rd p (cuBase p + 0x114)).setWidth 64) ∈ t.out) ∧
    (∀ (mid : Mid) (p : PageKey) (h : BitVec 24), isCuPage p = true → Admitted s mid p (cuBase p + 0x108) →
      bit (s.rd p (cuBase p + 0x10C)) 31 = true → Runs (.retire mid p h) s fun t =>
        t.ctxs = s.ctxs ∧ t.ctr (ciphPage (cuRegion p)) 0x09 = s.ctr (ciphPage (cuRegion p)) 0x09 + 1 ∧
        t.rd p (cuBase p + 0x108) = s.rd p (cuBase p + 0x108))

/-! ### Egress: the scheduler, its records and the arbiters -/

/-- A record command of a die's page meets no other: its page takes the write at once, and none is BUSY. -/
abbrev RecordReady (s : State) (mid : Mid) (p : PageKey) (off : Nat) : Prop :=
  Admitted s mid p off ∧ s.fastReady p = true ∧ bit (s.rd p off) 31 = false

/-- Scheduler records (R248, R250, R266). A node write outside the die's nodes has RESULT BAD_INDEX, and one with a
peak rate below the committed rate BAD_RATE, and neither changes a node; a good one stores every field, but for a reserved
WEIGHT of 0 (R5), and RESULT 0, and changes no other node. A node read puts the record in the data registers. Outlet, gate and policer records (R246,
R253, R254, R255, R266). An outlet number that the die does not have gives BAD_INDEX; a good write stores the record,
a requested bank change waits for its time, and a read shows the record. A gate write stores the entry, but for a
reserved INTERVAL of 0 (R5), and a read shows it. A policer write stores the record and fills its buckets. -/
def Obligations.ScheduleRecordRows : Prop :=
  (∀ (s : State) (mid : Mid) (d : Fin 4) (kind i : Nat) (b : List Byte), RecordReady s mid (schedPage d) 0x104 →
    kind = s.frFld (schedPage d) 0x100 30 2 → i = s.frFld (schedPage d) 0x100 0 17 → b = s.frBytes (schedPage d) 0x110 8 →
    (nodeCount kind ≤ i → Runs (.schedNodeWrite mid d) s fun t =>
      t.rd (schedPage d) 0x104 = 0x100 ∧ t.nodes = s.nodes ∧ t = { s with regs := t.regs, fast := t.fast }) ∧
    (i < nodeCount kind → s.parentOk d kind (leAt b 0 4 % 2 ^ 17) = true → (s.node d kind i).en = false →
      badRate (leAt b 8 4 % 2 ^ 22) (leAt b 16 4 % 2 ^ 22) = true → Runs (.schedNodeWrite mid d) s fun t =>
        t.rd (schedPage d) 0x104 = 0x400 ∧ t.nodes = s.nodes) ∧
    (i < nodeCount kind → s.parentOk d kind (leAt b 0 4 % 2 ^ 17) = true →
      (kind ≤ 1 → (s.node d kind i).en = true → (s.node d kind i).parent = leAt b 0 4 % 2 ^ 17) →
      ((s.node d kind i).en = true → (leAt b 0 4).testBit 31 = true) →
      badRate (leAt b 8 4 % 2 ^ 22) (leAt b 16 4 % 2 ^ 22) = false →
      Runs (.schedNodeWrite mid d) s fun t =>
        t.rd (schedPage d) 0x104 = 0 ∧ (t.node d kind i).en = (leAt b 0 4).testBit 31 ∧
        (t.node d kind i).weight = (if leAt b 4 2 = 0 then (s.node d kind i).weight else leAt b 4 2) ∧
        (t.node d kind i).cir = leAt b 8 4 % 2 ^ 22 ∧
        (t.node d kind i).cbs = leAt b 12 4 % 2 ^ 24 ∧ (t.node d kind i).pir = leAt b 16 4 % 2 ^ 22 ∧
        (t.node d kind i).pbs = leAt b 20 4 % 2 ^ 24 ∧ (kind = 0 → (t.node d kind i).limit = leAt b 24 2) ∧
        (∀ k, k ≠ nodeKey d kind i → tabGet {} t.nodes k = tabGet {} s.nodes k) ∧
        t = { s with regs := t.regs, fast := t.fast, nodes := t.nodes }) ∧
    (i < nodeCount kind → Runs (.schedNodeRead mid d) s fun t =>
      t.frBytes (schedPage d) 0x110 8 = nodeBytes (s.node d kind i) ∧ t.rd (schedPage d) 0x104 = 0 ∧
      t = { s with regs := t.regs, fast := t.fast })) ∧
  (∀ (s : State) (mid : Mid) (d : Fin 4),
    (∀ (o : Nat) (b : List Byte), RecordReady s mid (schedPage d) 0x144 → o = s.frFld (schedPage d) 0x140 0 8 →
      b = s.frBytes (schedPage d) 0x150 12 →
      (outletExists o = false → Runs (.schedOutWrite mid d) s fun t =>
        t.rd (schedPage d) 0x144 = 0x100 ∧ t.outlets = s.outlets) ∧
      (outletExists o = true → (leAt b 0 4).testBit 30 = false → (leAt b 0 4).testBit 31 = false →
        leAt b 8 4 % 2 ^ 17 ≤ 65536 → Runs (.schedOutWrite mid d) s fun t =>
          t.rd (schedPage d) 0x144 = 0 ∧ (t.outlet d o).gateEn = false ∧ (t.outlet d o).running = false ∧
          (t.outlet d o).expRate = leAt b 4 4 % 2 ^ 22 ∧ (t.outlet d o).expBurst = leAt b 8 4 % 2 ^ 17 ∧
          (t.outlet d o).defq = leAt b 40 4 % 2 ^ 17 ∧ (t.outlet d o).pending = (s.outlet d o).pending ∧
          (∀ k, k ≠ d.val * 256 + o → tabGet {} t.outlets k = tabGet {} s.outlets k) ∧
          t = { s with regs := t.regs, fast := t.fast, outlets := t.outlets }) ∧
      (outletExists o = true → (leAt b 0 4).testBit 30 = true → leAt b 8 4 % 2 ^ 17 ≤ 65536 →
        bankOk ((leAt b 0 4).testBit 31) (BitVec.ofNat 32 (leAt b (if (leAt b 0 4).testBit 29 then 16 else 12) 4))
          (leAt b 20 4) = true → Runs (.schedOutWrite mid d) s fun t =>
          t.rd (schedPage d) 0x144 = 0 ∧ (t.outlet d o).pending = true ∧
          (t.outlet d o).adminBank = (if (leAt b 0 4).testBit 29 then 1 else 0) ∧
          (t.outlet d o).operBank = (s.outlet d o).operBank ∧
          (t.outlet d o).changeAt = cycleAt (leAt b 24 8) (leAt b 20 4) (max (leAt b 32 8) s.ptime.toNat)) ∧
      (outletExists o = true → Runs (.schedOutRead mid d) s fun t =>
        t.frBytes (schedPage d) 0x150 12 = outBytes o (s.outlet d o) ∧ t.rd (schedPage d) 0x144 = 0 ∧
        t = { s with regs := t.regs, fast := t.fast })) ∧
    (RecordReady s mid (schedPage d) 0x184 →
      (Runs (.schedGateWrite mid d) s fun t =>
        (tabGet 0 t.gates (d.val * 8192 + s.frFld (schedPage d) 0x180 0 13)).toNat =
          (if (s.fr (schedPage d) 0x18C).toNat = 0 then
              (tabGet 0 s.gates (d.val * 8192 + s.frFld (schedPage d) 0x180 0 13)).toNat / 2 ^ 32
            else (s.fr (schedPage d) 0x18C).toNat) * 2 ^ 32 + (s.fr (schedPage d) 0x188).toNat % 512 ∧
        (∀ k, k ≠ d.val * 8192 + s.frFld (schedPage d) 0x180 0 13 → tabGet 0 t.gates k = tabGet 0 s.gates k) ∧
        t.rd (schedPage d) 0x184 = 0) ∧
      (Runs (.schedGateRead mid d) s fun t =>
        (t.fr (schedPage d) 0x18C).toNat =
          (tabGet 0 s.gates (d.val * 8192 + s.frFld (schedPage d) 0x180 0 13)).toNat / 2 ^ 32 ∧
        (t.fr (schedPage d) 0x188).toNat =
          (tabGet 0 s.gates (d.val * 8192 + s.frFld (schedPage d) 0x180 0 13)).toNat % 2 ^ 32 ∧ t.gates = s.gates)) ∧
    (∀ (i : Nat) (b : List Byte), RecordReady s mid (plcrPage d) 0x104 → i = s.frFld (plcrPage d) 0x100 0 18 →
      b = s.frBytes (plcrPage d) 0x110 8 →
      (badRate (leAt b 4 4 % 2 ^ 22) (leAt b 12 4 % 2 ^ 22) = true → Runs (.plcrWrite mid d) s fun t =>
        t.rd (plcrPage d) 0x104 = 0x400 ∧ t.plcrs = s.plcrs) ∧
      (badRate (leAt b 4 4 % 2 ^ 22) (leAt b 12 4 % 2 ^ 22) = false → leAt b 4 4 % 2 ^ 22 ≠ 0 →
        Runs (.plcrWrite mid d) s fun t =>
          tabGet {} t.plcrs (plcrKey d i) = {
            en := (leAt b 0 4).testBit 31, redDrop := (leAt b 0 4).testBit 30, adj := BitVec.ofNat 8 (leAt b 0 4),
            cir := leAt b 4 4 % 2 ^ 22, cbs := leAt b 8 4 % 2 ^ 24, pir := leAt b 12 4 % 2 ^ 22,
            pbs := leAt b 16 4 % 2 ^ 24, ctok := leAt b 8 4 % 2 ^ 24 * 1000, ptok := leAt b 16 4 % 2 ^ 24 * 1000 } ∧
          (∀ k, k ≠ plcrKey d i → tabGet {} t.plcrs k = tabGet {} s.plcrs k) ∧ t.rd (plcrPage d) 0x104 = 0) ∧
      (Runs (.plcrRead mid d) s fun t =>
        t.frBytes (plcrPage d) 0x110 8 = plcrBytes (tabGet {} s.plcrs (plcrKey d i)) ∧ t.plcrs = s.plcrs)))

/-- Buckets, gates and selection (R87, R247, R249, R250, R254, R255, R267). Every bucket gains its rate for each tick
and stops at its depth. A gate entry that has lasted its interval gives way to the next; a requested bank takes effect
at its time, and is counted. An outlet whose link is down discards what is queued toward it; one that is free takes its
oldest express frame first, and the one queue that can be served is served and counted. That a command that is not due
leaves the state as it is is the model's choice (log entry 2). -/
def Obligations.EgressRows : Prop :=
  ∀ (s : State) (d : Fin 4) (o : Nat),
    (∀ n, 0 < n → s.ptime.toNat / 8 = s.tick + n → Runs .tokenTick s fun t =>
      (∀ (k : Nat) (x : Node), s.nodes.filter (fun e => e.1 == k) = [(k, x)] →
        (tabGet {} t.nodes k).ctok = min (x.ctok + (x.cir * n : Nat)) ((x.cbs * 1000 : Nat) : Int) ∧
        (tabGet {} t.nodes k).ptok = min (x.ptok + (x.pir * n : Nat)) ((x.pbs * 1000 : Nat) : Int) ∧
        (tabGet {} t.nodes k).en = x.en ∧ (tabGet {} t.nodes k).cir = x.cir) ∧
      (∀ (k : Nat) (x : Plcr), s.plcrs.filter (fun e => e.1 == k) = [(k, x)] →
        (tabGet {} t.plcrs k).ctok = min (x.ctok + x.cir * n) (x.cbs * 1000) ∧
        (tabGet {} t.plcrs k).ptok = min (x.ptok + x.pir * n) (x.pbs * 1000)) ∧
      t.tick = s.ptime.toNat / 8 ∧
      t = { s with tick := t.tick, nodes := t.nodes, outlets := t.outlets, plcrs := t.plcrs }) ∧
    ((s.outlet d o).gateEn = false → Runs (.gateEntryAdvance d o) s (· = s)) ∧
    ((s.outlet d o).gateEn = true → (s.outlet d o).running = true → fld (s.outlet d o).run 16 9 ≠ 0 →
      (s.outlet d o).runCycle ≠ 0 → (s.outlet d o).cycStart ≤ s.ptime.toNat →
      (s.outlet d o).entStart + ((s.gateList d (s.outlet d o).run (s.outlet d o).runCycle).getD (s.outlet d o).entry (0, 0)).2
        ≤ s.ptime.toNat → Runs (.gateEntryAdvance d o) s fun t =>
        (t.outlet d o).entry =
          (if (s.outlet d o).entry + 1 < (s.gateList d (s.outlet d o).run (s.outlet d o).runCycle).length
           then (s.outlet d o).entry + 1 else 0) ∧
        t = { s with outlets := t.outlets }) ∧
    ((s.outlet d o).pending = true → (s.outlet d o).changeAt ≤ s.ptime.toNat → Runs (.gateBankChange d o) s fun t =>
      (t.outlet d o).pending = false ∧ (t.outlet d o).operBank = (s.outlet d o).adminBank ∧
      (t.outlet d o).cycStart = (s.outlet d o).changeAt ∧ bit (t.rd (schedPage d) 0x010) 1 = true ∧
      t.ctr (schedPage d) 0x08 = s.ctr (schedPage d) 0x08 + 1) ∧
    ((s.outlet d o).pending = false ∨ s.ptime.toNat < (s.outlet d o).changeAt →
      Runs (.gateBankChange d o) s (· = s)) ∧
    (∀ p, outletMac d o = some p → s.linkUp p = false → Runs (.outletSelect d o) s fun t =>
      tabFind t.sel (d.val * 256 + o) = none ∧
      (∀ k, k / 2 ^ 20 = d.val → s.keyOutlet k = o → t.backlog k = []) ∧
      (∀ k, k / 2 ^ 20 ≠ d.val ∨ s.keyOutlet k ≠ o → t.backlog k = s.backlog k)) ∧
    (∀ (p : PageKey) (e : Entry) (es : List Entry), outletMac d o = some p → s.outletFree d o = true →
      s.gateRun d o = none → s.backlog (expKey d o) = e :: es → s.lacksBufs none e = none →
      Runs (.outletSelect d o) s fun t =>
        tabFind t.sel (d.val * 256 + o) = some e ∧ t.backlog (expKey d o) = es ∧
        t.ctr (schedPage d) 0x05 = s.ctr (schedPage d) 0x05 + 1 ∧ t.nodes = s.nodes) ∧
    (∀ (p : PageKey) (a : Avail), outletMac d o = some p → s.outletFree d o = true → s.gateRun d o = none →
      s.backlog (expKey d o) = [] → s.available d o = [a] → s.lacksBufs (some a.q) a.entry = none →
      Runs (.outletSelect d o) s fun t =>
        tabFind t.sel (d.val * 256 + o) = some a.entry ∧
        t.backlog (queueKey d a.q) = (s.backlog (queueKey d a.q)).drop 1 ∧
        t.ctr (schedPage d) (0x100000 + 4 * a.q) = s.ctr (schedPage d) (0x100000 + 4 * a.q) + 1 ∧
        t.ctr (schedPage d) (0x100000 + 4 * a.q + 1) =
          s.ctr (schedPage d) (0x100000 + 4 * a.q + 1) + BitVec.ofNat 48 a.entry.bytes.length)

/-- Arbiters (R259, R260, R261, R262). A requester that asks alone wins, is counted and asks no more, and the LFSR
steps; with none eligible the draw grants nothing. A loser is eligible again when its back-off has passed. A ford grant
is counted. A seed other than 0 loads the LFSR. A masked requester's request is withdrawn. The draw is the command's
operand and the step of the LFSR is deduced (log entries 14 and 16). -/
def Obligations.ArbiterRows : Prop :=
  ∀ (s : State) (mid : Mid) (r : Fin 16) (a : Fin 3),
    (∀ q : Nat, q < arbCount a → (s.arb r a).reqs = [] → bit (s.rd (arbPage r) (0x114 + 0x40 * a.val)) q = false →
      s.tickets r a q ≠ 0 → s.arbGone r a q = false → Runs (.arbDraw r a (BitVec.ofNat 16 (2 ^ q))) s fun t =>
        t.ctr (arbPage r) (64 * a.val + 4 * q) = s.ctr (arbPage r) (64 * a.val + 4 * q) + 1 ∧ (t.arb r a).reqs = [] ∧
        (t.arb r a).lfsr = lfsrNext (s.arb r a).lfsr ∧ t.rd (arbPage r) (0x118 + 0x40 * a.val) = 0) ∧
    ((s.arb r a).reqs = [] → Runs (.arbDraw r a 0) s fun t => t.arb r a = s.arb r a ∧ t.ctrs = s.ctrs) ∧
    (∀ q : Fin 16, Runs (.backoffExpire r a q) s fun t =>
      (∀ e ∈ (t.arb r a).reqs, e.r = q.val → ∀ x, e.off = some x → s.arbCycle a < x) ∧
      ((t.arb r a).reqs.map ArbReq.r) = ((s.arb r a).reqs.map ArbReq.r) ∧ (t.arb r a).lfsr = (s.arb r a).lfsr) ∧
    (Runs (.fordGrant r a) s fun t =>
      t.ctr (arbPage r) (0xC0 + a.val) = s.ctr (arbPage r) (0xC0 + a.val) + 1 ∧ t.arbs = s.arbs) ∧
    (∀ v : Reg, Admitted s mid (arbPage r) (0x110 + 0x40 * a.val) → s.fastReady (arbPage r) = true →
      Runs (.arbSeed mid r a v) s fun t =>
        (v ≠ 0 → (t.arb r a).lfsr = v) ∧ (v = 0 → t.arbs = s.arbs) ∧ (t.arb r a).reqs = (s.arb r a).reqs) ∧
    (Runs (.arbMask r a) s fun t =>
      (∀ e ∈ (t.arb r a).reqs, e.r < arbCount a → s.arbGone r a e.r = false) ∧
      (∀ e ∈ (s.arb r a).reqs, s.arbGone r a e.r = false → e ∈ (t.arb r a).reqs) ∧
      (t.arb r a).lfsr = (s.arb r a).lfsr)

/-! ### PCIe endpoints -/

/-- Resets of an endpoint (R275, R280, R282, R283, R284, R291). PERST_N and a hot reset take the link down, forget IDE
and end every function-level reset; PERST_N clears CFG_READY, which returns when the rules allow it and not before. A
link that may train comes up at the speed and width it trained to. A function-level reset shows in EP_FLR until it is
done. A reset by the OMC returns the endpoint's pages to their reset values and lifts what fenced it; no other master's
write does anything. That a command that is not due leaves the state as it is is the model's choice (log entry 2). -/
def Obligations.EndpointResetRows : Prop :=
  ∀ (s : State) (e : Fin 32),
    (s.pins.perstN.getLsbD e = true → Runs (.perstAssert e) s fun t =>
      t.pins.perstN = s.pins.perstN &&& ~~~(BitVec.ofNat 32 (2 ^ e.val)) ∧ t.dlUp e = false ∧
      bit (t.rd (epP e) 0x104) 30 = false ∧ bit (t.rd (epP e) 0x104) 31 = true ∧ bit (t.rd (epP e) 0x010) 1 = true ∧
      (t.ep e).flr = [] ∧ (t.ep e).ide = [] ∧ (t.ep e).ideKeys = []) ∧
    (s.pins.perstN.getLsbD e = false → Runs (.perstAssert e) s (· = s) ∧ Runs (.perstDeassert e) s fun t =>
      t.pins.perstN.getLsbD e = true ∧ t.pins.wakeN.getLsbD e = true ∧ (t.ep e).deassertAt = some s.clk ∧
      bit (t.rd (epP e) 0x104) 31 = false ∧ t.mem = s.mem ∧ t.wrings = s.wrings) ∧
    (∀ at_ : Ns, s.pins.perstN.getLsbD e = true → (s.ep e).deassertAt = some at_ → (s.ep e).hot = false →
      (at_ + 80000000 ≤ s.clk → s.omc.released = true → Runs (.cfgReady e) s fun t =>
        bit (t.rd (epP e) 0x104) 30 = true ∧ t.isSealed almapPage = true) ∧
      (s.clk < at_ + 80000000 ∨ s.omc.released = false → Runs (.cfgReady e) s (· = s))) ∧
    (∀ removed : Bool,
      (s.dlUp e = true → Runs (.hotReset e removed) s fun t =>
        t.dlUp e = false ∧ (t.ep e).hot = true ∧ (t.ep e).ide = [] ∧ bit (t.rd (epP e) 0x010) 3 = true ∧ t.pins = s.pins) ∧
      (s.dlUp e = false → Runs (.hotReset e removed) s (· = s))) ∧
    (∀ (speed : Fin 6) (width : Fin 3) (flit : Bool), s.pins.perstN.getLsbD e = true → s.dlUp e = false →
      bit (s.fr (epP e) 0x100) 1 = false → s.ready (epP e) = true → (s.ep e).inL2 = false → s.pcieRef e = true →
      s.jtag.tested.contains (pgSite (epP e)) = false → fld (s.fr (epL e) 0x100) 26 3 ≤ speed.val →
      fld (s.fr (epL e) 0x100) 29 2 ≤ width.val → Runs (.dlUp e speed width flit) s fun t =>
        t.dlUp e = true ∧ fld (t.rd (epL e) 0x104) 27 3 = speed.val ∧
        fld (t.rd (epL e) 0x104) 22 5 = 16 / 2 ^ width.val ∧ bit (t.rd (epL e) 0x104) 30 = (flit || speed.val == 0) ∧
        bit (t.rd (epP e) 0x010) 2 = true) ∧
    (∀ p : Fin 2, s.dlUp e = true → s.underFlr e p.val = false → Runs (.pfFlr e p) s fun t =>
      t.underFlr e p.val = true ∧ bit (t.rd (epP e) 0x010) 4 = true) ∧
    (∀ f : Byte, s.dlUp e = true → 2 ≤ f.toNat → s.fnEnabled e f.toNat = true → s.underFlr e f.toNat = false →
      Runs (.vfFlr e f) s fun t => t.underFlr e f.toNat = true ∧ bit (t.rd (epP e) 0x010) 4 = true) ∧
    (∀ f : Byte, s.dlUp e = false ∨ s.underFlr e f.toNat = true → Runs (.vfFlr e f) s (· = s)) ∧
    (∀ f : Byte,
      ((tabFind (s.ep e).flr f.toNat).isSome = true → Runs (.flrComplete e f) s fun t =>
        t.underFlr e f.toNat = false ∧ tabFind (t.ep e).flr f.toNat = none) ∧
      (tabFind (s.ep e).flr f.toNat = none → Runs (.flrComplete e f) s (· = s))) ∧
    (∀ mid : Mid, Admitted s mid (epP e) 0x100 →
      (midIsOmc mid = true → Runs (.epReset mid e) s fun t =>
        (∀ sc ∈ t.fences, scopeContains (.endpoint e) sc = false) ∧ (t.ep e).hot = true ∧ (t.ep e).ide = [] ∧
        t.rd (epP e) 0x108 = regReset (rkey (epP e) 0x108)) ∧
      (midIsOmc mid = false → Runs (.epReset mid e) s (· = s)))

/-- Power states of functions and links (R277, R278, R279). A function takes the power state that its change names. A
link enters L1 with both PFs in D3, and L2 after PME_Turn_Off, and leaves L0p, L1 and its substates for L0; with
CLKREQ_N released in L1 it enters L1.2 or L1.1 as the host has enabled them. An LTR message that is owed is sent once.
Configuration requests (R270, R271, R283, R284). Until CFG_READY, and during a function's reset, a request completes
with RRS and changes nothing. A read returns the register and changes nothing. A write of a register that has no effect
beyond its value changes the bits that are writable, and clears those that are cleared by ones. A function that is not
enabled is Unsupported. That a command that is not due leaves the state as it is is the model's choice (log entry 2).
The places inside PCIe capabilities are presumed (log entry 8). -/
def Obligations.LinkPowerAndConfigRows : Prop :=
  (∀ (s : State) (e : Fin 32),
    (∀ (f : Byte) (d3 : Bool), s.dlUp e = true → s.fnEnabled e f.toNat = true → Runs (.dStateChange e f d3) s fun t =>
      t.dState e f.toNat = (if d3 then 3 else 0) ∧
      bit (t.rd (epP e) (0x140 + f.toNat / 32 * 4)) (f.toNat % 32) = d3 ∧ t.wrings = s.wrings ∧ t.mem = s.mem) ∧
    (∀ light off : Bool, s.dlUp e = true →
      (s.pstate e ≤ 1 → s.dState e 0 ≠ 0 → s.dState e 1 ≠ 0 → Runs (.linkPmEntry e 2 light off) s fun t =>
        t.pstate e = 2 ∧ bit (t.rd (epL e) 0x010) 0 = true) ∧
      (Runs (.linkPmEntry e 5 light true) s fun t => t.pstate e = 5 ∧ (t.ep e).inL2 = true) ∧
      (s.pstate e ≤ 1 → bit (s.rd (epL e) 0x104) 30 = true → bit (s.fr (epL e) 0x10C) 29 = true →
        (s.cfgRd e 0 0x2D8).getLsbD 4 = true → 4 < fld (s.rd (epL e) 0x104) 22 5 →
        Runs (.linkPmEntry e 1 true off) s fun t =>
          t.pstate e = 1 ∧ fld (t.rd (epL e) 0x104) 22 5 = fld (s.rd (epL e) 0x104) 22 5 / 2) ∧
      (1 ≤ s.pstate e → s.pstate e ≤ 4 → Runs (.linkPmExit e) s fun t =>
        t.pstate e = 0 ∧ (t.ep e).lastTlp = s.clk)) ∧
    (s.dlUp e = false → ∀ (g : Fin 6) (light off : Bool), Runs (.linkPmEntry e g light off) s (· = s) ∧
      Runs (.linkPmExit e) s (· = s) ∧ Runs (.ltrSend e) s (· = s)) ∧
    (s.dlUp e = true → (s.ep e).ltrDue = true → Runs (.ltrSend e) s fun t =>
      .pcieMsg e 0 "LTR" ∈ t.out ∧ (t.ep e).ltrDue = false ∧ t = { s with eps := t.eps, out := t.out }) ∧
    (s.pstate e = 2 → bit (s.cfgRd e 0 0x2B8) 0 = false → bit (s.cfgRd e 0 0x2B8) 2 = false →
      bit (s.cfgRd e 0 0x2B8) 1 = true → Runs (.clkreqNChange e true) s fun t =>
        t.pstate e = 3 ∧ t.pins.clkreqN.getLsbD e = true) ∧
    (s.pstate e = 3 ∨ s.pstate e = 4 → Runs (.clkreqNChange e false) s fun t =>
      t.pstate e = 2 ∧ t.pins.clkreqN.getLsbD e = false)) ∧
  (∀ (s : State) (e : Fin 32) (f : Byte) (off : BitVec 12), s.dlUp e = true →
    (∀ w : Option Reg, bit (s.rd (epP e) 0x104) 30 = false ∨ s.underFlr e f.toNat = true →
      Runs (.configRequest e f off w) s (· = s.emit (.cfgCpl e f.toNat (off.toNat / 4 * 4) true 0))) ∧
    (bit (s.rd (epP e) 0x104) 30 = true → s.underFlr e f.toNat = false →
      (∀ w : Option Reg, s.fnEnabled e f.toNat = false →
        Runs (.configRequest e f off w) s (· = s.emit (.pcieMsg e f.toNat "UR"))) ∧
      (s.fnEnabled e f.toNat = true → Runs (.configRequest e f off none) s
        (· = s.emit (.cfgCpl e f.toNat (off.toNat / 4 * 4) false (s.cfgView e f.toNat (off.toNat / 4 * 4))))) ∧
      (f.toNat = 0 → tabFind s.cfg (cfgKey e 0 0) = none → Runs (.configRequest e f 0 none) s
        (· = s.emit (.cfgCpl e 0 0 false 0xA6401F9C))) ∧
      (∀ (v : Reg) (o : Nat), s.fnEnabled e f.toNat = true → o = off.toNat / 4 * 4 → s.lockedBy e f.toNat o = [] →
        o ∉ [0x044, 0x058, 0x090, 0x168, 0x170] → Runs (.configRequest e f off (some v)) s fun t =>
          t.cfgRd e f.toNat o = ((s.cfgRd e f.toNat o &&& ~~~cfgMask f.toNat o) ||| (v &&& cfgMask f.toNat o)) &&&
            ~~~(v &&& cfgW1c o) ∧ t = { s with cfg := t.cfg, out := t.out })))

/-- Reads of host memory (R285–R289). A read that may go takes a free tag and goes out; with no tag or room it waits
and is counted once. A good completion ends it with its data, an error status with ACCESS_FAULT, a poisoned one with
DATA_PARITY; one that no read expects is counted and changes no read. At its timeout a read ends and its tag is
quarantined, until twice the timeout has passed. That a command that is not due leaves the state as it is is the
model's choice (log entry 2). The tag that a read takes is the command's operand (log entry 15). -/
def Obligations.HostReadRows : Prop :=
  ∀ (s : State) (e : Fin 32) (tag : BitVec 14),
    ((∀ r ∈ s.hwait, r.ep = e.val → s.mayRead e r.fn = false) → Runs (.hostReadIssue e tag) s (· = s)) ∧
    (∀ (r : HRead) (i : Nat), s.hwait.zipIdx.find? (fun r => r.1.ep == e.val && s.mayRead e r.1.fn) = some (r, i) →
      ((s.epReads e).length < (s.tagSpace e r.fn).2 → (s.epReads e).length < 4096 →
        ((s.epReads e).filter fun x => x.2.quar.isNone).foldl (fun n x => n + x.2.len) 0 + r.len ≤ 512 * 1024 →
        (s.tagSpace e r.fn).1 ≤ tag.toNat → tag.toNat < (s.tagSpace e r.fn).1 + (s.tagSpace e r.fn).2 →
        tabFind s.hreads (tagKey e tag.toNat) = none → Runs (.hostReadIssue e tag) s fun t =>
          tabFind t.hreads (tagKey e tag.toNat) = some { r with at_ := s.clk } ∧ t.hwait = s.hwait.eraseIdx i ∧
          t.out = .hostRead e r.fn tag.toNat r.addr r.len :: s.out ∧
          t = { s with hwait := t.hwait, hreads := t.hreads, out := t.out }) ∧
      ((s.tagSpace e r.fn).2 ≤ (s.epReads e).length →
        (r.waited = true → Runs (.hostReadIssue e tag) s (· = s)) ∧
        (r.waited = false → Runs (.hostReadIssue e tag) s fun t =>
          t.hreads = s.hreads ∧ t.ctr (epPage e 0) 0x04 = s.ctr (epPage e 0) 0x04 + 1))) ∧
    (s.dlUp e = true → ∀ (fn : BitVec 8) (status : BitVec 3) (bad : Bool) (hdr : BitVec 128) (data : List Byte),
      ((∀ r, tabFind s.hreads (tagKey e tag.toNat) = some r → r.quar.isSome = true) →
        Runs (.hostCompletion e tag fn status bad hdr data) s fun t =>
          t.hreads = s.hreads ∧ t.arrived = s.arrived ∧ t.ctr (epPage e 0) 0x01 = s.ctr (epPage e 0) 0x01 + 1 ∧
          bit (t.rd (epPage e 0) 0x010) 5 = true) ∧
      (∀ r : HRead, tabFind s.hreads (tagKey e tag.toNat) = some r → r.quar = none → r.client ≠ .dead →
        (status ≠ 0 → Runs (.hostCompletion e tag fn status bad hdr data) s fun t =>
          tabFind t.hreads (tagKey e tag.toNat) = none ∧
          t.arrived = s.arrived ++ [{ client := r.client, off := r.off, status := 7, data := [] }] ∧
          t.ctr (epPage e 0) 0x02 = s.ctr (epPage e 0) 0x02 + 1) ∧
        (status = 0 → bad = true → Runs (.hostCompletion e tag fn status bad hdr data) s fun t =>
          tabFind t.hreads (tagKey e tag.toNat) = none ∧
          t.arrived = s.arrived ++ [{ client := r.client, off := r.off, status := 8, data := [] }] ∧
          t.ctr (epPage e 0) 0x03 = s.ctr (epPage e 0) 0x03 + 1) ∧
        (status = 0 → bad = false → (r.got ++ data).length = r.len →
          Runs (.hostCompletion e tag fn status bad hdr data) s fun t =>
            t = { s with hreads := tabErase s.hreads (tagKey e tag.toNat),
                         arrived := s.arrived ++ [{ client := r.client, off := r.off, status := 0, data := r.got ++ data }] }) ∧
        (status = 0 → bad = false → (r.got ++ data).length < r.len →
          Runs (.hostCompletion e tag fn status bad hdr data) s fun t =>
            tabFind t.hreads (tagKey e tag.toNat) = some { r with got := r.got ++ data } ∧ t.arrived = s.arrived))) ∧
    (∀ r : HRead, tabFind s.hreads (tagKey e tag.toNat) = some r → r.quar = none → r.client ≠ .dead →
      (r.at_ + s.cplTimeout e r.fn ≤ s.clk → Runs (.hostReadTimeout e tag) s fun t =>
        tabFind t.hreads (tagKey e tag.toNat) = some { r with quar := some (s.clk, 2 * s.cplTimeout e r.fn), got := [] } ∧
        t.arrived = s.arrived ++ [{ client := r.client, off := r.off, status := 2, data := [] }] ∧
        t.ctr (epPage e 0) 0x00 = s.ctr (epPage e 0) 0x00 + 1 ∧ bit (t.rd (epPage e 0) 0x010) 6 = true) ∧
      (s.clk < r.at_ + s.cplTimeout e r.fn → Runs (.hostReadTimeout e tag) s (· = s))) ∧
    (∀ (r : HRead) (at_ d : Ns), tabFind s.hreads (tagKey e tag.toNat) = some r → r.quar = some (at_, d) →
      (at_ + d ≤ s.clk → Runs (.tagQuarantineEnd e tag) s fun t =>
        t = { s with hreads := tabErase s.hreads (tagKey e tag.toNat) }) ∧
      (s.clk < at_ + d → Runs (.tagQuarantineEnd e tag) s (· = s)))

/-- DOE, IDE and TDISP (R293–R296, R505), and the peer windows' banks (R299). Firmware answers a discovery; an object
above 64 KiB sets DOE Error; at A3 a request ends in an error. A failed IDE check takes its stream to Insecure. A TDI
goes from CONFIG_UNLOCKED to CONFIG_LOCKED to RUN, and STOP returns it; a message that does not fit its state is an
error that changes nothing. GO of a commit is taken in IDLE and refused otherwise, and the switch makes the other bank
active. That a command that is not due leaves the state as it is is the model's choice (log entry 2). Cryptographic
outcomes are operands (log entry 16). -/
def Obligations.SecureInterfaceRows : Prop :=
  ∀ (s : State) (e : Fin 32),
    (s.dlUp e = true → s.omc.running = true → ∀ (body : List Byte) (km : IdeKm),
      (body.length ≤ 65536 → Runs (.doeObject e 0 body km) s fun t =>
        (∃ b, .reply "doe-discovery" b ∈ t.out) ∧ t = { s with out := t.out }) ∧
      (∀ ty : Byte, 65536 < body.length → Runs (.doeObject e ty body km) s fun t =>
        (t.cfgRd e 0 0x2EC).getLsbD 2 = true ∧ t = { s with cfg := t.cfg }) ∧
      (3 ≤ s.alarmLevel → body.length ≤ 65536 → Runs (.doeObject e 2 body km) s fun t =>
        t = s.emit (.reply "doe" [0x13, 0x7F]))) ∧
    (∀ (ty : Byte) (body : List Byte) (km : IdeKm), s.dlUp e = false ∨ s.omc.running = false →
      Runs (.doeObject e ty body km) s (· = s)) ∧
    (∀ stream : Byte,
      (tabFind (s.ep e).ide stream.toNat = some true → Runs (.ideCheckFail e true stream) s fun t =>
        tabFind (t.ep e).ide stream.toNat = some false ∧ (s.cfgRd e 0 0x104 ||| bitR 28) = t.cfgRd e 0 0x104 ∧
        bit (t.rd (epPage e 3) 0x010) 0 = true) ∧
      (tabFind (s.ep e).ide stream.toNat ≠ some true → Runs (.ideCheckFail e true stream) s (· = s))) ∧
    (s.omc.running = true → s.dlUp e = true → ∀ f stream : Byte, 2 ≤ f.toNat →
      (s.fnEnabled e f.toNat = true → s.tdi e f.toNat = 0 → s.instSt e f.toNat ≠ 0 → s.instSt e f.toNat ≠ 3 →
        Runs (.lockInterface e f stream) s fun t =>
          t.tdi e f.toNat = 1 ∧ t.rdFld (epPage e 3) (0x200 + 4 * f.toNat) 0 8 = stream.toNat ∧
          t = { s with regs := t.regs, out := t.out }) ∧
      (s.tdi e f.toNat ≠ 0 → Runs (.lockInterface e f stream) s (· = s.emit (.reply "tdisp-error" [f]))) ∧
      (s.tdi e f.toNat = 1 → Runs (.startInterface e f) s fun t =>
        t.tdi e f.toNat = 2 ∧ t = { s with regs := t.regs, out := t.out }) ∧
      (s.tdi e f.toNat ≠ 1 → Runs (.startInterface e f) s (· = s.emit (.reply "tdisp-error" [f]))) ∧
      (s.tdi e f.toNat ≠ 0 → s.instSt e f.toNat = 0 → Runs (.stopInterface e f) s fun t =>
        t.tdi e f.toNat = 0 ∧ .reply "tdisp-stop" [f] ∈ t.out) ∧
      (Runs (.getDeviceInterfaceState e f) s (· = s.emit (.reply "tdisp-state" [BitVec.ofNat 8 (s.tdi e f.toNat)]))) ∧
      (s.tdi e f.toNat = 1 ∨ s.tdi e f.toNat = 2 → Runs (.getDeviceInterfaceReport e f) s fun t =>
        (∃ b, .reply "tdisp-report" b ∈ t.out) ∧ t = { s with out := t.out }) ∧
      (Runs (.getTdispVersion e) s (· = s.emit (.reply "tdisp-version" [1, 0x10]))) ∧
      (Runs (.getTdispCapabilities e) s fun t => t = { s with out := t.out } ∧ t.out ≠ s.out)) ∧
    (∀ (mid : Mid) (q : Fin 16), Admitted s mid (pwinPage q) 0x104 → s.fastReady (pwinPage q) = true →
      (bit (s.rd (pwinPage q) 0x108) 31 = true → Runs (.pwinCommit mid q) s fun t =>
        bit (t.rd (pwinPage q) 0x108) 30 = true ∧ t.rd (pwinPage q) 0x100 = s.rd (pwinPage q) 0x100) ∧
      (bit (s.rd (pwinPage q) 0x108) 31 = false → Runs (.pwinCommit mid q) s fun t =>
        bit (t.rd (pwinPage q) 0x108) 29 = true ∧ bit (t.rd (pwinPage q) 0x010) 2 = true ∧
        t.rd (pwinPage q) 0x100 = s.rd (pwinPage q) 0x100)) ∧
    (∀ q : Fin 16,
      (bit (s.rd (pwinPage q) 0x108) 30 = true → Runs (.pwinBankSwitch q) s fun t =>
        t.rd (pwinPage q) 0x100 = BitVec.ofNat 32 (1 - s.rdFld (pwinPage q) 0x100 0 1) ∧
        bit (t.rd (pwinPage q) 0x108) 30 = false ∧ bit (t.rd (pwinPage q) 0x010) 0 = true) ∧
      (bit (s.rd (pwinPage q) 0x108) 30 = false → Runs (.pwinBankSwitch q) s (· = s)))

/-! ### Instances, mailboxes and bindings -/

/-- The instance of a function is created, enabled, drained and asked about (R306–R310, R314, R316). CREATE of a good
grant takes it from the pool and leaves the instance READY; a failed check changes nothing but the result. ENABLE moves
READY to RUN with every ring's fetch index at C, starts a finish drain from RUN, and is refused elsewhere. DESTROY
starts an abort drain and QUIESCE a finish drain. A drain ends when no work is left: READY after a finish, with the
rings kept, else ABSENT with the grant given back. Only the OMC writes a pool total, and only while nothing of the pool
is granted. That a command that is not due leaves the state as it is is the model's choice (log entry 2). -/
def Obligations.InstanceRows : Prop :=
  ∀ (s : State) (mid : Mid) (e : Fin 32) (p : Fin 2) (f : Nat), Admitted s mid (iadmPage e p) 0x114 →
    f = s.rdFld (iadmPage e p) 0x110 0 8 →
    (∀ wr cr base n : Nat, s.managerStopped mid e f = false → wr = s.rdFld (iadmPage e p) 0x11C 0 13 →
      cr = s.rdFld (iadmPage e p) 0x120 0 12 → base = s.rdFld (iadmPage e p) 0x124 0 24 →
      n = s.rdFld (iadmPage e p) 0x128 0 17 →
      (s.ofPf e p f = true → s.fnEnabled e f = true → s.instSt e f = 0 → wr ≤ 4096 → cr ≤ 2048 → n ≤ 65536 →
        wr ≤ s.rdFld (iadmPage e p) 0x140 16 14 → cr ≤ s.rdFld (iadmPage e p) 0x144 16 13 →
        (n ≠ 0 → s.rdFld (iadmPage e p) 0x148 0 24 ≤ base ∧
          base + n ≤ s.rdFld (iadmPage e p) 0x148 0 24 + s.rdFld (iadmPage e p) 0x14C 0 18 ∧
          ∀ w ∈ s.windows, windowsMeet base n w.1 w.2 = false) →
        Runs (.create mid e p) s fun t =>
          t.rd (iadmPage e p) 0x118 = 0x40000000 ∧ t.instSt e f = 1 ∧
          t.rd (ictlPage e f) 0x108 = BitVec.ofNat 32 (wr * 65536 + cr) ∧
          t.rd (ictlPage e f) 0x10C = s.rd (iadmPage e p) 0x12C &&& 1 ∧
          t.rd (instPage e f 2) 0x100 = BitVec.ofNat 32 base ∧ t.rd (instPage e f 2) 0x104 = BitVec.ofNat 32 n ∧
          t.rdFld (iadmPage e p) 0x140 16 14 = s.rdFld (iadmPage e p) 0x140 16 14 - wr ∧
          t.rdFld (iadmPage e p) 0x144 16 13 = s.rdFld (iadmPage e p) 0x144 16 13 - cr ∧
          t.rdFld (iadmPage e p) 0x150 0 18 = s.rdFld (iadmPage e p) 0x150 0 18 - n ∧
          t.halfFull (instPage e f 1) 0x100 = false ∧ t.halfFull (instPage e f 1) 0x160 = false) ∧
      (∀ res : Nat,
        (res = 1 ∧ (s.ofPf e p f = false ∨ s.fnEnabled e f = false)) ∨
        (s.ofPf e p f = true ∧ s.fnEnabled e f = true ∧
          ((res = 4 ∧ s.instSt e f = 3) ∨ (res = 2 ∧ s.instSt e f ≠ 0 ∧ s.instSt e f ≠ 3) ∨
           (s.instSt e f = 0 ∧
             ((res = 9 ∧ (4096 < wr ∨ 2048 < cr ∨ 65536 < n)) ∨
              (res = 5 ∧ wr ≤ 4096 ∧ cr ≤ 2048 ∧ n ≤ 65536 ∧ s.rdFld (iadmPage e p) 0x140 16 14 < wr))))) →
        Runs (.create mid e p) s fun t =>
          t.rd (iadmPage e p) 0x118 = BitVec.ofNat 32 (0x40000000 + res) ∧ t.instSt e f = s.instSt e f ∧
          t.rd (ictlPage e f) 0x108 = s.rd (ictlPage e f) 0x108 ∧ OnlyRegs s t)) ∧
    (s.managerStopped mid e f = false → s.ofPf e p f = true →
      (s.instSt e f ≠ 0 → s.instSt e f ≠ 3 → Runs (.destroy mid e p) s fun t =>
        t.instSt e f = 3 ∧ t.drainMode e f = 2 ∧ t.rdFld (ictlPage e f) 0x104 20 4 = 4 ∧
        t.rd (ictlPage e f) 0x100 = 0 ∧ t.rd (iadmPage e p) 0x118 = 0x40000000) ∧
      (s.instSt e f = 3 → Runs (.destroy mid e p) s fun t =>
        t.rd (iadmPage e p) 0x118 = 0x40000008 ∧ OnlyRegs s t) ∧
      (s.instSt e f = 2 → Runs (.quiesce mid e p) s fun t =>
        t.instSt e f = 3 ∧ t.drainMode e f = 1 ∧ t.rdFld (ictlPage e f) 0x104 20 4 = 2 ∧
        t.rd (iadmPage e p) 0x118 = 0x40000000) ∧
      (s.instSt e f = 1 ∨ s.instSt e f = 3 → Runs (.quiesce mid e p) s fun t =>
        t.rd (iadmPage e p) 0x118 = 0x40000008 ∧ OnlyRegs s t)) ∧
    (s.ofPf e p f = true →
      (s.instSt e f ≠ 0 → Runs (.iadmQuery mid e p) s fun t =>
        t.rd (iadmPage e p) 0x11C = BitVec.ofNat 32 (s.grantWr e f) ∧
        t.rd (iadmPage e p) 0x120 = BitVec.ofNat 32 (s.grantCr e f) ∧
        t.rd (iadmPage e p) 0x124 = s.rd (instPage e f 2) 0x100 ∧
        t.rd (iadmPage e p) 0x128 = s.rd (instPage e f 2) 0x104 ∧
        t.rd (iadmPage e p) 0x12C = s.rd (ictlPage e f) 0x10C ∧
        t.rd (iadmPage e p) 0x118 = 0x40000000 ∧ OnlyRegs s t) ∧
      (s.instSt e f = 0 → Runs (.iadmQuery mid e p) s fun t =>
        t.rd (iadmPage e p) 0x118 = 0x40000003 ∧ OnlyRegs s t)) ∧
    (∀ g : Byte, Admitted s mid (ictlPage e g.toNat) 0x100 → s.managerStopped mid e g.toNat = false →
      (s.instSt e g.toNat = 1 → Runs (.ictlEnable mid e g true) s fun t =>
        t.instSt e g.toNat = 2 ∧ t.rd (ictlPage e g.toNat) 0x100 = 1 ∧
        (∀ h : BitVec 16, t.wring (ringKey e g.toNat h.toNat) =
          { s.wring (ringKey e g.toNat h.toNat) with
            f := (s.wring (ringKey e g.toNat h.toNat)).c, stall := false, stallAt := none }) ∧
        t = { s with regs := t.regs, fast := t.fast, wrings := t.wrings }) ∧
      (s.instSt e g.toNat = 2 → Runs (.ictlEnable mid e g false) s fun t =>
        t.instSt e g.toNat = 3 ∧ t.drainMode e g.toNat = 1 ∧ t.rdFld (ictlPage e g.toNat) 0x104 20 4 = 1) ∧
      (s.instSt e g.toNat = 0 ∨ s.instSt e g.toNat = 3 → Runs (.ictlEnable mid e g true) s fun t =>
        t.instSt e g.toNat = s.instSt e g.toNat ∧ bit (t.rd (ictlPage e g.toNat) 0x104) 29 = true ∧
        bit (t.rd (ictlPage e g.toNat) 0x010) 1 = true ∧
        t.ctr (ictlPage e g.toNat) 0x00 = s.ctr (ictlPage e g.toNat) 0x00 + 1 ∧ t.wrings = s.wrings)) ∧
    (∀ g : Byte, g.toNat ∉ (s.ep e).late →
      (s.instSt e g.toNat = 3 → s.instQuiet e g.toNat = true →
        (s.rdFld (ictlPage e g.toNat) 0x104 20 4 ≤ 3 → Runs (.drainEnd e g) s fun t =>
          t.instSt e g.toNat = 1 ∧ bit (t.rd (ictlPage e g.toNat) 0x104) 30 = true ∧
          t.rd (ictlPage e g.toNat) 0x108 = s.rd (ictlPage e g.toNat) 0x108 ∧ t.wrings = s.wrings ∧ t.ctxs = s.ctxs) ∧
        (s.rdFld (ictlPage e g.toNat) 0x104 20 4 = 4 ∨ 6 ≤ s.rdFld (ictlPage e g.toNat) 0x104 20 4 →
          Runs (.drainEnd e g) s fun t =>
            t.instSt e g.toNat = 0 ∧ t.rd (ictlPage e g.toNat) 0x108 = 0 ∧ t.rd (instPage e g.toNat 2) 0x104 = 0 ∧
            bit (t.rd (ictlPage e g.toNat) 0x104) 30 = true ∧
            (∀ h : BitVec 16, t.wring (ringKey e g.toNat h.toNat) = {}))) ∧
      (s.instSt e g.toNat ≠ 3 ∨ s.instQuiet e g.toNat = false → Runs (.drainEnd e g) s (· = s))) ∧
    (∀ v : Reg, Admitted s mid (iadmPage e p) 0x140 →
      (midIsOmc mid = true → s.rdFld (iadmPage e p) 0x140 16 14 = s.rdFld (iadmPage e p) 0x140 0 14 →
        fld v 0 14 + s.rdFld (iadmPage e (1 - p.val)) 0x140 0 14 ≤ 8192 → Runs (.poolWrite mid e p 0 v) s fun t =>
          t.rdFld (iadmPage e p) 0x140 0 14 = fld v 0 14 ∧ t.rdFld (iadmPage e p) 0x140 16 14 = fld v 0 14) ∧
      (midIsOmc mid = true → s.rdFld (iadmPage e p) 0x140 16 14 ≠ s.rdFld (iadmPage e p) 0x140 0 14 →
        Runs (.poolWrite mid e p 0 v) s fun t => t.rd (iadmPage e p) 0x140 = s.rd (iadmPage e p) 0x140) ∧
      (midIsOmc mid = false → Runs (.poolWrite mid e p 0 v) s fun t =>
        t.rd (iadmPage e p) 0x140 = s.rd (iadmPage e p) 0x140 ∧
        t.rd lbusPage 0x10C = BitVec.ofNat 32 (mid.toNat * 65536 + (unitPath (iadmPage e p)).toNat)))

/-- Mailboxes, their windows and bindings (R317–R324). The sender writes messages and posts them; a post to a FULL half
sets COLLISION. The receiver's TAKE answers with FULL, COLLISION and the length, and empties the half; of an empty half
it answers 0 and changes nothing. A master that is not the half's sender writes nothing. Both halves FULL for more than
1 µs set CROSS in both. A manager's retract empties DOWN. A binding is stored when it is valid and the page is not
sealed. That a command that is not due leaves the state as it is is the model's choice (log entry 2). -/
def Obligations.MailboxRows : Prop :=
  ∀ (s : State) (mid : Mid) (e : Fin 32) (f : Byte) (p : PageKey), p = instPage e f.toNat 1 →
    (∀ b ∈ [0x100, 0x160],
      (∀ (i : Fin 16) (v : Reg), Admitted s mid p (b + 4 * i.val) →
        (s.mailRole mid p b true = true → Runs (.msgWrite mid p b i v) s fun t =>
          t.rd p (b + 4 * i.val) = v ∧ t.halfFull p b = s.halfFull p b ∧
          bit (t.rd p (b + 0x44)) 30 = (s.halfFull p b || bit (s.rd p (b + 0x44)) 30) ∧
          (s.halfFull p b = true → b = 0x160 → bit (t.rd p 0x010) 3 = true)) ∧
        (s.mailRole mid p b true = false → Runs (.msgWrite mid p b i v) s fun t =>
          t.rd p (b + 4 * i.val) = s.rd p (b + 4 * i.val) ∧ t.halfFull p b = s.halfFull p b ∧
          t.rd lbusPage 0x10C = BitVec.ofNat 32 (mid.toNat * 65536 + (unitPath p).toNat))) ∧
      (∀ len : Fin 16, Admitted s mid p (b + 0x40) → s.mailRole mid p b true = true →
        Runs (.send mid p b len) s fun t =>
          t.halfFull p b = true ∧ fld (t.rd p (b + 0x44)) 0 4 = len.val ∧
          bit (t.rd p (b + 0x44)) 30 = (s.halfFull p b || bit (s.rd p (b + 0x44)) 30) ∧
          (b = 0x160 → bit (t.rd p 0x010) 0 = true) ∧
          (b = 0x100 → 2 ≤ f.toNat → bit (t.rd (mbxwPage e (s.pfOf e f.toNat)) 0x010) 0 = true)) ∧
      (Admitted s mid p (b + 0x48) → s.mailRole mid p b false = true →
        (s.halfFull p b = true → Runs (.take mid p b) s fun t =>
          t.out.head? = some (.readData mid (rkey p (b + 0x48)) ((s.rd p (b + 0x44) &&& 0xC000000F).setWidth 64)) ∧
          t.halfFull p b = false ∧ bit (t.rd p (b + 0x44)) 30 = false ∧ bit (t.rd p 0x144) 29 = false ∧
          bit (t.rd p 0x1A4) 29 = false ∧ (b = 0x100 → bit (t.rd p 0x010) 1 = true)) ∧
        (s.halfFull p b = false → Runs (.take mid p b) s (· = s.emit (.readData mid (rkey p (b + 0x48)) 0)))) ∧
      (∀ t0 : Ns, tabFind s.bothFull (rkey p 0x100) = some t0 →
        (t0 + 1000 < s.clk → bit (s.rd p 0x144) 29 = false → Runs (.cross p b) s fun t =>
          bit (t.rd p 0x144) 29 = true ∧ bit (t.rd p 0x1A4) 29 = true ∧ bit (t.rd p 0x010) 2 = true ∧
          (2 ≤ f.toNat → bit (t.rd (mbxwPage e (s.pfOf e f.toNat)) 0x010) 2 = true)) ∧
        (s.clk ≤ t0 + 1000 → Runs (.cross p b) s (· = s))) ∧
      (tabFind s.bothFull (rkey p 0x100) = none → Runs (.cross p b) s (· = s))) ∧
    (∀ q : Fin 2, Admitted s mid (mbxwPage e q) 0x114 → s.rdFld (mbxwPage e q) 0x110 0 8 = f.toNat → 2 ≤ f.toNat →
      s.pfOf e f.toNat = q.val → s.instSt e f.toNat ≠ 0 → Runs (.mbxwRetract mid e q) s fun t =>
        t.halfFull p 0x160 = false ∧ bit (t.rd p 0x1A4) 30 = false ∧ t.halfFull p 0x100 = s.halfFull p 0x100 ∧
        t.ctr (mbxwPage e q) 0 = s.ctr (mbxwPage e q) 0 + 1 ∧ t.rd p 0x010 = s.rd p 0x010) ∧
    (∀ k : Nat, RecordReady s mid bindPage 0x104 → s.waiting bindPage = false → k = s.frFld bindPage 0x100 0 12 →
      (s.isSealed bindPage = false → bindOk k (s.fr bindPage 0x108) = true → Runs (.bindWrite mid) s fun t =>
        tabGet 0 t.binds k = s.fr bindPage 0x108 ∧ (∀ j, j ≠ k → tabGet 0 t.binds j = tabGet 0 s.binds j) ∧
        t.rd bindPage 0x104 = 0 ∧ t = { s with regs := t.regs, fast := t.fast, binds := t.binds }) ∧
      (s.isSealed bindPage = false → bindOk k (s.fr bindPage 0x108) = false → Runs (.bindWrite mid) s fun t =>
        t.rd bindPage 0x104 = 0x100 ∧ OnlyRegs s t) ∧
      (s.isSealed bindPage = true → Runs (.bindWrite mid) s fun t =>
        t.rd bindPage 0x104 = 0x200 ∧ bit (t.rd bindPage 0x010) 30 = true ∧ OnlyRegs s t) ∧
      (Runs (.bindRead mid) s fun t =>
        t.rd bindPage 0x108 = tabGet 0 s.binds k ∧ t.rd bindPage 0x104 = 0 ∧ OnlyRegs s t))

/-! ### Rings -/

/-- Ring records, doorbells and the mover's fetches (R325–R327, R334–R339, R347, R350, R351). A handle outside the
grant gives RESULT 1. A good record enables a work ring with its indexes at 0, and a read shows a ring's record. A
doorbell advances an index, is counted as stale, or is an overrun that raises an interrupt; in a drain it is only
counted. The mover starts a fetch of as many entries as credit allows, accepts entries up to the first that is not
device-owned, and reads that one again once, 1 µs later. A moderation time that has passed sends the vector. A disabled
ring with nothing held becomes IDLE. That a command that is not due leaves the state as it is is the model's choice
(log entry 2). -/
def Obligations.RingRows : Prop :=
  ∀ (s : State) (mid : Mid) (e : Fin 32) (f : Byte),
    (∀ (port : Fin 4) (p : PageKey) (h ctl k : Nat) (b : List Byte), p = instPage e f.toNat (4 + port.val) →
      RecordReady s mid p 0x104 → h = s.frFld p 0x100 0 16 → b = s.frBytes p 0x110 8 → ctl = leAt b 8 4 →
      k = ringKey e f.toNat h →
      (s.grantWr e f.toNat ≤ h → h < 0x8000 ∨ 0x8000 + s.grantCr e f.toNat ≤ h →
        ∀ c ∈ [Instr.rcfgWrite mid e f port, .rcfgRead mid e f port], Runs c s fun t =>
          t.rd p 0x104 = 0x100 ∧ bit (t.rd p 0x010) 0 = true ∧ OnlyRegs s t) ∧
      (h < s.grantWr e f.toNat → s.instSt e f.toNat = 0 ∨ s.instSt e f.toNat = 3 →
        Runs (.rcfgWrite mid e f port) s fun t => t.rd p 0x104 = 0x600 ∧ OnlyRegs s t) ∧
      (h < s.grantWr e f.toNat → s.instSt e f.toNat = 1 ∨ s.instSt e f.toNat = 2 →
        leAt b 0 8 % 4096 ≠ 0 ∨ ctl / 2 ^ 20 % 16 < 6 →
        Runs (.rcfgWrite mid e f port) s fun t => t.rd p 0x104 = 0x400 ∧ OnlyRegs s t) ∧
      (h < s.grantWr e f.toNat → s.instSt e f.toNat = 1 ∨ s.instSt e f.toNat = 2 → leAt b 0 8 % 4096 = 0 →
        6 ≤ ctl / 2 ^ 20 % 16 → ctl / 2 ^ 28 % 4 ≤ 1 → ctl / 2 ^ 16 % 16 = 0 →
        (ctl / 2 ^ 28 % 4 = 0 → ctl / 2 ^ 24 % 8 = 0) →
        (ctl.testBit 27 = true → bit (s.rd (ictlPage e f.toNat) 0x10C) 0 = true) →
        (s.wring k).en = false → (s.wring k).idle = true → ctl.testBit 31 = true → 0x8000 ≤ ctl % 65536 →
        ctl % 65536 < 0x8000 + s.grantCr e f.toNat → (s.cring (ringKey e f.toNat (ctl % 65536))).en = true →
        s.bound (ringKey e f.toNat (ctl % 65536)) + 2 ^ (ctl / 2 ^ 20 % 16) ≤
          (s.cring (ringKey e f.toNat (ctl % 65536))).size →
        Runs (.rcfgWrite mid e f port) s fun t =>
          t.rd p 0x104 = 0 ∧ (t.wring k).en = true ∧ (t.wring k).base = leAt b 0 8 ∧
          (t.wring k).rx = (ctl / 2 ^ 28 % 4 == 1) ∧ (t.wring k).express = ctl.testBit 27 ∧
          (t.wring k).log2 = ctl / 2 ^ 20 % 16 ∧ (t.wring k).cq = ctl % 65536 ∧ (t.wring k).p = 0 ∧ (t.wring k).f = 0 ∧
          (t.wring k).c = 0 ∧ (t.wring k).idle = false ∧ (∀ j, j ≠ k → t.wring j = s.wring j) ∧
          t = { s with regs := t.regs, fast := t.fast, wrings := t.wrings, out := t.out }) ∧
      (h < s.grantWr e f.toNat → h < 0x8000 → Runs (.rcfgRead mid e f port) s fun t =>
        t.frBytes p 0x110 8 = workBytes (s.wring k) ∧ t.rd p 0x104 = 0 ∧ OnlyRegs s t) ∧
      (s.grantWr e f.toNat ≤ h → 0x8000 ≤ h → h < 0x8000 + s.grantCr e f.toNat →
        Runs (.rcfgRead mid e f port) s fun t =>
          t.frBytes p 0x110 8 = s.cplBytes k ∧ t.rd p 0x104 = 0 ∧ OnlyRegs s t)) ∧
    (∀ (n : Fin 8) (v : Word) (h x k : Nat), Admitted s mid (instPage e f.toNat (8 + n.val)) 0x100 →
      h = natField v.toNat 32 16 → x = natField v.toNat 0 16 → k = ringKey e f.toNat h →
      (s.instSt e f.toNat = 3 → Runs (.doorbell mid e f n v) s fun t =>
        t.ctr (ictlPage e f.toNat) 0x01 = s.ctr (ictlPage e f.toNat) 0x01 + 1 ∧ t.wrings = s.wrings ∧
        t.crings = s.crings) ∧
      (s.instSt e f.toNat ≠ 3 → h < 0x8000 → (s.wring k).en = true → ∀ n0 : Nat,
        n0 = doorbellCase (s.wring k).c (s.wring k).p (idxAdd (s.wring k).c (s.wring k).size) x (s.wring k).size →
        Runs (.doorbell mid e f n v) s fun t =>
          (n0 = 0 → t.wring k = { s.wring k with p := x, stall := false, stallAt := none }) ∧
          (n0 = 1 → (t.wring k).p = (s.wring k).p ∧
            t.ctr (instPage e f.toNat 4) 0x04 = s.ctr (instPage e f.toNat 4) 0x04 + 1) ∧
          (n0 = 2 → t.wring k = s.wring k ∧ t.ctr (ictlPage e f.toNat) 0x04 = s.ctr (ictlPage e f.toNat) 0x04 + 1 ∧
            bit (t.rd (ictlPage e f.toNat) 0x010) 2 = true) ∧
          (∀ j, j ≠ k → t.wring j = s.wring j) ∧ t.crings = s.crings) ∧
      (s.instSt e f.toNat ≠ 3 → 0x8000 ≤ h → (s.cring k).en = true → x ≠ (s.cring k).c →
        doorbellCase (s.cring k).c (s.cring k).c (s.cring k).p x (s.cring k).size = 0 →
        Runs (.doorbell mid e f n v) s fun t =>
          (t.cring k).c = x ∧ (t.cring k).stopped = false ∧ t.wrings = s.wrings ∧
          (∀ j, j ≠ k → t.cring j = s.cring j)) ∧
      (s.instSt e f.toNat ≠ 3 → (h < 0x8000 ∧ (s.wring k).en = false) ∨ (0x8000 ≤ h ∧ (s.cring k).en = false) →
        Runs (.doorbell mid e f n v) s fun t =>
          t.ctr (instPage e f.toNat 4) 0x03 = s.ctr (instPage e f.toNat 4) 0x03 + 1 ∧ t.wrings = s.wrings ∧
          t.crings = s.crings)) ∧
    (∀ (r : Fin 16) (k q m : Nat),
      (s.moverRings r = [] → Runs (.descFetch r) s (· = s)) ∧
      (k ∈ s.moverRings r → (∀ j ∈ s.moverRings r, (s.wring j).inFetch = 0 ∧ (j ≠ k → s.ringLive j = false)) →
        s.ringLive k = true → q = cqOf k (s.wring k) → m = min (s.wring k).wants (s.cring q).slots → m ≠ 0 →
        Runs (.descFetch r) s fun t =>
          t.wring k = { s.wring k with inFetch := m } ∧ (∀ j, j ≠ k → t.wring j = s.wring j) ∧
          t.cring q = { s.cring q with reserved := (s.cring q).reserved + m } ∧
          t.hwait = (s.askHost (ringEp k) (ringFn k) (.desc k (s.wring k).f m)
            ((s.wring k).base + (s.wring k).f % (s.wring k).size * 64) (64 * m)).hwait ∧
          ((s.wring k).express = false → tabGet 0 t.lastRing r = k)) ∧
      (∀ data : List Byte, s.moverRings r = [k] → (s.wring k).inFetch ≠ 0 →
        (s.takeRead (.desc k (s.wring k).f (s.wring k).inFetch) (64 * (s.wring k).inFetch)).1 = some (0, data) →
        Runs (.descFetch r) s fun t =>
          (t.wring k).inFetch = 0 ∧
          (t.wring k).fetched = (s.wring k).fetched ++ ownedPrefix (s.wring k).f
            ((List.range (s.wring k).inFetch).map fun i => slice data (64 * i) 64) ∧
          (t.wring k).p = (s.wring k).p ∧ (t.wring k).c = (s.wring k).c)) ∧
    (∀ (h : BitVec 16) (k : Nat) (s1 : State), k = ringKey e f.toNat h.toNat →
      s1 = s.setWring k { s.wring k with stall := false, stallAt := none, retried := true } →
      ((s.wring k).stallAt = none → Runs (.descRefetch e f h) s (· = s)) ∧
      (∀ t0 : Ns, (s.wring k).stallAt = some t0 →
        (s.clk < t0 + 1000 → Runs (.descRefetch e f h) s (· = s)) ∧
        (t0 + 1000 ≤ s.clk → s1.ringLive k = false → Runs (.descRefetch e f h) s (· = s1)) ∧
        (t0 + 1000 ≤ s.clk → s1.ringLive k = true → (s1.wring k).wants ≠ 0 → (s.cring (cqOf k (s.wring k))).slots ≠ 0 →
          Runs (.descRefetch e f h) s fun t =>
            (t.wring k).inFetch = 1 ∧ (t.wring k).retried = true ∧ (t.wring k).stall = false))) ∧
    (∀ (h : BitVec 16) (k t0 : Nat), k = ringKey e f.toNat h.toNat →
      t0 = s.rdFld (instPage e f.toNat 3) (0x204 + 8 * (s.cring k).slot) 0 24 →
      (s.isNvme e f.toNat = false → (s.cring k).en = true → (s.cring k).armed = true → (s.cring k).unsig ≠ 0 → t0 ≠ 0 →
        (s.cring k).oldest + t0 * 100 ≤ s.clk → Runs (.irqTimer e f h) s fun t =>
          t.cring k = { s.cring k with armed := false, unsig := 0 } ∧ t.wrings = s.wrings ∧
          (bit (s.cfgRd e f.toNat 0x090) 31 = true → bit (s.cfgRd e f.toNat 0x090) 30 = false →
            bit (s.rd (instPage e f.toNat 30) (0x100 + 16 * (s.cring k).vector + 12)) 0 = false →
            .msix e f.toNat (s.cring k).vector
              (BitVec.ofNat 64 (s.rd64 (instPage e f.toNat 30) (0x100 + 16 * (s.cring k).vector)))
              (s.rd (instPage e f.toNat 30) (0x100 + 16 * (s.cring k).vector + 8)) ∈ t.out)) ∧
      (s.isNvme e f.toNat = false → (s.cring k).unsig = 0 ∨ (s.cring k).armed = false ∨ t0 = 0 ∨
          s.clk < (s.cring k).oldest + t0 * 100 → Runs (.irqTimer e f h) s (· = s)) ∧
      (∀ c : NvCq, s.isNvme e f.toNat = true → tabFind (s.nv e f.toNat).cqs h.toNat = some c → c.ien = true →
        c.armed = true → c.unsig ≠ 0 → ((s.nv e f.toNat).coalesce h.toNat c).2 ≠ 0 →
        c.oldest + ((s.nv e f.toNat).coalesce h.toNat c).2 * 100 ≤ s.clk → Runs (.irqTimer e f h) s fun t =>
          tabFind (t.nv e f.toNat).cqs h.toNat = some { c with armed := false, unsig := 0 }) ∧
      ((s.wring k).en = false → (s.wring k).heldN = 0 → (s.wring k).inFetch = 0 → Runs (.ringIdle e f h) s fun t =>
        t.wring k = { s.wring k with idle := true } ∧ (∀ j, j ≠ k → t.wring j = s.wring j) ∧
        t = { s with wrings := t.wrings }) ∧
      ((s.wring k).en = true ∨ (s.wring k).heldN ≠ 0 → Runs (.ringIdle e f h) s (· = s)))

/-- Descriptors and completions (R215, R328–R331, R340, R343, R344). A descriptor that is not for the command, or none,
changes nothing. A malformed one completes with its status and leaves the ring. A good one asks for its payload; with
all of it there the frame enters the packet buffer and the endpoint's FIFO, and a TLS record its segments, unless the
eclipse refuses it. A receive descriptor supplies a buffer. The oldest completion goes out: the entry's OWN byte, the
CQE, and the completion ring's index. A frame selected for a host fills its ring's buffers, is dropped for want of
them, or of a ring. That a command that is not due leaves the state as it is is the model's choice (log entry 2). -/
def Obligations.DescriptorRows : Prop :=
  ∀ (s : State) (e : Fin 32) (f : Byte) (h : BitVec 16) (k : Nat), k = ringKey e f.toNat h.toNat →
    ((s.wring k).fetched = [] → ∀ c ∈ [Instr.sendDesc e f h, .sendTls e f h, .rxBuf e f h], Runs c s (· = s)) ∧
    (∀ (d : Fetched) (ds : List Fetched), (s.wring k).fetched = d :: ds →
      ((s.wring k).rx = true →
        (Runs (.sendDesc e f h) s (· = s)) ∧ (Runs (.sendTls e f h) s (· = s)) ∧
        (rxBad (s.wring k) d.bytes = false → Runs (.rxBuf e f h) s fun t =>
          t.wring k = { s.wring k with
            fetched := ds
            pref := (s.wring k).pref ++ [{ idx := d.idx, desc := leAt d.bytes 2 2, addr := leAt d.bytes 8 8,
                                           len := leAt d.bytes 4 4 }] } ∧
          t = { s with wrings := t.wrings }) ∧
        (rxBad (s.wring k) d.bytes = true → s.drainMode e f.toNat ≠ 3 → Runs (.rxBuf e f h) s fun t =>
          (t.wring k).fetched = ds ∧ (t.wring k).pref = (s.wring k).pref ∧
          ∃ c, t.cqes = s.cqes ++ [c] ∧ c.ring = k ∧ c.idx = d.idx ∧ leAt c.cqe 2 1 = 5)) ∧
      ((s.wring k).rx = false →
        (Runs (.rxBuf e f h) s (· = s)) ∧
        (leAt d.bytes 0 1 = 2 → Runs (.sendDesc e f h) s (· = s)) ∧
        (leAt d.bytes 0 1 ≠ 2 → Runs (.sendTls e f h) s (· = s)) ∧
        (∀ c : Instr, (leAt d.bytes 0 1 ≠ 2 ∧ c = .sendDesc e f h) ∨ (leAt d.bytes 0 1 = 2 ∧ c = .sendTls e f h) →
          (s.txs.find? (fun t => t.2.ring == k && t.2.idx == d.idx && !t.2.sent) = none →
            (s.sendCheck k d.bytes ≠ 0 → s.drainMode e f.toNat ≠ 3 → Runs c s fun t =>
              (t.wring k).fetched = ds ∧ t.txs = s.txs ∧
              ∃ q, t.cqes = s.cqes ++ [q] ∧ q.ring = k ∧ q.idx = d.idx ∧ leAt q.cqe 2 1 = s.sendCheck k d.bytes) ∧
            (s.sendCheck k d.bytes = 0 → Runs c s fun t =>
              (∃ x, tabFind t.txs s.txNext = some x ∧ x.ring = k ∧ x.idx = d.idx ∧ x.sqe = d.bytes ∧
                x.asked = !(leAt d.bytes 1 1).testBit 5) ∧
              t.txNext = s.txNext + 1 ∧ s.hwait.length < t.hwait.length ∧ t.wrings = s.wrings ∧ t.fifos = s.fifos)) ∧
          (∀ (n i : Nat) (x : TxRec) (b : List Byte),
            s.txs.find? (fun t => t.2.ring == k && t.2.idx == d.idx && !t.2.sent) = some (n, x) → x.asked = true →
            (∀ w ∈ x.want, x.parts.any (fun p => p.1 == w.1) = true) → x.payload = some b →
            (c = .sendDesc e f h →
              (s.bufArrive (epRegion e / 4) b (s.wring k).express none (some n)).1 = some i → Runs c s fun t =>
                (t.wring k).fetched = ds ∧
                (t.fifo (epSource e)).ord = (s.fifo (epSource e)).ord ++ (if (s.wring k).express then [] else
                  [{ buf := i, src := hostSrc e f.toNat, ts := s.ptime.toNat, tx := some n }]) ∧
                (t.fifo (epSource e)).exp = (s.fifo (epSource e)).exp ++ (if (s.wring k).express then
                  [{ buf := i, src := hostSrc e f.toNat, ts := s.ptime.toNat, express := true, tx := some n }] else [])) ∧
            (c = .sendTls e f h → s.eclipsed = true → s.drainMode e f.toNat ≠ 3 → Runs c s fun t =>
              (t.wring k).fetched = ds ∧ t.fifos = s.fifos ∧
              ∃ q, t.cqes = s.cqes ++ [q] ∧ q.ring = k ∧ q.idx = d.idx ∧ leAt q.cqe 2 1 = 0x0F) ∧
            (∀ (m : Nat) (s1 : State) (segs : List (List Byte)) (ks : List Nat), c = .sendTls e f h →
              s.eclipsed = false → ((s.ctx (s.descCtx k x.sqe)).st = 0 ∨
                scopeAdmits (s.ctx (s.descCtx k x.sqe)).owner (hostSrc e f.toNat) none = true) →
              s.ctxStart (epRegion e) (s.descCtx k x.sqe) true = (.inr m, s1) →
              segs = tlsSegments x.sqe b (slice (Config.tlsSeal (s1.ctx m).alg (s1.ctxKey m) (s1.ctx m).salt
                (leAt x.sqe 48 8) (b.drop (leAt x.sqe 10 2 + 5))) 0
                (5 + (b.drop (leAt x.sqe 10 2 + 5)).length + 16)) →
              (s1.bufAll (epRegion e / 4) (s.wring k).express n segs).1 = some ks → Runs c s fun t =>
                (t.wring k).fetched = ds ∧
                (t.fifo (epSource e)).ord.map Frame.buf ++ (t.fifo (epSource e)).exp.map Frame.buf =
                  (s.fifo (epSource e)).ord.map Frame.buf ++ (if (s.wring k).express then [] else ks) ++
                  ((s.fifo (epSource e)).exp.map Frame.buf ++ (if (s.wring k).express then ks else []))))))) ∧
    ((∀ c ∈ s.cqes, ringEp c.ring = e.val → s.mayRead e (ringFn c.ring) = false) → Runs (.cqeWrite e) s (· = s)) ∧
    (∀ (c : CqeOut) (i q : Nat),
      s.cqes.zipIdx.find? (fun c => ringEp c.1.ring == e.val && s.mayRead e (ringFn c.1.ring)) = some (c, i) →
      q = cqOf c.ring (s.wring c.ring) → Runs (.cqeWrite e) s fun t =>
        t.cqes = s.cqes.eraseIdx i ∧
        .hostWrite e (ringFn c.ring) ((s.wring c.ring).base + c.idx % (s.wring c.ring).size * 64 + 63) [0] ∈ t.out ∧
        .hostWrite e (ringFn c.ring) ((s.cring q).base + (s.cring q).p % (s.cring q).size * 32) c.cqe ∈ t.out ∧
        (t.wring c.ring).heldN = (s.wring c.ring).heldN - 1 ∧ (t.cring q).p = idxAdd (s.cring q).p 1 ∧
        (t.cring q).reserved = (s.cring q).reserved - 1 ∧
        t.ctr (instPage e (ringFn c.ring) 4) 0x01 = s.ctr (instPage e (ringFn c.ring) 4) 0x01 + 1) ∧
    (∀ o : Nat, o = (epOutlet e).1 * 256 + (epOutlet e).2 →
      (tabFind s.sel o = none → Runs (.rxDeliver e) s (· = s)) ∧
      (∀ (x : Entry) (ep g n : Nat), tabFind s.sel o = some x → s.resolveDest x.dest = some (.host ep g n) →
        (s.mayRead ep g = true → s.rxRing ep g n = none → Runs (.rxDeliver e) s fun t =>
          tabFind t.sel o = none ∧ t.ctr (instPage ep g 4) 0x06 = s.ctr (instPage ep g 4) 0x06 + 1 ∧
          ∀ j, (t.wring j).pref = (s.wring j).pref) ∧
        (∀ j : Nat, s.mayRead ep g = true → s.rxRing ep g n = some j →
          takeBufs x.bytes.length (s.wring j).pref = none → Runs (.rxDeliver e) s fun t =>
            tabFind t.sel o = none ∧ t.ctr (instPage ep g 4) 0x05 = s.ctr (instPage ep g 4) 0x05 + 1 ∧
            (t.wring j).pref = (s.wring j).pref) ∧
        (∀ (j : Nat) (us left : List RxBuf), s.mayRead ep g = true → s.rxRing ep g n = some j →
          takeBufs x.bytes.length (s.wring j).pref = some (us, left) → x.enc = [] → x.dec = none →
          s.drainMode (ringEp j) (ringFn j) ≠ 3 → Runs (.rxDeliver e) s fun t =>
            tabFind t.sel o = none ∧ (t.wring j).pref = left ∧
            (∀ u ∈ us, ∃ c ∈ t.cqes, c.ring = j ∧ c.idx = u.idx) ∧
            (∀ u, us.head? = some u → .hostWrite (ringEp j) (ringFn j) u.addr
              (x.bytes.take (min u.len x.bytes.length)) ∈ t.out))))

/-! ### DMA movers -/

/-- The movers of a region can work: not fenced, not in reset, their domain lit. -/
abbrev DmaReady (s : State) (r : Nat) : Prop :=
  s.isFenced (dmaPage r) = false ∧ s.inReset (dmaPage r) = false ∧ s.litDom (208 + r) = true

/-- A channel has a descriptor to start: a ring entry that the device owns, or a message of eight words. -/
abbrev DmaDue (s : State) (r k : Nat) (d : List Byte) (q : Option Ureq) : Prop :=
  (s.dma r k).xfer = none ∧ s.dmaNext r k = some (d, q) ∧ (q = none → (byteAt d 63).testBit 7 = true) ∧
    ∀ u, q = some u → u.dead = false ∧ u.words.length = 8

/-- The transfer of a channel has ended with these results. -/
abbrev DmaEnded (t : State) (r k : Nat) (d : List Byte) (status rflags offset : Nat) : Prop :=
  ∃ x, (t.dma r k).xfer = some x ∧ x.desc = d ∧ x.finished = true ∧ x.status = status ∧ x.rflags = rflags ∧
    x.offset = offset

/-- DMA channels (R355–R360, R364–R366, R372, R375). A malformed descriptor ends MALFORMED and one that the checks
refuse with their status, with nothing written. A ring entry that the device does not own stalls the channel, and is
looked at again 1 µs later. FILL writes the pattern, COPY the source's bytes, and COMPARE writes nothing and reports
the first difference. Completion frees the channel, counts the transfer and advances CONS or answers the message; an
error halts a ring channel. A doorbell advances the producer index unless it overruns. ABORT ends the transfer and
halts a ring channel; RESUME lets it go on; a write of EN starts and stops it. That a command that is not due leaves
the state as it is is the model's choice (log entry 2). -/
def Obligations.DmaRows : Prop :=
  ∀ (s : State) (mid : Mid) (r : Fin 16) (k : Fin 64),
    (∀ oc ∈ [(1, Instr.dmaCopy r k), (2, .dmaFill r k), (3, .dmaCompare r k)],
      (s.isFenced (dmaPage r) = true ∨ s.inReset (dmaPage r) = true → Runs oc.2 s (· = s)) ∧
      (DmaReady s r → (s.dma r k).xfer = none → s.dmaNext r k = none → Runs oc.2 s (· = s.work (208 + r.val))) ∧
      (∀ d : List Byte, DmaReady s r → (s.dma r k).xfer = none → s.dmaNext r k = some (d, none) →
        dmaRow oc.1 d = true → (byteAt d 63).testBit 7 = false → Runs oc.2 s fun t =>
          t.dma r k = { s.dma r k with stall := true, stallAt := some s.clk } ∧ t.mem = s.mem ∧ t.regs = s.regs) ∧
      (∀ (d : List Byte) (q : Option Ureq), DmaReady s r → DmaDue s r k d q → dmaRow oc.1 d = true →
        (dmaBad d = true → Runs oc.2 s fun t => DmaEnded t r k d 5 0 0 ∧ t.mem = s.mem ∧ t.out = s.out) ∧
        (s.dmaLease r k q = none → (s.dmaCheck r k d q).1 ≠ 0 → Runs oc.2 s fun t =>
          DmaEnded t r k d (s.dmaCheck r k d q).1 0 0 ∧ t.mem = s.mem ∧ t.out = s.out))) ∧
    (∀ (d : List Byte) (q : Option Ureq) (ws wd sa da n : Nat), DmaReady s r → DmaDue s r k d q →
      (s.dmaCheck r k d q).1 = 0 → ws = leAt d 24 4 → wd = leAt d 28 4 → sa = leAt d 8 8 → da = leAt d 16 8 →
      n = leAt d 4 4 → tgtSpace wd ∈ [0, 2, 5] → tgtWrap wd = 0 →
      (leAt d 0 1 = 2 → Runs (.dmaFill r k) s fun t =>
        DmaEnded t r k d 0 0 0 ∧ (∀ i < n, t.tgtByte r wd (da + i) = fillByte d (da + i)) ∧
        (tgtSpace wd = 5 → ∀ j, j < da ∨ da + n ≤ j → t.byte j = s.byte j)) ∧
      (leAt d 0 1 = 1 → tgtSpace ws ∈ [0, 2, 5] → tgtWrap ws = 0 → piMode d = 0 → digMode d = 0 → dmaOverlap d = false →
        Runs (.dmaCopy r k) s fun t =>
          DmaEnded t r k d 0 0 0 ∧ (∀ i < n, t.tgtByte r wd (da + i) = s.tgtByte r ws (sa + i)) ∧
          (tgtSpace wd = 5 → ∀ j, j < da ∨ da + n ≤ j → t.byte j = s.byte j)) ∧
      (leAt d 0 1 = 3 → tgtSpace ws ∈ [0, 2, 5] → tgtWrap ws = 0 → Runs (.dmaCompare r k) s fun t =>
        t.mem = s.mem ∧
        (∀ i, firstDiff (s.tgtRead r ws sa n) (s.tgtRead r wd da n) 0 = some i → DmaEnded t r k d 0 1 i) ∧
        (firstDiff (s.tgtRead r ws sa n) (s.tgtRead r wd da n) 0 = none → DmaEnded t r k d 0 0 (n % 2 ^ 24)))) ∧
    (((s.dma r k).xfer = none → Runs (.dmaComplete r k) s (· = s)) ∧
     (∀ x : Xfer, (s.dma r k).xfer = some x →
      (x.finished = false → Runs (.dmaComplete r k) s (· = s)) ∧
      (x.finished = true → Runs (.dmaComplete r k) s fun t =>
        (t.dma r k).xfer = none ∧
        t.ctr (dmaPage r) (4 * k.val + (if x.status = 0 then 1 else 2)) =
          s.ctr (dmaPage r) (4 * k.val + (if x.status = 0 then 1 else 2)) + 1 ∧
        t.rdFld (dmachPage r k) (dmachOff k + 0x18) 16 8 = x.status % 256 ∧
        (x.req = none → t.dmaCons r k = idxAdd (s.dmaCons r k) 1 ∧ (t.dma r k).halted = ((s.dma r k).halted || x.status != 0)) ∧
        (∀ q : Ureq, x.req = some q → q.dead = false → s.kind q.cluster q.chan = 4 → ∃ u, t.ureps = s.ureps ++ [u] ∧
          u.cluster = q.cluster ∧ u.chan = q.chan ∧ u.words.length = 8 ∧ u.err = false)))) ∧
    (∀ v : BitVec 16, Admitted s mid (dmachPage r k) (dmachOff k + 0x14) → s.fastReady (dmachPage r k) = true →
      (idxDiff v.toNat (s.dmaCons r k) ≤ 2 ^ fld (s.dmaReg r k 0) 22 4 → Runs (.dmachDb mid r k v) s fun t =>
        t.dma r k = { s.dma r k with prod := v.toNat, stall := false, stallAt := none }) ∧
      (2 ^ fld (s.dmaReg r k 0) 22 4 < idxDiff v.toNat (s.dmaCons r k) → Runs (.dmachDb mid r k v) s fun t =>
        t.dmas = s.dmas ∧ bit (t.rd (dmachPage r k) (dmachOff k + 0x18)) 29 = true)) ∧
    (Admitted s mid (dmachPage r k) (dmachOff k) → s.fastReady (dmachPage r k) = true →
      (bit (s.rd (dmachPage r k) (dmachOff k)) 31 = true → bit (s.rd (dmachPage r k) (dmachOff k)) 28 = true →
        Runs (.dmachAbort mid r k) s fun t =>
          (t.dma r k).xfer = none ∧ (t.dma r k).halted = true ∧
          t.rdFld (dmachPage r k) (dmachOff k + 0x18) 30 2 = 2 ∧
          (∀ x, (s.dma r k).xfer = some x → x.finished = false →
            t.rdFld (dmachPage r k) (dmachOff k + 0x18) 16 8 = 1)) ∧
      ((s.dma r k).halted = true → Runs (.dmachResume mid r k) s fun t =>
        (t.dma r k).halted = false ∧ (t.dma r k).stall = false ∧ (t.dma r k).prod = (s.dma r k).prod ∧
        t.rdFld (dmachPage r k) (dmachOff k + 0x18) 30 2 = 0) ∧
      (∀ v : Reg, bit v 30 = false → bit v 29 = false →
        (bit v 31 = true → Runs (.dmachEnable mid r k v) s fun t =>
          bit (t.dmaReg r k 0) 31 = true ∧ t.dmas = s.dmas) ∧
        (bit v 31 = false → (s.dma r k).xfer = none → Runs (.dmachEnable mid r k v) s fun t =>
          bit (t.dmaReg r k 0) 31 = false ∧ (t.dma r k).halted = false ∧
          t.rdFld (dmachPage r k) (dmachOff k + 0x18) 30 2 = 0))) ∧
    (((s.dma r k).stallAt = none → Runs (.dmachRefetch r k) s (· = s)) ∧
     (∀ t0 : Ns, (s.dma r k).stallAt = some t0 →
      (s.clk < t0 + 1000 → Runs (.dmachRefetch r k) s (· = s)) ∧
      (∀ d : List Byte, t0 + 1000 ≤ s.clk →
        ((s.setDma r k { s.dma r k with stall := false }).dmaNext r k).map Prod.fst = some d →
        Runs (.dmachRefetch r k) s fun t =>
          t.dma r k = { s.dma r k with stall := !(byteAt d 63).testBit 7, stallAt := none } ∧
          t = { s with dmas := t.dmas })))

/-! ### Holquasol words -/

/-- The thread may issue the legal word `w`, which its program counter names, for the first time. -/
abbrev HqReady (s : State) (c i : Nat) (w : HqWord) : Prop :=
  s.mayIssue c i = true ∧ w = hqWord (s.csWord c (s.thr c i).pc) ∧ s.fetchFault c i (s.thr c i).pc w = none ∧
    (s.thr c i).begun = false ∧ (s.thr c i).ucalled = false ∧ (s.thr c i).step = false ∧ (s.thr c i).g.length = 32

/-- The word has ended: the program counter is `pc`, or will be when the word's BARRIER is done. No other thread has
changed, and neither CHS nor what the thread has staged. -/
def WordEnds (s t : State) (c i : Nat) (w : HqWord) (pc : Nat) : Prop :=
  (w.bar = false → (t.thr c i).st = 1 ∧ (t.thr c i).pc = pc) ∧
  (w.bar = true → (t.thr c i).st = 4 ∧ (t.thr c i).next = pc ∧ (t.thr c i).wait = .barrier ∧ thrMid c i ∈ t.barriers) ∧
  (t.thr c i).chs = (s.thr c i).chs ∧ (t.thr c i).staged = (s.thr c i).staged ∧
  ∀ j, j ≠ c * 64 + i → tabGet {} t.thrs j = tabGet {} s.thrs j

/-- Registers of a thread but those listed are as they were. -/
def GRegsBut (s t : State) (c i : Nat) (ds : List Nat) : Prop :=
  ∀ n, n ∉ ds → (t.thr c i).reg n = (s.thr c i).reg n

/-- The words of arithmetic and moves: opcode, command and result. -/
def aluRows (c : Fin 128) (i : Fin 64) : List (Nat × Instr × (Word → Word → Word)) := [
  (0x01, .add c i, fun a b => a + b), (0x02, .sub c i, fun a b => a - b), (0x03, .and c i, fun a b => a &&& b),
  (0x04, .or c i, fun a b => a ||| b), (0x05, .xor c i, fun a b => a ^^^ b),
  (0x06, .shl c i, fun a b => a <<< (b.toNat % 64)), (0x07, .shr c i, fun a b => a >>> (b.toNat % 64)),
  (0x08, .sar c i, fun a b => BitVec.ofInt 64 (a.toInt / 2 ^ (b.toNat % 64))),
  (0x09, .cmpeq c i, fun a b => if a = b then 1 else 0),
  (0x0A, .cmpltu c i, fun a b => if a.toNat < b.toNat then 1 else 0),
  (0x0B, .cmplt c i, fun a b => if a.toInt < b.toInt then 1 else 0),
  (0x0C, .mul c i, fun a b => BitVec.ofNat 64 (a.toNat * b.toNat)),
  (0x0D, .mulhu c i, fun a b => BitVec.ofNat 64 (a.toNat * b.toNat / 2 ^ 64)),
  (0x0E, .bswap c i, fun a _ => (a.extractLsb' 0 8 ++ a.extractLsb' 8 8 ++ a.extractLsb' 16 8 ++ a.extractLsb' 24 8 ++
    a.extractLsb' 32 8 ++ a.extractLsb' 40 8 ++ a.extractLsb' 48 8 ++ a.extractLsb' 56 8).setWidth 64),
  (0x0F, .extr c i, fun a b => BitVec.ofNat 64 (a.toNat / 2 ^ (b.toNat / 64 % 64) % 2 ^ (b.toNat % 64 + 1))),
  (0x10, .popc c i, fun a _ => BitVec.ofNat 64 ((List.range 64).countP fun n => a.getLsbD n)),
  (0x11, .clz c i, fun a _ => BitVec.ofNat 64 ((List.range 64).takeWhile fun n => !a.getLsbD (63 - n)).length),
  (0x18, .mov c i, fun _ b => b)]

/-- Arithmetic and move words (R415, R418, R419). A word that does not hold the named operation is left alone. One
whose first slot is such an operation writes its result into gD, and so does the second slot; both read the registers
as they stood before the word. MOVH sets the upper half, CMOV writes only when gS1 is not 0, MFS reads a special
register, and NOP writes nothing. No other register, no memory and no channel changes. A word that the fetch refuses
stops the thread. That a command that is not due leaves the state as it is is the model's choice (log entry 2). -/
def Obligations.WordArithmeticRows : Prop :=
  ∀ (s : State) (c : Fin 128) (i : Fin 64) (w : HqWord) (x : Thread), x = s.thr c i →
    (HqReady s c i w →
      (∀ row ∈ aluRows c i,
        (w.a.op ≠ row.1 → w.b.op ≠ row.1 → Runs row.2.1 s (· = s)) ∧
        (isAlu w.a.op = true → w.a.op = row.1 ∨ w.b.op = row.1 → Runs row.2.1 s fun t =>
          (w.a.op = row.1 → (t.thr c i).reg w.a.d = row.2.2 (x.reg w.a.s1) (x.op2 w.a)) ∧
          (w.b.op = row.1 → (t.thr c i).reg w.b.d = row.2.2 (x.reg w.b.s1) (x.op2 w.b)) ∧
          GRegsBut s t c i [w.a.d, w.b.d] ∧ WordEnds s t c i w ((x.pc + 1) % 2 ^ 15) ∧ t.mem = s.mem ∧
          t.chans = s.chans ∧ t.fast = s.fast)) ∧
      (isAlu w.a.op = true →
        (w.b.op = 0 → Runs (.hqNop c i) s fun t =>
          GRegsBut s t c i (if w.a.op = 0 then [] else [w.a.d]) ∧ WordEnds s t c i w ((x.pc + 1) % 2 ^ 15) ∧
          t.mem = s.mem ∧ t.chans = s.chans) ∧
        (w.a.op = 0x19 → Runs (.movh c i) s fun t =>
          (t.thr c i).reg w.a.d = BitVec.ofNat 64 ((x.op2 w.a).toNat % 2 ^ 32 * 2 ^ 32 + (x.reg w.a.d).toNat % 2 ^ 32) ∧
          GRegsBut s t c i [w.a.d, w.b.d] ∧ WordEnds s t c i w ((x.pc + 1) % 2 ^ 15)) ∧
        (w.a.op = 0x1A → Runs (.cmov c i) s fun t =>
          (t.thr c i).reg w.a.d = (if x.reg w.a.s1 = 0 then x.reg w.a.d else x.op2 w.a) ∧
          GRegsBut s t c i [w.a.d, w.b.d] ∧ WordEnds s t c i w ((x.pc + 1) % 2 ^ 15)) ∧
        (w.a.op = 0x1B → Runs (.mfs c i) s fun t =>
          (w.a.s1 = 0 → (t.thr c i).reg w.a.d = x.chs) ∧
          (w.a.s1 = 1 → (t.thr c i).reg w.a.d = (thrMid c i).setWidth 64) ∧
          (w.a.s1 = 2 → (t.thr c i).reg w.a.d = (match s.thrLease c i with
            | none => 0
            | some l => BitVec.ofNat 64 (16 + l))) ∧
          (w.a.s1 = 3 → (t.thr c i).reg w.a.d = s.ptime) ∧
          (w.a.s1 = 4 → s.thrLease c i = none → (t.thr c i).reg w.a.d = BitVec.allOnes 64) ∧
          GRegsBut s t c i [w.a.d, w.b.d] ∧ WordEnds s t c i w ((x.pc + 1) % 2 ^ 15)))) ∧
    (s.mayIssue c i = true → w = hqWord (s.csWord c x.pc) → (s.fetchFault c i x.pc w).isSome = true →
      ∀ row ∈ aluRows c i, Runs row.2.1 s fun t => (t.thr c i).st = 6 ∧ (t.thr c i).g = x.g ∧ t.mem = s.mem) ∧
    (s.mayIssue c i = false → ∀ row ∈ aluRows c i, Runs row.2.1 s (· = s))

/-- Memory words (R420). A load writes the little-endian value of the bytes and leaves memory alone; a store writes
the low bytes of gD and changes no other byte; CAS8 answers the old value and stores gS2 where it equals gD; FADD8
answers it and stores the sum. A misaligned address, one outside cluster memory or the lease's range, and an
uncorrectable error stop the thread with nothing written. -/
def Obligations.WordMemoryRows : Prop :=
  ∀ (s : State) (c : Fin 128) (i : Fin 64) (w : HqWord) (x : Thread) (a p : Nat), HqReady s c i w → x = s.thr c i →
    a = memAddr x w.a → p = cmemBase c + a →
    (∀ ecc : Bool, ∀ row ∈ [(0x20, 1, Instr.ld1 c i ecc), (0x21, 2, .ld2 c i ecc), (0x22, 4, .ld4 c i ecc),
        (0x23, 8, .ld8 c i ecc)], w.a.op = row.1 →
      (a % row.2.1 = 0 → s.memFault c i w.a.op a = none → ecc = false → Runs row.2.2 s fun t =>
        (t.thr c i).reg w.a.d = BitVec.ofNat 64 (leNat (s.bytes p row.2.1)) ∧ GRegsBut s t c i [w.a.d, w.b.d] ∧
        WordEnds s t c i w ((x.pc + 1) % 2 ^ 15) ∧ t.mem = s.mem ∧ t.chans = s.chans) ∧
      (a % row.2.1 ≠ 0 ∨ 2 ^ 20 ≤ a ∨ (s.memFault c i w.a.op a).isSome = true ∨ ecc = true → Runs row.2.2 s fun t =>
        (t.thr c i).st = 6 ∧ t.mem = s.mem)) ∧
    (∀ row ∈ [(0x24, 1, Instr.st1 c i), (0x25, 2, .st2 c i), (0x26, 4, .st4 c i), (0x27, 8, .st8 c i)],
      w.a.op = row.1 →
      (s.memFault c i w.a.op a = none → Runs row.2.2 s fun t =>
        (∀ j < row.2.1, t.byte (p + j) = BitVec.ofNat 8 ((x.reg w.a.d).toNat / 2 ^ (8 * j))) ∧
        (∀ q, q < p ∨ p + row.2.1 ≤ q → t.byte q = s.byte q) ∧
        (w.b.op = 0 → GRegsBut s t c i []) ∧ WordEnds s t c i w ((x.pc + 1) % 2 ^ 15)) ∧
      (a % row.2.1 ≠ 0 ∨ 2 ^ 20 ≤ a → Runs row.2.2 s fun t => (t.thr c i).st = 6 ∧ t.mem = s.mem)) ∧
    (∀ old : Word, s.memFault c i w.a.op a = none → old = BitVec.ofNat 64 (leNat (s.bytes p 8)) →
      (w.a.op = 0x28 → Runs (.cas8 c i) s fun t =>
        (t.thr c i).reg w.a.d = old ∧
        (∀ j < 8, t.byte (p + j) = if old = x.reg w.a.d then BitVec.ofNat 8 ((x.reg w.a.s2).toNat / 2 ^ (8 * j))
          else s.byte (p + j)) ∧
        (∀ q, q < p ∨ p + 8 ≤ q → t.byte q = s.byte q) ∧ WordEnds s t c i w ((x.pc + 1) % 2 ^ 15)) ∧
      (w.a.op = 0x29 → Runs (.fadd8 c i) s fun t =>
        (t.thr c i).reg w.a.d = old ∧
        (∀ j < 8, t.byte (p + j) = BitVec.ofNat 8 ((old + x.reg w.a.s2).toNat / 2 ^ (8 * j))) ∧
        (∀ q, q < p ∨ p + 8 ≤ q → t.byte q = s.byte q) ∧ WordEnds s t c i w ((x.pc + 1) % 2 ^ 15)))

/-- Channel and page words, and barriers (R384–R388, R421–R423). CHW stages a word. CHC commits what is staged when
there is room, and otherwise blocks the thread; with nothing staged the word ends. CHR takes the oldest message into
registers, or blocks. CHP counts the waiting messages. UCALL commits a request and blocks for its reply. LDP and STP
read and write an admitted register; a lease's thread outside its check channels stops. A channel operation that the
binding does not allow stops the thread. A barrier's word ends when no write of the thread waits any more. -/
def Obligations.WordChannelRows : Prop :=
  ∀ (s : State) (c : Fin 128) (i : Fin 64) (w : HqWord) (x : Thread) (n : Nat), HqReady s c i w → x = s.thr c i →
    n = w.a.low % 64 →
    (∀ row ∈ [(0x30, Instr.chw c i), (0x31, .chc c i), (0x32, .chr c i), (0x34, .ucall c i)], w.a.op = row.1 →
      (s.chanFault c i w.a.op n x).isSome = true → Runs row.2 s fun t => (t.thr c i).st = 6 ∧ t.mem = s.mem) ∧
    (w.a.op = 0x30 → s.chanFault c i 0x30 n x = none → Runs (.chw c i) s fun t =>
      (t.thr c i).stagedFor n = x.stagedFor n ++ [x.reg w.a.s1] ∧
      (∀ m, m ≠ n → (t.thr c i).stagedFor m = x.stagedFor m) ∧ t.chans = s.chans ∧ t.mem = s.mem) ∧
    (w.a.op = 0x31 → s.chanFault c i 0x31 n x = none →
      (x.stagedFor n = [] → Runs (.chc c i) s fun t =>
        WordEnds s t c i w ((x.pc + 1) % 2 ^ 15) ∧ t.chans = s.chans) ∧
      (x.stagedFor n ≠ [] → s.kind c n = 1 → s.chanStopped c n = false → 0 < s.room c n → (s.chan c n).readers = [] →
        (s.chan c n).writers = [] → Runs (.chc c i) s fun t =>
          (t.chan c n).fifo = (s.chan c n).fifo ++ [{ words := x.stagedFor n, mid := thrMid c i }] ∧
          (t.thr c i).stagedFor n = [] ∧ (∀ j, j ≠ c.val * 64 + n → tabGet {} t.chans j = tabGet {} s.chans j)) ∧
      (x.stagedFor n ≠ [] → s.kind c n = 1 → s.chanStopped c n = false → s.room c n = 0 → Runs (.chc c i) s fun t =>
        (t.thr c i).st = 3 ∧ (t.thr c i).pc = x.pc ∧ (t.chan c n).fifo = (s.chan c n).fifo ∧
        (t.chan c n).writers = (s.chan c n).writers ++ [i.val] ∧ (t.thr c i).stagedFor n = x.stagedFor n)) ∧
    (w.a.op = 0x32 → s.chanFault c i 0x32 n x = none →
      (∀ (m : Msg) (ms : List Msg), (s.chan c n).fifo = m :: ms → (s.chan c n).readers = [] → (s.chan c n).writers = [] →
        Runs (.chr c i) s fun t =>
          (∀ j < m.words.length, w.a.d + j < 32 → (t.thr c i).reg (w.a.d + j) = m.words.getD j 0) ∧
          (t.thr c i).chs = chsOf m ∧ (t.chan c n).fifo = ms ∧ (w.bar = false → (t.thr c i).pc = (x.pc + 1) % 2 ^ 15)) ∧
      ((s.chan c n).fifo = [] → Runs (.chr c i) s fun t =>
        (t.thr c i).st = 2 ∧ (t.thr c i).pc = x.pc ∧ (t.chan c n).readers = (s.chan c n).readers ++ [i.val])) ∧
    (w.a.op = 0x33 → s.chanFault c i 0x33 n x = none → Runs (.chp c i) s fun t =>
      (t.thr c i).reg w.a.d = BitVec.ofNat 64 (s.chan c n).fifo.length ∧ GRegsBut s t c i [w.a.d, w.b.d] ∧
      WordEnds s t c i w ((x.pc + 1) % 2 ^ 15) ∧ t.chans = s.chans) ∧
    (w.a.op = 0x34 → s.chanFault c i 0x34 n x = none → x.stagedFor n ≠ [] → s.unitRoom c n (x.stagedFor n) = true →
      (s.chan c n).writers = [] → (s.chan c n).fifo = [] → s.isFenced (s.unitOf c n) = false → Runs (.ucall c i) s fun t =>
        t.ureqs = s.ureqs ++ [{ cluster := c, chan := n, mid := thrMid c i, lease := s.thrLease c i,
                                words := x.stagedFor n }] ∧
        (t.thr c i).st = 2 ∧ (t.thr c i).pc = x.pc ∧ (t.chan c n).readers = (s.chan c n).readers ++ [i.val] ∧
        (t.thr c i).stagedFor n = []) ∧
    (∀ (a : Nat) (s1 : State), a = (x.reg w.a.s1).toNat % 2 ^ 32 → s1 = s.issued c i false →
      (w.a.op = 0x38 → s.lanternFault c i a = false → Runs (.ldp c i) s fun t =>
        (t.thr c i).reg w.a.d = (s1.lanternLoad c i a).1.setWidth 64 ∧ GRegsBut s t c i [w.a.d, w.b.d] ∧
        WordEnds s t c i w ((x.pc + 1) % 2 ^ 15)) ∧
      (w.a.op = 0x39 → s.lanternFault c i a = false → Runs (.stp c i) s fun t =>
        (∀ p off, p ≠ fcorePage c i → p ≠ leasePage c → off < 4096 →
          t.rd p off = (s1.lanternStore c i a ((x.reg w.a.d).setWidth 32)).rd p off) ∧
        (w.b.op = 0 → GRegsBut s t c i []) ∧ WordEnds s t c i w ((x.pc + 1) % 2 ^ 15)) ∧
      (s.lanternFault c i a = true →
        (w.a.op = 0x38 → Runs (.ldp c i) s fun t => (t.thr c i).st = 6 ∧ t.mem = s.mem) ∧
        (w.a.op = 0x39 → Runs (.stp c i) s fun t => (t.thr c i).st = 6 ∧ t.mem = s.mem)))

/-- Control words, threads and budgets (R377, R418, R423, R424, R435). A branch that is taken goes to the displaced
program counter, one that is not to the next word; CALL links; JR goes to a register; TRAP stops the thread. A
barrier's word ends when no write of the thread waits, and not before. EN = 1 starts a thread at START_PC with its
cycle count at 0, EN = 0 disables it. A thread over its budget stops before its next word. That a command that is not
due leaves the state as it is is the model's choice (log entry 2). -/
def Obligations.WordControlRows : Prop :=
  ∀ (s : State) (mid : Mid) (c : Fin 128) (i : Fin 64) (x : Thread), x = s.thr c i →
    (∀ w : HqWord, HqReady s c i w →
      (∀ row ∈ [(0x40, Instr.br c i, true), (0x41, .beq c i, x.reg w.a.s1 == x.reg w.a.s2),
          (0x42, .bne c i, x.reg w.a.s1 != x.reg w.a.s2),
          (0x43, .bltu c i, decide ((x.reg w.a.s1).toNat < (x.reg w.a.s2).toNat)),
          (0x44, .bgeu c i, decide ((x.reg w.a.s2).toNat ≤ (x.reg w.a.s1).toNat)),
          (0x45, .blt c i, decide ((x.reg w.a.s1).toInt < (x.reg w.a.s2).toInt)),
          (0x46, .bge c i, decide ((x.reg w.a.s2).toInt ≤ (x.reg w.a.s1).toInt))], w.a.op = row.1 →
        Runs row.2.1 s fun t =>
          WordEnds s t c i w (if row.2.2 then (((x.pc : Int) + (BitVec.ofNat 16 w.a.low).toInt) % 2 ^ 15).toNat
            else (x.pc + 1) % 2 ^ 15) ∧ (w.b.op = 0 → GRegsBut s t c i []) ∧ t.mem = s.mem) ∧
      (w.a.op = 0x47 → Runs (.call c i) s fun t =>
        (t.thr c i).reg w.a.d = BitVec.ofNat 64 (x.pc + 1) ∧ WordEnds s t c i w (pcAdd x.pc w.a.low) ∧
        GRegsBut s t c i [w.a.d, w.b.d]) ∧
      (w.a.op = 0x48 → Runs (.jr c i) s fun t =>
        WordEnds s t c i w ((x.reg w.a.s1).toNat % 2 ^ 15) ∧ (w.b.op = 0 → GRegsBut s t c i [])) ∧
      (w.a.op = 0x49 → Runs (.trap c i) s fun t =>
        (t.thr c i).st = 6 ∧ (t.thr c i).pc = x.pc ∧ (w.b.op = 0 → GRegsBut s t c i []) ∧
        t.ctr (fcorePage c i) (4 * (i.val % 8) + 3) = s.ctr (fcorePage c i) (4 * (i.val % 8) + 3) + 1)) ∧
    (x.wait = .barrier → x.st = 4 →
      (s.ferry.any (fun f => f.mid == thrMid c i) = true → Runs (.barrierWordDone c i) s (· = s)) ∧
      (s.ferry.any (fun f => f.mid == thrMid c i) = false → x.step = false → Runs (.barrierWordDone c i) s fun t =>
        (t.thr c i).st = 1 ∧ (t.thr c i).pc = x.next ∧ (t.thr c i).g = x.g ∧
        t.barriers = s.barriers.erase (thrMid c i) ∧ t.mem = s.mem)) ∧
    (x.wait ≠ .barrier → Runs (.barrierWordDone c i) s (· = s)) ∧
    (∀ v : Reg, Admitted s mid (fcorePage c i) (0x100 + 4 * (i.val % 8)) → s.fastReady (fcorePage c i) = true →
      s.thrExists i = true → bit (s.rd (fcorePage c i) (0x100 + 4 * (i.val % 8))) 31 = false → s.thrLease c i = none →
      (bit v 31 = true → bit (s.rd (leasePage c) 0x100) 31 = true → x.on = false → Runs (.threadEnable mid c i v) s fun t =>
        (t.thr c i).st = 1 ∧ (t.thr c i).pc = fld v 0 15 ∧ (t.thr c i).cycles = 0 ∧ (t.thr c i).on = true ∧
        (t.thr c i).g = x.g) ∧
      (bit v 31 = true → bit (s.rd (leasePage c) 0x100) 31 = false → x.on = false → x.st = 0 →
        Runs (.threadEnable mid c i v) s fun t => (t.thr c i).st = 0 ∧ (t.thr c i).on = false) ∧
      (bit v 31 = false → Runs (.threadEnable mid c i v) s fun t =>
        (t.thr c i).st = 0 ∧ (t.thr c i).on = false ∧ (t.thr c i).g = x.g)) ∧
    (s.mayIssue c i = true → s.overBudget c i = true → Runs (.budget c i) s fun t =>
      (t.thr c i).st = 6 ∧ (t.thr c i).g = x.g ∧ t.mem = s.mem) ∧
    (s.overBudget c i = false → Runs (.budget c i) s (· = s))

/-! ### Units behind channels -/

/-- The unit has taken the request and answered it with these words. -/
abbrev Replied (s t : State) (q : Ureq) (ws : List Word) (err : Bool) : Prop :=
  t.ureqs = s.ureqs.erase q ∧
    t.ureps = s.ureps ++ [{ cluster := q.cluster, chan := q.chan, words := ws, err := err, dead := q.dead }]

/-- The word of a status. -/
def statusWord (status rest : Nat) : Word := BitVec.ofNat 64 (status * 2 ^ 56 + rest)

/-- Replies and deliveries (R385, R391, R395). A reply enters its slot, or is discarded when nothing wants it any more.
A remote commit enters the target channel and lets the thread's word end, or waits. A message that waits in the inbound
queue enters its channel once the cluster is lit and a slot is free. That a command that is not due leaves the state as
it is is the model's choice (log entry 2). -/
def Obligations.DeliveryRows : Prop :=
  ∀ (s : State) (c : Fin 128) (n : Fin 64),
    ((∀ r ∈ s.ureps, r.cluster = c.val → r.chan ≠ n.val) → Runs (.unitReply c n) s (· = s)) ∧
    (∀ r : Ureply, s.ureps.find? (fun r => r.cluster == c.val && r.chan == n.val) = some r → (s.chan c n).readers = [] →
      (s.chan c n).writers = [] →
      (r.dead = false → Runs (.unitReply c n) s fun t =>
        (t.chan c n).fifo = (s.chan c n).fifo ++ [{ words := r.words, src := 3, err := r.err }] ∧
        (t.chan c n).owed = (s.chan c n).owed - 1 ∧ t.ureps = s.ureps.erase r ∧
        (∀ j, j ≠ c.val * 64 + n.val → tabGet {} t.chans j = tabGet {} s.chans j) ∧
        t = { s with ureps := t.ureps, chans := t.chans }) ∧
      (r.dead = true → Runs (.unitReply c n) s fun t =>
        (t.chan c n).fifo = (s.chan c n).fifo ∧ (t.chan c n).owed = (s.chan c n).owed - 1 ∧ t.ureps = s.ureps.erase r ∧
        t.ctr (chanPage c) (4 * n.val + 3) = s.ctr (chanPage c) (4 * n.val + 3) + 1)) ∧
    (∀ (i : Fin 64) (x : Thread) (m tc tn : Nat), x = s.thr c i → x.st = 3 → x.wait = .commit m none →
      s.kind c m = 8 → tc = natField (fld (s.bind c m) 0 16) 6 7 → tn = natField (fld (s.bind c m) 0 16) 0 6 →
      (s.inReset (cluPage tc 0) = true ∨ s.admitsRemote tc tn c = false →
        Runs (.remoteCommitDeliver c i) s (· = s)) ∧
      (s.inReset (cluPage tc 0) = false → s.admitsRemote tc tn c = true →
        (s.offer tc tn { words := x.stagedFor m, mid := thrMid c i, src := 3 } = none →
          Runs (.remoteCommitDeliver c i) s (· = s)) ∧
        (s.isFenced (cluPage tc 0) = false → s.chanStopped tc tn = false →
          (∀ y ∈ s.inQueue (tc / 8), y.cluster = tc → y.chan ≠ tn) → s.litDom tc = true → s.room tc tn ≠ 0 →
          (s.chan tc tn).readers = [] → (s.chan tc tn).writers = [] → x.step = false → x.bar = false →
          Runs (.remoteCommitDeliver c i) s fun t =>
            (t.chan tc tn).fifo =
              (s.chan tc tn).fifo ++ [{ words := x.stagedFor m, mid := thrMid c i, src := 3 }] ∧
            (t.thr c i).stagedFor m = [] ∧ (t.thr c i).st = 1 ∧ (t.thr c i).pc = x.next))) ∧
    (∀ i : Fin 64, (s.thr c i).st ≠ 3 → Runs (.remoteCommitDeliver c i) s (· = s)) ∧
    ((∀ y ∈ s.inQueue (c.val / 8), y.cluster = c.val → y.chan ≠ n.val) → Runs (.inboundDeliver c n) s (· = s)) ∧
    (∀ y : InMsg, (s.inQueue (c.val / 8)).find? (fun x => x.cluster == c.val && x.chan == n.val) = some y →
      (s.cluReady c = false ∨ s.kind c n ≠ 1 → Runs (.inboundDeliver c n) s (· = s)) ∧
      (s.cluReady c = true → s.kind c n = 1 → s.isFenced (cluPage c 0) = false → s.chanStopped c n = false →
        (s.room c n = 0 → Runs (.inboundDeliver c n) s (· = s)) ∧
        (s.room c n ≠ 0 → (s.chan c n).readers = [] → (s.chan c n).writers = [] → Runs (.inboundDeliver c n) s fun t =>
          (t.chan c n).fifo = (s.chan c n).fifo ++ [y.msg] ∧ t.inQueue (c.val / 8) = (s.inQueue (c.val / 8)).erase y ∧
          t.ctr (chanPage c) (4 * n.val) = s.ctr (chanPage c) (4 * n.val) + 1)))

/-- The memory port, the packet port and the cipher lanes (R233, R245, R392, R393). A READ answers with the bytes of
its target and a WRITE stores them; a malformed request answers MALFORMED, a READ that fails with ones. FREE gives up a
buffer of the cluster, and one it does not own answers ACCESS_FAULT. ALLOC answers with a buffer of the length asked
for. INJECT sends an owned buffer into the region's pipeline. A cipher request answers with the outcome of its
transform. That a command that is not due leaves the state as it is is the model's choice (log entry 2). Where a new
buffer lies is the model's choice (log entry 9). -/
def Obligations.UnitRows : Prop :=
  ∀ (s : State) (c : Fin 128) (n : Fin 64),
    (s.request c n = none → ∀ r ∈ [Instr.memportRead c n, .memportWrite c n, .free c n, .alloc c n, .inject c n,
      .cipherRequest c n], Runs r s (· = s)) ∧
    (∀ (q : Ureq) (op len w a : Nat), s.request c n = some q → (op, len, w, a) = memReq q.words → s.kind c n = 6 →
      (op = 1 → s.memAsked c n = false →
        ((s.memCheck (c.val / 8) q).1 = 0 → tgtLocal w = true → Runs (.memportRead c n) s fun t =>
          Replied s t q (bytesWords (s.tgtRead (c.val / 8) w a len)) false ∧ t.mem = s.mem ∧ t.chans = s.chans) ∧
        (memReqOk q.words = false → Runs (.memportRead c n) s fun t =>
          Replied s t q (List.replicate (replyLen 6 q.words) (BitVec.allOnes 64)) true ∧ t.mem = s.mem)) ∧
      (op = 2 →
        ((s.memCheck (c.val / 8) q).1 = 0 → tgtSpace w ∈ [0, 2, 5] → Runs (.memportWrite c n) s fun t =>
          Replied s t q [statusWord 0 0] false ∧
          (∀ i < len, t.tgtByte (c.val / 8) w (a + i) = (wordBytes (q.words.drop 2)).getD i 0) ∧
          (tgtSpace w = 5 → ∀ j, j < a ∨ a + len ≤ j → t.byte j = s.byte j)) ∧
        (memReqOk q.words = false → Runs (.memportWrite c n) s fun t =>
          Replied s t q [statusWord 5 0] false ∧ t.mem = s.mem))) ∧
    (∀ (q : Ureq) (op k len : Nat), s.request c n = some q → op = (q.words.getD 0 0).toNat / 2 ^ 56 → s.kind c n = 7 →
      k = bufKey (c.val / 32) (natField (q.words.getD 0 0).toNat 0 32) →
      (op = 1 → q.words.length = 1 → q.lease = none →
        (∀ b : Buf, s.buf k = some b → b.owner = some c.val → Runs (.free c n) s fun t =>
          Replied s t q [statusWord 0 0] false ∧ (b.refs ≤ 1 → t.buf k = none) ∧
          (1 < b.refs → t.buf k = some { b with refs := b.refs - 1, owner := none, lease := none })) ∧
        ((∀ b, s.buf k = some b → b.owner ≠ some c.val) → Runs (.free c n) s fun t =>
          Replied s t q [statusWord 7 0] false ∧ t.bufs = s.bufs)) ∧
      (op = 2 → q.words.length = 1 → len = natField (q.words.getD 0 0).toNat 0 14 →
        (len < 64 ∨ 9216 < len → Runs (.alloc c n) s fun t => Replied s t q [statusWord 5 0] false ∧ t.bufs = s.bufs) ∧
        (64 ≤ len → len ≤ 9216 → (s.poolFor (c.val / 32) len false).isNone = true → Runs (.alloc c n) s fun t =>
          Replied s t q [statusWord 6 0] false ∧ t.bufs = s.bufs) ∧
        (64 ≤ len → len ≤ 9216 → (s.poolFor (c.val / 32) len false).isSome = true → Runs (.alloc c n) s fun t =>
          ∃ (h : Nat) (b : Buf), Replied s t q [statusWord 0 (bufHandle h)] false ∧ t.buf h = some b ∧
            b.owner = some c.val ∧ b.lease = q.lease ∧ b.bytes.length = len)) ∧
      (∀ b : Buf, op = 3 → (q.words.getD 0 0).toNat.testBit 32 = false → q.words.length = 5 → q.lease = none →
        s.buf k = some b → b.owner = some c.val → len = natField (q.words.getD 1 0).toNat 0 14 → 14 ≤ len → len ≤ 9212 →
        len ≤ b.bytes.length → (q.words.getD 4 0).toNat / 2 ^ 48 = 0 → Runs (.inject c n) s fun t =>
          Replied s t q [statusWord 0 0] false ∧
          t.buf k = some { b with owner := none, lease := none, bytes := b.bytes.take len } ∧
          ∃ h : Hdr, t.hdrs = s.hdrs ++ [h] ∧ h.pipe = c.val / 8 * 4 + c.val % 4 ∧ h.frame.buf = k ∧ h.seq = none ∧
            h.frame.src = 0xC000 + c.val)) ∧
    (∀ (q : Ureq) (op ctx len aad : Nat), s.request c n = some q → s.kind c n = 5 → q.lease = none →
      op = natField (q.words.getD 0 0).toNat 56 8 → ctx = natField (q.words.getD 0 0).toNat 24 24 →
      len = natField (q.words.getD 0 0).toNat 0 24 → aad = (if op ≤ 2 then natField (q.words.getD 4 0).toNat 0 16 else 0) →
      (q.words.length ≠ 5 ∨ op = 0 ∨ 4 < op ∨ len = 0 ∨ 65536 < len → Runs (.cipherRequest c n) s fun t =>
        Replied s t q [statusWord 5 ((s.ctx ctx).usage % 2 ^ 48), 0] false ∧ t.mem = s.mem ∧ t.ctxs = s.ctxs) ∧
      (∀ (src dst : Nat × Nat) (o : Nat × Nat × State), q.words.length = 5 → 1 ≤ op → op ≤ 4 →
        natField (q.words.getD 0 0).toNat 48 8 = 0 → len ≠ 0 → len ≤ 65536 → (3 ≤ op → len % 4096 = 0) →
        cipherTgt c (q.words.getD 1 0).toNat = some src → cipherTgt c (q.words.getD 2 0).toNat = some dst →
        s.cipherReach (c.val / 8) q src.1 src.2 (aad + len + (if op = 2 then 16 else 0)) = true →
        s.cipherReach (c.val / 8) q dst.1 dst.2 (len + (if op = 1 then 16 else 0)) = true →
        (s.ctx ctx).proto = (if 3 ≤ op then 5 else 6) →
        o = s.cipherRun (c.val / 8) ctx op len (q.words.getD 3 0).toNat aad src dst → Runs (.cipherRequest c n) s fun t =>
          Replied s t q [statusWord o.1 ((o.2.2.ctx ctx).usage % 2 ^ 48), BitVec.ofNat 64 o.2.1] false ∧
          t.mem = o.2.2.mem ∧ t.ctxs = o.2.2.ctxs))

/-- The check unit and the still-water detector (R396, R405–R409). OPEN starts a check with the algorithm's first value
or a seed; FEED and FEED_MEM run it over bytes; CLOSE answers with the value, and with a mismatch where it compares.
Without an open check, feeding is counted. The detector fires once when its count is full. That a command that is not
due leaves the state as it is is the model's choice (log entry 2). -/
def Obligations.CheckRows : Prop :=
  ∀ (s : State) (c : Fin 128) (n : Fin 64),
    (s.request c n = none → ∀ r ∈ [Instr.openChk c n, .feed c n, .feedMem c n, .closeChk c n], Runs r s (· = s)) ∧
    (∀ (q : Ureq) (op k o m : Nat) (w : Nat), s.request c n = some q → s.kind c n = 2 → (s.chan c n).readers = [] →
      (s.chan c n).writers = [] → w = (q.words.getD 0 0).toNat → op = w / 2 ^ 56 → k = fld (s.bind c n) 0 4 →
      o = chkOff k → m = natField w 0 3 →
      (op = 1 → bit (s.fr (chkPage c) o) 31 = true → q.words.length = (if w.testBit 48 then 2 else 1) →
        Runs (.openChk c n) s fun t =>
          (t.check c k).cfg = s.fr (chkPage c) o ∧ (t.check c k).noFinal = w.testBit 49 ∧ (t.check c k).fresh = true ∧
          (t.check c k).reg = (if w.testBit 48 then
            BitVec.ofNat 64 ((q.words.getD 1 0).toNat % 2 ^ chkBits (chkAlg (s.fr (chkPage c) o)))
            else chkInit (chkAlg (s.fr (chkPage c) o))) ∧
          bit (t.rd (chkPage c) (o + 4)) 31 = true ∧ t.rdFld (chkPage c) (o + 4) 0 24 = 0 ∧
          t.ureqs = s.ureqs.erase q ∧ t.ureps = s.ureps) ∧
      (op = 1 → bit (s.fr (chkPage c) o) 31 = false → Runs (.openChk c n) s fun t =>
        t.checks = s.checks ∧ t.ctr (chkPage c) 0x40 = s.ctr (chkPage c) 0x40 + 1 ∧ t.ureqs = s.ureqs.erase q) ∧
      (op = 2 → m ≠ 0 → q.words.length = m + 1 →
        (bit (s.rd (chkPage c) (o + 4)) 31 = false → Runs (.feed c n) s fun t =>
          t.checks = s.checks ∧ t.ctr (chkPage c) 0x40 = s.ctr (chkPage c) 0x40 + 1) ∧
        (∀ rec : List Byte, rec = (q.words.drop 1).flatMap (fun v => leBytes (2 ^ natField w 48 2) v.toNat) →
          bit (s.rd (chkPage c) (o + 4)) 31 = true → bit (s.check c k).cfg 30 = false → Runs (.feed c n) s fun t =>
            (t.check c k).reg = rec.foldl (chkStep (chkAlg (s.check c k).cfg)) (s.check c k).reg ∧
            t.rdFld (chkPage c) (o + 4) 0 24 = satAdd (s.rdFld (chkPage c) (o + 4) 0 24) rec.length 24 ∧
            t.ureqs = s.ureqs.erase q ∧ t.mem = s.mem)) ∧
      (∀ a len : Nat, op = 3 → a = natField w 0 20 → len = natField (q.words.getD 1 0).toNat 0 21 → q.words.length = 2 →
        len ≠ 0 → a + len ≤ 2 ^ 20 → q.lease = none → bit (s.rd (chkPage c) (o + 4)) 31 = true →
        bit (s.check c k).cfg 30 = false → Runs (.feedMem c n) s fun t =>
          (t.check c k).reg =
            (s.bytes (cmemBase c + a) len).foldl (chkStep (chkAlg (s.check c k).cfg)) (s.check c k).reg ∧
          t.ureqs = s.ureqs.erase q ∧ t.mem = s.mem) ∧
      (∀ (res : Word) (miss : Bool), op = 4 → q.words.length = (if w.testBit 48 then 2 else 1) →
        bit (s.rd (chkPage c) (o + 4)) 31 = true →
        res = (if (s.check c k).noFinal then (s.check c k).reg
          else (s.check c k).reg ^^^ chkXor (chkAlg (s.check c k).cfg)) →
        miss = (w.testBit 48 &&
          decide ((q.words.getD 1 0).toNat % 2 ^ chkBits (chkAlg (s.check c k).cfg) ≠ res.toNat)) →
        Runs (.closeChk c n) s fun t =>
          Replied s t q [BitVec.ofNat 64 (if miss then 2 ^ 55 else 0), res] false ∧ t.check c k = {} ∧
          bit (t.rd (chkPage c) (o + 4)) 31 = false ∧ bit (t.rd (chkPage c) (o + 4)) 30 = miss ∧
          t.rd64 (chkPage c) (o + 8) = res.toNat ∧ (miss = true → bit (t.rd (chkPage c) 0x010) k = true))) ∧
    ((tabFind s.still c = none ∨ s.stillCount c ≠ 4096 ∨ bit (s.rd (chanPage c) 0x100) 31 = true) →
      Runs (.stillWater c) s (· = s)) ∧
    (∀ since : Ns, tabFind s.still c = some (since, false) → s.stillCount c = 4096 →
      bit (s.rd (chanPage c) 0x100) 31 = false → Runs (.stillWater c) s fun t =>
        bit (t.rd (chanPage c) 0x100) 31 = true ∧ bit (t.rd (chanPage c) 0x010) 0 = true ∧
        tabFind t.still c = some (since, true) ∧ t.thrs = s.thrs)

/-! ### Channels of firmware, the debugger, windows -/

/-- Bindings and messages of firmware (R383, R389, R395). A binding that is OFF takes a good binding, and INTERNAL
says whether the channel is an inbound one with W_LOCAL alone; a bad one is refused and changes nothing. A bound
channel takes only OFF, which discards its messages. A message of firmware enters a channel with W_OMC, and any other
is refused. -/
def Obligations.ChannelBindingRows : Prop :=
  ∀ (s : State) (mid : Mid) (c : Fin 128) (n : Fin 64) (p : PageKey) (o : Nat), p = chanPage c → o = 0x200 + 8 * n.val →
    (∀ (v : Reg) (v2 : Option Reg), Admitted s mid p o → s.fastReady p = true → s.isSealed p = false →
      (fld (s.rd p o) 28 4 = 0 → fld v 28 4 ≠ 0 → s.bindRefused c n v (v2.getD (s.rd p (o + 4))) = false →
        Runs (.chanBindWrite mid c n v v2) s fun t =>
          (∀ i < 32, i ≠ 27 → bit (t.rd p o) i = bit v i ∧ bit (t.bind c n) i = bit v i) ∧
          bit (t.rd p o) 27 = (fld v 28 4 == 1 && bit v 26 && !bit v 25 && !bit v 24 && !bit v 23) ∧
          t.chans = s.chans ∧ t.thrs = s.thrs) ∧
      (fld (s.rd p o) 28 4 = 0 → fld v 28 4 ≠ 0 → s.bindRefused c n v (v2.getD (s.rd p (o + 4))) = true →
        Runs (.chanBindWrite mid c n v v2) s fun t =>
          t.rd p o = s.rd p o ∧ t.fast = s.fast ∧ bit (t.rd p 0x104) 31 = true ∧ bit (t.rd p 0x010) 1 = true ∧
          t.chans = s.chans) ∧
      (fld (s.rd p o) 28 4 ≠ 0 → fld v 28 4 ≠ 0 → Runs (.chanBindWrite mid c n v v2) s fun t =>
        t.rd p o = s.rd p o ∧ t.fast = s.fast ∧ t.chans = s.chans) ∧
      (fld (s.rd p o) 28 4 ≠ 0 → fld v 28 4 = 0 → (s.chan c n).readers = [] →
        Runs (.chanBindWrite mid c n v v2) s fun t =>
          t.kind c n = 0 ∧ bit (t.rd p o) 27 = false ∧ (t.chan c n).fifo = [] ∧ (t.chan c n).owed = 0 ∧
          (∀ j, j ≠ c.val * 64 + n.val → tabGet {} t.chans j = tabGet {} s.chans j) ∧
          t.ctr p (4 * n.val + 3) = s.ctr p (4 * n.val + 3) + BitVec.ofNat 48 (s.chan c n).fifo.length)) ∧
    (∀ len : Fin 8, Admitted s mid p 0x108 → s.fastReady p = true →
      (s.kind c n ≠ 1 ∨ bit (s.bind c n) 24 = false → Runs (.chanOmcSend mid c n len) s fun t =>
        bit (t.rd p 0x108) 30 = true ∧ bit (t.rd p 0x108) 31 = false ∧ t.chans = s.chans ∧ t.inq = s.inq) ∧
      (s.kind c n = 1 → bit (s.bind c n) 24 = true → s.isFenced (cluPage c 0) = false → s.chanStopped c n = false →
        (∀ y ∈ s.inQueue (c.val / 8), y.cluster = c.val → y.chan ≠ n.val) → s.cluReady c = true → 0 < s.room c n →
        (s.chan c n).readers = [] → (s.chan c n).writers = [] → Runs (.chanOmcSend mid c n len) s fun t =>
          (t.chan c n).fifo = (s.chan c n).fifo ++ [{
            words := (List.range (len.val + 1)).map fun i => BitVec.ofNat 64 (s.fr64 p (0x110 + 8 * i))
            mid := mid, src := 2 }]))

/-- A debug session and its commands (R381, R399–R402), and the cluster-memory window. ATTACH opens a session for its
master and detaching ends it. HALT stops a running thread, RESUME starts it again, STEP runs one word and halts.
DISCARD frees the selected staging slot, and COMMIT commits it when there is room. CDBG_REG writes a half of a register
of a halted thread. A command on a thread in another state answers 1 and changes no thread. The window reads and writes
cluster memory for those whom it admits. Which slot CDBG_SEL selects and the results of RESUME and STEP are deduced
(log entry 43). -/
def Obligations.DebugRows : Prop :=
  ∀ (s : State) (mid : Mid) (c : Fin 128) (p : PageKey) (i : Nat) (x : Thread), p = cdbgPage c → i = s.selThread c →
    x = s.thr c i → s.fastReady p = true →
    (Admitted s mid p 0x100 →
      ((tabGet {} s.dbgs c).attached = false → Runs (.attach mid c true) s fun t =>
        tabGet {} t.dbgs c = { holder := mid, attached := true } ∧ t.rdFld p 0x100 0 16 = mid.toNat ∧
        tabFind t.still c = none ∧ t.thrs = s.thrs) ∧
      (Runs (.attach mid c false) s fun t =>
        tabGet {} t.dbgs c = {} ∧ t.rd p 0x100 = 0 ∧ t.chans = s.chans ∧ t.mem = s.mem)) ∧
    (Admitted s mid p 0x108 →
      (x.st = 1 → Runs (.halt mid c) s fun t =>
        t.thr c i = { x with st := 5, held := true, step := false } ∧ t.rdFld p 0x108 8 8 = 0 ∧ t.chans = s.chans ∧
        ∀ j, j ≠ c.val * 64 + i → tabGet {} t.thrs j = tabGet {} s.thrs j) ∧
      (x.st = 5 → Runs (.resume mid c) s fun t =>
        t.thr c i = { x with st := 1, held := false, step := false } ∧ t.rdFld p 0x108 8 8 = 0 ∧ t.chans = s.chans) ∧
      (x.st = 0 ∨ x.st = 6 → ∀ r ∈ [Instr.halt mid c, .resume mid c, .step mid c, .discard mid c, .commit mid c],
        Runs r s fun t => t.thrs = s.thrs ∧ t.chans = s.chans ∧ t.rdFld p 0x108 8 8 = 1) ∧
      (∀ (s1 : State) (w : HqWord), x.st = 5 → s1 = s.setThr c i { x with st := 1, step := true } →
        w = hqWord (s.csWord c x.pc) → s1.mayIssue c i = true → s1.fetchFault c i x.pc w = none → isAlu w.a.op = true →
        w.bar = false → Runs (.step mid c) s fun t =>
          (t.thr c i).st = 5 ∧ (t.thr c i).pc = (x.pc + 1) % 2 ^ 15 ∧ t.rdFld p 0x108 8 8 = 0 ∧ t.mem = s.mem) ∧
      (x.st = 5 → s.selSlot c = none → ∀ r ∈ [Instr.discard mid c, .commit mid c], Runs r s fun t =>
        t.thrs = s.thrs ∧ t.chans = s.chans ∧ t.rdFld p 0x108 8 8 = 1) ∧
      (∀ (n : Nat) (ws : List Word), x.st = 5 → s.selSlot c = some (n, ws) →
        (Runs (.discard mid c) s fun t =>
          (t.thr c i).stagedFor n = [] ∧ (t.thr c i).st = 5 ∧ t.chans = s.chans ∧ t.rdFld p 0x108 8 8 = 0 ∧
          t.ctr (chanPage c) (4 * n + 3) = s.ctr (chanPage c) (4 * n + 3) + BitVec.ofNat 48 ws.length) ∧
        (s.thrLease c i = none → s.kind c n = 1 → bit (s.bind c n) 26 = true → s.chanStopped c n = false →
          (s.chan c n).readers = [] → (s.chan c n).writers = [] →
          (0 < s.room c n → Runs (.commit mid c) s fun t =>
            (t.chan c n).fifo = (s.chan c n).fifo ++ [{ words := ws, mid := thrMid c i }] ∧
            (t.thr c i).stagedFor n = [] ∧ (t.thr c i).st = 5 ∧ t.rdFld p 0x108 8 8 = 0) ∧
          (s.room c n = 0 → Runs (.commit mid c) s fun t =>
            t.chans = s.chans ∧ t.thrs = s.thrs ∧ t.rdFld p 0x108 8 8 = 2)))) ∧
    (∀ (hi : Bool) (v : Reg) (r : Nat), Admitted s mid p (if hi then 0x114 else 0x110) → r = s.frFld p 0x104 16 6 →
      (x.st ≠ 5 → Runs (.cdbgRegWrite mid c hi v) s fun t => t.thrs = s.thrs) ∧
      (x.st = 5 → x.g.length = 32 → r < 32 → Runs (.cdbgRegWrite mid c hi v) s fun t =>
        (t.thr c i).reg r = (if hi then v ++ (x.reg r).setWidth 32 else (x.reg r).extractLsb' 32 32 ++ v) ∧
        (∀ m, m ≠ r → (t.thr c i).reg m = x.reg m) ∧ (t.thr c i).pc = x.pc) ∧
      (x.st = 5 → r = 32 → hi = false → Runs (.cdbgRegWrite mid c hi v) s fun t =>
        (t.thr c i).pc = v.toNat % 2 ^ 15 ∧ (t.thr c i).g = x.g) ∧
      (x.st = 5 → r = 33 → hi = false → Runs (.cdbgRegWrite mid c hi v) s fun t =>
        (t.thr c i).chs = x.chs.extractLsb' 32 32 ++ v ∧ (t.thr c i).g = x.g ∧ (t.thr c i).pc = x.pc)) ∧
    (∀ (a : Fin 1048576) (wide : Bool) (n : Nat), n = (if wide then 8 else 4) →
      (s.windowAdmits mid = true → a.val % n = 0 →
        (Runs (.cmemWindowAccess mid c a wide none) s fun t =>
          t.out = .readData mid (0x80000000 + c.val * 2 ^ 21 + a.val)
            (BitVec.ofNat 64 (leNat (s.bytes (cmemBase c + a.val) n))) :: s.out ∧ t.mem = s.mem ∧ t.regs = s.regs) ∧
        (∀ v : Word, Runs (.cmemWindowAccess mid c a wide (some v)) s fun t =>
          (∀ j < n, t.byte (cmemBase c + a.val + j) = BitVec.ofNat 8 (v.toNat / 2 ^ (8 * j))) ∧
          (∀ q, q < cmemBase c + a.val ∨ cmemBase c + a.val + n ≤ q → t.byte q = s.byte q) ∧ t.regs = s.regs)) ∧
      (∀ v : Word, s.windowAdmits mid = false ∨ a.val % n ≠ 0 →
        Runs (.cmemWindowAccess mid c a wide (some v)) s fun t => t.mem = s.mem))

/-! ### Leases and the control store -/

/-- Leases and the control store (R379, R426, R427, R429, R431, R436–R438, R443, R446, R447). An accepted enable puts
the lease in LOADED and a refused one leaves EN at 0 with REFUSED set. Revoking a lease disables its threads and
returns it to IDLE; a stop by firmware stops them with CAUSE 9. RESTART empties the channels of a STOPPED lease, clears
CAUSE and CODE and returns it to LOADED with its threads DISABLED, and EN = 1 does not start one until EN has been
written 0. VLOCK locks the vendor partition. A window write with the last bytes of a word stores it, and one to a word
that is not open is refused. A repair stores its word, a scrub reports a bad one, and a valid patch is loaded where
VLOCK is 0. That a command that is not due leaves the state as it is is the model's choice (log entry 2). That a repair
of a word from 0x4000 on changes nothing and which bank's patch is loaded are the model's choice (log entry 45). -/
def Obligations.LeaseRows : Prop :=
  ∀ (s : State) (mid : Mid) (c : Fin 128) (l : Fin 16) (key : Fin 4) (p : PageKey) (o : Nat), p = leasePage c →
    o = leaseOff l →
    (Admitted s mid p o → s.fastReady p = true →
      (s.lseSt c l = 0 → s.leaseRefused c l = false → Runs (.leaseEnable mid c l key) s fun t =>
        t.lseSt c l = 1 ∧ t.lseEn c l = true ∧ bit (t.rd p o) 30 = false ∧ t.rdFld p o 24 2 = key.val ∧
        t.thrs = s.thrs) ∧
      (s.lseSt c l = 0 → s.leaseRefused c l = true → Runs (.leaseEnable mid c l key) s fun t =>
        t.lseSt c l = 0 ∧ t.lseEn c l = false ∧ bit (t.rd p o) 30 = true ∧ t.thrs = s.thrs) ∧
      (s.lseSt c l ≠ 0 → Runs (.leaseRevoke mid c l key) s fun t =>
        t.lseSt c l = 0 ∧ t.lseEn c l = false ∧ (∀ i ∈ s.leaseThreads c l, (t.thr c i).st = 0) ∧
        tabFind t.omc.images (c.val * 16 + l.val) = none) ∧
      (s.lseSt c l = 1 ∨ s.lseSt c l = 2 → Runs (.leaseStop mid c l key) s fun t =>
        t.lseSt c l = 3 ∧ t.rdFld p o 20 4 = 9 ∧ t.rdFld p o 8 8 = 0 ∧ bit (t.rd p 0x010) 1 = true ∧
        ∀ i ∈ s.leaseThreads c l, (s.thr c i).st ≠ 0 → (t.thr c i).st = 6 ∧ (t.thr c i).staged = []) ∧
      (s.lseSt c l = 3 → Runs (.leaseRestart mid c l key) s fun t =>
        (∀ n : Fin 64, s.chanLease c n = some l.val → (t.chan c n).fifo = []) ∧ t.rdFld p o 20 4 = 0 ∧
        t.rdFld p o 8 8 = 0 ∧ t.lseSt c l = 1 ∧
        ∀ i ∈ s.leaseThreads c l, (t.thr c i).st = (if (s.thr c i).st = 6 then 0 else (s.thr c i).st) ∧
          (t.thr c i).on = (s.thr c i).on)) ∧
    (∀ (i : Fin 64) (v : Reg), Admitted s mid (fcorePage c i) (0x100 + 4 * (i.val % 8)) →
      s.fastReady (fcorePage c i) = true → s.thrExists i = true → s.thrLease c i = some l.val → s.lseSt c l = 1 →
      ((s.thr c i).on = true → bit (s.rd (fcorePage c i) (0x100 + 4 * (i.val % 8))) 31 = true → bit v 31 = true →
        Runs (.threadEnable mid c i v) s fun t => t.thrs = s.thrs) ∧
      (bit v 31 = false → Runs (.threadEnable mid c i v) s fun t => (t.thr c i).st = 0 ∧ (t.thr c i).on = false) ∧
      ((s.thr c i).on = false → bit (s.rd (fcorePage c i) (0x100 + 4 * (i.val % 8))) 31 = false → bit v 31 = true →
        Runs (.threadEnable mid c i v) s fun t => (t.thr c i).st = 1 ∧ (t.thr c i).pc = fld v 0 15)) ∧
    (∀ v : Reg, Admitted s mid p 0x100 → s.fastReady p = true → Runs (.vlock mid c v) s fun t =>
      t.vlock c = true ∧ t.mem = s.mem) ∧
    (∀ (w : Fin 32768) (k : Fin 4) (wide : Bool) (v : Word), s.windowAdmits mid = true →
      (wide = true → k.val % 2 = 1 → Runs (.csWindowWrite mid c w k wide v) s fun t => t.mem = s.mem) ∧
      (wide = false ∨ k.val % 2 = 0 →
        (s.csOpen c w = false → Runs (.csWindowWrite mid c w k wide v) s fun t =>
          bit (t.rd p 0x010) 2 = true ∧ t.mem = s.mem ∧ t.csStage = s.csStage) ∧
        (s.csOpen c w = true → 4 * k.val + (if wide then 8 else 4) ≤ 12 →
          Runs (.csWindowWrite mid c w k wide v) s fun t => t.mem = s.mem ∧
            t.csStaged c = (overlay (s.csStaged c ++ zeros 4) (4 * k.val) (leBytes (if wide then 8 else 4) v.toNat)).take 12) ∧
        (s.csOpen c w = true → 12 < 4 * k.val + (if wide then 8 else 4) → (s.csStaged c).length = 12 →
          Runs (.csWindowWrite mid c w k wide v) s fun t =>
            t.bytes (csBase c + 16 * w.val) 16 =
              overlay (s.csStaged c ++ zeros 4) (4 * k.val) (leBytes (if wide then 8 else 4) v.toNat) ∧
            (∀ q, q < csBase c + 16 * w.val ∨ csBase c + 16 * w.val + 16 ≤ q → t.byte q = s.byte q) ∧
            c.val * 32768 + w.val ∉ t.csBad))) ∧
    (∀ w : Fin 32768, midIsOmc mid = true → Admitted s mid p 0x120 → s.fastReady p = true →
      (w.val < 0x4000 → Runs (.csRepair mid c w) s fun t =>
        t.bytes (csBase c + 16 * w.val) 16 = (List.range 4).flatMap (fun i => leBytes 4 (s.fr p (0x110 + 4 * i)).toNat) ∧
        (∀ q, q < csBase c + 16 * w.val ∨ csBase c + 16 * w.val + 16 ≤ q → t.byte q = s.byte q) ∧
        c.val * 32768 + w.val ∉ t.csBad ∧ t.ctr p 0x42 = s.ctr p 0x42 + 1) ∧
      (0x4000 ≤ w.val → Runs (.csRepair mid c w) s fun t => t.mem = s.mem ∧ t.csBad = s.csBad)) ∧
    (∀ w : Fin 32768, (∀ k ∈ s.csBad, k / 32768 ≠ c.val) → bit (s.fr p 0x100) 30 = true → s.litDom c = true →
      (Runs (.scrubPass c [w]) s fun t =>
        t.csBad = s.csBad ++ [c.val * 32768 + w.val] ∧ t.rd p 0x104 = BitVec.ofNat 32 (2 ^ 31 + w.val) ∧
        bit (t.rd p 0x010) 3 = true ∧ t.ctr p 0x41 = s.ctr p 0x41 + 1) ∧
      (Runs (.scrubPass c []) s (· = s))) ∧
    ((s.omc.running = false ∨ (s.bankPatchOk s.runBank = none ∧ s.bankPatchOk (1 - s.runBank) = none)) →
      Runs .vendorPatchLoad s (· = s)) ∧
    (s.omc.running = true → Runs .vendorPatchLoad s fun t => ∀ img pl : List Byte,
      s.bankPatchOk s.runBank = some (img, pl) → 16 * leAt img 20 2 + pl.length ≤ 0x40000 →
        t.vlock c = true ∧ t.omc.patchLoaded = true ∧ t.omc.patchId = imgId img ∧
        (s.vlock c = false → ∀ j < pl.length, t.byte (csBase c + 16 * leAt img 20 2 + j) = pl.getD j 0) ∧
        (s.vlock c = true → ∀ j < 0x80000, t.byte (csBase c + j) = s.byte (csBase c + j)))

/-! ### NVMe -/

/-- A command of an NVMe controller that its microcode can work on and complete: it is in slot `i`, unfused, with the
opcode of its row; its submission queue `q` and completion queue `y` exist, no queue deletion or detachment waits, no
drain aborts or discards, and host memory can be written. -/
abbrev NvReady (s : State) (e f i : Nat) (admin : Bool) (op : Nat) (c : NvCmd) (q : NvSq) (y : NvCq) : Prop :=
  s.isNvme e f = true ∧ s.nvRuns e f = true ∧ tabFind (s.nv e f).slots i = some c ∧ c.waits = false ∧ nvOp c = op ∧
    byteAt c.sqe 1 % 4 = 0 ∧ (c.sq == 0) = admin ∧ tabFind (s.nv e f).sqs c.sq = some q ∧
    tabFind (s.nv e f).cqs q.cq = some y ∧ y.base % 4096 = 0 ∧ (∀ x ∈ (s.nv e f).sqs, x.2.deleting = none) ∧
    (∀ x ∈ (s.nv e f).nss, x.2.leaving = none) ∧ s.drainMode e f < 2 ∧ s.mayRead e f = true

/-- The command has ended with this dword and status: its slot is free, its CQE has gone to the tail of its completion
queue, and the tail, the phase and the reservation have moved on. -/
def NvEnded (t : State) (e f i : Nat) (c : NvCmd) (q : NvSq) (y : NvCq) (d st : Nat) : Prop :=
  tabFind (t.nv e f).slots i = none ∧
    Output.hostWrite e f (y.base + 16 * y.tail) (nvCqe d q.head c.sq c.cid st y.phase) ∈ t.out ∧
    ∃ z, tabFind (t.nv e f).cqs q.cq = some z ∧ z.tail = (if y.tail + 1 = y.size then 0 else y.tail + 1) ∧
      z.phase = (if y.tail + 1 = y.size then !y.phase else y.phase) ∧ z.reserved = y.reserved - 1 ∧ z.head = y.head

/-- The command's range lies in its namespace, which takes writes if `write`. -/
abbrev NvIn (s : State) (e f : Nat) (c : NvCmd) (n : NvNs) (write : Bool) : Prop :=
  tabFind (s.nv e f).nss (nvNsid c) = some n ∧ nvNlb c * (nsBlock n + (if nvPract c then 0 else nsMeta n)) ≤ 131072 ∧
    nvSlba c + nvNlb c ≤ n.lbas ∧ (write = true → n.format.testBit 4 = false)

/-- A request of the manager waits on a general channel of PF1 with room for the answer (R457). -/
def NsAsked (s : State) (e ch op : Nat) (msg : Nat → Nat) : Prop :=
  s.omc.running = true ∧ fld (s.gchBind (nvHalf e ch true).1 (nvHalf e ch true).2) 16 16 ≠ 0 ∧
    s.halfFull (nvHalf e ch true).1 (nvHalf e ch true).2 = true ∧
    s.halfFull (nvHalf e ch false).1 (nvHalf e ch false).2 = false ∧ msg 0 % 256 = op ∧
    ∀ i, msg i = (s.rd (nvHalf e ch true).1 ((nvHalf e ch true).2 + 4 * i)).toNat

/-- The request has been taken and answered. -/
abbrev NsAnswered (t : State) (e ch res : Nat) : Prop :=
  t.halfFull (nvHalf e ch true).1 (nvHalf e ch true).2 = false ∧
    t.halfFull (nvHalf e ch false).1 (nvHalf e ch false).2 = true ∧
    t.rd (nvHalf e ch false).1 (nvHalf e ch false).2 = BitVec.ofNat 32 res

/-- Controllers and their queues (R450–R453, R455). CC.EN enables the instance with an empty admin queue pair and RDY,
or starts a drain; CC.SHN starts one too. A doorbell moves a tail or a head, or is an overrun. The mover fetches a head
entry into a free slot, reserving a completion, and the entry that arrives goes to cluster memory and to the steering
channel. The port completes a command that a thread names. That a command that is not due leaves the state as it is is
the model's choice (log entry 2). The places inside NVMe structures are presumed (log entry 30). -/
def Obligations.NvmeQueueRows : Prop :=
  ∀ (s : State) (mid : Mid) (e : Fin 32) (f : Byte) (p : PageKey) (x : NvCtl), p = ictlPage e f.toNat → x = s.nv e f.toNat →
    s.isNvme e f.toNat = true →
    (Admitted s mid p 0x214 → s.managerStopped mid e f.toNat = false →
      (s.instSt e f.toNat = 1 → bit (s.rd p 0x214) 0 = false → Runs (.nvmeCcEnable mid e f true) s fun t =>
        t.instSt e f.toNat = 2 ∧ t.rd p 0x214 = 1 ∧ t.rd p 0x21C = 1 ∧ (t.nv e f.toNat).slots = [] ∧
        (t.nv e f.toNat).sqs = [(0, { base := s.rd64 p 0x228, size := s.rdFld p 0x224 0 12 + 1, cq := 0 })] ∧
        (t.nv e f.toNat).nss = x.nss) ∧
      (s.instSt e f.toNat = 0 ∨ s.instSt e f.toNat = 3 → bit (s.rd p 0x214) 0 = false →
        Runs (.nvmeCcEnable mid e f true) s fun t =>
          t.instSt e f.toNat = s.instSt e f.toNat ∧ bit (t.rd p 0x214) 0 = false ∧ t.nvs = s.nvs) ∧
      (s.instSt e f.toNat = 2 → bit (s.rd p 0x214) 0 = true → Runs (.nvmeCcEnable mid e f false) s fun t =>
        t.instSt e f.toNat = 3 ∧ t.rdFld p 0x104 20 4 = 1 ∧ t.rd p 0x214 = 0) ∧
      (∀ a : Bool, fld (s.rd p 0x214) 14 2 = 0 →
        (s.instSt e f.toNat = 2 → Runs (.nvmeShutdown mid e f a) s fun t =>
          t.instSt e f.toNat = 3 ∧ t.rdFld p 0x104 20 4 = 1 ∧ t.rdFld p 0x21C 2 2 = 1 ∧ (t.nv e f.toNat).shn = true) ∧
        (s.instSt e f.toNat < 2 → Runs (.nvmeShutdown mid e f a) s fun t =>
          t.instSt e f.toNat = s.instSt e f.toNat ∧ t.rdFld p 0x21C 2 2 = 2))) ∧
    (∀ (k : Fin 65) (v : BitVec 16), s.instSt e f.toNat ≠ 3 →
      (Admitted s mid (instPage e f.toNat 1) (0x200 + 8 * k.val) →
        (∀ q : NvSq, tabFind x.sqs k = some q → v.toNat < q.size → Runs (.nvmeSqDoorbell mid e f k v) s fun t =>
          t.nv e f.toNat = x.putSq k { q with tail := v.toNat } ∧ t.out = s.out) ∧
        ((∀ q : NvSq, tabFind x.sqs k = some q → q.size ≤ v.toNat) → (∀ c ∈ x.slots, c.2.waits = false) → Runs (.nvmeSqDoorbell mid e f k v) s fun t =>
          (t.nv e f.toNat).sqs = x.sqs ∧ bit (t.rd p 0x010) 2 = true ∧ t.ctr p 0x04 = s.ctr p 0x04 + 1)) ∧
      (Admitted s mid (instPage e f.toNat 1) (0x204 + 8 * k.val) → ∀ q : NvCq, tabFind x.cqs k = some q →
        (v.toNat < q.size → (v.toNat + q.size - q.head) % q.size ≤ q.posted → v.toNat ≠ q.head →
          Runs (.nvmeCqDoorbell mid e f k v) s fun t =>
            ∃ z, tabFind (t.nv e f.toNat).cqs k = some z ∧ z.head = v.toNat ∧ z.tail = q.tail ∧ z.reserved = q.reserved) ∧
        (q.size ≤ v.toNat → (∀ c ∈ x.slots, c.2.waits = false) → Runs (.nvmeCqDoorbell mid e f k v) s fun t =>
          (t.nv e f.toNat).cqs = x.cqs ∧ (t.nv e f.toNat).events = x.events ++ [(0, 1, 1)] ∧
          bit (t.rd p 0x010) 2 = true))) ∧
    (x.fetching = none →
      (s.instSt e f.toNat ≠ 2 ∨ bit (s.rd p 0x180) 31 = false ∨ x.nextSq = none →
        Runs (.nvmeFetch e f) s (· = s)) ∧
      (∀ (k i : Nat) (q : NvSq) (y : NvCq), s.instSt e f.toNat = 2 → bit (s.rd p 0x180) 31 = true →
        bit (s.rd p 0x21C) 0 = true → s.mayRead e f.toNat = true → x.nextSq = some k → tabFind x.sqs k = some q →
        tabFind x.cqs q.cq = some y → i < s.nvSlots e f.toNat → tabFind x.slots i = none →
        (∀ j < i, (tabFind x.slots j).isSome = true) → Runs (.nvmeFetch e f) s fun t =>
          (t.nv e f.toNat).fetching = some (k, i) ∧
          tabFind (t.nv e f.toNat).cqs q.cq = some { y with reserved := y.reserved + 1 } ∧
          t = (s.setNv e f.toNat (t.nv e f.toNat)).askHost e f.toNat (.nvme (e * 256 + f.toNat) k)
            (q.base + 64 * q.head) 64)) ∧
    (∀ (k i : Nat) (q : NvSq) (b : List Byte) (s1 : State) (c n : Nat), x.fetching = some (k, i) →
      tabFind x.sqs k = some q → s.takeRead (.nvme (e * 256 + f.toNat) k) 64 = (some (0, b), s1) → b.length = 64 →
      c = s.nvCluster e f.toNat → n = s.nvChannel e f.toNat → s.kind c n = 1 → bit (s.bind c n) 25 = true →
      s.isFenced (cluPage c 0) = false → s.chanStopped c n = false →
      (∀ z ∈ s.inQueue (c / 8), z.cluster = c → z.chan ≠ n) → s.cluReady c = true → 0 < s.room c n →
      (s.chan c n).readers = [] → (s.chan c n).writers = [] → Runs (.nvmeFetch e f) s fun t =>
        tabFind (t.nv e f.toNat).slots i = some { sq := k, cid := leAt b 2 2, sqe := b } ∧
        tabFind (t.nv e f.toNat).sqs k = some { q with head := (q.head + 1) % q.size } ∧
        (t.nv e f.toNat).fetching = none ∧ t.bytes (cmemBase c + s.nvSlotAt e f.toNat i) 64 = b ∧
        (t.chan c n).fifo = (s.chan c n).fifo ++ [{ words :=
          [BitVec.ofNat 64 ((hostMid e f.toNat).toNat * 2 ^ 48 + k * 2 ^ 32 + leAt b 2 2 * 2 ^ 16 + (q.head + 1) % q.size),
            BitVec.ofNat 64 (s.nvSlotAt e f.toNat i), s.ptime], src := 1 }] ∧
        ∀ a, a < cmemBase c + s.nvSlotAt e f.toNat i ∨ cmemBase c + s.nvSlotAt e f.toNat i + 64 ≤ a →
          t.byte a = s.byte a) ∧
    (∀ (c : Fin 128) (n : Fin 64) (r : Ureq) (i : Nat) (g : NvCmd) (q : NvSq) (y : NvCq), s.request c n = some r →
      s.kind c n = 6 → r.words.length = 3 → (memReq r.words).1 = 3 → r.lease = none →
      natField (r.words.getD 0 0).toNat 20 36 = 0 → natField (r.words.getD 2 0).toNat 15 49 = 0 →
      (s.nvSlotOf c (natField (r.words.getD 0 0).toNat 0 20) = none → Runs (.memportCpl c n) s fun t =>
        Replied s t r [statusWord 5 0] false ∧ t.nvs = s.nvs) ∧
      (s.nvSlotOf c (natField (r.words.getD 0 0).toNat 0 20) = some (e.val, f.toNat, i) →
        NvReady s e f.toNat i (g.sq == 0) (nvOp g) g q y → Runs (.memportCpl c n) s fun t =>
          NvEnded t e f.toNat i g q y (r.words.getD 1 0).toNat (r.words.getD 2 0).toNat ∧
          Replied s t r [statusWord 0 0] false))

/-- Admin commands (R449, R454, R456, R464, R465). Each completes with the status that its rule gives: a queue is
created when it is well formed and fits, and deleted when nothing is bound to it; Abort ends a command that has not
been sent; Identify and Get Log Page write their data to the host; features are kept; an event request waits for an
event. That a command that is not due leaves the state as it is is the model's choice (log entry 2). The codes and
places that NVM Express gives are presumed (log entry 30). -/
def Obligations.NvmeAdminRows : Prop :=
  ∀ (s : State) (e : Fin 32) (f : Byte) (i : BitVec 12) (c : NvCmd) (q : NvSq) (y : NvCq) (x : NvCtl), x = s.nv e f.toNat →
    (tabFind x.slots i.toNat = none → ∀ r ∈ [Instr.createIoSq e f i, .createIoCq e f i, .deleteIoSq e f i,
      .deleteIoCq e f i, .abort e f i, .setFeatures e f i, .getFeatures e f i, .asyncEventRequest e f i],
      Runs r s (· = s)) ∧
    (NvReady s e f.toNat i.toNat true 5 c q y →
      (nvQueueBad c (tabFind x.cqs (nvQid c)).isSome ≠ 0 → Runs (.createIoCq e f i) s fun t =>
        NvEnded t e f.toNat i.toNat c q y 0 (nvQueueBad c (tabFind x.cqs (nvQid c)).isSome)) ∧
      (nvQueueBad c (tabFind x.cqs (nvQid c)).isSome = 0 → cdw c 11 / 65536 < vectors f.toNat →
        Runs (.createIoCq e f i) s fun t => NvEnded t e f.toNat i.toNat c q y 0 0 ∧
          tabFind (t.nv e f.toNat).cqs (nvQid c) = some
            { base := leAt c.sqe 24 8, size := nvQsize c, vector := cdw c 11 / 65536, ien := (cdw c 11).testBit 1 })) ∧
    (NvReady s e f.toNat i.toNat true 1 c q y → ∀ (z : NvCq) (sum : Nat),
      nvQueueBad c (tabFind x.sqs (nvQid c)).isSome = 0 → cdw c 11 / 65536 ≠ 0 →
      tabFind x.cqs (cdw c 11 / 65536) = some z →
      sum = ((x.sqs.filter fun k => k.2.cq == cdw c 11 / 65536).map fun k => k.2.size - 1).sum →
      (sum + (nvQsize c - 1) ≤ z.size - 1 → Runs (.createIoSq e f i) s fun t => NvEnded t e f.toNat i.toNat c q y 0 0 ∧
        tabFind (t.nv e f.toNat).sqs (nvQid c) =
          some { base := leAt c.sqe 24 8, size := nvQsize c, cq := cdw c 11 / 65536 }) ∧
      (z.size - 1 < sum + (nvQsize c - 1) → Runs (.createIoSq e f i) s fun t =>
        NvEnded t e f.toNat i.toNat c q y 0 (dnr (nvSt 1 0x02)) ∧ (t.nv e f.toNat).sqs = x.sqs)) ∧
    (NvReady s e f.toNat i.toNat true 0 c q y → ∀ z : NvSq, nvQid c ≠ 0 → tabFind x.sqs (nvQid c) = some z →
      (∀ k ∈ x.slots, k.2.sq ≠ nvQid c) → Runs (.deleteIoSq e f i) s fun t =>
        NvEnded t e f.toNat i.toNat c q y 0 0 ∧ tabFind (t.nv e f.toNat).sqs (nvQid c) = none) ∧
    (NvReady s e f.toNat i.toNat true 0 c q y → ∀ z : NvSq, nvQid c ≠ 0 → tabFind x.sqs (nvQid c) = some z →
      (∃ k ∈ x.slots, k.1 ≠ i.toNat ∧ k.2.sq = nvQid c) → (∀ k ∈ x.slots, k.2.sq = nvQid c → k.2.sent = true) →
      Runs (.deleteIoSq e f i) s fun t =>
        tabFind (t.nv e f.toNat).slots i.toNat = some { c with waits := true } ∧ t.out = s.out) ∧
    (NvReady s e f.toNat i.toNat true 4 c q y → nvQid c ≠ 0 → (tabFind x.cqs (nvQid c)).isSome = true →
      ((∀ k ∈ x.sqs, k.2.cq ≠ nvQid c) → Runs (.deleteIoCq e f i) s fun t =>
        NvEnded t e f.toNat i.toNat c q y 0 0 ∧ tabFind (t.nv e f.toNat).cqs (nvQid c) = none) ∧
      ((∃ k ∈ x.sqs, k.2.cq = nvQid c) → Runs (.deleteIoCq e f i) s fun t =>
        NvEnded t e f.toNat i.toNat c q y 0 (dnr (nvSt 1 0x0C)))) ∧
    (NvReady s e f.toNat i.toNat true 8 c q y →
      (∀ k : Nat × NvCmd, (x.slots.find? fun k => k.1 != i.toNat && k.2.sq == cdw c 10 % 65536 &&
        k.2.cid == cdw c 10 / 65536 && !k.2.sent && !(k.2.waits && nvOp k.2 == 0x00)) = some k →
        Runs (.abort e f i) s fun t =>
          tabFind (t.nv e f.toNat).slots k.1 = none ∧ tabFind (t.nv e f.toNat).slots i.toNat = none) ∧
      ((∀ k ∈ x.slots, k.2.sq = cdw c 10 % 65536 → k.2.cid = cdw c 10 / 65536 → k.1 = i.toNat ∨ k.2.sent = true) →
        Runs (.abort e f i) s fun t => NvEnded t e f.toNat i.toNat c q y 1 0)) ∧
    (∀ list : List Byte, byteAt c.sqe 1 / 64 = 0 → leAt c.sqe 24 8 % 4096 = 0 →
      (NvReady s e f.toNat i.toNat true 6 c q y →
        (cdw c 10 % 256 = 1 → Runs (.identify e f i list) s fun t => NvEnded t e f.toNat i.toNat c q y 0 0 ∧
          ∃ b, Output.hostWrite e f.toNat (leAt c.sqe 24 8) b ∈ t.out ∧ b.length = 4096 ∧ byteAt b 77 = 5 ∧
            leAt b 516 4 = 1024) ∧
        (∀ n : NvNs, cdw c 10 % 256 = 0 → nvNsid c ≠ 0 → nvNsid c ≤ 1024 → tabFind x.nss (nvNsid c) = some n →
          n.lbas < 2 ^ 64 → Runs (.identify e f i list) s fun t => NvEnded t e f.toNat i.toNat c q y 0 0 ∧
            ∃ b, Output.hostWrite e f.toNat (leAt c.sqe 24 8) b ∈ t.out ∧ b.length = 4096 ∧ leAt b 0 8 = n.lbas)) ∧
      (NvReady s e f.toNat i.toNat true 2 c q y →
        (cdw c 10 % 256 = 4 → cdw c 12 = 0 → cdw c 13 = 0 → cdw c 10 / 65536 = 1023 → cdw c 11 % 65536 = 0 →
          Runs (.getLogPage e f i list) s fun t =>
            NvEnded t e f.toNat i.toNat c q y 0 0 ∧ (t.nv e f.toNat).changed = []) ∧
        (cdw c 10 % 256 ∉ [1, 2, 4] → Runs (.getLogPage e f i list) s fun t =>
          NvEnded t e f.toNat i.toNat c q y 0 (dnr (nvSt 1 0x09)) ∧ (t.nv e f.toNat).changed = x.changed))) ∧
    (NvReady s e f.toNat i.toNat true 9 c q y → (cdw c 10).testBit 31 = false →
      (cdw c 10 % 256 = 0x0B → Runs (.setFeatures e f i) s fun t => NvEnded t e f.toNat i.toNat c q y 0 0 ∧
        tabFind (t.nv e f.toNat).feats 0x0B = some (cdw c 11)) ∧
      (cdw c 10 % 256 = 0x07 → Runs (.setFeatures e f i) s fun t => NvEnded t e f.toNat i.toNat c q y nvQueues 0)) ∧
    (NvReady s e f.toNat i.toNat true 10 c q y →
      (cdw c 10 % 256 = 0x0B → Runs (.getFeatures e f i) s fun t =>
        NvEnded t e f.toNat i.toNat c q y (tabGet 0 x.feats 0x0B) 0 ∧ (t.nv e f.toNat).feats = x.feats) ∧
      (cdw c 10 % 256 ∉ [7, 8, 9, 11] → Runs (.getFeatures e f i) s fun t =>
        NvEnded t e f.toNat i.toNat c q y 0 (dnr (nvSt 0 0x02)))) ∧
    (NvReady s e f.toNat i.toNat true 12 c q y → (∀ k ∈ x.slots, k.2.waits = false) →
      (x.events = [] → Runs (.asyncEventRequest e f i) s fun t =>
        tabFind (t.nv e f.toNat).slots i.toNat = some { c with waits := true } ∧ t.out = s.out) ∧
      (∀ (v : Nat × Nat × Nat) (vs : List (Nat × Nat × Nat)), x.events = v :: vs →
        Runs (.asyncEventRequest e f i) s fun t =>
          NvEnded t e f.toNat i.toNat c q y (v.1 + v.2.1 * 256 + v.2.2 * 65536) 0 ∧ (t.nv e f.toNat).events = vs))

/-- I/O commands, namespaces and backends (R457–R463). A command whose range lies in its namespace goes to its
session's queue with its data, and the backend's answer completes it; a range beyond the capacity and a session that is
down fail it. A read returns the blocks to the host. ATTACH, DETACH and QUERY answer on the general channel. A digest
failure reissues a queue's commands once; a command that fails again, or outlives its session's timeout, ends with
Transient Transport Error. That a command that is not due leaves the state as it is is the model's choice (log entry
2). The codes and places that NVM Express gives are presumed (log entry 30). -/
def Obligations.NvmeIoRows : Prop :=
  ∀ (s : State) (e : Fin 32) (f : Byte) (i : BitVec 12) (c : NvCmd) (q : NvSq) (y : NvCq) (n : NvNs) (z : Session)
    (x : NvCtl), x = s.nv e f.toNat → tabFind s.omc.sessions n.session = some z →
    (∀ (list b : List Byte) (host : Option (List Byte)) (st : BitVec 15),
      (∀ (op : Nat) (r : Backend → Instr), (op, r) ∈ [(0x02, fun v => Instr.nvmeRead e f i list v),
        (0x01, fun v => .nvmeWrite e f i list host v), (0x00, fun v => .flush e f i v),
        (0x08, fun v => .writeZeroes e f i v)] →
        NvReady s e f.toNat i.toNat false op c q y →
        (Runs (r .down) s fun t => NvEnded t e f.toNat i.toNat c q y 0 (nvSt 3 0)) ∧
        (c.sent = true → Runs (r .send) s (· = s)) ∧ (c.sent = false → Runs (r (.reply st b)) s (· = s)) ∧
        (c.sent = true → tabFind x.nss (nvNsid c) = some n → st ≠ 0 → Runs (r (.reply st b)) s fun t =>
          NvEnded t e f.toNat i.toNat c q y 0 st.toNat) ∧
        (op ≠ 0 → c.sent = false → tabFind x.nss (nvNsid c) = some n → nvNlb c * (nsBlock n + nsMeta n) ≤ 131072 →
          n.lbas < nvSlba c + nvNlb c → Runs (r .send) s fun t =>
            NvEnded t e f.toNat i.toNat c q y 0 (dnr (nvSt 0 0x80)))) ∧
      (∀ (op : Nat) (r : Instr) (d : List Byte), NvReady s e f.toNat i.toNat false op c q y → c.sent = false →
        NvIn s e f.toNat c n true →
        ((op = 0x02 ∧ r = .nvmeRead e f i list .send ∧ d = []) ∨ (op = 0x00 ∧ r = .flush e f i .send ∧ d = []) ∨
          (op = 0x08 ∧ r = .writeZeroes e f i .send ∧ d = []) ∨
          (op = 0x01 ∧ r = .nvmeWrite e f i list (some d) .send ∧ nsPi n = 0 ∧ n.format.testBit 5 = false ∧
            byteAt c.sqe 1 / 64 = 0 ∧ d.length = nvNlb c * nsBlock n) ∨
          (op = 0x09 ∧ r = .datasetManagement e f i (some d) .send ∧ (cdw c 11).testBit 2 = true ∧
            d.length = 16 * (cdw c 10 % 256 + 1) ∧
            ∀ k < d.length / 16, leAt d (16 * k + 8) 8 + leAt d (16 * k + 4) 4 ≤ n.lbas)) →
        Runs r s fun t =>
          t.out = .backend n.session (c.sq % z.queues) c.sqe d :: s.out ∧
          tabFind (t.nv e f.toNat).slots i.toNat = some { c with sent := true, sentAt := s.clk, data := d } ∧
          (t.nv e f.toNat).cqs = x.cqs) ∧
      (NvReady s e f.toNat i.toNat false 0x02 c q y → c.sent = true → tabFind x.nss (nvNsid c) = some n →
        nsPi n = 0 → n.format.testBit 5 = false → byteAt c.sqe 1 / 64 = 0 → leAt c.sqe 24 8 % 4096 = 0 →
        b.length = nvNlb c * nsBlock n → b.length ≤ 4096 → Runs (.nvmeRead e f i list (.reply 0 b)) s fun t =>
          NvEnded t e f.toNat i.toNat c q y 0 0 ∧ Output.hostWrite e f.toNat (leAt c.sqe 24 8) b ∈ t.out) ∧
      (NvReady s e f.toNat i.toNat false 0x09 c q y → NvIn s e f.toNat c n true → (cdw c 11).testBit 2 = false →
        Runs (.datasetManagement e f i (some b) .send) s fun t => NvEnded t e f.toNat i.toNat c q y 0 0)) ∧
    (∀ (ch : Fin 64) (msg : Nat → Nat) (g : Nat), s.nvTarget e msg = some g →
      (∀ k ∈ (s.nv e g).slots, k.2.waits = false) →
      (NsAsked s e ch 1 msg →
        (0 < msg 1 % 2048 → msg 1 % 2048 ≤ 1024 → tabFind (s.nv e g).nss (msg 1 % 2048) = none →
          msg 2 % 4096 = n.session → msg 6 < 32 → natField (msg 6) 1 2 ≠ 0 ∨ (msg 6).testBit 3 = false →
          0 < msg 4 + msg 5 * 2 ^ 32 → Runs (.nsAttach e ch) s fun t =>
            NsAnswered t e ch 0 ∧ tabFind (t.nv e g).nss (msg 1 % 2048) = some
              { session := n.session, remote := msg 3, lbas := msg 4 + msg 5 * 2 ^ 32, format := msg 6
                xts := msg 7 % 2 ^ 24 } ∧
            (t.nv e g).events = (s.nv e g).events ++ [(2, 0, 4)]) ∧
        (0 < msg 1 % 2048 → msg 1 % 2048 ≤ 1024 → (tabFind (s.nv e g).nss (msg 1 % 2048)).isSome = true →
          Runs (.nsAttach e ch) s fun t => NsAnswered t e ch 2 ∧ t.nvs = s.nvs)) ∧
      (NsAsked s e ch 2 msg →
        (tabFind (s.nv e g).nss (msg 1 % 2048) = none → Runs (.nsDetach e ch) s fun t =>
          NsAnswered t e ch 6 ∧ t.nvs = s.nvs) ∧
        (tabFind (s.nv e g).nss (msg 1 % 2048) = some n → (∀ k ∈ (s.nv e g).nss, k.2.leaving = none) →
          (∀ k ∈ (s.nv e g).sqs, k.2.deleting = none) → (∀ k ∈ (s.nv e g).slots, k.2.sq = 0) →
          Runs (.nsDetach e ch) s fun t =>
            NsAnswered t e ch 0 ∧ tabFind (t.nv e g).nss (msg 1 % 2048) = none ∧
            (t.nv e g).events = (s.nv e g).events ++ [(2, 0, 4)])) ∧
      (NsAsked s e ch 3 msg → Runs (.nsQuery e ch) s fun t => t.nvs = s.nvs ∧
        NsAnswered t e ch (if (tabFind (s.nv e g).nss (msg 1 % 2048)).any fun k => k.leaving.isNone then 0 else 6))) ∧
    (∀ (m : BitVec 12) (k : Fin 64),
      (s.nvWaiting m.toNat k = [] → Runs (.backendDigestFail m k) s (· = s)) ∧
      (s.nvWaiting m.toNat k = [(e.val * 256 + f.toNat, i.toNat, c)] →
        (c.again = false → Runs (.backendDigestFail m k) s fun t =>
          t.out = .backend m.toNat k c.sqe c.data :: s.out ∧
          tabFind (t.nv e f.toNat).slots i.toNat = some { c with again := true }) ∧
        (c.again = true → ∀ (adm : Bool) (op : Nat), NvReady s e f.toNat i.toNat adm op c q y →
          Runs (.backendDigestFail m k) s fun t => NvEnded t e f.toNat i.toNat c q y 0 (nvSt 0 0x22)))) ∧
    (∀ (adm : Bool) (op : Nat), NvReady s e f.toNat i.toNat adm op c q y → tabFind x.nss (nvNsid c) = some n →
      (c.sent = true → c.sentAt + z.timeout * 1000000000 ≤ s.clk → Runs (.sessionTimeout e f i) s fun t =>
        NvEnded t e f.toNat i.toNat c q y 0 (nvSt 0 0x22)) ∧
      (c.sent = false ∨ s.clk < c.sentAt + z.timeout * 1000000000 → Runs (.sessionTimeout e f i) s (· = s)))

/-! ### Faults and logs -/

/-- Fault reports and collectors (R40, R469, R470, R472, R473, R475, R476). A report of a unit that no entry holds
makes an entry of count 1, which is forwarded; of one that an entry holds it counts; with the table full it is folded.
The accused page counts it. A fence class fences its scope. Growth is forwarded once in 10 µs, and entries are freed by
idleness and by firmware. A failed fabric word is replayed, and the eighth failure fences a die. That a command that is
not due leaves the state as it is is the model's choice (log entry 2). -/
def Obligations.FaultRows : Prop :=
  (∀ (s : State) (u : BitVec 16), (∀ r ∈ s.reports, r.reporter ≠ u) →
    (Runs (.faultReport u none) s (· = s)) ∧
    (∀ (a : BitVec 16) (detail : BitVec 16), (pageType (pathPage a)).isSome = true → s.inReset (pathPage a) = false →
      s.fences = [] → Runs (.faultReport u (some (.unit a 0x20 detail))) s fun t =>
        Scope.unit (pathPage a) ∈ t.fences)) ∧
  (∀ (s : State) (u : BitVec 16) (r : FaultRep) (c p : PageKey) (x : Collector),
    s.reports.find? (fun r => r.reporter == u) = some r → c = collectorOf r.accused → p = pathPage r.accused →
    x = s.coll c →
    (r.cls.toNat < 8 →
      ((pageType p).isSome = true → Runs (.faultReport u none) s fun t =>
        t.rdFld p 0x024 0 16 = satAdd (s.rdFld p 0x024 0 16) 1 16 ∧ bit (t.rd p 0x010) 31 = true ∧
        t.reports = s.reports.erase r ∧ t.fences = s.fences) ∧
      (∀ i : Nat, (x.ents.find? fun e => e.2.unit == r.accused) = none → x.free (collSize c) = some i →
        Runs (.faultReport u none) s fun t =>
          tabFind (t.coll c).ents i =
            some { unit := r.accused, code := r.code, cls := r.cls, count := 1, sent := 1, last := s.clk } ∧
          t.rd c (0x200 + 8 * i) = BitVec.ofNat 32 (r.accused.toNat * 65536 + r.code.toNat * 256 + r.cls.toNat) ∧
          t.rd c (0x204 + 8 * i) = 1 ∧ (c ≠ logPage → t.ctr c 1 = s.ctr c 1 + 1)) ∧
      (∀ (i : Nat) (e : Accused), (x.ents.find? fun e => e.2.unit == r.accused) = some (i, e) →
        r.cls.toNat ≤ e.cls.toNat → Runs (.faultReport u none) s fun t =>
          tabFind (t.coll c).ents i = some { e with count := e.count + 1, last := s.clk } ∧
          t.rd c (0x204 + 8 * i) = BitVec.ofNat 32 (min (e.count + 1) (2 ^ 32 - 1)) ∧
          t.log.staged = s.log.staged) ∧
      ((x.ents.find? fun e => e.2.unit == r.accused) = none → x.free (collSize c) = none →
        Runs (.faultReport u none) s fun t =>
          (t.coll c).ents = x.ents ∧ (t.coll c).ovf = x.ovf + 1 ∧ (t.coll c).ovfUnit = r.accused ∧
          t.log.staged = s.log.staged)) ∧
    (8 ≤ r.cls.toNat → (pageType p).isSome = true → s.inReset p = false →
      (∀ f ∈ s.fences, scopeContains f (fenceScope p r.cls.toNat) = false) → Runs (.faultReport u none) s fun t =>
        fenceScope p r.cls.toNat ∈ t.fences)) ∧
  (∀ (s : State) (p : PageKey) (x : Collector), x = s.coll p → pageType p = some .rflt →
    (x.per = s.ptime.toNat / 10000 → Runs (.stormSummary p) s (· = s)) ∧
    (∀ (i : Nat) (e : Accused), x.per ≠ s.ptime.toNat / 10000 → x.ovf ≤ x.ovfSent → i < 64 → x.ents = [(i, e)] →
      (e.sent < e.count → Runs (.stormSummary p) s fun t =>
        t.coll p = { x with per := s.ptime.toNat / 10000, ents := [(i, { e with sent := e.count })] } ∧
        t.ctr p 2 = s.ctr p 2 + 1) ∧
      (e.count ≤ e.sent → Runs (.stormSummary p) s fun t =>
        t.coll p = { x with per := s.ptime.toNat / 10000 } ∧ t.log = s.log)) ∧
    (∀ (i : Fin 64) (e : Accused), tabFind x.ents i = some e →
      (e.last + s.frFld p 0x100 0 16 * 1000000 ≤ s.clk → s.isFenced (pathPage e.unit) = false →
        Runs (.entryIdleFree p i) s fun t => tabFind (t.coll p).ents i = none ∧ t.rd p (0x200 + 8 * i.val) = 0) ∧
      (s.clk < e.last + s.frFld p 0x100 0 16 * 1000000 ∨ s.isFenced (pathPage e.unit) = true →
        Runs (.entryIdleFree p i) s (· = s)))) ∧
  (∀ (s : State) (mid : Mid) (p : PageKey) (u : BitVec 16), pageType p = some .rflt ∨ pageType p = some .dflt →
    (Admitted s mid p 0x10C →
      (Runs (.fltClr mid p true u) s fun t => (t.coll p).ents = [] ∧ (t.coll p).ovf = 0) ∧
      (Runs (.fltClr mid p false u) s fun t => ∀ e ∈ (t.coll p).ents, e.2.unit ≠ u)) ∧
    (∀ cls : Byte, Admitted s mid p 0x108 →
      (midIsOmc mid = true → 8 ≤ cls.toNat → cls.toNat ≤ 11 → (pageType (pathPage u)).isSome = true → s.inReset (pathPage u) = false →
        (∀ f ∈ s.fences, scopeContains f (fenceScope (pathPage u) cls.toNat) = false) →
        Runs (.fltFence mid p cls u) s fun t =>
          fenceScope (pathPage u) cls.toNat ∈ t.fences ∧ bit (t.rd p 0x010) 2 = true) ∧
      (midIsOmc mid = false → Runs (.fltFence mid p cls u) s fun t => t.fences = s.fences))) ∧
  (∀ (s : State) (tx rx : Fin 13) (hop : BitVec 16) (n : Fin 9) (p : PageKey), p = diePage rx 0 → s.fences = [] →
    (linked tx rx = false ∨ n.val = 0 → Runs (.fabReplay tx rx hop n) s (· = s)) ∧
    (linked tx rx = true → 0 < n.val → n.val < 8 → rx.val ≠ 12 → s.reports = [] → Runs (.fabReplay tx rx hop n) s fun t =>
      t = { s with out := .replay hop.toNat :: s.out, reports :=
        [{ accused := unitPath p, reporter := unitPath p, code := 2, cls := 2, detail := hop }] }) ∧
    (linked tx rx = true → n.val = 8 → s.inReset (diePage (hopDie tx rx) 0) = false →
      Runs (.fabReplay tx rx hop n) s fun t => Scope.die (hopDie tx rx) ∈ t.fences)) ∧
  (∀ (s : State) (k : BitVec 24) (h : Nat) (x : KeyCtx), x = s.ctx k.toNat → x.holder = some h → s.reports = [] →
    (Runs (.eccScrub []) s (· = s)) ∧
    (s.litPage (ciphPage h) = true →
      (Runs (.eccScrub [(.ctx k, false)]) s fun t =>
        t = { s with reports := [{ accused := unitPath (ciphPage h), reporter := unitPath (ciphPage h), code := 1, cls := 1
                                   detail := k.setWidth 16 }] }) ∧
      (Runs (.eccScrub [(.ctx k, true)]) s fun t =>
        t.ctx k.toNat = { x with st := 3 } ∧ t.mem = s.mem ∧ t.regs = s.regs ∧
        (t.reports.map fun r => (r.code, r.cls)) = [(0x12, 3)])) ∧
    (s.litPage (ciphPage h) = false → Runs (.eccScrub [(.ctx k, true)]) s (· = s)))

/-- The log (R480–R483). A record enters staging, or coalesces with one like it that still waits, or is dropped and
counted when staging is full. The writer moves the oldest into the ring while there is room. LOG_POST posts the record
that its data registers hold, or a trace. That a command that is not due leaves the state as it is is the model's
choice (log entry 2). -/
def Obligations.LogRows : Prop :=
  ∀ s : State,
    (∀ (src : UnitPath) (sev : Fin 4) (fam : Byte) (code : BitVec 16) (n : Nat) (data : List Byte) (r : LogRec),
      r = { time := s.ptime, source := src, severity := sev.val, family := fam, code := code, count := n
            data := slice data 0 40 } →
      ((∀ x ∈ s.log.staged, x.family = fam → x.code = code → x.source ≠ src) →
        (s.log.staged.length < (if sev.val = 0 then 256 else 224) →
          Runs (.logRecordPost src sev fam code n data) s fun t =>
            t.log.staged = s.log.staged ++ [r] ∧ t.log.drops = s.log.drops ∧ t.mem = s.mem) ∧
        ((if sev.val = 0 then 256 else 224) ≤ s.log.staged.length →
          Runs (.logRecordPost src sev fam code n data) s fun t =>
            t.log.staged = s.log.staged ∧ t.log.drops = s.log.drops.modify sev.val (· + 1) ∧
            t.ctr logPage sev.val = s.ctr logPage sev.val + 1 ∧ t.mem = s.mem)) ∧
      (∀ (x : LogRec) (xs : List LogRec), s.log.staged = x :: xs → x.family = fam → x.code = code → x.source = src →
        Runs (.logRecordPost src sev fam code n data) s fun t =>
          t.log.staged = { x with count := x.count + n, coalesced := true } :: xs ∧ t.mem = s.mem)) ∧
    (s.log.staged = [] ∨ bit (s.fr logPage 0x108) 31 = false ∨ s.logRoom = 0 → Runs .logWrite s (· = s)) ∧
    (∀ (r : LogRec) (rs : List LogRec) (a : Nat), s.log.staged = r :: rs → bit (s.fr logPage 0x108) 31 = true →
      s.logRoom ≠ 0 → s.log.drops.sum = 0 → r.severity ≠ 0 →
      a = ringAt (s.fr64 logPage 0x100 / 64 * 64) (s.rdFld logPage 0x10C 0 16) (s.frFld logPage 0x108 0 4) 64 →
      Runs .logWrite s fun t =>
        t.bytes a 64 = r.bytes s.log.seq ∧ (∀ q, q < a ∨ a + 64 ≤ q → t.byte q = s.byte q) ∧ t.log.staged = rs ∧
        t.log.seq = idxAdd s.log.seq 1 ∧ t.rdFld logPage 0x10C 0 16 = idxAdd (s.rdFld logPage 0x10C 0 16) 1 ∧
        bit (t.rd logPage 0x010) 0 = true) ∧
    (∀ (mid : Mid) (data : List Byte), Admitted s mid logPage 0x138 →
      data = ((List.range 16).flatMap fun i => leBytes 4 (s.rd logPage (0x140 + 4 * i)).toNat) →
      (s.log.staged = [] → Runs (.logPost mid false) s fun t =>
        t.log.staged = [{ time := s.ptime, source := BitVec.ofNat 16 (leAt data 8 2), severity := leAt data 10 1 % 4
                          family := data.getD 11 0, code := BitVec.ofNat 16 (leAt data 12 2), count := leAt data 16 4
                          data := slice data 24 40 }] ∧ bit (t.rd logPage 0x138) 31 = false ∧ t.mem = s.mem) ∧
      (bit (s.fr logPage 0x128) 31 = false → Runs (.logPost mid true) s fun t => t.log = s.log ∧ t.mem = s.mem) ∧
      (∀ a : Nat, bit (s.fr logPage 0x128) 31 = true →
        a = ringAt (s.fr64 logPage 0x120 / 32 * 32) (s.rdFld logPage 0x12C 0 16) (s.frFld logPage 0x128 0 4) 32 →
        idxDiff (s.rdFld logPage 0x12C 0 16) (s.rdFld logPage 0x12C 16 16) < 2 ^ s.frFld logPage 0x128 0 4 →
        Runs (.logPost mid true) s fun t =>
          t.rdFld logPage 0x12C 0 16 = idxAdd (s.rdFld logPage 0x12C 0 16) 1 ∧ t.log.staged = s.log.staged ∧
          (∀ q, q < a ∨ a + 32 ≤ q → t.byte q = s.byte q) ∧ t.bytes a 32 =
            leBytes 8 s.ptime.toNat ++ leBytes 2 mid.toNat ++ leBytes 2 (tabGet (0, false) s.log.trc mid.toNat).1 ++
              [if (tabGet (0, false) s.log.trc mid.toNat).2 then 1 else 0] ++ zeros 3 ++ slice data 16 16))

/-! ### Security, alarms, TAPs -/

/-- A write of a SEC register is accepted and applied at once. -/
abbrev SecReady (s : State) (mid : Mid) (off : Nat) : Prop :=
  Admitted s mid secPage off ∧ s.fastReady secPage = true

/-- A SEC_CMD has completed with this result (R492). -/
abbrev SecDone (t : State) (res : Nat) : Prop :=
  t.rd secPage 0x10C = BitVec.ofNat 32 (0x40000000 + res) ∧ bit (t.rd secPage 0x108) 31 = false ∧
    bit (t.rd secPage 0x010) 0 = true

/-- Fuse commands (R490, R492, R510). Each completes with LOCKED at level A2 or above, with BAD_STATE where the
lifecycle does not admit it, with BAD_PARAM or LAST_SLOT where its operands do not, with FUSE_FAIL where a fuse does
not blow; else the fuses that it names are blown. A command that does not complete with OK leaves the fuses of slots
and minimums as they were. -/
def Obligations.FuseCommandRows : Prop :=
  ∀ (s : State) (mid : Mid), SecReady s mid 0x108 → bit (s.rd secPage 0x10C) 31 = false →
    (2 ≤ s.alarmLevel → ∀ (tgt slot : BitVec 4) (got : BitVec 2) (d ok : Bool),
      ∀ r ∈ [Instr.advanceLc mid tgt got, .enrol mid slot d ok, .revoke mid slot ok, .burnFwSvn mid ok,
        .burnPatchSvn mid ok], Runs r s fun t => SecDone t 2 ∧ t.fuses = s.fuses) ∧
    (s.alarmLevel < 2 →
      (∀ (tgt : BitVec 4) (got : BitVec 2),
        (s.advanceOk tgt.toNat = false → Runs (.advanceLc mid tgt got) s fun t => SecDone t 1 ∧ t.fuses = s.fuses) ∧
        (s.advanceOk tgt.toNat = true → Runs (.advanceLc mid tgt 3) s fun t =>
          SecDone t 0 ∧ t.fuses.lc = s.fuses.lc ||| (3 : BitVec 6) <<< (2 * (tgt.toNat - 1)) ∧
          t.fuses.enrolled = s.fuses.enrolled ∧ t.sec.lc = s.sec.lc) ∧
        (s.advanceOk tgt.toNat = true → lcPair s.fuses.lc (tgt.toNat - 1) = false → Runs (.advanceLc mid tgt 0) s fun t =>
          SecDone t 4 ∧ t.fuses.lc = s.fuses.lc)) ∧
      (∀ (slot : BitVec 4) (d ok : Bool),
        (s.sec.lc ≠ 1 → s.sec.lc ≠ 2 →
          (Runs (.enrol mid slot d ok) s fun t => SecDone t 1 ∧ t.fuses = s.fuses) ∧
          (Runs (.revoke mid slot ok) s fun t => SecDone t 1 ∧ t.fuses = s.fuses)) ∧
        (s.sec.lc = 1 ∨ s.sec.lc = 2 →
          (4 ≤ slot.toNat ∨ s.fuses.enrolled.getLsbD slot.toNat = true → Runs (.enrol mid slot d ok) s fun t =>
            SecDone t 3 ∧ t.fuses = s.fuses) ∧
          (slot.toNat < 4 → s.fuses.enrolled.getLsbD slot.toNat = false →
            (Runs (.enrol mid slot d false) s fun t => SecDone t 4 ∧ t.fuses = s.fuses) ∧
            (Runs (.enrol mid slot d true) s fun t => SecDone t 0 ∧
              t.fuses = { s.fuses with
                slotHash := s.fuses.slotHash.set slot.toNat s.secData
                enrolled := s.fuses.enrolled ||| 1 <<< slot.toNat
                dbgSlots := if d then s.fuses.dbgSlots ||| 1 <<< slot.toNat else s.fuses.dbgSlots })) ∧
          (4 ≤ slot.toNat ∨ s.fuses.enrolled.getLsbD slot.toNat = false → Runs (.revoke mid slot ok) s fun t =>
            SecDone t 3 ∧ t.fuses = s.fuses) ∧
          (slot.toNat < 4 → s.fuses.enrolled.getLsbD slot.toNat = true →
            (s.sec.lc = 2 → s.fuses.live = 1 <<< slot.toNat → Runs (.revoke mid slot ok) s fun t =>
              SecDone t 5 ∧ t.fuses = s.fuses) ∧
            (s.sec.lc = 1 ∨ s.fuses.live ≠ 1 <<< slot.toNat →
              (Runs (.revoke mid slot false) s fun t => SecDone t 4 ∧ t.fuses = s.fuses) ∧
              (Runs (.revoke mid slot true) s fun t => SecDone t 0 ∧
                t.fuses = { s.fuses with revoked := s.fuses.revoked ||| 1 <<< slot.toNat }))))) ∧
      (∀ (want : Nat), want = s.rdFld secPage 0x140 0 7 →
        (s.sec.lc = 3 → ∀ ok : Bool, ∀ r ∈ [Instr.burnFwSvn mid ok, .burnPatchSvn mid ok],
          Runs r s fun t => SecDone t 1 ∧ t.fuses = s.fuses) ∧
        (s.sec.lc ≠ 3 → ∀ (cur : Nat) (r : Bool → Instr), (cur = s.fuses.fwSvn ∧ r = Instr.burnFwSvn mid) ∨
          (cur = s.fuses.patchSvn ∧ r = Instr.burnPatchSvn mid) →
          (want = 0 ∨ 64 < want ∨ want < cur → ∀ ok : Bool, Runs (r ok) s fun t => SecDone t 3 ∧ t.fuses = s.fuses) ∧
          (1 ≤ want → want ≤ 64 → want = cur → ∀ ok : Bool, Runs (r ok) s fun t =>
            SecDone t 0 ∧ t.fuses = s.fuses) ∧
          (cur < want → want ≤ 64 → Runs (r false) s fun t => SecDone t 4 ∧ t.fuses = s.fuses)) ∧
        (s.sec.lc ≠ 3 → want ≤ 64 →
          (s.fuses.fwSvn < want → Runs (.burnFwSvn mid true) s fun t =>
            SecDone t 0 ∧ t.fuses = { s.fuses with fwSvn := want }) ∧
          (s.fuses.patchSvn < want → Runs (.burnPatchSvn mid true) s fun t =>
            SecDone t 0 ∧ t.fuses = { s.fuses with patchSvn := want }))))

/-- Debug unlock and alarms (R499–R508). A nonce request draws a nonce and empties the FIFO, which takes token bytes in
ascending order. GO unlocks a token's scope or refuses it, and consumes the nonce. RELOCK ends the unlock, every
session of the debug port, and gated instructions of the TAPs. A source that fires latches, raises the package level to
its own and never lowers it; A2 relocks, and A3 zeroizes the keys. A latch is cleared by firmware only where its level
is A1. That a command that is not due leaves the state as it is is the model's choice (log entry 2). -/
def Obligations.DebugUnlockAndAlarmRows : Prop :=
  ∀ (s : State) (mid : Mid),
    (SecReady s mid 0x200 →
      (Runs (.dbgNonce mid) s fun t =>
        t.sec.nonce = some (Config.random256 s.fresh) ∧ t.sec.fifo = [] ∧ t.fresh = s.fresh + 1 ∧
        (∀ i < 8, t.rd secPage (0x220 + 4 * i) =
          BitVec.ofNat 32 ((Config.random256 s.fresh).toNat / 2 ^ (32 * i))) ∧ t.mem = s.mem) ∧
      (s.tokenCheck = none → Runs (.dbgGo mid) s fun t =>
        t.sec.nonce = none ∧ t.sec.scope = BitVec.ofNat 3 (s.sec.fifo.getD 7 0).toNat ∧
        t.rd secPage 0x204 = 0x40000000 ∧ bit (t.rd secPage 0x11C) 31 = true ∧ bit (t.rd secPage 0x010) 1 = true) ∧
      (∀ e : Nat, s.tokenCheck = some e → Runs (.dbgGo mid) s fun t =>
        t.sec.nonce = none ∧ t.rd secPage 0x204 = BitVec.ofNat 32 (0x40000000 + e) ∧
        (e ≠ 5 → t.rdFld secPage 0x11C 0 8 = satAdd (s.rdFld secPage 0x11C 0 8) 1 8) ∧
        (e = 5 ∨ s.rdFld secPage 0x11C 0 8 < 2 → t.sec.scope = s.sec.scope) ∧
        (e ≠ 5 → 2 ≤ s.rdFld secPage 0x11C 0 8 → bit (t.rd almapPage 0x108) 6 = true))) ∧
    (∀ v : Reg, SecReady s mid 0x208 → Runs (.dbgFifoWrite mid v) s fun t =>
      t.sec = { s.sec with fifo := s.sec.fifo ++ leBytes 4 v.toNat } ∧ t.fuses = s.fuses ∧ t.mem = s.mem) ∧
    (SecReady s mid 0x118 → Runs (.relock mid) s fun t =>
      t.sec.scope = 0 ∧ bit (t.rd secPage 0x11C) 31 = false ∧ (∀ d ∈ t.dbgs, midIsDebug d.2.holder = false) ∧
      (∀ x ∈ t.jtag.taps, t.irAdmits x.ir = true) ∧ t.mem = s.mem) ∧
    (Runs (.fuseCompare true) s fun t => bit (t.rd fusePage 0x100) 30 = true ∧ OnlyRegs s t) ∧
    (Runs (.fuseCompare false) s fun t =>
      bit (t.rd fusePage 0x100) 30 = false ∧ bit (t.rd almapPage 0x108) 5 = true ∧ t.fuses = s.fuses) ∧
    (∀ (src : BitVec 4) (lvl : Nat), lvl = s.rdFld almapPage 0x100 (2 * src.toNat) 2 →
      (10 < src.toNat → Runs (.alarmFire src) s (· = s)) ∧
      (src.toNat ≤ 10 →
        (bit (s.rd almapPage 0x108) src.toNat = true → Runs (.alarmFire src) s fun t =>
          t.alarmLevel = s.alarmLevel ∧ OnlyRegs s t ∧
          t.rdFld almapPage (0x140 + 4 * src.toNat) 0 16 =
            satAdd (s.rdFld almapPage (0x140 + 4 * src.toNat) 0 16) 1 16) ∧
        (bit (s.rd almapPage 0x108) src.toNat = false → Runs (.alarmFire src) s fun t =>
          bit (t.rd almapPage 0x108) src.toNat = true ∧ t.alarmLevel = max s.alarmLevel lvl ∧ t.fuses = s.fuses ∧
          t.mem = s.mem ∧
          (lvl = 1 → s.alarmLevel < 2 → t.pins.alarmN = false ∧ t.sec.pulseEnd = some (s.clk + 1000)) ∧
          (2 ≤ lvl → s.alarmLevel < lvl → t.pins.alarmN = false ∧ t.sec.scope = 0) ∧
          (lvl = 3 → s.alarmLevel < 3 → t.sec.kek = none ∧ t.sec.vaultKey = none ∧ t.sec.patchKey = none ∧
            t.sec.devIdKey = none ∧ t.sec.aliasKey = none ∧ (∀ c ∈ t.ctxs, c.2.key = [] ∧ c.2.salt = []) ∧
            bit (t.rd secPage 0x104) 2 = true)))) ∧
    (s.sec.pulseEnd = none → Runs .alarmPulseEnd s (· = s)) ∧
    (∀ t0 : Ns, s.sec.pulseEnd = some t0 →
      (s.clk < t0 → Runs .alarmPulseEnd s (· = s)) ∧
      (t0 ≤ s.clk → Runs .alarmPulseEnd s fun t =>
        t.sec.pulseEnd = none ∧ t.pins.alarmN = (if 2 ≤ s.alarmLevel then s.pins.alarmN else true) ∧ t.regs = s.regs)) ∧
    (∀ v : Reg, Admitted s mid almapPage 0x108 → Runs (.almapLatchClear mid v) s fun t =>
      (∀ i < 16,
        bit (t.rd almapPage 0x108) i = (bit (s.rd almapPage 0x108) i &&
          !(bit v i && s.rdFld almapPage 0x100 (2 * i) 2 == 1)) ∧
        (bit v i = true → s.rdFld almapPage 0x100 (2 * i) 2 = 1 → t.rdFld almapPage (0x140 + 4 * i) 0 16 = 0)) ∧
      t.alarmLevel = s.alarmLevel ∧ t.pins = s.pins) ∧
    (∀ w : Nat, w = s.ptime.toNat / (s.rdFld secPage 0x110 16 16 * 1000000) →
      (w = s.sec.isoWin → Runs .isoWindowStart s (· = s)) ∧
      (w ≠ s.sec.isoWin → Runs .isoWindowStart s fun t =>
        t.rd secPage 0x114 = 0 ∧ t.sec = { s.sec with isoFired := false, isoWin := w }))

/-- The TAPs (R549–R556). A reset selects IDCODE everywhere. Update-IR selects an instruction that is admitted, and
BYPASS for one that is not, with a mark that the next Capture-IR shows in bit 7; an unlisted opcode acts as BYPASS.
EXTEST and its like disconnect the die's pins and take its links down. Capture-DR loads what the instruction selects.
DBG_ACCESS makes one access of the debug port, or is refused. That a command that is not due leaves the state as it is
is the model's choice (log entry 2). How EXTEST acts on the links is deduced (log entry 49). -/
def Obligations.TapRows : Prop :=
  (∀ s : State, Runs .tapReset s fun t =>
    t = { s with jtag := { s.jtag with taps := List.replicate 9 { ir := 1, refused := false } } }) ∧
  (∀ s : State, Runs .captureIr s fun t =>
    t = { s with jtag := { s.jtag with irCapture := t.jtag.irCapture } } ∧
    t.jtag.irCapture.length = s.jtag.taps.length ∧
    ∀ i < s.jtag.taps.length, t.jtag.irCapture.getD i 0 = (if (s.tap i).refused then 0x81 else 0x01)) ∧
  (∀ (s : State) (i : Fin 9) (op : Byte), s.jtag.taps.length = 9 →
    (s.irAdmits op = false → Runs (.updateIr i op) s fun t =>
      (t.tap i).ir = 0xFF ∧ (t.tap i).refused = true ∧ t.jtag.tested = s.jtag.tested ∧ t.regs = s.regs ∧
      ∀ j : Fin 9, j ≠ i → t.tap j = s.tap j) ∧
    (s.irAdmits op = true → (op.toNat = 0 ∨ (8 ≤ op.toNat ∧ op.toNat < 0x20) ∨ (0x20 < op.toNat ∧ op.toNat < 0x80) ∨
        (op = 0x20 ∧ i.val ≠ 0)) → Runs (.updateIr i op) s fun t =>
      (t.tap i).ir = 0xFF ∧ (t.tap i).refused = false ∧ ∀ j : Fin 9, j ≠ i → t.tap j = s.tap j) ∧
    (s.irAdmits op = true → (op.toNat ∈ [1, 2] ∨ 0x80 ≤ op.toNat ∨ (op = 0x20 ∧ i.val = 0)) →
      Runs (.updateIr i op) s fun t =>
        (t.tap i).ir = op ∧ (t.tap i).refused = false ∧ t.regs = s.regs ∧ ∀ j : Fin 9, j ≠ i → t.tap j = s.tap j) ∧
    (s.irAdmits op = true → 3 ≤ op.toNat → op.toNat ≤ 7 →
      ∀ r : Instr, r = .updateIr i op ∨ (r = .extest i ∧ op = 3) → Runs r s fun t =>
        (t.tap i).ir = op ∧ (t.tap i).refused = false ∧ tapSite i ∈ t.jtag.tested ∧
        (5 ≤ i.val → ∀ n < 8, ∀ k, 1 ≤ k → k ≤ 8 → t.linkUp (npgPage (8 * (tapSite i - 4) + n) k) = false)) ∧
    (s.irAdmits 3 = false → Runs (.extest i) s fun t =>
      (t.tap i).ir = 0xFF ∧ (t.tap i).refused = true ∧ t.jtag.tested = s.jtag.tested)) ∧
  (∀ (s : State) (i : Fin 9) (cells : List Bool), s.jtag.drCapture.length = 9 → Runs (.captureDr i cells) s fun t =>
    t = { s with jtag := { s.jtag with drCapture := t.jtag.drCapture } } ∧
    (∀ j : Fin 9, j ≠ i → t.jtag.drCapture[j]? = s.jtag.drCapture[j]?) ∧
    ((s.tap i).ir = 1 → t.jtag.drCapture[i.val]? = some (bitsOf (idcode i).toNat 32)) ∧
    ((s.tap i).ir = 0xFF → t.jtag.drCapture[i.val]? = some [false]) ∧
    ((s.tap i).ir = 0x20 → t.jtag.drCapture[i.val]? = some (bitsOf s.jtag.dbgData.toNat 32 ++
      bitsOf s.jtag.dbgAddr.toNat 32 ++ [s.jtag.dbgRefused, s.jtag.dbgDone])) ∧
    ((s.tap i).ir.toNat ∈ [2, 3, 4, 5] → cells.length = boundaryLen i →
      t.jtag.drCapture[i.val]? = some cells)) ∧
  (idcode 0 = 0x1641076B ∧ ∀ n < 4, idcode (1 + n) = BitVec.ofNat 32 (0x1642076B + n * 0x1000) ∧
    idcode (5 + n) = BitVec.ofNat 32 (0x1643076B + n * 0x1000)) ∧
  (∀ (s : State) (w : Bool) (a d : BitVec 32),
    ((s.tap 0).ir ≠ 0x20 → Runs (.dbgAccess w a d) s (· = s)) ∧
    ((s.tap 0).ir = 0x20 →
      (a.toNat % 4 ≠ 0 → Runs (.dbgAccess w a d) s fun t =>
        t.jtag.dbgDone = true ∧ t.jtag.dbgAddr = a ∧ t.jtag.dbgData = 0 ∧ t.mem = s.mem ∧
        t.rdFld lbusPage 0x104 0 32 = satAdd (s.rdFld lbusPage 0x104 0 32) 1 32) ∧
      (∀ (p : PageKey) (off : Nat), a.toNat % 4 = 0 → s.spot jtagMid (.internal a) = .page p off →
        (pageType p).isSome = true → s.classAdmits jtagMid p off = false → Runs (.dbgAccess false a d) s fun t =>
          t.jtag.dbgDone = true ∧ t.jtag.dbgRefused = true ∧ t.jtag.dbgAddr = a ∧ t.jtag.dbgData = 0 ∧ t.mem = s.mem) ∧
      (∀ c b : Nat, a.toNat % 4 = 0 → s.spot jtagMid (.internal a) = .cmem c b → s.windowAdmits jtagMid = true →
        Runs (.dbgAccess false a d) s fun t =>
          t.jtag.dbgDone = true ∧ t.jtag.dbgRefused = false ∧ t.jtag.dbgAddr = a ∧ t.mem = s.mem ∧
          t.jtag.dbgData = BitVec.ofNat 32 (leNat (s.bytes (cmemBase c + b) 4)))))

/-! ### Boot, management, the BMC -/

/-- Release, watchdog, banks, sensors, flash and the read-block (R513, R519, R521, R523, R526, R527, R536). RELEASE
releases the endpoints once. KICK restarts the count; half of it raises the warning and the whole of it restarts the
OMC, which makes a warm start of a bank that verifies as it was measured, or halts. A released OMC that never expired
marks its bank GOOD. A read-block of command code 0xF0 at MGMT_ADDR answers with BOOT_STS, SEC_ALARM and SEC_LC,
whether or not firmware runs. That a command that is not due leaves the state as it is is the model's choice (log entry
2). -/
def Obligations.BootRows : Prop :=
  ∀ (s : State) (mid : Mid) (b : Nat), b = s.runBank →
    (∀ a : BitVec 7,
      (a.toNat = s.rdFld mgmtPageKey 0x100 0 7 → Runs (.statusReadBlock a) s fun t =>
        t = { s with out := .reply "smbus" (leBytes 4 (s.rd bootPage 0x100).toNat ++
          leBytes 4 (s.rd secPage 0x104).toNat ++ leBytes 4 (s.rd secPage 0x100).toNat) :: s.out }) ∧
      (a.toNat ≠ s.rdFld mgmtPageKey 0x100 0 7 → Runs (.statusReadBlock a) s (· = s))) ∧
    (Admitted s mid bootPage 0x108 → Runs (.bootEpRelease mid) s fun t =>
      t.omc = { s.omc with released := true, releasedAt := if s.omc.released then s.omc.releasedAt else s.clk } ∧
      t.rd bootPage 0x11C = BitVec.ofNat 32 ((s.clk - s.omc.relAt) / 1000) ∧ t.mem = s.mem) ∧
    (Admitted s mid omcPage 0x100 → s.fastReady omcPage = true → Runs (.kick mid) s fun t =>
      t.omc = { s.omc with kickAt := s.clk } ∧ bit (t.rd omcPage 0x100) 30 = false ∧ t.mem = s.mem) ∧
    (bit (s.fr omcPage 0x100) 31 = true → s.wdtNs ≤ 2 * (s.clk - s.omc.kickAt) → Runs .wdtWarn s fun t =>
      bit (t.rd omcPage 0x010) 1 = true ∧ t.omc = s.omc) ∧
    (bit (s.fr omcPage 0x100) 31 = false → Runs .wdtWarn s (· = s)) ∧
    (bit (s.fr omcPage 0x100) 31 = false ∨ s.clk - s.omc.kickAt < s.wdtNs → Runs .omcRestart s (· = s)) ∧
    (bit (s.fr omcPage 0x100) 31 = true → s.omc.halted = false → s.wdtNs ≤ s.clk - s.omc.kickAt → s.bankState b = 0x3F →
      Runs .omcRestart s fun t => t.mem = s.mem ∧
        (∀ v : BitVec 384 × Nat, s.fwVerify (bankImg b) = some v → v.1 = tabGet 0 s.sec.meas 2 →
          t.omc.running = true ∧ t.omc.kickAt = s.clk ∧ t.omc.expired = true ∧ t.omc.leaseUp = none ∧
          bit (t.rd omcPage 0x104) 31 = true ∧ t.rdFld omcPage 0x104 0 8 = satAdd (s.rdFld omcPage 0x104 0 8) 1 8) ∧
        (s.fwVerify (bankImg b) = none → t.omc.running = false ∧ t.omc.halted = true ∧
          t.rdFld bootPage 0x100 28 4 = 0xF ∧ t.rdFld bootPage 0x100 0 16 = 2)) ∧
    (s.omc.running = true → s.omc.released = true → s.omc.expired = false →
      60000000000 ≤ s.clk - s.omc.releasedAt → Runs .bankGood s fun t =>
        t.bankState b = s.bankState b &&& 0x3F ∧ (∀ q, q ≠ bankHdr b + 8 → t.byte q = s.byte q) ∧ t.regs = s.regs) ∧
    (s.clk - s.omc.releasedAt < 60000000000 ∨ s.omc.expired = true → Runs .bankGood s (· = s)) ∧
    (∀ (i : Nat) (v : Reg), bit v 31 = true → i ≤ 0x39 → Runs (.sensorRefresh [(i, v)]) s fun t =>
      t.sensor i = v ∧ (∀ j, j ≠ i → t.sensor j = s.sensor j) ∧
      t.rd sensPage 0x104 = t.sensor (s.rdFld sensPage 0x100 0 8) ∧
      (signedOf 16 (s.rdFld sensPage 0x108 0 16) ≤ signedOf 24 (fld v 0 24) → bit (t.rd sensPage 0x010) 0 = true) ∧
      (840 < signedOf 24 (fld v 0 24) → bit (t.rd almapPage 0x108) 4 = true) ∧
      (920 ≤ signedOf 24 (fld v 0 24) → t.pins.thermTripN = false) ∧
      (signedOf 24 (fld v 0 24) < 920 → t.pins.thermTripN = s.pins.thermTripN)) ∧
    (∀ (v c : Reg) (a n : Nat), Admitted s mid bootPage 0x120 → c = s.written bootPage 0x120 (v ||| 0x80000000) →
      bit c 30 = false → n = fld c 2 8 + 1 → a = (s.rd bootPage 0x124).toNat →
      (2 ^ 26 < a + n → Runs (.qspiCommand mid v) s fun t => t.mem = s.mem ∧ bit (t.rd bootPage 0x120) 31 = false) ∧
      (a + n ≤ 2 ^ 26 →
        (fld c 0 2 = 0 → Runs (.qspiCommand mid v) s fun t => t.mem = s.mem ∧
          ∀ i < (n + 3) / 4, t.rd bootPage (0x400 + 4 * i) =
            BitVec.ofNat 32 (leAt (s.bytes (flashBase + a) n) (4 * i) 4)) ∧
        (fld c 0 2 = 1 → Runs (.qspiCommand mid v) s fun t =>
          (∀ j < n, t.byte (flashBase + a + j) = s.byte (flashBase + a + j) &&&
            BitVec.ofNat 8 ((s.rd bootPage (0x400 + 4 * (j / 4))).toNat / 2 ^ (8 * (j % 4)))) ∧
          ∀ q, q < flashBase + a ∨ flashBase + a + n ≤ q → t.byte q = s.byte q) ∧
        (fld c 0 2 = 2 → Runs (.qspiCommand mid v) s fun t =>
          (∀ j < 65536, t.byte (flashBase + a / 65536 * 65536 + j) = 0xFF) ∧
          ∀ q, q < flashBase + a / 65536 * 65536 ∨ flashBase + a / 65536 * 65536 + 65536 ≤ q → t.byte q = s.byte q)))

/-- Firmware takes a vendor request: it runs, endpoints are released, and LEN agrees (R530, R533). -/
abbrev VendorReady (s : State) (len : Nat) (payload : List Byte) : Prop :=
  s.omc.running = true ∧ s.omc.released = true ∧ len = payload.length ∧ len ≤ 4152

/-- The vendor response that went out last (R533). -/
abbrev Answered (t : State) (cmd tag : Byte) (compl result : Nat) (payload : List Byte) : Prop :=
  t.out.head? = some (.reply "vendor" ([cmd, tag, BitVec.ofNat 8 compl, BitVec.ofNat 8 result] ++
    leBytes 2 payload.length ++ [0, 0] ++ payload))

/-- Messages of the BMC (R505, R522, R525, R530–R533). Without firmware nothing answers. MCTP control, PLDM and SPDM
requests are answered as their rules say; an update writes the inactive bank and gives it its header only when its
image verifies, and the running bank stays as it was. A vendor request before the release is not ready, but for two.
That a command that is not due leaves the state as it is is the model's choice (log entry 2). The bodies of SPDM
responses are free (log entry 6). -/
def Obligations.BmcRows : Prop :=
  ∀ (s : State) (tag : Byte) (len : Nat) (payload : List Byte) (b : Nat), b = s.runBank → b < 2 →
    (s.omc.running = false → ∀ (x y : Byte) (w : BitVec 16) (l : List Byte) (fw : Option (List Byte)) (ok : Bool)
      (g : BitVec 2), ∀ r ∈ [Instr.mctpControl x y, .pldmRequest x y w, .spdmMctpMessage x l, .pldmUpdate fw fw fw,
        .getInfo tag len payload, .leaseGrant tag len payload, .leaseLoad tag len payload,
        .leaseRevokeCmd tag len payload, .sessionCreate tag len payload ok, .sessionDestroy tag len payload,
        .secCommandMsg tag len payload ok g, .svnCommit tag len payload ok, .logRead tag len payload,
        .setCertificate tag len payload], Runs r s (· = s)) ∧
    (s.omc.running = true →
      (∀ eid : Byte,
        (Runs (.mctpControl 0x01 eid) s fun t => t.rd mgmtPageKey 0x104 = eid.setWidth 32 ∧
          t.out = .reply "mctp-control" [0x01, 0x00, eid] :: s.out) ∧
        (Runs (.mctpControl 0x02 eid) s fun t =>
          t = { s with out := .reply "mctp-control" [0x02, 0x00, (s.rd mgmtPageKey 0x104).setWidth 8] :: s.out }) ∧
        (∀ c : Byte, c.toNat = 0 ∨ c.toNat = 3 ∨ 7 ≤ c.toNat → Runs (.mctpControl c eid) s fun t =>
          t = { s with out := .reply "mctp-control" [c, 0x05] :: s.out })) ∧
      (∀ w : BitVec 16,
        (Runs (.pldmRequest 0x00 0x02 w) s fun t => t = { s with out := .reply "pldm" [0, 2, 0, s.omc.tid] :: s.out }) ∧
        (Runs (.pldmRequest 0x02 0x04 w) s fun t => t.omc = { s.omc with eventRecv := true } ∧
          t.out = .reply "pldm" [2, 4, 0] :: s.out) ∧
        (bit (s.sensor w.toNat) 31 = true → Runs (.pldmRequest 0x02 0x11 w) s fun t =>
          t = { s with out := .reply "pldm" ([2, 0x11, 0, 0] ++ leBytes 3 (fld (s.sensor w.toNat) 0 24)) :: s.out }) ∧
        (bit (s.sensor w.toNat) 31 = false → Runs (.pldmRequest 0x02 0x11 w) s fun t =>
          t = { s with out := .reply "pldm" [2, 0x11, 0, 2] :: s.out })) ∧
      (∀ (c : Byte) (l : List Byte),
        (3 ≤ s.alarmLevel ∨ (2 ≤ s.alarmLevel ∧ c = 0xE4) → Runs (.spdmMctpMessage c l) s fun t =>
          t = { s with out := .reply "spdm" [0x13, 0x7F] :: s.out }) ∧
        (s.alarmLevel < 2 → Runs (.spdmMctpMessage c l) s fun t =>
          t = { s with fresh := s.fresh + 1, out := .reply "spdm" (Config.firmwareReply (c :: l) s.fresh) :: s.out })) ∧
      (∀ fw cfg : Option (List Byte), 2 ≤ s.alarmLevel → Runs (.pldmUpdate fw fw cfg) s fun t =>
        t = { s with out := .reply "pldm-fwup" [0x80] :: s.out }) ∧
      (∀ fw : List Byte, s.alarmLevel < 2 → Runs (.pldmUpdate (some fw) none none) s fun t =>
        ((t.fwVerify (bankImg (1 - b))).isSome = true → t.bankState (1 - b) = 0x7F ∧
          t.bankSeq (1 - b) = (s.bankSeq b + 1) % 2 ^ 32 ∧ t.bytes (bankHdr (1 - b)) 4 = bankMagic ∧
          t.out.head? = some (.reply "pldm-fwup" [0])) ∧
        ((t.fwVerify (bankImg (1 - b))).isSome = false → bit (t.rd almapPage 0x108) 8 = true ∧
          t.bankState (1 - b) = 0xFF ∧ t.out.head? = some (.reply "pldm-fwup" [1])) ∧
        (∀ j < 0x800000, t.byte (bankImg b + j) = s.byte (bankImg b + j)) ∧
        ∀ j < 65536, t.byte (bankHdr b + j) = s.byte (bankHdr b + j)) ∧
      (len ≠ payload.length ∨ 4152 < len → Runs (.getInfo tag len payload) s fun t =>
        t = { s with out := .reply "vendor" [1, tag, 2, 0, 0, 0, 0, 0] :: s.out }) ∧
      (len = payload.length → len ≤ 4152 → s.omc.released = false → Runs (.svnCommit tag len payload true) s fun t =>
        t = { s with out := .reply "vendor" [7, tag, 3, 0, 0, 0, 0, 0] :: s.out }))

/-- Vendor commands (R444, R496, R524, R529, R534, R535). Each answers SUCCESS with its payload when its request is well
formed and its object is in the state it needs, and then has its effect; else it answers the completion and result of
R535. -/
def Obligations.VendorRows : Prop :=
  ∀ (s : State) (tag : Byte) (len : Nat) (payload : List Byte), VendorReady s len payload →
    (Runs (.getInfo tag len payload) s fun t =>
      ∃ d : List Byte, d.length = 48 ∧ leAt d 0 8 = s.fuses.serial.toNat ∧ leAt d 8 1 = s.sec.lc % 256 ∧
        leAt d 9 1 = s.alarmLevel ∧ leAt d 10 1 = s.runBank ∧ leAt d 16 4 = s.omc.patchSvn % 2 ^ 32 ∧
        leAt d 24 8 = s.ptime.toNat ∧ Answered t 1 tag 0 0 d ∧ t = { s with out := t.out }) ∧
    (∀ (c l : Nat), c = leAt payload 0 1 → l = leAt payload 1 1 → l < 16 → s.leaseCluster c = true →
      (payload.length = 56 →
        (s.lseSt c l ≠ 0 → Runs (.leaseGrant tag len payload) s fun t => Answered t 2 tag 1 2 [] ∧ t.regs = s.regs) ∧
        (s.lseSt c l = 0 → Runs (.leaseGrant tag len payload) s fun t => Answered t 2 tag 0 0 [] ∧
          (∀ i < 12, t.rd (leasePage c) (leaseOff l + grantRegs.getD i 0) =
            s.written (leasePage c) (leaseOff l + grantRegs.getD i 0) (BitVec.ofNat 32 (leAt payload (4 + 4 * i) 4))) ∧
          t.mem = s.mem ∧ t.thrs = s.thrs)) ∧
      (∀ bs : List Byte, bs = payload.drop 12 → 12 < payload.length → bs.length ≤ 4096 →
        (2 ≤ s.alarmLevel → Runs (.leaseLoad tag len payload) s fun t => Answered t 3 tag 4 0 [] ∧ t.omc = s.omc) ∧
        (s.alarmLevel < 2 → s.lseSt c l = 0 → leAt payload 2 2 = 0 → leAt payload 8 4 = 0 →
          leAt payload 4 4 ≤ 269812 →
          (bs.length < leAt payload 4 4 → Runs (.leaseLoad tag len payload) s fun t =>
            Answered t 3 tag 0 0 [] ∧ t.mem = s.mem ∧ t.omc.running = true ∧ t.omc.images = s.omc.images ∧
            t.omc.leaseUp = some { cluster := c, lease := l, total := leAt payload 4 4, nextPart := 1, bytes := bs }) ∧
          (bs.length = leAt payload 4 4 → s.omc.leaseUp = none →
            (s.leaseImage bs ≠ 0 → Runs (.leaseLoad tag len payload) s fun t =>
              Answered t 3 tag 1 (0x10 + s.leaseImage bs) [] ∧ t.mem = s.mem ∧ t.regs = s.regs) ∧
            (s.leaseImage bs = 0 → (s.leaseLoad c l bs).1 = 0 → tabFind s.omc.images (c * 16 + l) = none →
              Runs (.leaseLoad tag len payload) s fun t => Answered t 3 tag 0 0 (leBytes 4 1) ∧ t.lseSt c l = 1 ∧
                tabFind t.omc.images (c * 16 + l) = some (imgId bs, leAt bs 12 4))))) ∧
      (payload.length = 2 →
        (s.lseSt c l = 0 → Runs (.leaseRevokeCmd tag len payload) s fun t =>
          Answered t 4 tag 1 2 [] ∧ t.regs = s.regs) ∧
        (s.lseSt c l ≠ 0 → Runs (.leaseRevokeCmd tag len payload) s fun t =>
          Answered t 4 tag 0 0 [] ∧ t.lseSt c l = 0 ∧ tabFind t.omc.images (c * 16 + l) = none))) ∧
    (∀ (i n q e d : Nat), payload.length = 512 → leAt payload 0 1 = 1 → leAt payload 1 1 = 1 ∨ leAt payload 1 1 = 2 →
      q = leAt payload 2 1 → 1 ≤ q → q ≤ 64 → leAt payload 3 1 < 8 → n = leAt payload 4 2 → n ≤ 60 →
      e = leAt payload 6 2 → 2 ≤ e → e ≤ 1024 → d = leAt payload 8 1 → d ≤ 3 → leAt payload 9 1 < 64 →
      leAt payload 10 1 ≤ 7 → i < 4096 → tabFind s.omc.sessions i = none →
      (∀ j < i, (tabFind s.omc.sessions j).isSome = true) → s.dieQueues d + q + 1 ≤ 16384 →
      (Runs (.sessionCreate tag len payload true) s fun t =>
        Answered t 5 tag 0 0 (leBytes 2 i ++ zeros 2) ∧
        tabFind t.omc.sessions i = some { transport := leAt payload 1 1, queues := q, flags := payload.getD 3 0,
                                          timeout := if n = 0 then 2 else n, entries := e, die := d, params := payload } ∧
        ∀ j, j ≠ i → tabFind t.omc.sessions j = tabFind s.omc.sessions j) ∧
      (Runs (.sessionCreate tag len payload false) s fun t => Answered t 5 tag 1 6 [] ∧ t.omc = s.omc)) ∧
    (∀ i : Nat, payload.length = 4 → leAt payload 0 1 = 2 → i = leAt payload 2 2 →
      (tabFind s.omc.sessions i = none → Runs (.sessionDestroy tag len payload) s fun t =>
        Answered t 5 tag 2 3 [] ∧ t.omc = s.omc) ∧
      ((tabFind s.omc.sessions i).isSome = true →
        ((∃ x ∈ s.nvs, ∃ y ∈ x.2.nss, y.2.session = i) → Runs (.sessionDestroy tag len payload) s fun t =>
          Answered t 5 tag 1 4 [] ∧ t.omc = s.omc) ∧
        ((∀ x ∈ s.nvs, ∀ y ∈ x.2.nss, y.2.session ≠ i) → Runs (.sessionDestroy tag len payload) s fun t =>
          Answered t 5 tag 0 0 [] ∧ tabFind t.omc.sessions i = none))) ∧
    (∀ (ok : Bool) (g : BitVec 2), payload.length = 52 →
      (2 ≤ s.alarmLevel → 1 ≤ leAt payload 0 1 → leAt payload 0 1 ≤ 3 → Runs (.secCommandMsg tag len payload ok g) s fun t =>
        Answered t 6 tag 4 0 [] ∧ t.fuses = s.fuses) ∧
      (s.alarmLevel < 2 → leAt payload 0 1 = 1 → s.advanceOk (leAt payload 1 1) = false →
        Runs (.secCommandMsg tag len payload ok g) s fun t => Answered t 6 tag 5 1 [] ∧ t.fuses = s.fuses) ∧
      (s.alarmLevel < 2 → leAt payload 0 1 = 1 → s.advanceOk (leAt payload 1 1) = true →
        Runs (.secCommandMsg tag len payload ok 3) s fun t =>
          Answered t 6 tag 0 0 [] ∧ lcPair t.fuses.lc (leAt payload 1 1 - 1) = true)) ∧
    (∀ ok : Bool, s.bankState s.runBank ≠ 0x3F → Runs (.svnCommit tag len payload ok) s fun t =>
      Answered t 7 tag 1 0 [] ∧ t.fuses = s.fuses) ∧
    (s.bankState s.runBank = 0x3F → s.alarmLevel < 2 → s.sec.lc ≠ 3 → 0 < s.omc.fwSvn → s.omc.fwSvn ≤ 64 →
      s.fuses.fwSvn ≤ s.omc.fwSvn → 0 < s.omc.patchSvn → s.omc.patchSvn ≤ 64 → s.fuses.patchSvn ≤ s.omc.patchSvn →
      Runs (.svnCommit tag len payload true) s fun t =>
        t.fuses = { s.fuses with fwSvn := s.omc.fwSvn, patchSvn := s.omc.patchSvn } ∧
        Answered t 7 tag 0 0 [BitVec.ofNat 8 s.omc.fwSvn, BitVec.ofNat 8 s.omc.patchSvn]) ∧
    (∀ first n held m : Nat, payload.length = 6 → first = leAt payload 0 4 → n = leAt payload 4 2 → 0 < n → n ≤ 64 →
      held = s.log.persist - persistOldest s.log.persist → m = min n (held - first) →
      Runs (.logRead tag len payload) s fun t =>
        t = { s with out := t.out } ∧ Answered t 8 tag 0 0 (leBytes 4 held ++ leBytes 2 m ++ zeros 2 ++
          (List.range m).flatMap fun i =>
            s.bytes (persistBase + (persistOldest s.log.persist + first + i) % 16384 * 64) 64)) ∧
    (∀ bs : List Byte, bs = payload.drop 12 → 12 < payload.length → bs.length ≤ 4096 → leAt payload 0 2 = 0 →
      leAt payload 2 2 = 0 → leAt payload 8 4 = 0 → leAt payload 4 4 ≤ 32768 →
      (bs.length < leAt payload 4 4 → Runs (.setCertificate tag len payload) s fun t =>
        Answered t 9 tag 0 0 [] ∧ t.sec = s.sec ∧ t.mem = s.mem ∧ t.omc.certUp =
          some { cluster := 0, lease := 0, total := leAt payload 4 4, nextPart := 1, bytes := bs }) ∧
      (bs.length = leAt payload 4 4 → ∀ k : BitVec 384, s.sec.aliasKey = some k →
        Runs (.setCertificate tag len payload) s fun t =>
          (Config.chainOk bs k = true → Answered t 9 tag 0 0 [] ∧ t.sec = { s.sec with slot1 := bs } ∧
            t.bytes (flashBase + 0x38000) bs.length = bs ∧
            ∀ q, q < flashBase + 0x38000 ∨ flashBase + 0x38000 + bs.length ≤ q → t.byte q = s.byte q) ∧
          (Config.chainOk bs k = false → Answered t 9 tag 1 0x20 [] ∧ t.sec = s.sec ∧ t.mem = s.mem)))
end

