-- ==== Sys2Proof/Laws/Tab.lean ====
section
/-! SUPPORT. Sparse tables: what a key reads as after each operation, and the canonical form that each keeps. -/
namespace Sys2Proof.Machine

/-- A table is canonical: its keys rise, and it lists no entry that equals its key's default. -/
def TabOk {α : Type} (d : Nat → α) (t : List (Nat × α)) : Prop :=
  t.Pairwise (fun a b => a.1 < b.1) ∧ ∀ e ∈ t, e.2 ≠ d e.1

section
variable {α : Type} (d : α) (t : List (Nat × α)) (k j : Nat) (v : α)

@[simp] theorem tabFind_nil : tabFind ([] : List (Nat × α)) k = none := rfl

@[simp] theorem tabGet_nil : tabGet d [] k = d := rfl

theorem tabFind_cons (e : Nat × α) : tabFind (e :: t) k = if e.1 = k then some e.2 else tabFind t k := rfl

/-- A key that is not listed is not found. -/
theorem tabFind_none_of_forall (h : ∀ e ∈ t, e.1 ≠ k) : tabFind t k = none := by
  induction t with
  | nil => rfl
  | cons e t ih => simp [tabFind_cons, h e (by simp), ih fun x hx => h x (by simp [hx])]

@[simp] theorem tabFind_erase_self : tabFind (tabErase t k) k = none :=
  tabFind_none_of_forall _ _ fun e he => by simpa [tabErase] using (List.mem_filter.1 he).2

/-- Filtering by key keeps what the other keys read as. -/
theorem tabFind_filter (p : Nat → Bool) :
    tabFind (t.filter fun e => p e.1) k = if p k then tabFind t k else none := by
  induction t with
  | nil => simp
  | cons e t ih =>
    by_cases he : e.1 = k
    · subst he
      by_cases hp : p e.1 <;> simp_all [tabFind_cons]
    · by_cases hp : p e.1 <;> simp_all [tabFind_cons]

theorem tabFind_erase_of_ne (h : j ≠ k) : tabFind (tabErase t k) j = tabFind t j :=
  (tabFind_filter t j fun i => decide (i ≠ k)).trans (by simp [h])

/-- An insertion of a key that is not listed. -/
theorem tabFind_insert (h : tabFind t k = none) :
    tabFind (tabInsert t k v) j = if j = k then some v else tabFind t j := by
  induction t with
  | nil => by_cases hj : k = j <;> simp_all [tabInsert, tabFind_cons, eq_comm]
  | cons e t ih =>
    have he : e.1 ≠ k := fun he => by simp [tabFind_cons, he] at h
    have ht : tabFind t k = none := by simpa [tabFind_cons, he] using h
    unfold tabInsert
    split
    · by_cases hj : k = j <;> simp_all [tabFind_cons, eq_comm]
    · by_cases hj : e.1 = j
      · simp_all [tabFind_cons]
      · simp [tabFind_cons, hj, ih ht]

theorem tabFind_put [DecidableEq α] :
    tabFind (tabPut d t k v) j = if j = k then (if v = d then none else some v) else tabFind t j := by
  unfold tabPut
  by_cases hj : j = k
  · subst hj; split <;> simp_all [tabFind_insert]
  · split <;> simp [tabFind_insert, tabFind_erase_of_ne, hj]

/-- A key reads what was stored there last. -/
@[simp] theorem tabGet_put_self [DecidableEq α] : tabGet d (tabPut d t k v) k = v := by
  unfold tabGet; rw [tabFind_put]; by_cases h : v = d <;> simp [h]

/-- A store leaves every other key alone, whatever the defaults are. -/
theorem tabGet_put_of_ne [DecidableEq α] (d' : α) (h : j ≠ k) : tabGet d' (tabPut d t k v) j = tabGet d' t j := by
  simp [tabGet, tabFind_put, h]

end

section
variable {α : Type} {d : Nat → α} {t : List (Nat × α)} {k : Nat} {v : α}

theorem TabOk.nil : TabOk d ([] : List (Nat × α)) := ⟨List.Pairwise.nil, by simp⟩

theorem TabOk.filter (h : TabOk d t) (p : Nat × α → Bool) : TabOk d (t.filter p) :=
  ⟨h.1.filter p, fun e he => h.2 e (List.mem_filter.1 he).1⟩

theorem TabOk.erase (h : TabOk d t) (k : Nat) : TabOk d (tabErase t k) := h.filter _

theorem mem_tabInsert {x : Nat × α} : x ∈ tabInsert t k v ↔ x = (k, v) ∨ x ∈ t := by
  induction t with
  | nil => simp [tabInsert]
  | cons e t ih =>
    unfold tabInsert
    split
    · simp
    · simp only [List.mem_cons, ih, or_left_comm]

/-- An insertion of a key that is not listed, with a value that is not its default. -/
theorem TabOk.insert (h : TabOk d t) (hk : ∀ e ∈ t, e.1 ≠ k) (hv : v ≠ d k) : TabOk d (tabInsert t k v) := by
  refine ⟨?_, fun e he => ?_⟩
  · have h1 := h.1
    clear h hv
    induction t with
    | nil => simp [tabInsert]
    | cons e t ih =>
      unfold tabInsert
      have ⟨ha, hb⟩ := List.pairwise_cons.1 h1
      split
      · refine List.pairwise_cons.2 ⟨fun x hx => ?_, h1⟩
        rcases List.mem_cons.1 hx with rfl | hx
        · assumption
        · have := ha x hx; simp; omega
      · refine List.pairwise_cons.2 ⟨fun x hx => ?_, ih (fun x hx => hk x (by simp [hx])) hb⟩
        have hne := hk e (by simp)
        rcases mem_tabInsert.1 hx with rfl | hx
        · simp; omega
        · exact ha x hx
  · rcases mem_tabInsert.1 he with rfl | he
    · exact hv
    · exact h.2 e he

/-- A store keeps the canonical form. -/
theorem TabOk.put [DecidableEq α] (h : TabOk d t) (k : Nat) (v : α) : TabOk d (tabPut (d k) t k v) := by
  unfold tabPut
  split
  · exact h.erase k
  · rename_i hv
    exact (h.erase k).insert (fun e he => by simpa [tabErase] using (List.mem_filter.1 he).2) hv

end

end Sys2Proof.Machine
end

