-- ==== Sys2Proof/Laws/Memory.lean ====
section
/-! SUPPORT. Memory: read after write, what a write leaves alone, and the canonical form, which every operation of the
model over memory keeps. -/
namespace Sys2Proof.Machine
open Sys2Proof.Safety

/-! ### The canonical form -/

/-- The Boolean form is the canonical form of a sparse table. -/
theorem wf_iff (m : List Host.Cell) : Memory.wf m = true ↔ TabOk memDefault m := by
  induction m with
  | nil => simp [Memory.wf, TabOk.nil]
  | cons c m ih =>
    cases m with
    | nil => simp [Memory.wf, TabOk]
    | cons e m =>
      simp only [Memory.wf, Bool.and_eq_true, decide_eq_true_eq, ih]
      constructor
      · rintro ⟨⟨hc, hlt⟩, hp, hv⟩
        refine ⟨List.pairwise_cons.2 ⟨fun x hx => ?_, hp⟩, fun x hx => ?_⟩
        · rcases List.mem_cons.1 hx with rfl | hx
          · exact hlt
          · exact Nat.lt_trans hlt ((List.pairwise_cons.1 hp).1 x hx)
        · rcases List.mem_cons.1 hx with rfl | hx
          · exact hc
          · exact hv x hx
      · rintro ⟨hp, hv⟩
        have h := List.pairwise_cons.1 hp
        exact ⟨⟨hv c (by simp), h.1 e (by simp)⟩, h.2, fun x hx => hv x (List.mem_cons_of_mem _ hx)⟩

/-- Reset memory lists nothing. -/
theorem reset_memOk : MemOk State.reset := rfl

/-- Every byte that nothing has written reads as its default. -/
theorem byte_reset (a : Nat) : State.reset.byte a = memDefault a := rfl

/-- Erasing cells keeps the canonical form. -/
theorem wf_filter {m : List Host.Cell} (h : Memory.wf m = true) (p : Host.Cell → Bool) : Memory.wf (m.filter p) = true :=
  (wf_iff _).2 (((wf_iff m).1 h).filter p)

/-! ### One byte -/

@[simp] theorem byte_setByte_self (s : State) (a : Nat) (b : Byte) : (s.setByte a b).byte a = b :=
  tabGet_put_self ..

theorem byte_setByte_of_ne (s : State) {a c : Nat} (b : Byte) (h : c ≠ a) : (s.setByte a b).byte c = s.byte c :=
  tabGet_put_of_ne _ _ _ _ _ _ h

theorem setByte_memOk {s : State} (h : MemOk s) (a : Nat) (b : Byte) : MemOk (s.setByte a b) :=
  (wf_iff _).2 (((wf_iff _).1 h).put a b)

/-- A byte write changes memory alone. -/
theorem setByte_eq (s : State) (a : Nat) (b : Byte) : s.setByte a b = { s with mem := (s.setByte a b).mem } := rfl

/-! ### Runs of bytes -/

/-- A run of bytes is written byte by byte, and every other byte is as it was. -/
theorem byte_setBytes (bs : List Byte) : ∀ (s : State) (a c : Nat),
    (s.setBytes a bs).byte c = if a ≤ c ∧ c < a + bs.length then bs.getD (c - a) 0 else s.byte c := by
  induction bs with
  | nil =>
    intro s a c
    rw [if_neg (by simp)]
    rfl
  | cons b bs ih =>
    intro s a c
    simp only [State.setBytes, ih, List.length_cons]
    by_cases hca : c = a
    · subst hca; simp <;> omega
    · by_cases h1 : a + 1 ≤ c ∧ c < a + 1 + bs.length
      · have : c - a = (c - (a + 1)) + 1 := by omega
        rw [if_pos h1, if_pos (by omega), this, List.getD_cons_succ]
      · rw [if_neg h1, if_neg (by omega), byte_setByte_of_ne s b hca]

/-- Bytes outside a written run are as they were. -/
theorem byte_setBytes_outside (s : State) (a : Nat) (bs : List Byte) {c : Nat} (h : c < a ∨ a + bs.length ≤ c) :
    (s.setBytes a bs).byte c = s.byte c := by
  rw [byte_setBytes, if_neg (by omega)]

/-- A written run reads back. -/
theorem bytes_setBytes_self (s : State) (a : Nat) (bs : List Byte) : (s.setBytes a bs).bytes a bs.length = bs := by
  apply List.ext_getElem
  · simp [State.bytes]
  · intro i h1 h2
    simp [State.bytes, byte_setBytes, h2]

theorem setBytes_memOk (bs : List Byte) : ∀ {s : State}, MemOk s → ∀ a : Nat, MemOk (s.setBytes a bs) := by
  induction bs with
  | nil => exact fun h _ => h
  | cons b bs ih => exact fun h a => ih (setByte_memOk h a b) (a + 1)

/-- A run written changes memory alone. -/
theorem setBytes_eq (bs : List Byte) : ∀ (s : State) (a : Nat), s.setBytes a bs = { s with mem := (s.setBytes a bs).mem } := by
  induction bs with
  | nil => exact fun _ _ => rfl
  | cons b bs ih =>
    intro s a
    have h := ih (s.setByte a b) (a + 1)
    simp only [State.setBytes]
    rw [h]
    rfl

/-! ### Flash -/

theorem program_memOk (bs : List Byte) : ∀ {s : State}, MemOk s → ∀ a : Nat, MemOk (s.program a bs) := by
  induction bs with
  | nil => exact fun h _ => h
  | cons b bs ih => exact fun h a => ih (setByte_memOk h a _) (a + 1)

/-- Programming clears bits and sets none (R512). -/
theorem byte_program (bs : List Byte) : ∀ (s : State) (a c : Nat), (s.program a bs).byte c =
    if a ≤ c ∧ c < a + bs.length then s.byte c &&& bs.getD (c - a) 0 else s.byte c := by
  induction bs with
  | nil =>
    intro s a c
    rw [if_neg (by simp)]
    rfl
  | cons b bs ih =>
    intro s a c
    simp only [State.program, ih, List.length_cons]
    by_cases hca : c = a
    · subst hca; simp <;> omega
    · rw [byte_setByte_of_ne s _ hca]
      by_cases h1 : a + 1 ≤ c ∧ c < a + 1 + bs.length
      · have : c - a = (c - (a + 1)) + 1 := by omega
        rw [if_pos h1, if_pos (by omega), this, List.getD_cons_succ]
      · rw [if_neg h1, if_neg (by omega)]

/-- What a byte reads as when the cells of a range are dropped. -/
theorem byte_drop (s : State) (a n c : Nat) :
    ({ s with mem := s.mem.filter fun x => !(decide (a ≤ x.1) && decide (x.1 < a + n)) } : State).byte c =
      if a ≤ c ∧ c < a + n then memDefault c else s.byte c := by
  simp only [State.byte, tabGet]
  rw [tabFind_filter s.mem c fun x => !(decide (a ≤ x) && decide (x < a + n))]
  by_cases h : a ≤ c ∧ c < a + n
  · simp [h.1, h.2]
  · rw [if_neg h, if_pos]
    simp; omega

theorem eraseSector_memOk {s : State} (h : MemOk s) (a : Nat) : MemOk (s.eraseSector a) := wf_filter h _

theorem byte_eraseSector (s : State) (a c : Nat) :
    (s.eraseSector a).byte c = if a ≤ c ∧ c < a + 65536 then memDefault c else s.byte c := byte_drop s a 65536 c

theorem eraseRange_memOk {s : State} (h : MemOk s) (a n : Nat) : MemOk (s.eraseRange a n) := wf_filter h _

theorem byte_eraseRange (s : State) (a n c : Nat) :
    (s.eraseRange a n).byte c = if a ≤ c ∧ c < a + n then memDefault c else s.byte c := byte_drop s a n c

/-- Copying bytes between banks keeps the canonical form (R525). -/
theorem bankCopy_memOk {s : State} (h : MemOk s) (dst src n : Nat) (given : Option (List Byte)) :
    MemOk (s.bankCopy dst src n given) := by
  unfold State.bankCopy
  cases given with
  | some bs => exact setBytes_memOk _ h dst
  | none =>
    suffices ∀ (cs : List Host.Cell) (s : State), MemOk s →
        MemOk (cs.foldl (fun (s : State) (c : Host.Cell) => s.setByte (c.1 - src + dst) c.2) s) from this _ s h
    intro cs
    induction cs with
    | nil => exact fun _ h => h
    | cons c cs ih => exact fun s h => ih _ (setByte_memOk h _ _)

/-! ### Other operations over memory -/

theorem dropTaps_mem (s : State) : s.dropTaps.mem = s.mem := rfl

theorem postBit_mem (s : State) (p : PageKey) (off i : Nat) (b : Bool) : (s.postBit p off i b).mem = s.mem := rfl

theorem post_mem (s : State) (p : PageKey) (off : Nat) (v : Reg) : (s.post p off v).mem = s.mem := rfl

theorem setFast_mem (s : State) (p : PageKey) (off : Nat) (v : Reg) : (s.setFast p off v).mem = s.mem := rfl

/-- A loop whose body leaves memory alone leaves memory alone. -/
theorem foldl_mem {α : Type} (f : State → α → State) (hf : ∀ s x, (f s x).mem = s.mem) (l : List α) :
    ∀ s : State, (l.foldl f s).mem = s.mem := by
  induction l with
  | nil => exact fun _ => rfl
  | cons x l ih => exact fun s => (ih (f s x)).trans (hf s x)

/-- One byte of a DMA or memory-port target (R362, R392). -/
theorem tgtPut_memOk {s : State} (h : MemOk s) (r w a : Nat) (b : Byte) : MemOk (s.tgtPut r w a b) := by
  unfold State.tgtPut
  split
  · exact setByte_memOk h _ _
  · split
    · exact h
    · exact h
  · exact setByte_memOk h _ _
  · exact setByte_memOk h _ _
  · exact h

theorem tgtStore_memOk (r w : Nat) (bs : List Byte) : ∀ {s : State}, MemOk s → ∀ a : Nat, MemOk (s.tgtStore r w a bs) := by
  induction bs with
  | nil => exact fun h _ => h
  | cons b bs ih => exact fun h a => ih (tgtPut_memOk h r w a b) (a + 1)

/-- A control-store word (R426). -/
theorem csStore_memOk {s : State} (h : MemOk s) (c w : Nat) (bs : List Byte) : MemOk (s.csStore c w bs) :=
  setBytes_memOk bs h _

/-- The clearing of a cluster (R403). -/
theorem clusterClear_mem (s : State) (c : Nat) : (s.clusterClear c).mem = s.mem.filter fun x =>
    !((decide (csBase c ≤ x.1) && decide (x.1 < csBase c + 2 ^ 19)) ||
      (decide (cmemBase c ≤ x.1) && decide (x.1 < cmemBase c + 2 ^ 20))) := by
  unfold State.clusterClear
  extract_lets hit s1 p
  rw [setFast_mem, postBit_mem]

theorem clusterClear_memOk {s : State} (h : MemOk s) (c : Nat) : MemOk (s.clusterClear c) := by
  unfold MemOk
  rw [clusterClear_mem]
  exact wf_filter h _

/-- The clearing of a far or near table (R178). -/
theorem tblWipe_memOk {s : State} (h : MemOk s) (t : Nat) : MemOk (s.tblWipe t) := by
  unfold State.tblWipe
  dsimp only
  split
  · exact wf_filter h _
  · exact h

theorem tblClear_mem (s : State) (t : Nat) : (s.tblClear t).mem = (s.tblWipe t).mem := by
  unfold State.tblClear
  rw [post_mem, post_mem, post_mem]

theorem tblClear_memOk {s : State} (h : MemOk s) (t : Nat) : MemOk (s.tblClear t) := by
  unfold MemOk
  rw [tblClear_mem]
  exact tblWipe_memOk h t

/-- The package's reset leaves flash alone, and empties every other memory (R19). -/
theorem pkgReset_mem (s : State) : s.pkgReset.mem =
    s.mem.filter fun c => decide (flashBase ≤ c.1) && decide (c.1 < flashBase + 2 ^ 26) := by
  unfold State.pkgReset
  extract_lets t s1 s2
  rw [dropTaps_mem]
  subst s2
  rw [foldl_mem _ fun _ _ => postBit_mem ..]

theorem pkgReset_memOk {s : State} (h : MemOk s) : MemOk s.pkgReset := by
  unfold MemOk
  rw [pkgReset_mem]
  exact wf_filter h _

end Sys2Proof.Machine
end

