-- ==== Sys2Proof/Laws/State.lean ====
section
/-! SUPPORT. The fields that each named update of the state leaves alone, one lemma for each field and update. -/
namespace Sys2Proof.Machine
set_option Elab.async false

section
variable (s : State) (p : PageKey) (off : Nat) (v : Reg)
@[simp] theorem State.post_pending : (s.post p off v).pending = s.pending := by unfold State.post; rfl
@[simp] theorem State.post_clk : (s.post p off v).clk = s.clk := by unfold State.post; rfl
@[simp] theorem State.post_ptime : (s.post p off v).ptime = s.ptime := by unfold State.post; rfl
@[simp] theorem State.post_ptFrac : (s.post p off v).ptFrac = s.ptFrac := by unfold State.post; rfl
@[simp] theorem State.post_fast : (s.post p off v).fast = s.fast := by unfold State.post; rfl
@[simp] theorem State.post_ferry : (s.post p off v).ferry = s.ferry := by unfold State.post; rfl
@[simp] theorem State.post_ctrs : (s.post p off v).ctrs = s.ctrs := by unfold State.post; rfl
@[simp] theorem State.post_drw : (s.post p off v).drw = s.drw := by unfold State.post; rfl
@[simp] theorem State.post_resets : (s.post p off v).resets = s.resets := by unfold State.post; rfl
@[simp] theorem State.post_fences : (s.post p off v).fences = s.fences := by unfold State.post; rfl
@[simp] theorem State.post_doms : (s.post p off v).doms = s.doms := by unfold State.post; rfl
@[simp] theorem State.post_barriers : (s.post p off v).barriers = s.barriers := by unfold State.post; rfl
@[simp] theorem State.post_reports : (s.post p off v).reports = s.reports := by unfold State.post; rfl
@[simp] theorem State.post_colls : (s.post p off v).colls = s.colls := by unfold State.post; rfl
@[simp] theorem State.post_log : (s.post p off v).log = s.log := by unfold State.post; rfl
@[simp] theorem State.post_fuses : (s.post p off v).fuses = s.fuses := by unfold State.post; rfl
@[simp] theorem State.post_sec : (s.post p off v).sec = s.sec := by unfold State.post; rfl
@[simp] theorem State.post_omc : (s.post p off v).omc = s.omc := by unfold State.post; rfl
@[simp] theorem State.post_jtag : (s.post p off v).jtag = s.jtag := by unfold State.post; rfl
@[simp] theorem State.post_pins : (s.post p off v).pins = s.pins := by unfold State.post; rfl
@[simp] theorem State.post_cfg : (s.post p off v).cfg = s.cfg := by unfold State.post; rfl
@[simp] theorem State.post_mem : (s.post p off v).mem = s.mem := by unfold State.post; rfl
@[simp] theorem State.post_fresh : (s.post p off v).fresh = s.fresh := by unfold State.post; rfl
@[simp] theorem State.post_out : (s.post p off v).out = s.out := by unfold State.post; rfl
@[simp] theorem State.post_bufs : (s.post p off v).bufs = s.bufs := by unfold State.post; rfl
@[simp] theorem State.post_nextBuf : (s.post p off v).nextBuf = s.nextBuf := by unfold State.post; rfl
@[simp] theorem State.post_fifos : (s.post p off v).fifos = s.fifos := by unfold State.post; rfl
@[simp] theorem State.post_seqs : (s.post p off v).seqs = s.seqs := by unfold State.post; rfl
@[simp] theorem State.post_hdrs : (s.post p off v).hdrs = s.hdrs := by unfold State.post; rfl
@[simp] theorem State.post_links : (s.post p off v).links = s.links := by unfold State.post; rfl
@[simp] theorem State.post_landW : (s.post p off v).landW = s.landW := by unfold State.post; rfl
@[simp] theorem State.post_held : (s.post p off v).held = s.held := by unfold State.post; rfl
@[simp] theorem State.post_rules : (s.post p off v).rules = s.rules := by unfold State.post; rfl
@[simp] theorem State.post_clsSt : (s.post p off v).clsSt = s.clsSt := by unfold State.post; rfl
@[simp] theorem State.post_asets : (s.post p off v).asets = s.asets := by unfold State.post; rfl
@[simp] theorem State.post_tpls : (s.post p off v).tpls = s.tpls := by unfold State.post; rfl
@[simp] theorem State.post_cnts : (s.post p off v).cnts = s.cnts := by unfold State.post; rfl
@[simp] theorem State.post_sampling : (s.post p off v).sampling = s.sampling := by unfold State.post; rfl
@[simp] theorem State.post_ipId : (s.post p off v).ipId = s.ipId := by unfold State.post; rfl
@[simp] theorem State.post_greSeq : (s.post p off v).greSeq = s.greSeq := by unfold State.post; rfl
@[simp] theorem State.post_nodes : (s.post p off v).nodes = s.nodes := by unfold State.post; rfl
@[simp] theorem State.post_queues : (s.post p off v).queues = s.queues := by unfold State.post; rfl
@[simp] theorem State.post_outlets : (s.post p off v).outlets = s.outlets := by unfold State.post; rfl
@[simp] theorem State.post_sel : (s.post p off v).sel = s.sel := by unfold State.post; rfl
@[simp] theorem State.post_gates : (s.post p off v).gates = s.gates := by unfold State.post; rfl
@[simp] theorem State.post_plcrs : (s.post p off v).plcrs = s.plcrs := by unfold State.post; rfl
@[simp] theorem State.post_apls : (s.post p off v).apls = s.apls := by unfold State.post; rfl
@[simp] theorem State.post_aplReads : (s.post p off v).aplReads = s.aplReads := by unfold State.post; rfl
@[simp] theorem State.post_winReqs : (s.post p off v).winReqs = s.winReqs := by unfold State.post; rfl
@[simp] theorem State.post_eps : (s.post p off v).eps = s.eps := by unfold State.post; rfl
@[simp] theorem State.post_hwait : (s.post p off v).hwait = s.hwait := by unfold State.post; rfl
@[simp] theorem State.post_arrived : (s.post p off v).arrived = s.arrived := by unfold State.post; rfl
@[simp] theorem State.post_hreads : (s.post p off v).hreads = s.hreads := by unfold State.post; rfl
@[simp] theorem State.post_bothFull : (s.post p off v).bothFull = s.bothFull := by unfold State.post; rfl
@[simp] theorem State.post_binds : (s.post p off v).binds = s.binds := by unfold State.post; rfl
@[simp] theorem State.post_wrings : (s.post p off v).wrings = s.wrings := by unfold State.post; rfl
@[simp] theorem State.post_crings : (s.post p off v).crings = s.crings := by unfold State.post; rfl
@[simp] theorem State.post_txs : (s.post p off v).txs = s.txs := by unfold State.post; rfl
@[simp] theorem State.post_txNext : (s.post p off v).txNext = s.txNext := by unfold State.post; rfl
@[simp] theorem State.post_cqes : (s.post p off v).cqes = s.cqes := by unfold State.post; rfl
@[simp] theorem State.post_near : (s.post p off v).near = s.near := by unfold State.post; rfl
@[simp] theorem State.post_ovf : (s.post p off v).ovf = s.ovf := by unfold State.post; rfl
@[simp] theorem State.post_learns : (s.post p off v).learns = s.learns := by unfold State.post; rfl
@[simp] theorem State.post_tblSt : (s.post p off v).tblSt = s.tblSt := by unfold State.post; rfl
@[simp] theorem State.post_ageDue : (s.post p off v).ageDue = s.ageDue := by unfold State.post; rfl
@[simp] theorem State.post_ctxs : (s.post p off v).ctxs = s.ctxs := by unfold State.post; rfl
@[simp] theorem State.post_cuEvts : (s.post p off v).cuEvts = s.cuEvts := by unfold State.post; rfl
@[simp] theorem State.post_thrs : (s.post p off v).thrs = s.thrs := by unfold State.post; rfl
@[simp] theorem State.post_chans : (s.post p off v).chans = s.chans := by unfold State.post; rfl
@[simp] theorem State.post_ureqs : (s.post p off v).ureqs = s.ureqs := by unfold State.post; rfl
@[simp] theorem State.post_ureps : (s.post p off v).ureps = s.ureps := by unfold State.post; rfl
@[simp] theorem State.post_inq : (s.post p off v).inq = s.inq := by unfold State.post; rfl
@[simp] theorem State.post_checks : (s.post p off v).checks = s.checks := by unfold State.post; rfl
@[simp] theorem State.post_dbgs : (s.post p off v).dbgs = s.dbgs := by unfold State.post; rfl
@[simp] theorem State.post_still : (s.post p off v).still = s.still := by unfold State.post; rfl
@[simp] theorem State.post_csBad : (s.post p off v).csBad = s.csBad := by unfold State.post; rfl
@[simp] theorem State.post_csStage : (s.post p off v).csStage = s.csStage := by unfold State.post; rfl
@[simp] theorem State.post_dmas : (s.post p off v).dmas = s.dmas := by unfold State.post; rfl
@[simp] theorem State.post_tick : (s.post p off v).tick = s.tick := by unfold State.post; rfl
@[simp] theorem State.post_arbs : (s.post p off v).arbs = s.arbs := by unfold State.post; rfl
@[simp] theorem State.post_lastRing : (s.post p off v).lastRing = s.lastRing := by unfold State.post; rfl
@[simp] theorem State.post_nvs : (s.post p off v).nvs = s.nvs := by unfold State.post; rfl
end

section
variable (s : State) (p : PageKey) (off : Nat) (v : Reg)
@[simp] theorem State.setFast_pending : (s.setFast p off v).pending = s.pending := by unfold State.setFast; rfl
@[simp] theorem State.setFast_clk : (s.setFast p off v).clk = s.clk := by unfold State.setFast; rfl
@[simp] theorem State.setFast_ptime : (s.setFast p off v).ptime = s.ptime := by unfold State.setFast; rfl
@[simp] theorem State.setFast_ptFrac : (s.setFast p off v).ptFrac = s.ptFrac := by unfold State.setFast; rfl
@[simp] theorem State.setFast_regs : (s.setFast p off v).regs = s.regs := by unfold State.setFast; rfl
@[simp] theorem State.setFast_ferry : (s.setFast p off v).ferry = s.ferry := by unfold State.setFast; rfl
@[simp] theorem State.setFast_ctrs : (s.setFast p off v).ctrs = s.ctrs := by unfold State.setFast; rfl
@[simp] theorem State.setFast_drw : (s.setFast p off v).drw = s.drw := by unfold State.setFast; rfl
@[simp] theorem State.setFast_resets : (s.setFast p off v).resets = s.resets := by unfold State.setFast; rfl
@[simp] theorem State.setFast_fences : (s.setFast p off v).fences = s.fences := by unfold State.setFast; rfl
@[simp] theorem State.setFast_doms : (s.setFast p off v).doms = s.doms := by unfold State.setFast; rfl
@[simp] theorem State.setFast_barriers : (s.setFast p off v).barriers = s.barriers := by unfold State.setFast; rfl
@[simp] theorem State.setFast_reports : (s.setFast p off v).reports = s.reports := by unfold State.setFast; rfl
@[simp] theorem State.setFast_colls : (s.setFast p off v).colls = s.colls := by unfold State.setFast; rfl
@[simp] theorem State.setFast_log : (s.setFast p off v).log = s.log := by unfold State.setFast; rfl
@[simp] theorem State.setFast_fuses : (s.setFast p off v).fuses = s.fuses := by unfold State.setFast; rfl
@[simp] theorem State.setFast_sec : (s.setFast p off v).sec = s.sec := by unfold State.setFast; rfl
@[simp] theorem State.setFast_omc : (s.setFast p off v).omc = s.omc := by unfold State.setFast; rfl
@[simp] theorem State.setFast_jtag : (s.setFast p off v).jtag = s.jtag := by unfold State.setFast; rfl
@[simp] theorem State.setFast_pins : (s.setFast p off v).pins = s.pins := by unfold State.setFast; rfl
@[simp] theorem State.setFast_cfg : (s.setFast p off v).cfg = s.cfg := by unfold State.setFast; rfl
@[simp] theorem State.setFast_mem : (s.setFast p off v).mem = s.mem := by unfold State.setFast; rfl
@[simp] theorem State.setFast_fresh : (s.setFast p off v).fresh = s.fresh := by unfold State.setFast; rfl
@[simp] theorem State.setFast_out : (s.setFast p off v).out = s.out := by unfold State.setFast; rfl
@[simp] theorem State.setFast_bufs : (s.setFast p off v).bufs = s.bufs := by unfold State.setFast; rfl
@[simp] theorem State.setFast_nextBuf : (s.setFast p off v).nextBuf = s.nextBuf := by unfold State.setFast; rfl
@[simp] theorem State.setFast_fifos : (s.setFast p off v).fifos = s.fifos := by unfold State.setFast; rfl
@[simp] theorem State.setFast_seqs : (s.setFast p off v).seqs = s.seqs := by unfold State.setFast; rfl
@[simp] theorem State.setFast_hdrs : (s.setFast p off v).hdrs = s.hdrs := by unfold State.setFast; rfl
@[simp] theorem State.setFast_links : (s.setFast p off v).links = s.links := by unfold State.setFast; rfl
@[simp] theorem State.setFast_landW : (s.setFast p off v).landW = s.landW := by unfold State.setFast; rfl
@[simp] theorem State.setFast_held : (s.setFast p off v).held = s.held := by unfold State.setFast; rfl
@[simp] theorem State.setFast_rules : (s.setFast p off v).rules = s.rules := by unfold State.setFast; rfl
@[simp] theorem State.setFast_clsSt : (s.setFast p off v).clsSt = s.clsSt := by unfold State.setFast; rfl
@[simp] theorem State.setFast_asets : (s.setFast p off v).asets = s.asets := by unfold State.setFast; rfl
@[simp] theorem State.setFast_tpls : (s.setFast p off v).tpls = s.tpls := by unfold State.setFast; rfl
@[simp] theorem State.setFast_cnts : (s.setFast p off v).cnts = s.cnts := by unfold State.setFast; rfl
@[simp] theorem State.setFast_sampling : (s.setFast p off v).sampling = s.sampling := by unfold State.setFast; rfl
@[simp] theorem State.setFast_ipId : (s.setFast p off v).ipId = s.ipId := by unfold State.setFast; rfl
@[simp] theorem State.setFast_greSeq : (s.setFast p off v).greSeq = s.greSeq := by unfold State.setFast; rfl
@[simp] theorem State.setFast_nodes : (s.setFast p off v).nodes = s.nodes := by unfold State.setFast; rfl
@[simp] theorem State.setFast_queues : (s.setFast p off v).queues = s.queues := by unfold State.setFast; rfl
@[simp] theorem State.setFast_outlets : (s.setFast p off v).outlets = s.outlets := by unfold State.setFast; rfl
@[simp] theorem State.setFast_sel : (s.setFast p off v).sel = s.sel := by unfold State.setFast; rfl
@[simp] theorem State.setFast_gates : (s.setFast p off v).gates = s.gates := by unfold State.setFast; rfl
@[simp] theorem State.setFast_plcrs : (s.setFast p off v).plcrs = s.plcrs := by unfold State.setFast; rfl
@[simp] theorem State.setFast_apls : (s.setFast p off v).apls = s.apls := by unfold State.setFast; rfl
@[simp] theorem State.setFast_aplReads : (s.setFast p off v).aplReads = s.aplReads := by unfold State.setFast; rfl
@[simp] theorem State.setFast_winReqs : (s.setFast p off v).winReqs = s.winReqs := by unfold State.setFast; rfl
@[simp] theorem State.setFast_eps : (s.setFast p off v).eps = s.eps := by unfold State.setFast; rfl
@[simp] theorem State.setFast_hwait : (s.setFast p off v).hwait = s.hwait := by unfold State.setFast; rfl
@[simp] theorem State.setFast_arrived : (s.setFast p off v).arrived = s.arrived := by unfold State.setFast; rfl
@[simp] theorem State.setFast_hreads : (s.setFast p off v).hreads = s.hreads := by unfold State.setFast; rfl
@[simp] theorem State.setFast_bothFull : (s.setFast p off v).bothFull = s.bothFull := by unfold State.setFast; rfl
@[simp] theorem State.setFast_binds : (s.setFast p off v).binds = s.binds := by unfold State.setFast; rfl
@[simp] theorem State.setFast_wrings : (s.setFast p off v).wrings = s.wrings := by unfold State.setFast; rfl
@[simp] theorem State.setFast_crings : (s.setFast p off v).crings = s.crings := by unfold State.setFast; rfl
@[simp] theorem State.setFast_txs : (s.setFast p off v).txs = s.txs := by unfold State.setFast; rfl
@[simp] theorem State.setFast_txNext : (s.setFast p off v).txNext = s.txNext := by unfold State.setFast; rfl
@[simp] theorem State.setFast_cqes : (s.setFast p off v).cqes = s.cqes := by unfold State.setFast; rfl
@[simp] theorem State.setFast_near : (s.setFast p off v).near = s.near := by unfold State.setFast; rfl
@[simp] theorem State.setFast_ovf : (s.setFast p off v).ovf = s.ovf := by unfold State.setFast; rfl
@[simp] theorem State.setFast_learns : (s.setFast p off v).learns = s.learns := by unfold State.setFast; rfl
@[simp] theorem State.setFast_tblSt : (s.setFast p off v).tblSt = s.tblSt := by unfold State.setFast; rfl
@[simp] theorem State.setFast_ageDue : (s.setFast p off v).ageDue = s.ageDue := by unfold State.setFast; rfl
@[simp] theorem State.setFast_ctxs : (s.setFast p off v).ctxs = s.ctxs := by unfold State.setFast; rfl
@[simp] theorem State.setFast_cuEvts : (s.setFast p off v).cuEvts = s.cuEvts := by unfold State.setFast; rfl
@[simp] theorem State.setFast_thrs : (s.setFast p off v).thrs = s.thrs := by unfold State.setFast; rfl
@[simp] theorem State.setFast_chans : (s.setFast p off v).chans = s.chans := by unfold State.setFast; rfl
@[simp] theorem State.setFast_ureqs : (s.setFast p off v).ureqs = s.ureqs := by unfold State.setFast; rfl
@[simp] theorem State.setFast_ureps : (s.setFast p off v).ureps = s.ureps := by unfold State.setFast; rfl
@[simp] theorem State.setFast_inq : (s.setFast p off v).inq = s.inq := by unfold State.setFast; rfl
@[simp] theorem State.setFast_checks : (s.setFast p off v).checks = s.checks := by unfold State.setFast; rfl
@[simp] theorem State.setFast_dbgs : (s.setFast p off v).dbgs = s.dbgs := by unfold State.setFast; rfl
@[simp] theorem State.setFast_still : (s.setFast p off v).still = s.still := by unfold State.setFast; rfl
@[simp] theorem State.setFast_csBad : (s.setFast p off v).csBad = s.csBad := by unfold State.setFast; rfl
@[simp] theorem State.setFast_csStage : (s.setFast p off v).csStage = s.csStage := by unfold State.setFast; rfl
@[simp] theorem State.setFast_dmas : (s.setFast p off v).dmas = s.dmas := by unfold State.setFast; rfl
@[simp] theorem State.setFast_tick : (s.setFast p off v).tick = s.tick := by unfold State.setFast; rfl
@[simp] theorem State.setFast_arbs : (s.setFast p off v).arbs = s.arbs := by unfold State.setFast; rfl
@[simp] theorem State.setFast_lastRing : (s.setFast p off v).lastRing = s.lastRing := by unfold State.setFast; rfl
@[simp] theorem State.setFast_nvs : (s.setFast p off v).nvs = s.nvs := by unfold State.setFast; rfl
end

section
variable (s : State) (p : PageKey) (off : Nat) (v : Reg)
@[simp] theorem State.postBoth_pending : (s.postBoth p off v).pending = s.pending := by unfold State.postBoth State.post State.setFast; rfl
@[simp] theorem State.postBoth_clk : (s.postBoth p off v).clk = s.clk := by unfold State.postBoth State.post State.setFast; rfl
@[simp] theorem State.postBoth_ptime : (s.postBoth p off v).ptime = s.ptime := by unfold State.postBoth State.post State.setFast; rfl
@[simp] theorem State.postBoth_ptFrac : (s.postBoth p off v).ptFrac = s.ptFrac := by unfold State.postBoth State.post State.setFast; rfl
@[simp] theorem State.postBoth_ferry : (s.postBoth p off v).ferry = s.ferry := by unfold State.postBoth State.post State.setFast; rfl
@[simp] theorem State.postBoth_ctrs : (s.postBoth p off v).ctrs = s.ctrs := by unfold State.postBoth State.post State.setFast; rfl
@[simp] theorem State.postBoth_drw : (s.postBoth p off v).drw = s.drw := by unfold State.postBoth State.post State.setFast; rfl
@[simp] theorem State.postBoth_resets : (s.postBoth p off v).resets = s.resets := by unfold State.postBoth State.post State.setFast; rfl
@[simp] theorem State.postBoth_fences : (s.postBoth p off v).fences = s.fences := by unfold State.postBoth State.post State.setFast; rfl
@[simp] theorem State.postBoth_doms : (s.postBoth p off v).doms = s.doms := by unfold State.postBoth State.post State.setFast; rfl
@[simp] theorem State.postBoth_barriers : (s.postBoth p off v).barriers = s.barriers := by unfold State.postBoth State.post State.setFast; rfl
@[simp] theorem State.postBoth_reports : (s.postBoth p off v).reports = s.reports := by unfold State.postBoth State.post State.setFast; rfl
@[simp] theorem State.postBoth_colls : (s.postBoth p off v).colls = s.colls := by unfold State.postBoth State.post State.setFast; rfl
@[simp] theorem State.postBoth_log : (s.postBoth p off v).log = s.log := by unfold State.postBoth State.post State.setFast; rfl
@[simp] theorem State.postBoth_fuses : (s.postBoth p off v).fuses = s.fuses := by unfold State.postBoth State.post State.setFast; rfl
@[simp] theorem State.postBoth_sec : (s.postBoth p off v).sec = s.sec := by unfold State.postBoth State.post State.setFast; rfl
@[simp] theorem State.postBoth_omc : (s.postBoth p off v).omc = s.omc := by unfold State.postBoth State.post State.setFast; rfl
@[simp] theorem State.postBoth_jtag : (s.postBoth p off v).jtag = s.jtag := by unfold State.postBoth State.post State.setFast; rfl
@[simp] theorem State.postBoth_pins : (s.postBoth p off v).pins = s.pins := by unfold State.postBoth State.post State.setFast; rfl
@[simp] theorem State.postBoth_cfg : (s.postBoth p off v).cfg = s.cfg := by unfold State.postBoth State.post State.setFast; rfl
@[simp] theorem State.postBoth_mem : (s.postBoth p off v).mem = s.mem := by unfold State.postBoth State.post State.setFast; rfl
@[simp] theorem State.postBoth_fresh : (s.postBoth p off v).fresh = s.fresh := by unfold State.postBoth State.post State.setFast; rfl
@[simp] theorem State.postBoth_out : (s.postBoth p off v).out = s.out := by unfold State.postBoth State.post State.setFast; rfl
@[simp] theorem State.postBoth_bufs : (s.postBoth p off v).bufs = s.bufs := by unfold State.postBoth State.post State.setFast; rfl
@[simp] theorem State.postBoth_nextBuf : (s.postBoth p off v).nextBuf = s.nextBuf := by unfold State.postBoth State.post State.setFast; rfl
@[simp] theorem State.postBoth_fifos : (s.postBoth p off v).fifos = s.fifos := by unfold State.postBoth State.post State.setFast; rfl
@[simp] theorem State.postBoth_seqs : (s.postBoth p off v).seqs = s.seqs := by unfold State.postBoth State.post State.setFast; rfl
@[simp] theorem State.postBoth_hdrs : (s.postBoth p off v).hdrs = s.hdrs := by unfold State.postBoth State.post State.setFast; rfl
@[simp] theorem State.postBoth_links : (s.postBoth p off v).links = s.links := by unfold State.postBoth State.post State.setFast; rfl
@[simp] theorem State.postBoth_landW : (s.postBoth p off v).landW = s.landW := by unfold State.postBoth State.post State.setFast; rfl
@[simp] theorem State.postBoth_held : (s.postBoth p off v).held = s.held := by unfold State.postBoth State.post State.setFast; rfl
@[simp] theorem State.postBoth_rules : (s.postBoth p off v).rules = s.rules := by unfold State.postBoth State.post State.setFast; rfl
@[simp] theorem State.postBoth_clsSt : (s.postBoth p off v).clsSt = s.clsSt := by unfold State.postBoth State.post State.setFast; rfl
@[simp] theorem State.postBoth_asets : (s.postBoth p off v).asets = s.asets := by unfold State.postBoth State.post State.setFast; rfl
@[simp] theorem State.postBoth_tpls : (s.postBoth p off v).tpls = s.tpls := by unfold State.postBoth State.post State.setFast; rfl
@[simp] theorem State.postBoth_cnts : (s.postBoth p off v).cnts = s.cnts := by unfold State.postBoth State.post State.setFast; rfl
@[simp] theorem State.postBoth_sampling : (s.postBoth p off v).sampling = s.sampling := by unfold State.postBoth State.post State.setFast; rfl
@[simp] theorem State.postBoth_ipId : (s.postBoth p off v).ipId = s.ipId := by unfold State.postBoth State.post State.setFast; rfl
@[simp] theorem State.postBoth_greSeq : (s.postBoth p off v).greSeq = s.greSeq := by unfold State.postBoth State.post State.setFast; rfl
@[simp] theorem State.postBoth_nodes : (s.postBoth p off v).nodes = s.nodes := by unfold State.postBoth State.post State.setFast; rfl
@[simp] theorem State.postBoth_queues : (s.postBoth p off v).queues = s.queues := by unfold State.postBoth State.post State.setFast; rfl
@[simp] theorem State.postBoth_outlets : (s.postBoth p off v).outlets = s.outlets := by unfold State.postBoth State.post State.setFast; rfl
@[simp] theorem State.postBoth_sel : (s.postBoth p off v).sel = s.sel := by unfold State.postBoth State.post State.setFast; rfl
@[simp] theorem State.postBoth_gates : (s.postBoth p off v).gates = s.gates := by unfold State.postBoth State.post State.setFast; rfl
@[simp] theorem State.postBoth_plcrs : (s.postBoth p off v).plcrs = s.plcrs := by unfold State.postBoth State.post State.setFast; rfl
@[simp] theorem State.postBoth_apls : (s.postBoth p off v).apls = s.apls := by unfold State.postBoth State.post State.setFast; rfl
@[simp] theorem State.postBoth_aplReads : (s.postBoth p off v).aplReads = s.aplReads := by unfold State.postBoth State.post State.setFast; rfl
@[simp] theorem State.postBoth_winReqs : (s.postBoth p off v).winReqs = s.winReqs := by unfold State.postBoth State.post State.setFast; rfl
@[simp] theorem State.postBoth_eps : (s.postBoth p off v).eps = s.eps := by unfold State.postBoth State.post State.setFast; rfl
@[simp] theorem State.postBoth_hwait : (s.postBoth p off v).hwait = s.hwait := by unfold State.postBoth State.post State.setFast; rfl
@[simp] theorem State.postBoth_arrived : (s.postBoth p off v).arrived = s.arrived := by unfold State.postBoth State.post State.setFast; rfl
@[simp] theorem State.postBoth_hreads : (s.postBoth p off v).hreads = s.hreads := by unfold State.postBoth State.post State.setFast; rfl
@[simp] theorem State.postBoth_bothFull : (s.postBoth p off v).bothFull = s.bothFull := by unfold State.postBoth State.post State.setFast; rfl
@[simp] theorem State.postBoth_binds : (s.postBoth p off v).binds = s.binds := by unfold State.postBoth State.post State.setFast; rfl
@[simp] theorem State.postBoth_wrings : (s.postBoth p off v).wrings = s.wrings := by unfold State.postBoth State.post State.setFast; rfl
@[simp] theorem State.postBoth_crings : (s.postBoth p off v).crings = s.crings := by unfold State.postBoth State.post State.setFast; rfl
@[simp] theorem State.postBoth_txs : (s.postBoth p off v).txs = s.txs := by unfold State.postBoth State.post State.setFast; rfl
@[simp] theorem State.postBoth_txNext : (s.postBoth p off v).txNext = s.txNext := by unfold State.postBoth State.post State.setFast; rfl
@[simp] theorem State.postBoth_cqes : (s.postBoth p off v).cqes = s.cqes := by unfold State.postBoth State.post State.setFast; rfl
@[simp] theorem State.postBoth_near : (s.postBoth p off v).near = s.near := by unfold State.postBoth State.post State.setFast; rfl
@[simp] theorem State.postBoth_ovf : (s.postBoth p off v).ovf = s.ovf := by unfold State.postBoth State.post State.setFast; rfl
@[simp] theorem State.postBoth_learns : (s.postBoth p off v).learns = s.learns := by unfold State.postBoth State.post State.setFast; rfl
@[simp] theorem State.postBoth_tblSt : (s.postBoth p off v).tblSt = s.tblSt := by unfold State.postBoth State.post State.setFast; rfl
@[simp] theorem State.postBoth_ageDue : (s.postBoth p off v).ageDue = s.ageDue := by unfold State.postBoth State.post State.setFast; rfl
@[simp] theorem State.postBoth_ctxs : (s.postBoth p off v).ctxs = s.ctxs := by unfold State.postBoth State.post State.setFast; rfl
@[simp] theorem State.postBoth_cuEvts : (s.postBoth p off v).cuEvts = s.cuEvts := by unfold State.postBoth State.post State.setFast; rfl
@[simp] theorem State.postBoth_thrs : (s.postBoth p off v).thrs = s.thrs := by unfold State.postBoth State.post State.setFast; rfl
@[simp] theorem State.postBoth_chans : (s.postBoth p off v).chans = s.chans := by unfold State.postBoth State.post State.setFast; rfl
@[simp] theorem State.postBoth_ureqs : (s.postBoth p off v).ureqs = s.ureqs := by unfold State.postBoth State.post State.setFast; rfl
@[simp] theorem State.postBoth_ureps : (s.postBoth p off v).ureps = s.ureps := by unfold State.postBoth State.post State.setFast; rfl
@[simp] theorem State.postBoth_inq : (s.postBoth p off v).inq = s.inq := by unfold State.postBoth State.post State.setFast; rfl
@[simp] theorem State.postBoth_checks : (s.postBoth p off v).checks = s.checks := by unfold State.postBoth State.post State.setFast; rfl
@[simp] theorem State.postBoth_dbgs : (s.postBoth p off v).dbgs = s.dbgs := by unfold State.postBoth State.post State.setFast; rfl
@[simp] theorem State.postBoth_still : (s.postBoth p off v).still = s.still := by unfold State.postBoth State.post State.setFast; rfl
@[simp] theorem State.postBoth_csBad : (s.postBoth p off v).csBad = s.csBad := by unfold State.postBoth State.post State.setFast; rfl
@[simp] theorem State.postBoth_csStage : (s.postBoth p off v).csStage = s.csStage := by unfold State.postBoth State.post State.setFast; rfl
@[simp] theorem State.postBoth_dmas : (s.postBoth p off v).dmas = s.dmas := by unfold State.postBoth State.post State.setFast; rfl
@[simp] theorem State.postBoth_tick : (s.postBoth p off v).tick = s.tick := by unfold State.postBoth State.post State.setFast; rfl
@[simp] theorem State.postBoth_arbs : (s.postBoth p off v).arbs = s.arbs := by unfold State.postBoth State.post State.setFast; rfl
@[simp] theorem State.postBoth_lastRing : (s.postBoth p off v).lastRing = s.lastRing := by unfold State.postBoth State.post State.setFast; rfl
@[simp] theorem State.postBoth_nvs : (s.postBoth p off v).nvs = s.nvs := by unfold State.postBoth State.post State.setFast; rfl
end

section
variable (s : State) (p : PageKey) (off lo w v : Nat)
@[simp] theorem State.postFld_pending : (s.postFld p off lo w v).pending = s.pending := by unfold State.postFld State.post; rfl
@[simp] theorem State.postFld_clk : (s.postFld p off lo w v).clk = s.clk := by unfold State.postFld State.post; rfl
@[simp] theorem State.postFld_ptime : (s.postFld p off lo w v).ptime = s.ptime := by unfold State.postFld State.post; rfl
@[simp] theorem State.postFld_ptFrac : (s.postFld p off lo w v).ptFrac = s.ptFrac := by unfold State.postFld State.post; rfl
@[simp] theorem State.postFld_fast : (s.postFld p off lo w v).fast = s.fast := by unfold State.postFld State.post; rfl
@[simp] theorem State.postFld_ferry : (s.postFld p off lo w v).ferry = s.ferry := by unfold State.postFld State.post; rfl
@[simp] theorem State.postFld_ctrs : (s.postFld p off lo w v).ctrs = s.ctrs := by unfold State.postFld State.post; rfl
@[simp] theorem State.postFld_drw : (s.postFld p off lo w v).drw = s.drw := by unfold State.postFld State.post; rfl
@[simp] theorem State.postFld_resets : (s.postFld p off lo w v).resets = s.resets := by unfold State.postFld State.post; rfl
@[simp] theorem State.postFld_fences : (s.postFld p off lo w v).fences = s.fences := by unfold State.postFld State.post; rfl
@[simp] theorem State.postFld_doms : (s.postFld p off lo w v).doms = s.doms := by unfold State.postFld State.post; rfl
@[simp] theorem State.postFld_barriers : (s.postFld p off lo w v).barriers = s.barriers := by unfold State.postFld State.post; rfl
@[simp] theorem State.postFld_reports : (s.postFld p off lo w v).reports = s.reports := by unfold State.postFld State.post; rfl
@[simp] theorem State.postFld_colls : (s.postFld p off lo w v).colls = s.colls := by unfold State.postFld State.post; rfl
@[simp] theorem State.postFld_log : (s.postFld p off lo w v).log = s.log := by unfold State.postFld State.post; rfl
@[simp] theorem State.postFld_fuses : (s.postFld p off lo w v).fuses = s.fuses := by unfold State.postFld State.post; rfl
@[simp] theorem State.postFld_sec : (s.postFld p off lo w v).sec = s.sec := by unfold State.postFld State.post; rfl
@[simp] theorem State.postFld_omc : (s.postFld p off lo w v).omc = s.omc := by unfold State.postFld State.post; rfl
@[simp] theorem State.postFld_jtag : (s.postFld p off lo w v).jtag = s.jtag := by unfold State.postFld State.post; rfl
@[simp] theorem State.postFld_pins : (s.postFld p off lo w v).pins = s.pins := by unfold State.postFld State.post; rfl
@[simp] theorem State.postFld_cfg : (s.postFld p off lo w v).cfg = s.cfg := by unfold State.postFld State.post; rfl
@[simp] theorem State.postFld_mem : (s.postFld p off lo w v).mem = s.mem := by unfold State.postFld State.post; rfl
@[simp] theorem State.postFld_fresh : (s.postFld p off lo w v).fresh = s.fresh := by unfold State.postFld State.post; rfl
@[simp] theorem State.postFld_out : (s.postFld p off lo w v).out = s.out := by unfold State.postFld State.post; rfl
@[simp] theorem State.postFld_bufs : (s.postFld p off lo w v).bufs = s.bufs := by unfold State.postFld State.post; rfl
@[simp] theorem State.postFld_nextBuf : (s.postFld p off lo w v).nextBuf = s.nextBuf := by unfold State.postFld State.post; rfl
@[simp] theorem State.postFld_fifos : (s.postFld p off lo w v).fifos = s.fifos := by unfold State.postFld State.post; rfl
@[simp] theorem State.postFld_seqs : (s.postFld p off lo w v).seqs = s.seqs := by unfold State.postFld State.post; rfl
@[simp] theorem State.postFld_hdrs : (s.postFld p off lo w v).hdrs = s.hdrs := by unfold State.postFld State.post; rfl
@[simp] theorem State.postFld_links : (s.postFld p off lo w v).links = s.links := by unfold State.postFld State.post; rfl
@[simp] theorem State.postFld_landW : (s.postFld p off lo w v).landW = s.landW := by unfold State.postFld State.post; rfl
@[simp] theorem State.postFld_held : (s.postFld p off lo w v).held = s.held := by unfold State.postFld State.post; rfl
@[simp] theorem State.postFld_rules : (s.postFld p off lo w v).rules = s.rules := by unfold State.postFld State.post; rfl
@[simp] theorem State.postFld_clsSt : (s.postFld p off lo w v).clsSt = s.clsSt := by unfold State.postFld State.post; rfl
@[simp] theorem State.postFld_asets : (s.postFld p off lo w v).asets = s.asets := by unfold State.postFld State.post; rfl
@[simp] theorem State.postFld_tpls : (s.postFld p off lo w v).tpls = s.tpls := by unfold State.postFld State.post; rfl
@[simp] theorem State.postFld_cnts : (s.postFld p off lo w v).cnts = s.cnts := by unfold State.postFld State.post; rfl
@[simp] theorem State.postFld_sampling : (s.postFld p off lo w v).sampling = s.sampling := by unfold State.postFld State.post; rfl
@[simp] theorem State.postFld_ipId : (s.postFld p off lo w v).ipId = s.ipId := by unfold State.postFld State.post; rfl
@[simp] theorem State.postFld_greSeq : (s.postFld p off lo w v).greSeq = s.greSeq := by unfold State.postFld State.post; rfl
@[simp] theorem State.postFld_nodes : (s.postFld p off lo w v).nodes = s.nodes := by unfold State.postFld State.post; rfl
@[simp] theorem State.postFld_queues : (s.postFld p off lo w v).queues = s.queues := by unfold State.postFld State.post; rfl
@[simp] theorem State.postFld_outlets : (s.postFld p off lo w v).outlets = s.outlets := by unfold State.postFld State.post; rfl
@[simp] theorem State.postFld_sel : (s.postFld p off lo w v).sel = s.sel := by unfold State.postFld State.post; rfl
@[simp] theorem State.postFld_gates : (s.postFld p off lo w v).gates = s.gates := by unfold State.postFld State.post; rfl
@[simp] theorem State.postFld_plcrs : (s.postFld p off lo w v).plcrs = s.plcrs := by unfold State.postFld State.post; rfl
@[simp] theorem State.postFld_apls : (s.postFld p off lo w v).apls = s.apls := by unfold State.postFld State.post; rfl
@[simp] theorem State.postFld_aplReads : (s.postFld p off lo w v).aplReads = s.aplReads := by unfold State.postFld State.post; rfl
@[simp] theorem State.postFld_winReqs : (s.postFld p off lo w v).winReqs = s.winReqs := by unfold State.postFld State.post; rfl
@[simp] theorem State.postFld_eps : (s.postFld p off lo w v).eps = s.eps := by unfold State.postFld State.post; rfl
@[simp] theorem State.postFld_hwait : (s.postFld p off lo w v).hwait = s.hwait := by unfold State.postFld State.post; rfl
@[simp] theorem State.postFld_arrived : (s.postFld p off lo w v).arrived = s.arrived := by unfold State.postFld State.post; rfl
@[simp] theorem State.postFld_hreads : (s.postFld p off lo w v).hreads = s.hreads := by unfold State.postFld State.post; rfl
@[simp] theorem State.postFld_bothFull : (s.postFld p off lo w v).bothFull = s.bothFull := by unfold State.postFld State.post; rfl
@[simp] theorem State.postFld_binds : (s.postFld p off lo w v).binds = s.binds := by unfold State.postFld State.post; rfl
@[simp] theorem State.postFld_wrings : (s.postFld p off lo w v).wrings = s.wrings := by unfold State.postFld State.post; rfl
@[simp] theorem State.postFld_crings : (s.postFld p off lo w v).crings = s.crings := by unfold State.postFld State.post; rfl
@[simp] theorem State.postFld_txs : (s.postFld p off lo w v).txs = s.txs := by unfold State.postFld State.post; rfl
@[simp] theorem State.postFld_txNext : (s.postFld p off lo w v).txNext = s.txNext := by unfold State.postFld State.post; rfl
@[simp] theorem State.postFld_cqes : (s.postFld p off lo w v).cqes = s.cqes := by unfold State.postFld State.post; rfl
@[simp] theorem State.postFld_near : (s.postFld p off lo w v).near = s.near := by unfold State.postFld State.post; rfl
@[simp] theorem State.postFld_ovf : (s.postFld p off lo w v).ovf = s.ovf := by unfold State.postFld State.post; rfl
@[simp] theorem State.postFld_learns : (s.postFld p off lo w v).learns = s.learns := by unfold State.postFld State.post; rfl
@[simp] theorem State.postFld_tblSt : (s.postFld p off lo w v).tblSt = s.tblSt := by unfold State.postFld State.post; rfl
@[simp] theorem State.postFld_ageDue : (s.postFld p off lo w v).ageDue = s.ageDue := by unfold State.postFld State.post; rfl
@[simp] theorem State.postFld_ctxs : (s.postFld p off lo w v).ctxs = s.ctxs := by unfold State.postFld State.post; rfl
@[simp] theorem State.postFld_cuEvts : (s.postFld p off lo w v).cuEvts = s.cuEvts := by unfold State.postFld State.post; rfl
@[simp] theorem State.postFld_thrs : (s.postFld p off lo w v).thrs = s.thrs := by unfold State.postFld State.post; rfl
@[simp] theorem State.postFld_chans : (s.postFld p off lo w v).chans = s.chans := by unfold State.postFld State.post; rfl
@[simp] theorem State.postFld_ureqs : (s.postFld p off lo w v).ureqs = s.ureqs := by unfold State.postFld State.post; rfl
@[simp] theorem State.postFld_ureps : (s.postFld p off lo w v).ureps = s.ureps := by unfold State.postFld State.post; rfl
@[simp] theorem State.postFld_inq : (s.postFld p off lo w v).inq = s.inq := by unfold State.postFld State.post; rfl
@[simp] theorem State.postFld_checks : (s.postFld p off lo w v).checks = s.checks := by unfold State.postFld State.post; rfl
@[simp] theorem State.postFld_dbgs : (s.postFld p off lo w v).dbgs = s.dbgs := by unfold State.postFld State.post; rfl
@[simp] theorem State.postFld_still : (s.postFld p off lo w v).still = s.still := by unfold State.postFld State.post; rfl
@[simp] theorem State.postFld_csBad : (s.postFld p off lo w v).csBad = s.csBad := by unfold State.postFld State.post; rfl
@[simp] theorem State.postFld_csStage : (s.postFld p off lo w v).csStage = s.csStage := by unfold State.postFld State.post; rfl
@[simp] theorem State.postFld_dmas : (s.postFld p off lo w v).dmas = s.dmas := by unfold State.postFld State.post; rfl
@[simp] theorem State.postFld_tick : (s.postFld p off lo w v).tick = s.tick := by unfold State.postFld State.post; rfl
@[simp] theorem State.postFld_arbs : (s.postFld p off lo w v).arbs = s.arbs := by unfold State.postFld State.post; rfl
@[simp] theorem State.postFld_lastRing : (s.postFld p off lo w v).lastRing = s.lastRing := by unfold State.postFld State.post; rfl
@[simp] theorem State.postFld_nvs : (s.postFld p off lo w v).nvs = s.nvs := by unfold State.postFld State.post; rfl
end

section
variable (s : State) (p : PageKey) (off i : Nat) (b : Bool)
@[simp] theorem State.postBit_pending : (s.postBit p off i b).pending = s.pending := by unfold State.postBit State.post; rfl
@[simp] theorem State.postBit_clk : (s.postBit p off i b).clk = s.clk := by unfold State.postBit State.post; rfl
@[simp] theorem State.postBit_ptime : (s.postBit p off i b).ptime = s.ptime := by unfold State.postBit State.post; rfl
@[simp] theorem State.postBit_ptFrac : (s.postBit p off i b).ptFrac = s.ptFrac := by unfold State.postBit State.post; rfl
@[simp] theorem State.postBit_fast : (s.postBit p off i b).fast = s.fast := by unfold State.postBit State.post; rfl
@[simp] theorem State.postBit_ferry : (s.postBit p off i b).ferry = s.ferry := by unfold State.postBit State.post; rfl
@[simp] theorem State.postBit_ctrs : (s.postBit p off i b).ctrs = s.ctrs := by unfold State.postBit State.post; rfl
@[simp] theorem State.postBit_drw : (s.postBit p off i b).drw = s.drw := by unfold State.postBit State.post; rfl
@[simp] theorem State.postBit_resets : (s.postBit p off i b).resets = s.resets := by unfold State.postBit State.post; rfl
@[simp] theorem State.postBit_fences : (s.postBit p off i b).fences = s.fences := by unfold State.postBit State.post; rfl
@[simp] theorem State.postBit_doms : (s.postBit p off i b).doms = s.doms := by unfold State.postBit State.post; rfl
@[simp] theorem State.postBit_barriers : (s.postBit p off i b).barriers = s.barriers := by unfold State.postBit State.post; rfl
@[simp] theorem State.postBit_reports : (s.postBit p off i b).reports = s.reports := by unfold State.postBit State.post; rfl
@[simp] theorem State.postBit_colls : (s.postBit p off i b).colls = s.colls := by unfold State.postBit State.post; rfl
@[simp] theorem State.postBit_log : (s.postBit p off i b).log = s.log := by unfold State.postBit State.post; rfl
@[simp] theorem State.postBit_fuses : (s.postBit p off i b).fuses = s.fuses := by unfold State.postBit State.post; rfl
@[simp] theorem State.postBit_sec : (s.postBit p off i b).sec = s.sec := by unfold State.postBit State.post; rfl
@[simp] theorem State.postBit_omc : (s.postBit p off i b).omc = s.omc := by unfold State.postBit State.post; rfl
@[simp] theorem State.postBit_jtag : (s.postBit p off i b).jtag = s.jtag := by unfold State.postBit State.post; rfl
@[simp] theorem State.postBit_pins : (s.postBit p off i b).pins = s.pins := by unfold State.postBit State.post; rfl
@[simp] theorem State.postBit_cfg : (s.postBit p off i b).cfg = s.cfg := by unfold State.postBit State.post; rfl
@[simp] theorem State.postBit_mem : (s.postBit p off i b).mem = s.mem := by unfold State.postBit State.post; rfl
@[simp] theorem State.postBit_fresh : (s.postBit p off i b).fresh = s.fresh := by unfold State.postBit State.post; rfl
@[simp] theorem State.postBit_out : (s.postBit p off i b).out = s.out := by unfold State.postBit State.post; rfl
@[simp] theorem State.postBit_bufs : (s.postBit p off i b).bufs = s.bufs := by unfold State.postBit State.post; rfl
@[simp] theorem State.postBit_nextBuf : (s.postBit p off i b).nextBuf = s.nextBuf := by unfold State.postBit State.post; rfl
@[simp] theorem State.postBit_fifos : (s.postBit p off i b).fifos = s.fifos := by unfold State.postBit State.post; rfl
@[simp] theorem State.postBit_seqs : (s.postBit p off i b).seqs = s.seqs := by unfold State.postBit State.post; rfl
@[simp] theorem State.postBit_hdrs : (s.postBit p off i b).hdrs = s.hdrs := by unfold State.postBit State.post; rfl
@[simp] theorem State.postBit_links : (s.postBit p off i b).links = s.links := by unfold State.postBit State.post; rfl
@[simp] theorem State.postBit_landW : (s.postBit p off i b).landW = s.landW := by unfold State.postBit State.post; rfl
@[simp] theorem State.postBit_held : (s.postBit p off i b).held = s.held := by unfold State.postBit State.post; rfl
@[simp] theorem State.postBit_rules : (s.postBit p off i b).rules = s.rules := by unfold State.postBit State.post; rfl
@[simp] theorem State.postBit_clsSt : (s.postBit p off i b).clsSt = s.clsSt := by unfold State.postBit State.post; rfl
@[simp] theorem State.postBit_asets : (s.postBit p off i b).asets = s.asets := by unfold State.postBit State.post; rfl
@[simp] theorem State.postBit_tpls : (s.postBit p off i b).tpls = s.tpls := by unfold State.postBit State.post; rfl
@[simp] theorem State.postBit_cnts : (s.postBit p off i b).cnts = s.cnts := by unfold State.postBit State.post; rfl
@[simp] theorem State.postBit_sampling : (s.postBit p off i b).sampling = s.sampling := by unfold State.postBit State.post; rfl
@[simp] theorem State.postBit_ipId : (s.postBit p off i b).ipId = s.ipId := by unfold State.postBit State.post; rfl
@[simp] theorem State.postBit_greSeq : (s.postBit p off i b).greSeq = s.greSeq := by unfold State.postBit State.post; rfl
@[simp] theorem State.postBit_nodes : (s.postBit p off i b).nodes = s.nodes := by unfold State.postBit State.post; rfl
@[simp] theorem State.postBit_queues : (s.postBit p off i b).queues = s.queues := by unfold State.postBit State.post; rfl
@[simp] theorem State.postBit_outlets : (s.postBit p off i b).outlets = s.outlets := by unfold State.postBit State.post; rfl
@[simp] theorem State.postBit_sel : (s.postBit p off i b).sel = s.sel := by unfold State.postBit State.post; rfl
@[simp] theorem State.postBit_gates : (s.postBit p off i b).gates = s.gates := by unfold State.postBit State.post; rfl
@[simp] theorem State.postBit_plcrs : (s.postBit p off i b).plcrs = s.plcrs := by unfold State.postBit State.post; rfl
@[simp] theorem State.postBit_apls : (s.postBit p off i b).apls = s.apls := by unfold State.postBit State.post; rfl
@[simp] theorem State.postBit_aplReads : (s.postBit p off i b).aplReads = s.aplReads := by unfold State.postBit State.post; rfl
@[simp] theorem State.postBit_winReqs : (s.postBit p off i b).winReqs = s.winReqs := by unfold State.postBit State.post; rfl
@[simp] theorem State.postBit_eps : (s.postBit p off i b).eps = s.eps := by unfold State.postBit State.post; rfl
@[simp] theorem State.postBit_hwait : (s.postBit p off i b).hwait = s.hwait := by unfold State.postBit State.post; rfl
@[simp] theorem State.postBit_arrived : (s.postBit p off i b).arrived = s.arrived := by unfold State.postBit State.post; rfl
@[simp] theorem State.postBit_hreads : (s.postBit p off i b).hreads = s.hreads := by unfold State.postBit State.post; rfl
@[simp] theorem State.postBit_bothFull : (s.postBit p off i b).bothFull = s.bothFull := by unfold State.postBit State.post; rfl
@[simp] theorem State.postBit_binds : (s.postBit p off i b).binds = s.binds := by unfold State.postBit State.post; rfl
@[simp] theorem State.postBit_wrings : (s.postBit p off i b).wrings = s.wrings := by unfold State.postBit State.post; rfl
@[simp] theorem State.postBit_crings : (s.postBit p off i b).crings = s.crings := by unfold State.postBit State.post; rfl
@[simp] theorem State.postBit_txs : (s.postBit p off i b).txs = s.txs := by unfold State.postBit State.post; rfl
@[simp] theorem State.postBit_txNext : (s.postBit p off i b).txNext = s.txNext := by unfold State.postBit State.post; rfl
@[simp] theorem State.postBit_cqes : (s.postBit p off i b).cqes = s.cqes := by unfold State.postBit State.post; rfl
@[simp] theorem State.postBit_near : (s.postBit p off i b).near = s.near := by unfold State.postBit State.post; rfl
@[simp] theorem State.postBit_ovf : (s.postBit p off i b).ovf = s.ovf := by unfold State.postBit State.post; rfl
@[simp] theorem State.postBit_learns : (s.postBit p off i b).learns = s.learns := by unfold State.postBit State.post; rfl
@[simp] theorem State.postBit_tblSt : (s.postBit p off i b).tblSt = s.tblSt := by unfold State.postBit State.post; rfl
@[simp] theorem State.postBit_ageDue : (s.postBit p off i b).ageDue = s.ageDue := by unfold State.postBit State.post; rfl
@[simp] theorem State.postBit_ctxs : (s.postBit p off i b).ctxs = s.ctxs := by unfold State.postBit State.post; rfl
@[simp] theorem State.postBit_cuEvts : (s.postBit p off i b).cuEvts = s.cuEvts := by unfold State.postBit State.post; rfl
@[simp] theorem State.postBit_thrs : (s.postBit p off i b).thrs = s.thrs := by unfold State.postBit State.post; rfl
@[simp] theorem State.postBit_chans : (s.postBit p off i b).chans = s.chans := by unfold State.postBit State.post; rfl
@[simp] theorem State.postBit_ureqs : (s.postBit p off i b).ureqs = s.ureqs := by unfold State.postBit State.post; rfl
@[simp] theorem State.postBit_ureps : (s.postBit p off i b).ureps = s.ureps := by unfold State.postBit State.post; rfl
@[simp] theorem State.postBit_inq : (s.postBit p off i b).inq = s.inq := by unfold State.postBit State.post; rfl
@[simp] theorem State.postBit_checks : (s.postBit p off i b).checks = s.checks := by unfold State.postBit State.post; rfl
@[simp] theorem State.postBit_dbgs : (s.postBit p off i b).dbgs = s.dbgs := by unfold State.postBit State.post; rfl
@[simp] theorem State.postBit_still : (s.postBit p off i b).still = s.still := by unfold State.postBit State.post; rfl
@[simp] theorem State.postBit_csBad : (s.postBit p off i b).csBad = s.csBad := by unfold State.postBit State.post; rfl
@[simp] theorem State.postBit_csStage : (s.postBit p off i b).csStage = s.csStage := by unfold State.postBit State.post; rfl
@[simp] theorem State.postBit_dmas : (s.postBit p off i b).dmas = s.dmas := by unfold State.postBit State.post; rfl
@[simp] theorem State.postBit_tick : (s.postBit p off i b).tick = s.tick := by unfold State.postBit State.post; rfl
@[simp] theorem State.postBit_arbs : (s.postBit p off i b).arbs = s.arbs := by unfold State.postBit State.post; rfl
@[simp] theorem State.postBit_lastRing : (s.postBit p off i b).lastRing = s.lastRing := by unfold State.postBit State.post; rfl
@[simp] theorem State.postBit_nvs : (s.postBit p off i b).nvs = s.nvs := by unfold State.postBit State.post; rfl
end

section
variable (s : State) (p : PageKey) (off lo w : Nat)
@[simp] theorem State.bumpReg_pending : (s.bumpReg p off lo w).pending = s.pending := by unfold State.bumpReg State.postFld State.post; rfl
@[simp] theorem State.bumpReg_clk : (s.bumpReg p off lo w).clk = s.clk := by unfold State.bumpReg State.postFld State.post; rfl
@[simp] theorem State.bumpReg_ptime : (s.bumpReg p off lo w).ptime = s.ptime := by unfold State.bumpReg State.postFld State.post; rfl
@[simp] theorem State.bumpReg_ptFrac : (s.bumpReg p off lo w).ptFrac = s.ptFrac := by unfold State.bumpReg State.postFld State.post; rfl
@[simp] theorem State.bumpReg_fast : (s.bumpReg p off lo w).fast = s.fast := by unfold State.bumpReg State.postFld State.post; rfl
@[simp] theorem State.bumpReg_ferry : (s.bumpReg p off lo w).ferry = s.ferry := by unfold State.bumpReg State.postFld State.post; rfl
@[simp] theorem State.bumpReg_ctrs : (s.bumpReg p off lo w).ctrs = s.ctrs := by unfold State.bumpReg State.postFld State.post; rfl
@[simp] theorem State.bumpReg_drw : (s.bumpReg p off lo w).drw = s.drw := by unfold State.bumpReg State.postFld State.post; rfl
@[simp] theorem State.bumpReg_resets : (s.bumpReg p off lo w).resets = s.resets := by unfold State.bumpReg State.postFld State.post; rfl
@[simp] theorem State.bumpReg_fences : (s.bumpReg p off lo w).fences = s.fences := by unfold State.bumpReg State.postFld State.post; rfl
@[simp] theorem State.bumpReg_doms : (s.bumpReg p off lo w).doms = s.doms := by unfold State.bumpReg State.postFld State.post; rfl
@[simp] theorem State.bumpReg_barriers : (s.bumpReg p off lo w).barriers = s.barriers := by unfold State.bumpReg State.postFld State.post; rfl
@[simp] theorem State.bumpReg_reports : (s.bumpReg p off lo w).reports = s.reports := by unfold State.bumpReg State.postFld State.post; rfl
@[simp] theorem State.bumpReg_colls : (s.bumpReg p off lo w).colls = s.colls := by unfold State.bumpReg State.postFld State.post; rfl
@[simp] theorem State.bumpReg_log : (s.bumpReg p off lo w).log = s.log := by unfold State.bumpReg State.postFld State.post; rfl
@[simp] theorem State.bumpReg_fuses : (s.bumpReg p off lo w).fuses = s.fuses := by unfold State.bumpReg State.postFld State.post; rfl
@[simp] theorem State.bumpReg_sec : (s.bumpReg p off lo w).sec = s.sec := by unfold State.bumpReg State.postFld State.post; rfl
@[simp] theorem State.bumpReg_omc : (s.bumpReg p off lo w).omc = s.omc := by unfold State.bumpReg State.postFld State.post; rfl
@[simp] theorem State.bumpReg_jtag : (s.bumpReg p off lo w).jtag = s.jtag := by unfold State.bumpReg State.postFld State.post; rfl
@[simp] theorem State.bumpReg_pins : (s.bumpReg p off lo w).pins = s.pins := by unfold State.bumpReg State.postFld State.post; rfl
@[simp] theorem State.bumpReg_cfg : (s.bumpReg p off lo w).cfg = s.cfg := by unfold State.bumpReg State.postFld State.post; rfl
@[simp] theorem State.bumpReg_mem : (s.bumpReg p off lo w).mem = s.mem := by unfold State.bumpReg State.postFld State.post; rfl
@[simp] theorem State.bumpReg_fresh : (s.bumpReg p off lo w).fresh = s.fresh := by unfold State.bumpReg State.postFld State.post; rfl
@[simp] theorem State.bumpReg_out : (s.bumpReg p off lo w).out = s.out := by unfold State.bumpReg State.postFld State.post; rfl
@[simp] theorem State.bumpReg_bufs : (s.bumpReg p off lo w).bufs = s.bufs := by unfold State.bumpReg State.postFld State.post; rfl
@[simp] theorem State.bumpReg_nextBuf : (s.bumpReg p off lo w).nextBuf = s.nextBuf := by unfold State.bumpReg State.postFld State.post; rfl
@[simp] theorem State.bumpReg_fifos : (s.bumpReg p off lo w).fifos = s.fifos := by unfold State.bumpReg State.postFld State.post; rfl
@[simp] theorem State.bumpReg_seqs : (s.bumpReg p off lo w).seqs = s.seqs := by unfold State.bumpReg State.postFld State.post; rfl
@[simp] theorem State.bumpReg_hdrs : (s.bumpReg p off lo w).hdrs = s.hdrs := by unfold State.bumpReg State.postFld State.post; rfl
@[simp] theorem State.bumpReg_links : (s.bumpReg p off lo w).links = s.links := by unfold State.bumpReg State.postFld State.post; rfl
@[simp] theorem State.bumpReg_landW : (s.bumpReg p off lo w).landW = s.landW := by unfold State.bumpReg State.postFld State.post; rfl
@[simp] theorem State.bumpReg_held : (s.bumpReg p off lo w).held = s.held := by unfold State.bumpReg State.postFld State.post; rfl
@[simp] theorem State.bumpReg_rules : (s.bumpReg p off lo w).rules = s.rules := by unfold State.bumpReg State.postFld State.post; rfl
@[simp] theorem State.bumpReg_clsSt : (s.bumpReg p off lo w).clsSt = s.clsSt := by unfold State.bumpReg State.postFld State.post; rfl
@[simp] theorem State.bumpReg_asets : (s.bumpReg p off lo w).asets = s.asets := by unfold State.bumpReg State.postFld State.post; rfl
@[simp] theorem State.bumpReg_tpls : (s.bumpReg p off lo w).tpls = s.tpls := by unfold State.bumpReg State.postFld State.post; rfl
@[simp] theorem State.bumpReg_cnts : (s.bumpReg p off lo w).cnts = s.cnts := by unfold State.bumpReg State.postFld State.post; rfl
@[simp] theorem State.bumpReg_sampling : (s.bumpReg p off lo w).sampling = s.sampling := by unfold State.bumpReg State.postFld State.post; rfl
@[simp] theorem State.bumpReg_ipId : (s.bumpReg p off lo w).ipId = s.ipId := by unfold State.bumpReg State.postFld State.post; rfl
@[simp] theorem State.bumpReg_greSeq : (s.bumpReg p off lo w).greSeq = s.greSeq := by unfold State.bumpReg State.postFld State.post; rfl
@[simp] theorem State.bumpReg_nodes : (s.bumpReg p off lo w).nodes = s.nodes := by unfold State.bumpReg State.postFld State.post; rfl
@[simp] theorem State.bumpReg_queues : (s.bumpReg p off lo w).queues = s.queues := by unfold State.bumpReg State.postFld State.post; rfl
@[simp] theorem State.bumpReg_outlets : (s.bumpReg p off lo w).outlets = s.outlets := by unfold State.bumpReg State.postFld State.post; rfl
@[simp] theorem State.bumpReg_sel : (s.bumpReg p off lo w).sel = s.sel := by unfold State.bumpReg State.postFld State.post; rfl
@[simp] theorem State.bumpReg_gates : (s.bumpReg p off lo w).gates = s.gates := by unfold State.bumpReg State.postFld State.post; rfl
@[simp] theorem State.bumpReg_plcrs : (s.bumpReg p off lo w).plcrs = s.plcrs := by unfold State.bumpReg State.postFld State.post; rfl
@[simp] theorem State.bumpReg_apls : (s.bumpReg p off lo w).apls = s.apls := by unfold State.bumpReg State.postFld State.post; rfl
@[simp] theorem State.bumpReg_aplReads : (s.bumpReg p off lo w).aplReads = s.aplReads := by unfold State.bumpReg State.postFld State.post; rfl
@[simp] theorem State.bumpReg_winReqs : (s.bumpReg p off lo w).winReqs = s.winReqs := by unfold State.bumpReg State.postFld State.post; rfl
@[simp] theorem State.bumpReg_eps : (s.bumpReg p off lo w).eps = s.eps := by unfold State.bumpReg State.postFld State.post; rfl
@[simp] theorem State.bumpReg_hwait : (s.bumpReg p off lo w).hwait = s.hwait := by unfold State.bumpReg State.postFld State.post; rfl
@[simp] theorem State.bumpReg_arrived : (s.bumpReg p off lo w).arrived = s.arrived := by unfold State.bumpReg State.postFld State.post; rfl
@[simp] theorem State.bumpReg_hreads : (s.bumpReg p off lo w).hreads = s.hreads := by unfold State.bumpReg State.postFld State.post; rfl
@[simp] theorem State.bumpReg_bothFull : (s.bumpReg p off lo w).bothFull = s.bothFull := by unfold State.bumpReg State.postFld State.post; rfl
@[simp] theorem State.bumpReg_binds : (s.bumpReg p off lo w).binds = s.binds := by unfold State.bumpReg State.postFld State.post; rfl
@[simp] theorem State.bumpReg_wrings : (s.bumpReg p off lo w).wrings = s.wrings := by unfold State.bumpReg State.postFld State.post; rfl
@[simp] theorem State.bumpReg_crings : (s.bumpReg p off lo w).crings = s.crings := by unfold State.bumpReg State.postFld State.post; rfl
@[simp] theorem State.bumpReg_txs : (s.bumpReg p off lo w).txs = s.txs := by unfold State.bumpReg State.postFld State.post; rfl
@[simp] theorem State.bumpReg_txNext : (s.bumpReg p off lo w).txNext = s.txNext := by unfold State.bumpReg State.postFld State.post; rfl
@[simp] theorem State.bumpReg_cqes : (s.bumpReg p off lo w).cqes = s.cqes := by unfold State.bumpReg State.postFld State.post; rfl
@[simp] theorem State.bumpReg_near : (s.bumpReg p off lo w).near = s.near := by unfold State.bumpReg State.postFld State.post; rfl
@[simp] theorem State.bumpReg_ovf : (s.bumpReg p off lo w).ovf = s.ovf := by unfold State.bumpReg State.postFld State.post; rfl
@[simp] theorem State.bumpReg_learns : (s.bumpReg p off lo w).learns = s.learns := by unfold State.bumpReg State.postFld State.post; rfl
@[simp] theorem State.bumpReg_tblSt : (s.bumpReg p off lo w).tblSt = s.tblSt := by unfold State.bumpReg State.postFld State.post; rfl
@[simp] theorem State.bumpReg_ageDue : (s.bumpReg p off lo w).ageDue = s.ageDue := by unfold State.bumpReg State.postFld State.post; rfl
@[simp] theorem State.bumpReg_ctxs : (s.bumpReg p off lo w).ctxs = s.ctxs := by unfold State.bumpReg State.postFld State.post; rfl
@[simp] theorem State.bumpReg_cuEvts : (s.bumpReg p off lo w).cuEvts = s.cuEvts := by unfold State.bumpReg State.postFld State.post; rfl
@[simp] theorem State.bumpReg_thrs : (s.bumpReg p off lo w).thrs = s.thrs := by unfold State.bumpReg State.postFld State.post; rfl
@[simp] theorem State.bumpReg_chans : (s.bumpReg p off lo w).chans = s.chans := by unfold State.bumpReg State.postFld State.post; rfl
@[simp] theorem State.bumpReg_ureqs : (s.bumpReg p off lo w).ureqs = s.ureqs := by unfold State.bumpReg State.postFld State.post; rfl
@[simp] theorem State.bumpReg_ureps : (s.bumpReg p off lo w).ureps = s.ureps := by unfold State.bumpReg State.postFld State.post; rfl
@[simp] theorem State.bumpReg_inq : (s.bumpReg p off lo w).inq = s.inq := by unfold State.bumpReg State.postFld State.post; rfl
@[simp] theorem State.bumpReg_checks : (s.bumpReg p off lo w).checks = s.checks := by unfold State.bumpReg State.postFld State.post; rfl
@[simp] theorem State.bumpReg_dbgs : (s.bumpReg p off lo w).dbgs = s.dbgs := by unfold State.bumpReg State.postFld State.post; rfl
@[simp] theorem State.bumpReg_still : (s.bumpReg p off lo w).still = s.still := by unfold State.bumpReg State.postFld State.post; rfl
@[simp] theorem State.bumpReg_csBad : (s.bumpReg p off lo w).csBad = s.csBad := by unfold State.bumpReg State.postFld State.post; rfl
@[simp] theorem State.bumpReg_csStage : (s.bumpReg p off lo w).csStage = s.csStage := by unfold State.bumpReg State.postFld State.post; rfl
@[simp] theorem State.bumpReg_dmas : (s.bumpReg p off lo w).dmas = s.dmas := by unfold State.bumpReg State.postFld State.post; rfl
@[simp] theorem State.bumpReg_tick : (s.bumpReg p off lo w).tick = s.tick := by unfold State.bumpReg State.postFld State.post; rfl
@[simp] theorem State.bumpReg_arbs : (s.bumpReg p off lo w).arbs = s.arbs := by unfold State.bumpReg State.postFld State.post; rfl
@[simp] theorem State.bumpReg_lastRing : (s.bumpReg p off lo w).lastRing = s.lastRing := by unfold State.bumpReg State.postFld State.post; rfl
@[simp] theorem State.bumpReg_nvs : (s.bumpReg p off lo w).nvs = s.nvs := by unfold State.bumpReg State.postFld State.post; rfl
end

section
variable (s : State) (o : Output)
@[simp] theorem State.emit_pending : (s.emit o).pending = s.pending := by unfold State.emit; rfl
@[simp] theorem State.emit_clk : (s.emit o).clk = s.clk := by unfold State.emit; rfl
@[simp] theorem State.emit_ptime : (s.emit o).ptime = s.ptime := by unfold State.emit; rfl
@[simp] theorem State.emit_ptFrac : (s.emit o).ptFrac = s.ptFrac := by unfold State.emit; rfl
@[simp] theorem State.emit_regs : (s.emit o).regs = s.regs := by unfold State.emit; rfl
@[simp] theorem State.emit_fast : (s.emit o).fast = s.fast := by unfold State.emit; rfl
@[simp] theorem State.emit_ferry : (s.emit o).ferry = s.ferry := by unfold State.emit; rfl
@[simp] theorem State.emit_ctrs : (s.emit o).ctrs = s.ctrs := by unfold State.emit; rfl
@[simp] theorem State.emit_drw : (s.emit o).drw = s.drw := by unfold State.emit; rfl
@[simp] theorem State.emit_resets : (s.emit o).resets = s.resets := by unfold State.emit; rfl
@[simp] theorem State.emit_fences : (s.emit o).fences = s.fences := by unfold State.emit; rfl
@[simp] theorem State.emit_doms : (s.emit o).doms = s.doms := by unfold State.emit; rfl
@[simp] theorem State.emit_barriers : (s.emit o).barriers = s.barriers := by unfold State.emit; rfl
@[simp] theorem State.emit_reports : (s.emit o).reports = s.reports := by unfold State.emit; rfl
@[simp] theorem State.emit_colls : (s.emit o).colls = s.colls := by unfold State.emit; rfl
@[simp] theorem State.emit_log : (s.emit o).log = s.log := by unfold State.emit; rfl
@[simp] theorem State.emit_fuses : (s.emit o).fuses = s.fuses := by unfold State.emit; rfl
@[simp] theorem State.emit_sec : (s.emit o).sec = s.sec := by unfold State.emit; rfl
@[simp] theorem State.emit_omc : (s.emit o).omc = s.omc := by unfold State.emit; rfl
@[simp] theorem State.emit_jtag : (s.emit o).jtag = s.jtag := by unfold State.emit; rfl
@[simp] theorem State.emit_pins : (s.emit o).pins = s.pins := by unfold State.emit; rfl
@[simp] theorem State.emit_cfg : (s.emit o).cfg = s.cfg := by unfold State.emit; rfl
@[simp] theorem State.emit_mem : (s.emit o).mem = s.mem := by unfold State.emit; rfl
@[simp] theorem State.emit_fresh : (s.emit o).fresh = s.fresh := by unfold State.emit; rfl
@[simp] theorem State.emit_bufs : (s.emit o).bufs = s.bufs := by unfold State.emit; rfl
@[simp] theorem State.emit_nextBuf : (s.emit o).nextBuf = s.nextBuf := by unfold State.emit; rfl
@[simp] theorem State.emit_fifos : (s.emit o).fifos = s.fifos := by unfold State.emit; rfl
@[simp] theorem State.emit_seqs : (s.emit o).seqs = s.seqs := by unfold State.emit; rfl
@[simp] theorem State.emit_hdrs : (s.emit o).hdrs = s.hdrs := by unfold State.emit; rfl
@[simp] theorem State.emit_links : (s.emit o).links = s.links := by unfold State.emit; rfl
@[simp] theorem State.emit_landW : (s.emit o).landW = s.landW := by unfold State.emit; rfl
@[simp] theorem State.emit_held : (s.emit o).held = s.held := by unfold State.emit; rfl
@[simp] theorem State.emit_rules : (s.emit o).rules = s.rules := by unfold State.emit; rfl
@[simp] theorem State.emit_clsSt : (s.emit o).clsSt = s.clsSt := by unfold State.emit; rfl
@[simp] theorem State.emit_asets : (s.emit o).asets = s.asets := by unfold State.emit; rfl
@[simp] theorem State.emit_tpls : (s.emit o).tpls = s.tpls := by unfold State.emit; rfl
@[simp] theorem State.emit_cnts : (s.emit o).cnts = s.cnts := by unfold State.emit; rfl
@[simp] theorem State.emit_sampling : (s.emit o).sampling = s.sampling := by unfold State.emit; rfl
@[simp] theorem State.emit_ipId : (s.emit o).ipId = s.ipId := by unfold State.emit; rfl
@[simp] theorem State.emit_greSeq : (s.emit o).greSeq = s.greSeq := by unfold State.emit; rfl
@[simp] theorem State.emit_nodes : (s.emit o).nodes = s.nodes := by unfold State.emit; rfl
@[simp] theorem State.emit_queues : (s.emit o).queues = s.queues := by unfold State.emit; rfl
@[simp] theorem State.emit_outlets : (s.emit o).outlets = s.outlets := by unfold State.emit; rfl
@[simp] theorem State.emit_sel : (s.emit o).sel = s.sel := by unfold State.emit; rfl
@[simp] theorem State.emit_gates : (s.emit o).gates = s.gates := by unfold State.emit; rfl
@[simp] theorem State.emit_plcrs : (s.emit o).plcrs = s.plcrs := by unfold State.emit; rfl
@[simp] theorem State.emit_apls : (s.emit o).apls = s.apls := by unfold State.emit; rfl
@[simp] theorem State.emit_aplReads : (s.emit o).aplReads = s.aplReads := by unfold State.emit; rfl
@[simp] theorem State.emit_winReqs : (s.emit o).winReqs = s.winReqs := by unfold State.emit; rfl
@[simp] theorem State.emit_eps : (s.emit o).eps = s.eps := by unfold State.emit; rfl
@[simp] theorem State.emit_hwait : (s.emit o).hwait = s.hwait := by unfold State.emit; rfl
@[simp] theorem State.emit_arrived : (s.emit o).arrived = s.arrived := by unfold State.emit; rfl
@[simp] theorem State.emit_hreads : (s.emit o).hreads = s.hreads := by unfold State.emit; rfl
@[simp] theorem State.emit_bothFull : (s.emit o).bothFull = s.bothFull := by unfold State.emit; rfl
@[simp] theorem State.emit_binds : (s.emit o).binds = s.binds := by unfold State.emit; rfl
@[simp] theorem State.emit_wrings : (s.emit o).wrings = s.wrings := by unfold State.emit; rfl
@[simp] theorem State.emit_crings : (s.emit o).crings = s.crings := by unfold State.emit; rfl
@[simp] theorem State.emit_txs : (s.emit o).txs = s.txs := by unfold State.emit; rfl
@[simp] theorem State.emit_txNext : (s.emit o).txNext = s.txNext := by unfold State.emit; rfl
@[simp] theorem State.emit_cqes : (s.emit o).cqes = s.cqes := by unfold State.emit; rfl
@[simp] theorem State.emit_near : (s.emit o).near = s.near := by unfold State.emit; rfl
@[simp] theorem State.emit_ovf : (s.emit o).ovf = s.ovf := by unfold State.emit; rfl
@[simp] theorem State.emit_learns : (s.emit o).learns = s.learns := by unfold State.emit; rfl
@[simp] theorem State.emit_tblSt : (s.emit o).tblSt = s.tblSt := by unfold State.emit; rfl
@[simp] theorem State.emit_ageDue : (s.emit o).ageDue = s.ageDue := by unfold State.emit; rfl
@[simp] theorem State.emit_ctxs : (s.emit o).ctxs = s.ctxs := by unfold State.emit; rfl
@[simp] theorem State.emit_cuEvts : (s.emit o).cuEvts = s.cuEvts := by unfold State.emit; rfl
@[simp] theorem State.emit_thrs : (s.emit o).thrs = s.thrs := by unfold State.emit; rfl
@[simp] theorem State.emit_chans : (s.emit o).chans = s.chans := by unfold State.emit; rfl
@[simp] theorem State.emit_ureqs : (s.emit o).ureqs = s.ureqs := by unfold State.emit; rfl
@[simp] theorem State.emit_ureps : (s.emit o).ureps = s.ureps := by unfold State.emit; rfl
@[simp] theorem State.emit_inq : (s.emit o).inq = s.inq := by unfold State.emit; rfl
@[simp] theorem State.emit_checks : (s.emit o).checks = s.checks := by unfold State.emit; rfl
@[simp] theorem State.emit_dbgs : (s.emit o).dbgs = s.dbgs := by unfold State.emit; rfl
@[simp] theorem State.emit_still : (s.emit o).still = s.still := by unfold State.emit; rfl
@[simp] theorem State.emit_csBad : (s.emit o).csBad = s.csBad := by unfold State.emit; rfl
@[simp] theorem State.emit_csStage : (s.emit o).csStage = s.csStage := by unfold State.emit; rfl
@[simp] theorem State.emit_dmas : (s.emit o).dmas = s.dmas := by unfold State.emit; rfl
@[simp] theorem State.emit_tick : (s.emit o).tick = s.tick := by unfold State.emit; rfl
@[simp] theorem State.emit_arbs : (s.emit o).arbs = s.arbs := by unfold State.emit; rfl
@[simp] theorem State.emit_lastRing : (s.emit o).lastRing = s.lastRing := by unfold State.emit; rfl
@[simp] theorem State.emit_nvs : (s.emit o).nvs = s.nvs := by unfold State.emit; rfl
end

section
variable (s : State) (p : PageKey) (idx : Nat) (v : Counter)
@[simp] theorem State.setCtr_pending : (s.setCtr p idx v).pending = s.pending := by unfold State.setCtr; rfl
@[simp] theorem State.setCtr_clk : (s.setCtr p idx v).clk = s.clk := by unfold State.setCtr; rfl
@[simp] theorem State.setCtr_ptime : (s.setCtr p idx v).ptime = s.ptime := by unfold State.setCtr; rfl
@[simp] theorem State.setCtr_ptFrac : (s.setCtr p idx v).ptFrac = s.ptFrac := by unfold State.setCtr; rfl
@[simp] theorem State.setCtr_regs : (s.setCtr p idx v).regs = s.regs := by unfold State.setCtr; rfl
@[simp] theorem State.setCtr_fast : (s.setCtr p idx v).fast = s.fast := by unfold State.setCtr; rfl
@[simp] theorem State.setCtr_ferry : (s.setCtr p idx v).ferry = s.ferry := by unfold State.setCtr; rfl
@[simp] theorem State.setCtr_drw : (s.setCtr p idx v).drw = s.drw := by unfold State.setCtr; rfl
@[simp] theorem State.setCtr_resets : (s.setCtr p idx v).resets = s.resets := by unfold State.setCtr; rfl
@[simp] theorem State.setCtr_fences : (s.setCtr p idx v).fences = s.fences := by unfold State.setCtr; rfl
@[simp] theorem State.setCtr_doms : (s.setCtr p idx v).doms = s.doms := by unfold State.setCtr; rfl
@[simp] theorem State.setCtr_barriers : (s.setCtr p idx v).barriers = s.barriers := by unfold State.setCtr; rfl
@[simp] theorem State.setCtr_reports : (s.setCtr p idx v).reports = s.reports := by unfold State.setCtr; rfl
@[simp] theorem State.setCtr_colls : (s.setCtr p idx v).colls = s.colls := by unfold State.setCtr; rfl
@[simp] theorem State.setCtr_log : (s.setCtr p idx v).log = s.log := by unfold State.setCtr; rfl
@[simp] theorem State.setCtr_fuses : (s.setCtr p idx v).fuses = s.fuses := by unfold State.setCtr; rfl
@[simp] theorem State.setCtr_sec : (s.setCtr p idx v).sec = s.sec := by unfold State.setCtr; rfl
@[simp] theorem State.setCtr_omc : (s.setCtr p idx v).omc = s.omc := by unfold State.setCtr; rfl
@[simp] theorem State.setCtr_jtag : (s.setCtr p idx v).jtag = s.jtag := by unfold State.setCtr; rfl
@[simp] theorem State.setCtr_pins : (s.setCtr p idx v).pins = s.pins := by unfold State.setCtr; rfl
@[simp] theorem State.setCtr_cfg : (s.setCtr p idx v).cfg = s.cfg := by unfold State.setCtr; rfl
@[simp] theorem State.setCtr_mem : (s.setCtr p idx v).mem = s.mem := by unfold State.setCtr; rfl
@[simp] theorem State.setCtr_fresh : (s.setCtr p idx v).fresh = s.fresh := by unfold State.setCtr; rfl
@[simp] theorem State.setCtr_out : (s.setCtr p idx v).out = s.out := by unfold State.setCtr; rfl
@[simp] theorem State.setCtr_bufs : (s.setCtr p idx v).bufs = s.bufs := by unfold State.setCtr; rfl
@[simp] theorem State.setCtr_nextBuf : (s.setCtr p idx v).nextBuf = s.nextBuf := by unfold State.setCtr; rfl
@[simp] theorem State.setCtr_fifos : (s.setCtr p idx v).fifos = s.fifos := by unfold State.setCtr; rfl
@[simp] theorem State.setCtr_seqs : (s.setCtr p idx v).seqs = s.seqs := by unfold State.setCtr; rfl
@[simp] theorem State.setCtr_hdrs : (s.setCtr p idx v).hdrs = s.hdrs := by unfold State.setCtr; rfl
@[simp] theorem State.setCtr_links : (s.setCtr p idx v).links = s.links := by unfold State.setCtr; rfl
@[simp] theorem State.setCtr_landW : (s.setCtr p idx v).landW = s.landW := by unfold State.setCtr; rfl
@[simp] theorem State.setCtr_held : (s.setCtr p idx v).held = s.held := by unfold State.setCtr; rfl
@[simp] theorem State.setCtr_rules : (s.setCtr p idx v).rules = s.rules := by unfold State.setCtr; rfl
@[simp] theorem State.setCtr_clsSt : (s.setCtr p idx v).clsSt = s.clsSt := by unfold State.setCtr; rfl
@[simp] theorem State.setCtr_asets : (s.setCtr p idx v).asets = s.asets := by unfold State.setCtr; rfl
@[simp] theorem State.setCtr_tpls : (s.setCtr p idx v).tpls = s.tpls := by unfold State.setCtr; rfl
@[simp] theorem State.setCtr_cnts : (s.setCtr p idx v).cnts = s.cnts := by unfold State.setCtr; rfl
@[simp] theorem State.setCtr_sampling : (s.setCtr p idx v).sampling = s.sampling := by unfold State.setCtr; rfl
@[simp] theorem State.setCtr_ipId : (s.setCtr p idx v).ipId = s.ipId := by unfold State.setCtr; rfl
@[simp] theorem State.setCtr_greSeq : (s.setCtr p idx v).greSeq = s.greSeq := by unfold State.setCtr; rfl
@[simp] theorem State.setCtr_nodes : (s.setCtr p idx v).nodes = s.nodes := by unfold State.setCtr; rfl
@[simp] theorem State.setCtr_queues : (s.setCtr p idx v).queues = s.queues := by unfold State.setCtr; rfl
@[simp] theorem State.setCtr_outlets : (s.setCtr p idx v).outlets = s.outlets := by unfold State.setCtr; rfl
@[simp] theorem State.setCtr_sel : (s.setCtr p idx v).sel = s.sel := by unfold State.setCtr; rfl
@[simp] theorem State.setCtr_gates : (s.setCtr p idx v).gates = s.gates := by unfold State.setCtr; rfl
@[simp] theorem State.setCtr_plcrs : (s.setCtr p idx v).plcrs = s.plcrs := by unfold State.setCtr; rfl
@[simp] theorem State.setCtr_apls : (s.setCtr p idx v).apls = s.apls := by unfold State.setCtr; rfl
@[simp] theorem State.setCtr_aplReads : (s.setCtr p idx v).aplReads = s.aplReads := by unfold State.setCtr; rfl
@[simp] theorem State.setCtr_winReqs : (s.setCtr p idx v).winReqs = s.winReqs := by unfold State.setCtr; rfl
@[simp] theorem State.setCtr_eps : (s.setCtr p idx v).eps = s.eps := by unfold State.setCtr; rfl
@[simp] theorem State.setCtr_hwait : (s.setCtr p idx v).hwait = s.hwait := by unfold State.setCtr; rfl
@[simp] theorem State.setCtr_arrived : (s.setCtr p idx v).arrived = s.arrived := by unfold State.setCtr; rfl
@[simp] theorem State.setCtr_hreads : (s.setCtr p idx v).hreads = s.hreads := by unfold State.setCtr; rfl
@[simp] theorem State.setCtr_bothFull : (s.setCtr p idx v).bothFull = s.bothFull := by unfold State.setCtr; rfl
@[simp] theorem State.setCtr_binds : (s.setCtr p idx v).binds = s.binds := by unfold State.setCtr; rfl
@[simp] theorem State.setCtr_wrings : (s.setCtr p idx v).wrings = s.wrings := by unfold State.setCtr; rfl
@[simp] theorem State.setCtr_crings : (s.setCtr p idx v).crings = s.crings := by unfold State.setCtr; rfl
@[simp] theorem State.setCtr_txs : (s.setCtr p idx v).txs = s.txs := by unfold State.setCtr; rfl
@[simp] theorem State.setCtr_txNext : (s.setCtr p idx v).txNext = s.txNext := by unfold State.setCtr; rfl
@[simp] theorem State.setCtr_cqes : (s.setCtr p idx v).cqes = s.cqes := by unfold State.setCtr; rfl
@[simp] theorem State.setCtr_near : (s.setCtr p idx v).near = s.near := by unfold State.setCtr; rfl
@[simp] theorem State.setCtr_ovf : (s.setCtr p idx v).ovf = s.ovf := by unfold State.setCtr; rfl
@[simp] theorem State.setCtr_learns : (s.setCtr p idx v).learns = s.learns := by unfold State.setCtr; rfl
@[simp] theorem State.setCtr_tblSt : (s.setCtr p idx v).tblSt = s.tblSt := by unfold State.setCtr; rfl
@[simp] theorem State.setCtr_ageDue : (s.setCtr p idx v).ageDue = s.ageDue := by unfold State.setCtr; rfl
@[simp] theorem State.setCtr_ctxs : (s.setCtr p idx v).ctxs = s.ctxs := by unfold State.setCtr; rfl
@[simp] theorem State.setCtr_cuEvts : (s.setCtr p idx v).cuEvts = s.cuEvts := by unfold State.setCtr; rfl
@[simp] theorem State.setCtr_thrs : (s.setCtr p idx v).thrs = s.thrs := by unfold State.setCtr; rfl
@[simp] theorem State.setCtr_chans : (s.setCtr p idx v).chans = s.chans := by unfold State.setCtr; rfl
@[simp] theorem State.setCtr_ureqs : (s.setCtr p idx v).ureqs = s.ureqs := by unfold State.setCtr; rfl
@[simp] theorem State.setCtr_ureps : (s.setCtr p idx v).ureps = s.ureps := by unfold State.setCtr; rfl
@[simp] theorem State.setCtr_inq : (s.setCtr p idx v).inq = s.inq := by unfold State.setCtr; rfl
@[simp] theorem State.setCtr_checks : (s.setCtr p idx v).checks = s.checks := by unfold State.setCtr; rfl
@[simp] theorem State.setCtr_dbgs : (s.setCtr p idx v).dbgs = s.dbgs := by unfold State.setCtr; rfl
@[simp] theorem State.setCtr_still : (s.setCtr p idx v).still = s.still := by unfold State.setCtr; rfl
@[simp] theorem State.setCtr_csBad : (s.setCtr p idx v).csBad = s.csBad := by unfold State.setCtr; rfl
@[simp] theorem State.setCtr_csStage : (s.setCtr p idx v).csStage = s.csStage := by unfold State.setCtr; rfl
@[simp] theorem State.setCtr_dmas : (s.setCtr p idx v).dmas = s.dmas := by unfold State.setCtr; rfl
@[simp] theorem State.setCtr_tick : (s.setCtr p idx v).tick = s.tick := by unfold State.setCtr; rfl
@[simp] theorem State.setCtr_arbs : (s.setCtr p idx v).arbs = s.arbs := by unfold State.setCtr; rfl
@[simp] theorem State.setCtr_lastRing : (s.setCtr p idx v).lastRing = s.lastRing := by unfold State.setCtr; rfl
@[simp] theorem State.setCtr_nvs : (s.setCtr p idx v).nvs = s.nvs := by unfold State.setCtr; rfl
end

section
variable (s : State) (a : Nat) (b : Byte)
@[simp] theorem State.setByte_pending : (s.setByte a b).pending = s.pending := by unfold State.setByte; rfl
@[simp] theorem State.setByte_clk : (s.setByte a b).clk = s.clk := by unfold State.setByte; rfl
@[simp] theorem State.setByte_ptime : (s.setByte a b).ptime = s.ptime := by unfold State.setByte; rfl
@[simp] theorem State.setByte_ptFrac : (s.setByte a b).ptFrac = s.ptFrac := by unfold State.setByte; rfl
@[simp] theorem State.setByte_regs : (s.setByte a b).regs = s.regs := by unfold State.setByte; rfl
@[simp] theorem State.setByte_fast : (s.setByte a b).fast = s.fast := by unfold State.setByte; rfl
@[simp] theorem State.setByte_ferry : (s.setByte a b).ferry = s.ferry := by unfold State.setByte; rfl
@[simp] theorem State.setByte_ctrs : (s.setByte a b).ctrs = s.ctrs := by unfold State.setByte; rfl
@[simp] theorem State.setByte_drw : (s.setByte a b).drw = s.drw := by unfold State.setByte; rfl
@[simp] theorem State.setByte_resets : (s.setByte a b).resets = s.resets := by unfold State.setByte; rfl
@[simp] theorem State.setByte_fences : (s.setByte a b).fences = s.fences := by unfold State.setByte; rfl
@[simp] theorem State.setByte_doms : (s.setByte a b).doms = s.doms := by unfold State.setByte; rfl
@[simp] theorem State.setByte_barriers : (s.setByte a b).barriers = s.barriers := by unfold State.setByte; rfl
@[simp] theorem State.setByte_reports : (s.setByte a b).reports = s.reports := by unfold State.setByte; rfl
@[simp] theorem State.setByte_colls : (s.setByte a b).colls = s.colls := by unfold State.setByte; rfl
@[simp] theorem State.setByte_log : (s.setByte a b).log = s.log := by unfold State.setByte; rfl
@[simp] theorem State.setByte_fuses : (s.setByte a b).fuses = s.fuses := by unfold State.setByte; rfl
@[simp] theorem State.setByte_sec : (s.setByte a b).sec = s.sec := by unfold State.setByte; rfl
@[simp] theorem State.setByte_omc : (s.setByte a b).omc = s.omc := by unfold State.setByte; rfl
@[simp] theorem State.setByte_jtag : (s.setByte a b).jtag = s.jtag := by unfold State.setByte; rfl
@[simp] theorem State.setByte_pins : (s.setByte a b).pins = s.pins := by unfold State.setByte; rfl
@[simp] theorem State.setByte_cfg : (s.setByte a b).cfg = s.cfg := by unfold State.setByte; rfl
@[simp] theorem State.setByte_fresh : (s.setByte a b).fresh = s.fresh := by unfold State.setByte; rfl
@[simp] theorem State.setByte_out : (s.setByte a b).out = s.out := by unfold State.setByte; rfl
@[simp] theorem State.setByte_bufs : (s.setByte a b).bufs = s.bufs := by unfold State.setByte; rfl
@[simp] theorem State.setByte_nextBuf : (s.setByte a b).nextBuf = s.nextBuf := by unfold State.setByte; rfl
@[simp] theorem State.setByte_fifos : (s.setByte a b).fifos = s.fifos := by unfold State.setByte; rfl
@[simp] theorem State.setByte_seqs : (s.setByte a b).seqs = s.seqs := by unfold State.setByte; rfl
@[simp] theorem State.setByte_hdrs : (s.setByte a b).hdrs = s.hdrs := by unfold State.setByte; rfl
@[simp] theorem State.setByte_links : (s.setByte a b).links = s.links := by unfold State.setByte; rfl
@[simp] theorem State.setByte_landW : (s.setByte a b).landW = s.landW := by unfold State.setByte; rfl
@[simp] theorem State.setByte_held : (s.setByte a b).held = s.held := by unfold State.setByte; rfl
@[simp] theorem State.setByte_rules : (s.setByte a b).rules = s.rules := by unfold State.setByte; rfl
@[simp] theorem State.setByte_clsSt : (s.setByte a b).clsSt = s.clsSt := by unfold State.setByte; rfl
@[simp] theorem State.setByte_asets : (s.setByte a b).asets = s.asets := by unfold State.setByte; rfl
@[simp] theorem State.setByte_tpls : (s.setByte a b).tpls = s.tpls := by unfold State.setByte; rfl
@[simp] theorem State.setByte_cnts : (s.setByte a b).cnts = s.cnts := by unfold State.setByte; rfl
@[simp] theorem State.setByte_sampling : (s.setByte a b).sampling = s.sampling := by unfold State.setByte; rfl
@[simp] theorem State.setByte_ipId : (s.setByte a b).ipId = s.ipId := by unfold State.setByte; rfl
@[simp] theorem State.setByte_greSeq : (s.setByte a b).greSeq = s.greSeq := by unfold State.setByte; rfl
@[simp] theorem State.setByte_nodes : (s.setByte a b).nodes = s.nodes := by unfold State.setByte; rfl
@[simp] theorem State.setByte_queues : (s.setByte a b).queues = s.queues := by unfold State.setByte; rfl
@[simp] theorem State.setByte_outlets : (s.setByte a b).outlets = s.outlets := by unfold State.setByte; rfl
@[simp] theorem State.setByte_sel : (s.setByte a b).sel = s.sel := by unfold State.setByte; rfl
@[simp] theorem State.setByte_gates : (s.setByte a b).gates = s.gates := by unfold State.setByte; rfl
@[simp] theorem State.setByte_plcrs : (s.setByte a b).plcrs = s.plcrs := by unfold State.setByte; rfl
@[simp] theorem State.setByte_apls : (s.setByte a b).apls = s.apls := by unfold State.setByte; rfl
@[simp] theorem State.setByte_aplReads : (s.setByte a b).aplReads = s.aplReads := by unfold State.setByte; rfl
@[simp] theorem State.setByte_winReqs : (s.setByte a b).winReqs = s.winReqs := by unfold State.setByte; rfl
@[simp] theorem State.setByte_eps : (s.setByte a b).eps = s.eps := by unfold State.setByte; rfl
@[simp] theorem State.setByte_hwait : (s.setByte a b).hwait = s.hwait := by unfold State.setByte; rfl
@[simp] theorem State.setByte_arrived : (s.setByte a b).arrived = s.arrived := by unfold State.setByte; rfl
@[simp] theorem State.setByte_hreads : (s.setByte a b).hreads = s.hreads := by unfold State.setByte; rfl
@[simp] theorem State.setByte_bothFull : (s.setByte a b).bothFull = s.bothFull := by unfold State.setByte; rfl
@[simp] theorem State.setByte_binds : (s.setByte a b).binds = s.binds := by unfold State.setByte; rfl
@[simp] theorem State.setByte_wrings : (s.setByte a b).wrings = s.wrings := by unfold State.setByte; rfl
@[simp] theorem State.setByte_crings : (s.setByte a b).crings = s.crings := by unfold State.setByte; rfl
@[simp] theorem State.setByte_txs : (s.setByte a b).txs = s.txs := by unfold State.setByte; rfl
@[simp] theorem State.setByte_txNext : (s.setByte a b).txNext = s.txNext := by unfold State.setByte; rfl
@[simp] theorem State.setByte_cqes : (s.setByte a b).cqes = s.cqes := by unfold State.setByte; rfl
@[simp] theorem State.setByte_near : (s.setByte a b).near = s.near := by unfold State.setByte; rfl
@[simp] theorem State.setByte_ovf : (s.setByte a b).ovf = s.ovf := by unfold State.setByte; rfl
@[simp] theorem State.setByte_learns : (s.setByte a b).learns = s.learns := by unfold State.setByte; rfl
@[simp] theorem State.setByte_tblSt : (s.setByte a b).tblSt = s.tblSt := by unfold State.setByte; rfl
@[simp] theorem State.setByte_ageDue : (s.setByte a b).ageDue = s.ageDue := by unfold State.setByte; rfl
@[simp] theorem State.setByte_ctxs : (s.setByte a b).ctxs = s.ctxs := by unfold State.setByte; rfl
@[simp] theorem State.setByte_cuEvts : (s.setByte a b).cuEvts = s.cuEvts := by unfold State.setByte; rfl
@[simp] theorem State.setByte_thrs : (s.setByte a b).thrs = s.thrs := by unfold State.setByte; rfl
@[simp] theorem State.setByte_chans : (s.setByte a b).chans = s.chans := by unfold State.setByte; rfl
@[simp] theorem State.setByte_ureqs : (s.setByte a b).ureqs = s.ureqs := by unfold State.setByte; rfl
@[simp] theorem State.setByte_ureps : (s.setByte a b).ureps = s.ureps := by unfold State.setByte; rfl
@[simp] theorem State.setByte_inq : (s.setByte a b).inq = s.inq := by unfold State.setByte; rfl
@[simp] theorem State.setByte_checks : (s.setByte a b).checks = s.checks := by unfold State.setByte; rfl
@[simp] theorem State.setByte_dbgs : (s.setByte a b).dbgs = s.dbgs := by unfold State.setByte; rfl
@[simp] theorem State.setByte_still : (s.setByte a b).still = s.still := by unfold State.setByte; rfl
@[simp] theorem State.setByte_csBad : (s.setByte a b).csBad = s.csBad := by unfold State.setByte; rfl
@[simp] theorem State.setByte_csStage : (s.setByte a b).csStage = s.csStage := by unfold State.setByte; rfl
@[simp] theorem State.setByte_dmas : (s.setByte a b).dmas = s.dmas := by unfold State.setByte; rfl
@[simp] theorem State.setByte_tick : (s.setByte a b).tick = s.tick := by unfold State.setByte; rfl
@[simp] theorem State.setByte_arbs : (s.setByte a b).arbs = s.arbs := by unfold State.setByte; rfl
@[simp] theorem State.setByte_lastRing : (s.setByte a b).lastRing = s.lastRing := by unfold State.setByte; rfl
@[simp] theorem State.setByte_nvs : (s.setByte a b).nvs = s.nvs := by unfold State.setByte; rfl
end

section
variable (s : State) (d : Nat) (v : Domain)
@[simp] theorem State.setDom_pending : (s.setDom d v).pending = s.pending := by unfold State.setDom; rfl
@[simp] theorem State.setDom_clk : (s.setDom d v).clk = s.clk := by unfold State.setDom; rfl
@[simp] theorem State.setDom_ptime : (s.setDom d v).ptime = s.ptime := by unfold State.setDom; rfl
@[simp] theorem State.setDom_ptFrac : (s.setDom d v).ptFrac = s.ptFrac := by unfold State.setDom; rfl
@[simp] theorem State.setDom_regs : (s.setDom d v).regs = s.regs := by unfold State.setDom; rfl
@[simp] theorem State.setDom_fast : (s.setDom d v).fast = s.fast := by unfold State.setDom; rfl
@[simp] theorem State.setDom_ferry : (s.setDom d v).ferry = s.ferry := by unfold State.setDom; rfl
@[simp] theorem State.setDom_ctrs : (s.setDom d v).ctrs = s.ctrs := by unfold State.setDom; rfl
@[simp] theorem State.setDom_drw : (s.setDom d v).drw = s.drw := by unfold State.setDom; rfl
@[simp] theorem State.setDom_resets : (s.setDom d v).resets = s.resets := by unfold State.setDom; rfl
@[simp] theorem State.setDom_fences : (s.setDom d v).fences = s.fences := by unfold State.setDom; rfl
@[simp] theorem State.setDom_barriers : (s.setDom d v).barriers = s.barriers := by unfold State.setDom; rfl
@[simp] theorem State.setDom_reports : (s.setDom d v).reports = s.reports := by unfold State.setDom; rfl
@[simp] theorem State.setDom_colls : (s.setDom d v).colls = s.colls := by unfold State.setDom; rfl
@[simp] theorem State.setDom_log : (s.setDom d v).log = s.log := by unfold State.setDom; rfl
@[simp] theorem State.setDom_fuses : (s.setDom d v).fuses = s.fuses := by unfold State.setDom; rfl
@[simp] theorem State.setDom_sec : (s.setDom d v).sec = s.sec := by unfold State.setDom; rfl
@[simp] theorem State.setDom_omc : (s.setDom d v).omc = s.omc := by unfold State.setDom; rfl
@[simp] theorem State.setDom_jtag : (s.setDom d v).jtag = s.jtag := by unfold State.setDom; rfl
@[simp] theorem State.setDom_pins : (s.setDom d v).pins = s.pins := by unfold State.setDom; rfl
@[simp] theorem State.setDom_cfg : (s.setDom d v).cfg = s.cfg := by unfold State.setDom; rfl
@[simp] theorem State.setDom_mem : (s.setDom d v).mem = s.mem := by unfold State.setDom; rfl
@[simp] theorem State.setDom_fresh : (s.setDom d v).fresh = s.fresh := by unfold State.setDom; rfl
@[simp] theorem State.setDom_out : (s.setDom d v).out = s.out := by unfold State.setDom; rfl
@[simp] theorem State.setDom_bufs : (s.setDom d v).bufs = s.bufs := by unfold State.setDom; rfl
@[simp] theorem State.setDom_nextBuf : (s.setDom d v).nextBuf = s.nextBuf := by unfold State.setDom; rfl
@[simp] theorem State.setDom_fifos : (s.setDom d v).fifos = s.fifos := by unfold State.setDom; rfl
@[simp] theorem State.setDom_seqs : (s.setDom d v).seqs = s.seqs := by unfold State.setDom; rfl
@[simp] theorem State.setDom_hdrs : (s.setDom d v).hdrs = s.hdrs := by unfold State.setDom; rfl
@[simp] theorem State.setDom_links : (s.setDom d v).links = s.links := by unfold State.setDom; rfl
@[simp] theorem State.setDom_landW : (s.setDom d v).landW = s.landW := by unfold State.setDom; rfl
@[simp] theorem State.setDom_held : (s.setDom d v).held = s.held := by unfold State.setDom; rfl
@[simp] theorem State.setDom_rules : (s.setDom d v).rules = s.rules := by unfold State.setDom; rfl
@[simp] theorem State.setDom_clsSt : (s.setDom d v).clsSt = s.clsSt := by unfold State.setDom; rfl
@[simp] theorem State.setDom_asets : (s.setDom d v).asets = s.asets := by unfold State.setDom; rfl
@[simp] theorem State.setDom_tpls : (s.setDom d v).tpls = s.tpls := by unfold State.setDom; rfl
@[simp] theorem State.setDom_cnts : (s.setDom d v).cnts = s.cnts := by unfold State.setDom; rfl
@[simp] theorem State.setDom_sampling : (s.setDom d v).sampling = s.sampling := by unfold State.setDom; rfl
@[simp] theorem State.setDom_ipId : (s.setDom d v).ipId = s.ipId := by unfold State.setDom; rfl
@[simp] theorem State.setDom_greSeq : (s.setDom d v).greSeq = s.greSeq := by unfold State.setDom; rfl
@[simp] theorem State.setDom_nodes : (s.setDom d v).nodes = s.nodes := by unfold State.setDom; rfl
@[simp] theorem State.setDom_queues : (s.setDom d v).queues = s.queues := by unfold State.setDom; rfl
@[simp] theorem State.setDom_outlets : (s.setDom d v).outlets = s.outlets := by unfold State.setDom; rfl
@[simp] theorem State.setDom_sel : (s.setDom d v).sel = s.sel := by unfold State.setDom; rfl
@[simp] theorem State.setDom_gates : (s.setDom d v).gates = s.gates := by unfold State.setDom; rfl
@[simp] theorem State.setDom_plcrs : (s.setDom d v).plcrs = s.plcrs := by unfold State.setDom; rfl
@[simp] theorem State.setDom_apls : (s.setDom d v).apls = s.apls := by unfold State.setDom; rfl
@[simp] theorem State.setDom_aplReads : (s.setDom d v).aplReads = s.aplReads := by unfold State.setDom; rfl
@[simp] theorem State.setDom_winReqs : (s.setDom d v).winReqs = s.winReqs := by unfold State.setDom; rfl
@[simp] theorem State.setDom_eps : (s.setDom d v).eps = s.eps := by unfold State.setDom; rfl
@[simp] theorem State.setDom_hwait : (s.setDom d v).hwait = s.hwait := by unfold State.setDom; rfl
@[simp] theorem State.setDom_arrived : (s.setDom d v).arrived = s.arrived := by unfold State.setDom; rfl
@[simp] theorem State.setDom_hreads : (s.setDom d v).hreads = s.hreads := by unfold State.setDom; rfl
@[simp] theorem State.setDom_bothFull : (s.setDom d v).bothFull = s.bothFull := by unfold State.setDom; rfl
@[simp] theorem State.setDom_binds : (s.setDom d v).binds = s.binds := by unfold State.setDom; rfl
@[simp] theorem State.setDom_wrings : (s.setDom d v).wrings = s.wrings := by unfold State.setDom; rfl
@[simp] theorem State.setDom_crings : (s.setDom d v).crings = s.crings := by unfold State.setDom; rfl
@[simp] theorem State.setDom_txs : (s.setDom d v).txs = s.txs := by unfold State.setDom; rfl
@[simp] theorem State.setDom_txNext : (s.setDom d v).txNext = s.txNext := by unfold State.setDom; rfl
@[simp] theorem State.setDom_cqes : (s.setDom d v).cqes = s.cqes := by unfold State.setDom; rfl
@[simp] theorem State.setDom_near : (s.setDom d v).near = s.near := by unfold State.setDom; rfl
@[simp] theorem State.setDom_ovf : (s.setDom d v).ovf = s.ovf := by unfold State.setDom; rfl
@[simp] theorem State.setDom_learns : (s.setDom d v).learns = s.learns := by unfold State.setDom; rfl
@[simp] theorem State.setDom_tblSt : (s.setDom d v).tblSt = s.tblSt := by unfold State.setDom; rfl
@[simp] theorem State.setDom_ageDue : (s.setDom d v).ageDue = s.ageDue := by unfold State.setDom; rfl
@[simp] theorem State.setDom_ctxs : (s.setDom d v).ctxs = s.ctxs := by unfold State.setDom; rfl
@[simp] theorem State.setDom_cuEvts : (s.setDom d v).cuEvts = s.cuEvts := by unfold State.setDom; rfl
@[simp] theorem State.setDom_thrs : (s.setDom d v).thrs = s.thrs := by unfold State.setDom; rfl
@[simp] theorem State.setDom_chans : (s.setDom d v).chans = s.chans := by unfold State.setDom; rfl
@[simp] theorem State.setDom_ureqs : (s.setDom d v).ureqs = s.ureqs := by unfold State.setDom; rfl
@[simp] theorem State.setDom_ureps : (s.setDom d v).ureps = s.ureps := by unfold State.setDom; rfl
@[simp] theorem State.setDom_inq : (s.setDom d v).inq = s.inq := by unfold State.setDom; rfl
@[simp] theorem State.setDom_checks : (s.setDom d v).checks = s.checks := by unfold State.setDom; rfl
@[simp] theorem State.setDom_dbgs : (s.setDom d v).dbgs = s.dbgs := by unfold State.setDom; rfl
@[simp] theorem State.setDom_still : (s.setDom d v).still = s.still := by unfold State.setDom; rfl
@[simp] theorem State.setDom_csBad : (s.setDom d v).csBad = s.csBad := by unfold State.setDom; rfl
@[simp] theorem State.setDom_csStage : (s.setDom d v).csStage = s.csStage := by unfold State.setDom; rfl
@[simp] theorem State.setDom_dmas : (s.setDom d v).dmas = s.dmas := by unfold State.setDom; rfl
@[simp] theorem State.setDom_tick : (s.setDom d v).tick = s.tick := by unfold State.setDom; rfl
@[simp] theorem State.setDom_arbs : (s.setDom d v).arbs = s.arbs := by unfold State.setDom; rfl
@[simp] theorem State.setDom_lastRing : (s.setDom d v).lastRing = s.lastRing := by unfold State.setDom; rfl
@[simp] theorem State.setDom_nvs : (s.setDom d v).nvs = s.nvs := by unfold State.setDom; rfl
end

section
variable (s : State) (e f off : Nat) (v : Reg)
@[simp] theorem State.cfgPut_pending : (s.cfgPut e f off v).pending = s.pending := by unfold State.cfgPut; rfl
@[simp] theorem State.cfgPut_clk : (s.cfgPut e f off v).clk = s.clk := by unfold State.cfgPut; rfl
@[simp] theorem State.cfgPut_ptime : (s.cfgPut e f off v).ptime = s.ptime := by unfold State.cfgPut; rfl
@[simp] theorem State.cfgPut_ptFrac : (s.cfgPut e f off v).ptFrac = s.ptFrac := by unfold State.cfgPut; rfl
@[simp] theorem State.cfgPut_regs : (s.cfgPut e f off v).regs = s.regs := by unfold State.cfgPut; rfl
@[simp] theorem State.cfgPut_fast : (s.cfgPut e f off v).fast = s.fast := by unfold State.cfgPut; rfl
@[simp] theorem State.cfgPut_ferry : (s.cfgPut e f off v).ferry = s.ferry := by unfold State.cfgPut; rfl
@[simp] theorem State.cfgPut_ctrs : (s.cfgPut e f off v).ctrs = s.ctrs := by unfold State.cfgPut; rfl
@[simp] theorem State.cfgPut_drw : (s.cfgPut e f off v).drw = s.drw := by unfold State.cfgPut; rfl
@[simp] theorem State.cfgPut_resets : (s.cfgPut e f off v).resets = s.resets := by unfold State.cfgPut; rfl
@[simp] theorem State.cfgPut_fences : (s.cfgPut e f off v).fences = s.fences := by unfold State.cfgPut; rfl
@[simp] theorem State.cfgPut_doms : (s.cfgPut e f off v).doms = s.doms := by unfold State.cfgPut; rfl
@[simp] theorem State.cfgPut_barriers : (s.cfgPut e f off v).barriers = s.barriers := by unfold State.cfgPut; rfl
@[simp] theorem State.cfgPut_reports : (s.cfgPut e f off v).reports = s.reports := by unfold State.cfgPut; rfl
@[simp] theorem State.cfgPut_colls : (s.cfgPut e f off v).colls = s.colls := by unfold State.cfgPut; rfl
@[simp] theorem State.cfgPut_log : (s.cfgPut e f off v).log = s.log := by unfold State.cfgPut; rfl
@[simp] theorem State.cfgPut_fuses : (s.cfgPut e f off v).fuses = s.fuses := by unfold State.cfgPut; rfl
@[simp] theorem State.cfgPut_sec : (s.cfgPut e f off v).sec = s.sec := by unfold State.cfgPut; rfl
@[simp] theorem State.cfgPut_omc : (s.cfgPut e f off v).omc = s.omc := by unfold State.cfgPut; rfl
@[simp] theorem State.cfgPut_jtag : (s.cfgPut e f off v).jtag = s.jtag := by unfold State.cfgPut; rfl
@[simp] theorem State.cfgPut_pins : (s.cfgPut e f off v).pins = s.pins := by unfold State.cfgPut; rfl
@[simp] theorem State.cfgPut_mem : (s.cfgPut e f off v).mem = s.mem := by unfold State.cfgPut; rfl
@[simp] theorem State.cfgPut_fresh : (s.cfgPut e f off v).fresh = s.fresh := by unfold State.cfgPut; rfl
@[simp] theorem State.cfgPut_out : (s.cfgPut e f off v).out = s.out := by unfold State.cfgPut; rfl
@[simp] theorem State.cfgPut_bufs : (s.cfgPut e f off v).bufs = s.bufs := by unfold State.cfgPut; rfl
@[simp] theorem State.cfgPut_nextBuf : (s.cfgPut e f off v).nextBuf = s.nextBuf := by unfold State.cfgPut; rfl
@[simp] theorem State.cfgPut_fifos : (s.cfgPut e f off v).fifos = s.fifos := by unfold State.cfgPut; rfl
@[simp] theorem State.cfgPut_seqs : (s.cfgPut e f off v).seqs = s.seqs := by unfold State.cfgPut; rfl
@[simp] theorem State.cfgPut_hdrs : (s.cfgPut e f off v).hdrs = s.hdrs := by unfold State.cfgPut; rfl
@[simp] theorem State.cfgPut_links : (s.cfgPut e f off v).links = s.links := by unfold State.cfgPut; rfl
@[simp] theorem State.cfgPut_landW : (s.cfgPut e f off v).landW = s.landW := by unfold State.cfgPut; rfl
@[simp] theorem State.cfgPut_held : (s.cfgPut e f off v).held = s.held := by unfold State.cfgPut; rfl
@[simp] theorem State.cfgPut_rules : (s.cfgPut e f off v).rules = s.rules := by unfold State.cfgPut; rfl
@[simp] theorem State.cfgPut_clsSt : (s.cfgPut e f off v).clsSt = s.clsSt := by unfold State.cfgPut; rfl
@[simp] theorem State.cfgPut_asets : (s.cfgPut e f off v).asets = s.asets := by unfold State.cfgPut; rfl
@[simp] theorem State.cfgPut_tpls : (s.cfgPut e f off v).tpls = s.tpls := by unfold State.cfgPut; rfl
@[simp] theorem State.cfgPut_cnts : (s.cfgPut e f off v).cnts = s.cnts := by unfold State.cfgPut; rfl
@[simp] theorem State.cfgPut_sampling : (s.cfgPut e f off v).sampling = s.sampling := by unfold State.cfgPut; rfl
@[simp] theorem State.cfgPut_ipId : (s.cfgPut e f off v).ipId = s.ipId := by unfold State.cfgPut; rfl
@[simp] theorem State.cfgPut_greSeq : (s.cfgPut e f off v).greSeq = s.greSeq := by unfold State.cfgPut; rfl
@[simp] theorem State.cfgPut_nodes : (s.cfgPut e f off v).nodes = s.nodes := by unfold State.cfgPut; rfl
@[simp] theorem State.cfgPut_queues : (s.cfgPut e f off v).queues = s.queues := by unfold State.cfgPut; rfl
@[simp] theorem State.cfgPut_outlets : (s.cfgPut e f off v).outlets = s.outlets := by unfold State.cfgPut; rfl
@[simp] theorem State.cfgPut_sel : (s.cfgPut e f off v).sel = s.sel := by unfold State.cfgPut; rfl
@[simp] theorem State.cfgPut_gates : (s.cfgPut e f off v).gates = s.gates := by unfold State.cfgPut; rfl
@[simp] theorem State.cfgPut_plcrs : (s.cfgPut e f off v).plcrs = s.plcrs := by unfold State.cfgPut; rfl
@[simp] theorem State.cfgPut_apls : (s.cfgPut e f off v).apls = s.apls := by unfold State.cfgPut; rfl
@[simp] theorem State.cfgPut_aplReads : (s.cfgPut e f off v).aplReads = s.aplReads := by unfold State.cfgPut; rfl
@[simp] theorem State.cfgPut_winReqs : (s.cfgPut e f off v).winReqs = s.winReqs := by unfold State.cfgPut; rfl
@[simp] theorem State.cfgPut_eps : (s.cfgPut e f off v).eps = s.eps := by unfold State.cfgPut; rfl
@[simp] theorem State.cfgPut_hwait : (s.cfgPut e f off v).hwait = s.hwait := by unfold State.cfgPut; rfl
@[simp] theorem State.cfgPut_arrived : (s.cfgPut e f off v).arrived = s.arrived := by unfold State.cfgPut; rfl
@[simp] theorem State.cfgPut_hreads : (s.cfgPut e f off v).hreads = s.hreads := by unfold State.cfgPut; rfl
@[simp] theorem State.cfgPut_bothFull : (s.cfgPut e f off v).bothFull = s.bothFull := by unfold State.cfgPut; rfl
@[simp] theorem State.cfgPut_binds : (s.cfgPut e f off v).binds = s.binds := by unfold State.cfgPut; rfl
@[simp] theorem State.cfgPut_wrings : (s.cfgPut e f off v).wrings = s.wrings := by unfold State.cfgPut; rfl
@[simp] theorem State.cfgPut_crings : (s.cfgPut e f off v).crings = s.crings := by unfold State.cfgPut; rfl
@[simp] theorem State.cfgPut_txs : (s.cfgPut e f off v).txs = s.txs := by unfold State.cfgPut; rfl
@[simp] theorem State.cfgPut_txNext : (s.cfgPut e f off v).txNext = s.txNext := by unfold State.cfgPut; rfl
@[simp] theorem State.cfgPut_cqes : (s.cfgPut e f off v).cqes = s.cqes := by unfold State.cfgPut; rfl
@[simp] theorem State.cfgPut_near : (s.cfgPut e f off v).near = s.near := by unfold State.cfgPut; rfl
@[simp] theorem State.cfgPut_ovf : (s.cfgPut e f off v).ovf = s.ovf := by unfold State.cfgPut; rfl
@[simp] theorem State.cfgPut_learns : (s.cfgPut e f off v).learns = s.learns := by unfold State.cfgPut; rfl
@[simp] theorem State.cfgPut_tblSt : (s.cfgPut e f off v).tblSt = s.tblSt := by unfold State.cfgPut; rfl
@[simp] theorem State.cfgPut_ageDue : (s.cfgPut e f off v).ageDue = s.ageDue := by unfold State.cfgPut; rfl
@[simp] theorem State.cfgPut_ctxs : (s.cfgPut e f off v).ctxs = s.ctxs := by unfold State.cfgPut; rfl
@[simp] theorem State.cfgPut_cuEvts : (s.cfgPut e f off v).cuEvts = s.cuEvts := by unfold State.cfgPut; rfl
@[simp] theorem State.cfgPut_thrs : (s.cfgPut e f off v).thrs = s.thrs := by unfold State.cfgPut; rfl
@[simp] theorem State.cfgPut_chans : (s.cfgPut e f off v).chans = s.chans := by unfold State.cfgPut; rfl
@[simp] theorem State.cfgPut_ureqs : (s.cfgPut e f off v).ureqs = s.ureqs := by unfold State.cfgPut; rfl
@[simp] theorem State.cfgPut_ureps : (s.cfgPut e f off v).ureps = s.ureps := by unfold State.cfgPut; rfl
@[simp] theorem State.cfgPut_inq : (s.cfgPut e f off v).inq = s.inq := by unfold State.cfgPut; rfl
@[simp] theorem State.cfgPut_checks : (s.cfgPut e f off v).checks = s.checks := by unfold State.cfgPut; rfl
@[simp] theorem State.cfgPut_dbgs : (s.cfgPut e f off v).dbgs = s.dbgs := by unfold State.cfgPut; rfl
@[simp] theorem State.cfgPut_still : (s.cfgPut e f off v).still = s.still := by unfold State.cfgPut; rfl
@[simp] theorem State.cfgPut_csBad : (s.cfgPut e f off v).csBad = s.csBad := by unfold State.cfgPut; rfl
@[simp] theorem State.cfgPut_csStage : (s.cfgPut e f off v).csStage = s.csStage := by unfold State.cfgPut; rfl
@[simp] theorem State.cfgPut_dmas : (s.cfgPut e f off v).dmas = s.dmas := by unfold State.cfgPut; rfl
@[simp] theorem State.cfgPut_tick : (s.cfgPut e f off v).tick = s.tick := by unfold State.cfgPut; rfl
@[simp] theorem State.cfgPut_arbs : (s.cfgPut e f off v).arbs = s.arbs := by unfold State.cfgPut; rfl
@[simp] theorem State.cfgPut_lastRing : (s.cfgPut e f off v).lastRing = s.lastRing := by unfold State.cfgPut; rfl
@[simp] theorem State.cfgPut_nvs : (s.cfgPut e f off v).nvs = s.nvs := by unfold State.cfgPut; rfl
end

section
variable (s : State) (c n : Nat) (x : Chan)
@[simp] theorem State.setChan_pending : (s.setChan c n x).pending = s.pending := by unfold State.setChan; rfl
@[simp] theorem State.setChan_clk : (s.setChan c n x).clk = s.clk := by unfold State.setChan; rfl
@[simp] theorem State.setChan_ptime : (s.setChan c n x).ptime = s.ptime := by unfold State.setChan; rfl
@[simp] theorem State.setChan_ptFrac : (s.setChan c n x).ptFrac = s.ptFrac := by unfold State.setChan; rfl
@[simp] theorem State.setChan_regs : (s.setChan c n x).regs = s.regs := by unfold State.setChan; rfl
@[simp] theorem State.setChan_fast : (s.setChan c n x).fast = s.fast := by unfold State.setChan; rfl
@[simp] theorem State.setChan_ferry : (s.setChan c n x).ferry = s.ferry := by unfold State.setChan; rfl
@[simp] theorem State.setChan_ctrs : (s.setChan c n x).ctrs = s.ctrs := by unfold State.setChan; rfl
@[simp] theorem State.setChan_drw : (s.setChan c n x).drw = s.drw := by unfold State.setChan; rfl
@[simp] theorem State.setChan_resets : (s.setChan c n x).resets = s.resets := by unfold State.setChan; rfl
@[simp] theorem State.setChan_fences : (s.setChan c n x).fences = s.fences := by unfold State.setChan; rfl
@[simp] theorem State.setChan_doms : (s.setChan c n x).doms = s.doms := by unfold State.setChan; rfl
@[simp] theorem State.setChan_barriers : (s.setChan c n x).barriers = s.barriers := by unfold State.setChan; rfl
@[simp] theorem State.setChan_reports : (s.setChan c n x).reports = s.reports := by unfold State.setChan; rfl
@[simp] theorem State.setChan_colls : (s.setChan c n x).colls = s.colls := by unfold State.setChan; rfl
@[simp] theorem State.setChan_log : (s.setChan c n x).log = s.log := by unfold State.setChan; rfl
@[simp] theorem State.setChan_fuses : (s.setChan c n x).fuses = s.fuses := by unfold State.setChan; rfl
@[simp] theorem State.setChan_sec : (s.setChan c n x).sec = s.sec := by unfold State.setChan; rfl
@[simp] theorem State.setChan_omc : (s.setChan c n x).omc = s.omc := by unfold State.setChan; rfl
@[simp] theorem State.setChan_jtag : (s.setChan c n x).jtag = s.jtag := by unfold State.setChan; rfl
@[simp] theorem State.setChan_pins : (s.setChan c n x).pins = s.pins := by unfold State.setChan; rfl
@[simp] theorem State.setChan_cfg : (s.setChan c n x).cfg = s.cfg := by unfold State.setChan; rfl
@[simp] theorem State.setChan_mem : (s.setChan c n x).mem = s.mem := by unfold State.setChan; rfl
@[simp] theorem State.setChan_fresh : (s.setChan c n x).fresh = s.fresh := by unfold State.setChan; rfl
@[simp] theorem State.setChan_out : (s.setChan c n x).out = s.out := by unfold State.setChan; rfl
@[simp] theorem State.setChan_bufs : (s.setChan c n x).bufs = s.bufs := by unfold State.setChan; rfl
@[simp] theorem State.setChan_nextBuf : (s.setChan c n x).nextBuf = s.nextBuf := by unfold State.setChan; rfl
@[simp] theorem State.setChan_fifos : (s.setChan c n x).fifos = s.fifos := by unfold State.setChan; rfl
@[simp] theorem State.setChan_seqs : (s.setChan c n x).seqs = s.seqs := by unfold State.setChan; rfl
@[simp] theorem State.setChan_hdrs : (s.setChan c n x).hdrs = s.hdrs := by unfold State.setChan; rfl
@[simp] theorem State.setChan_links : (s.setChan c n x).links = s.links := by unfold State.setChan; rfl
@[simp] theorem State.setChan_landW : (s.setChan c n x).landW = s.landW := by unfold State.setChan; rfl
@[simp] theorem State.setChan_held : (s.setChan c n x).held = s.held := by unfold State.setChan; rfl
@[simp] theorem State.setChan_rules : (s.setChan c n x).rules = s.rules := by unfold State.setChan; rfl
@[simp] theorem State.setChan_clsSt : (s.setChan c n x).clsSt = s.clsSt := by unfold State.setChan; rfl
@[simp] theorem State.setChan_asets : (s.setChan c n x).asets = s.asets := by unfold State.setChan; rfl
@[simp] theorem State.setChan_tpls : (s.setChan c n x).tpls = s.tpls := by unfold State.setChan; rfl
@[simp] theorem State.setChan_cnts : (s.setChan c n x).cnts = s.cnts := by unfold State.setChan; rfl
@[simp] theorem State.setChan_sampling : (s.setChan c n x).sampling = s.sampling := by unfold State.setChan; rfl
@[simp] theorem State.setChan_ipId : (s.setChan c n x).ipId = s.ipId := by unfold State.setChan; rfl
@[simp] theorem State.setChan_greSeq : (s.setChan c n x).greSeq = s.greSeq := by unfold State.setChan; rfl
@[simp] theorem State.setChan_nodes : (s.setChan c n x).nodes = s.nodes := by unfold State.setChan; rfl
@[simp] theorem State.setChan_queues : (s.setChan c n x).queues = s.queues := by unfold State.setChan; rfl
@[simp] theorem State.setChan_outlets : (s.setChan c n x).outlets = s.outlets := by unfold State.setChan; rfl
@[simp] theorem State.setChan_sel : (s.setChan c n x).sel = s.sel := by unfold State.setChan; rfl
@[simp] theorem State.setChan_gates : (s.setChan c n x).gates = s.gates := by unfold State.setChan; rfl
@[simp] theorem State.setChan_plcrs : (s.setChan c n x).plcrs = s.plcrs := by unfold State.setChan; rfl
@[simp] theorem State.setChan_apls : (s.setChan c n x).apls = s.apls := by unfold State.setChan; rfl
@[simp] theorem State.setChan_aplReads : (s.setChan c n x).aplReads = s.aplReads := by unfold State.setChan; rfl
@[simp] theorem State.setChan_winReqs : (s.setChan c n x).winReqs = s.winReqs := by unfold State.setChan; rfl
@[simp] theorem State.setChan_eps : (s.setChan c n x).eps = s.eps := by unfold State.setChan; rfl
@[simp] theorem State.setChan_hwait : (s.setChan c n x).hwait = s.hwait := by unfold State.setChan; rfl
@[simp] theorem State.setChan_arrived : (s.setChan c n x).arrived = s.arrived := by unfold State.setChan; rfl
@[simp] theorem State.setChan_hreads : (s.setChan c n x).hreads = s.hreads := by unfold State.setChan; rfl
@[simp] theorem State.setChan_bothFull : (s.setChan c n x).bothFull = s.bothFull := by unfold State.setChan; rfl
@[simp] theorem State.setChan_binds : (s.setChan c n x).binds = s.binds := by unfold State.setChan; rfl
@[simp] theorem State.setChan_wrings : (s.setChan c n x).wrings = s.wrings := by unfold State.setChan; rfl
@[simp] theorem State.setChan_crings : (s.setChan c n x).crings = s.crings := by unfold State.setChan; rfl
@[simp] theorem State.setChan_txs : (s.setChan c n x).txs = s.txs := by unfold State.setChan; rfl
@[simp] theorem State.setChan_txNext : (s.setChan c n x).txNext = s.txNext := by unfold State.setChan; rfl
@[simp] theorem State.setChan_cqes : (s.setChan c n x).cqes = s.cqes := by unfold State.setChan; rfl
@[simp] theorem State.setChan_near : (s.setChan c n x).near = s.near := by unfold State.setChan; rfl
@[simp] theorem State.setChan_ovf : (s.setChan c n x).ovf = s.ovf := by unfold State.setChan; rfl
@[simp] theorem State.setChan_learns : (s.setChan c n x).learns = s.learns := by unfold State.setChan; rfl
@[simp] theorem State.setChan_tblSt : (s.setChan c n x).tblSt = s.tblSt := by unfold State.setChan; rfl
@[simp] theorem State.setChan_ageDue : (s.setChan c n x).ageDue = s.ageDue := by unfold State.setChan; rfl
@[simp] theorem State.setChan_ctxs : (s.setChan c n x).ctxs = s.ctxs := by unfold State.setChan; rfl
@[simp] theorem State.setChan_cuEvts : (s.setChan c n x).cuEvts = s.cuEvts := by unfold State.setChan; rfl
@[simp] theorem State.setChan_thrs : (s.setChan c n x).thrs = s.thrs := by unfold State.setChan; rfl
@[simp] theorem State.setChan_ureqs : (s.setChan c n x).ureqs = s.ureqs := by unfold State.setChan; rfl
@[simp] theorem State.setChan_ureps : (s.setChan c n x).ureps = s.ureps := by unfold State.setChan; rfl
@[simp] theorem State.setChan_inq : (s.setChan c n x).inq = s.inq := by unfold State.setChan; rfl
@[simp] theorem State.setChan_checks : (s.setChan c n x).checks = s.checks := by unfold State.setChan; rfl
@[simp] theorem State.setChan_dbgs : (s.setChan c n x).dbgs = s.dbgs := by unfold State.setChan; rfl
@[simp] theorem State.setChan_still : (s.setChan c n x).still = s.still := by unfold State.setChan; rfl
@[simp] theorem State.setChan_csBad : (s.setChan c n x).csBad = s.csBad := by unfold State.setChan; rfl
@[simp] theorem State.setChan_csStage : (s.setChan c n x).csStage = s.csStage := by unfold State.setChan; rfl
@[simp] theorem State.setChan_dmas : (s.setChan c n x).dmas = s.dmas := by unfold State.setChan; rfl
@[simp] theorem State.setChan_tick : (s.setChan c n x).tick = s.tick := by unfold State.setChan; rfl
@[simp] theorem State.setChan_arbs : (s.setChan c n x).arbs = s.arbs := by unfold State.setChan; rfl
@[simp] theorem State.setChan_lastRing : (s.setChan c n x).lastRing = s.lastRing := by unfold State.setChan; rfl
@[simp] theorem State.setChan_nvs : (s.setChan c n x).nvs = s.nvs := by unfold State.setChan; rfl
end

section
variable (s : State) (c i : Nat) (x : Thread)
@[simp] theorem State.setThr_pending : (s.setThr c i x).pending = s.pending := by unfold State.setThr State.post; rfl
@[simp] theorem State.setThr_clk : (s.setThr c i x).clk = s.clk := by unfold State.setThr State.post; rfl
@[simp] theorem State.setThr_ptime : (s.setThr c i x).ptime = s.ptime := by unfold State.setThr State.post; rfl
@[simp] theorem State.setThr_ptFrac : (s.setThr c i x).ptFrac = s.ptFrac := by unfold State.setThr State.post; rfl
@[simp] theorem State.setThr_fast : (s.setThr c i x).fast = s.fast := by unfold State.setThr State.post; rfl
@[simp] theorem State.setThr_ferry : (s.setThr c i x).ferry = s.ferry := by unfold State.setThr State.post; rfl
@[simp] theorem State.setThr_ctrs : (s.setThr c i x).ctrs = s.ctrs := by unfold State.setThr State.post; rfl
@[simp] theorem State.setThr_drw : (s.setThr c i x).drw = s.drw := by unfold State.setThr State.post; rfl
@[simp] theorem State.setThr_resets : (s.setThr c i x).resets = s.resets := by unfold State.setThr State.post; rfl
@[simp] theorem State.setThr_fences : (s.setThr c i x).fences = s.fences := by unfold State.setThr State.post; rfl
@[simp] theorem State.setThr_doms : (s.setThr c i x).doms = s.doms := by unfold State.setThr State.post; rfl
@[simp] theorem State.setThr_barriers : (s.setThr c i x).barriers = s.barriers := by unfold State.setThr State.post; rfl
@[simp] theorem State.setThr_reports : (s.setThr c i x).reports = s.reports := by unfold State.setThr State.post; rfl
@[simp] theorem State.setThr_colls : (s.setThr c i x).colls = s.colls := by unfold State.setThr State.post; rfl
@[simp] theorem State.setThr_log : (s.setThr c i x).log = s.log := by unfold State.setThr State.post; rfl
@[simp] theorem State.setThr_fuses : (s.setThr c i x).fuses = s.fuses := by unfold State.setThr State.post; rfl
@[simp] theorem State.setThr_sec : (s.setThr c i x).sec = s.sec := by unfold State.setThr State.post; rfl
@[simp] theorem State.setThr_omc : (s.setThr c i x).omc = s.omc := by unfold State.setThr State.post; rfl
@[simp] theorem State.setThr_jtag : (s.setThr c i x).jtag = s.jtag := by unfold State.setThr State.post; rfl
@[simp] theorem State.setThr_pins : (s.setThr c i x).pins = s.pins := by unfold State.setThr State.post; rfl
@[simp] theorem State.setThr_cfg : (s.setThr c i x).cfg = s.cfg := by unfold State.setThr State.post; rfl
@[simp] theorem State.setThr_mem : (s.setThr c i x).mem = s.mem := by unfold State.setThr State.post; rfl
@[simp] theorem State.setThr_fresh : (s.setThr c i x).fresh = s.fresh := by unfold State.setThr State.post; rfl
@[simp] theorem State.setThr_out : (s.setThr c i x).out = s.out := by unfold State.setThr State.post; rfl
@[simp] theorem State.setThr_bufs : (s.setThr c i x).bufs = s.bufs := by unfold State.setThr State.post; rfl
@[simp] theorem State.setThr_nextBuf : (s.setThr c i x).nextBuf = s.nextBuf := by unfold State.setThr State.post; rfl
@[simp] theorem State.setThr_fifos : (s.setThr c i x).fifos = s.fifos := by unfold State.setThr State.post; rfl
@[simp] theorem State.setThr_seqs : (s.setThr c i x).seqs = s.seqs := by unfold State.setThr State.post; rfl
@[simp] theorem State.setThr_hdrs : (s.setThr c i x).hdrs = s.hdrs := by unfold State.setThr State.post; rfl
@[simp] theorem State.setThr_links : (s.setThr c i x).links = s.links := by unfold State.setThr State.post; rfl
@[simp] theorem State.setThr_landW : (s.setThr c i x).landW = s.landW := by unfold State.setThr State.post; rfl
@[simp] theorem State.setThr_held : (s.setThr c i x).held = s.held := by unfold State.setThr State.post; rfl
@[simp] theorem State.setThr_rules : (s.setThr c i x).rules = s.rules := by unfold State.setThr State.post; rfl
@[simp] theorem State.setThr_clsSt : (s.setThr c i x).clsSt = s.clsSt := by unfold State.setThr State.post; rfl
@[simp] theorem State.setThr_asets : (s.setThr c i x).asets = s.asets := by unfold State.setThr State.post; rfl
@[simp] theorem State.setThr_tpls : (s.setThr c i x).tpls = s.tpls := by unfold State.setThr State.post; rfl
@[simp] theorem State.setThr_cnts : (s.setThr c i x).cnts = s.cnts := by unfold State.setThr State.post; rfl
@[simp] theorem State.setThr_sampling : (s.setThr c i x).sampling = s.sampling := by unfold State.setThr State.post; rfl
@[simp] theorem State.setThr_ipId : (s.setThr c i x).ipId = s.ipId := by unfold State.setThr State.post; rfl
@[simp] theorem State.setThr_greSeq : (s.setThr c i x).greSeq = s.greSeq := by unfold State.setThr State.post; rfl
@[simp] theorem State.setThr_nodes : (s.setThr c i x).nodes = s.nodes := by unfold State.setThr State.post; rfl
@[simp] theorem State.setThr_queues : (s.setThr c i x).queues = s.queues := by unfold State.setThr State.post; rfl
@[simp] theorem State.setThr_outlets : (s.setThr c i x).outlets = s.outlets := by unfold State.setThr State.post; rfl
@[simp] theorem State.setThr_sel : (s.setThr c i x).sel = s.sel := by unfold State.setThr State.post; rfl
@[simp] theorem State.setThr_gates : (s.setThr c i x).gates = s.gates := by unfold State.setThr State.post; rfl
@[simp] theorem State.setThr_plcrs : (s.setThr c i x).plcrs = s.plcrs := by unfold State.setThr State.post; rfl
@[simp] theorem State.setThr_apls : (s.setThr c i x).apls = s.apls := by unfold State.setThr State.post; rfl
@[simp] theorem State.setThr_aplReads : (s.setThr c i x).aplReads = s.aplReads := by unfold State.setThr State.post; rfl
@[simp] theorem State.setThr_winReqs : (s.setThr c i x).winReqs = s.winReqs := by unfold State.setThr State.post; rfl
@[simp] theorem State.setThr_eps : (s.setThr c i x).eps = s.eps := by unfold State.setThr State.post; rfl
@[simp] theorem State.setThr_hwait : (s.setThr c i x).hwait = s.hwait := by unfold State.setThr State.post; rfl
@[simp] theorem State.setThr_arrived : (s.setThr c i x).arrived = s.arrived := by unfold State.setThr State.post; rfl
@[simp] theorem State.setThr_hreads : (s.setThr c i x).hreads = s.hreads := by unfold State.setThr State.post; rfl
@[simp] theorem State.setThr_bothFull : (s.setThr c i x).bothFull = s.bothFull := by unfold State.setThr State.post; rfl
@[simp] theorem State.setThr_binds : (s.setThr c i x).binds = s.binds := by unfold State.setThr State.post; rfl
@[simp] theorem State.setThr_wrings : (s.setThr c i x).wrings = s.wrings := by unfold State.setThr State.post; rfl
@[simp] theorem State.setThr_crings : (s.setThr c i x).crings = s.crings := by unfold State.setThr State.post; rfl
@[simp] theorem State.setThr_txs : (s.setThr c i x).txs = s.txs := by unfold State.setThr State.post; rfl
@[simp] theorem State.setThr_txNext : (s.setThr c i x).txNext = s.txNext := by unfold State.setThr State.post; rfl
@[simp] theorem State.setThr_cqes : (s.setThr c i x).cqes = s.cqes := by unfold State.setThr State.post; rfl
@[simp] theorem State.setThr_near : (s.setThr c i x).near = s.near := by unfold State.setThr State.post; rfl
@[simp] theorem State.setThr_ovf : (s.setThr c i x).ovf = s.ovf := by unfold State.setThr State.post; rfl
@[simp] theorem State.setThr_learns : (s.setThr c i x).learns = s.learns := by unfold State.setThr State.post; rfl
@[simp] theorem State.setThr_tblSt : (s.setThr c i x).tblSt = s.tblSt := by unfold State.setThr State.post; rfl
@[simp] theorem State.setThr_ageDue : (s.setThr c i x).ageDue = s.ageDue := by unfold State.setThr State.post; rfl
@[simp] theorem State.setThr_ctxs : (s.setThr c i x).ctxs = s.ctxs := by unfold State.setThr State.post; rfl
@[simp] theorem State.setThr_cuEvts : (s.setThr c i x).cuEvts = s.cuEvts := by unfold State.setThr State.post; rfl
@[simp] theorem State.setThr_chans : (s.setThr c i x).chans = s.chans := by unfold State.setThr State.post; rfl
@[simp] theorem State.setThr_ureqs : (s.setThr c i x).ureqs = s.ureqs := by unfold State.setThr State.post; rfl
@[simp] theorem State.setThr_ureps : (s.setThr c i x).ureps = s.ureps := by unfold State.setThr State.post; rfl
@[simp] theorem State.setThr_inq : (s.setThr c i x).inq = s.inq := by unfold State.setThr State.post; rfl
@[simp] theorem State.setThr_checks : (s.setThr c i x).checks = s.checks := by unfold State.setThr State.post; rfl
@[simp] theorem State.setThr_dbgs : (s.setThr c i x).dbgs = s.dbgs := by unfold State.setThr State.post; rfl
@[simp] theorem State.setThr_still : (s.setThr c i x).still = s.still := by unfold State.setThr State.post; rfl
@[simp] theorem State.setThr_csBad : (s.setThr c i x).csBad = s.csBad := by unfold State.setThr State.post; rfl
@[simp] theorem State.setThr_csStage : (s.setThr c i x).csStage = s.csStage := by unfold State.setThr State.post; rfl
@[simp] theorem State.setThr_dmas : (s.setThr c i x).dmas = s.dmas := by unfold State.setThr State.post; rfl
@[simp] theorem State.setThr_tick : (s.setThr c i x).tick = s.tick := by unfold State.setThr State.post; rfl
@[simp] theorem State.setThr_arbs : (s.setThr c i x).arbs = s.arbs := by unfold State.setThr State.post; rfl
@[simp] theorem State.setThr_lastRing : (s.setThr c i x).lastRing = s.lastRing := by unfold State.setThr State.post; rfl
@[simp] theorem State.setThr_nvs : (s.setThr c i x).nvs = s.nvs := by unfold State.setThr State.post; rfl
end

section
variable (s : State) (r : Ureq) (ws : List Word) (err : Bool)
@[simp] theorem State.reply_pending : (s.reply r ws err).pending = s.pending := by unfold State.reply; rfl
@[simp] theorem State.reply_clk : (s.reply r ws err).clk = s.clk := by unfold State.reply; rfl
@[simp] theorem State.reply_ptime : (s.reply r ws err).ptime = s.ptime := by unfold State.reply; rfl
@[simp] theorem State.reply_ptFrac : (s.reply r ws err).ptFrac = s.ptFrac := by unfold State.reply; rfl
@[simp] theorem State.reply_regs : (s.reply r ws err).regs = s.regs := by unfold State.reply; rfl
@[simp] theorem State.reply_fast : (s.reply r ws err).fast = s.fast := by unfold State.reply; rfl
@[simp] theorem State.reply_ferry : (s.reply r ws err).ferry = s.ferry := by unfold State.reply; rfl
@[simp] theorem State.reply_ctrs : (s.reply r ws err).ctrs = s.ctrs := by unfold State.reply; rfl
@[simp] theorem State.reply_drw : (s.reply r ws err).drw = s.drw := by unfold State.reply; rfl
@[simp] theorem State.reply_resets : (s.reply r ws err).resets = s.resets := by unfold State.reply; rfl
@[simp] theorem State.reply_fences : (s.reply r ws err).fences = s.fences := by unfold State.reply; rfl
@[simp] theorem State.reply_doms : (s.reply r ws err).doms = s.doms := by unfold State.reply; rfl
@[simp] theorem State.reply_barriers : (s.reply r ws err).barriers = s.barriers := by unfold State.reply; rfl
@[simp] theorem State.reply_reports : (s.reply r ws err).reports = s.reports := by unfold State.reply; rfl
@[simp] theorem State.reply_colls : (s.reply r ws err).colls = s.colls := by unfold State.reply; rfl
@[simp] theorem State.reply_log : (s.reply r ws err).log = s.log := by unfold State.reply; rfl
@[simp] theorem State.reply_fuses : (s.reply r ws err).fuses = s.fuses := by unfold State.reply; rfl
@[simp] theorem State.reply_sec : (s.reply r ws err).sec = s.sec := by unfold State.reply; rfl
@[simp] theorem State.reply_omc : (s.reply r ws err).omc = s.omc := by unfold State.reply; rfl
@[simp] theorem State.reply_jtag : (s.reply r ws err).jtag = s.jtag := by unfold State.reply; rfl
@[simp] theorem State.reply_pins : (s.reply r ws err).pins = s.pins := by unfold State.reply; rfl
@[simp] theorem State.reply_cfg : (s.reply r ws err).cfg = s.cfg := by unfold State.reply; rfl
@[simp] theorem State.reply_mem : (s.reply r ws err).mem = s.mem := by unfold State.reply; rfl
@[simp] theorem State.reply_fresh : (s.reply r ws err).fresh = s.fresh := by unfold State.reply; rfl
@[simp] theorem State.reply_out : (s.reply r ws err).out = s.out := by unfold State.reply; rfl
@[simp] theorem State.reply_bufs : (s.reply r ws err).bufs = s.bufs := by unfold State.reply; rfl
@[simp] theorem State.reply_nextBuf : (s.reply r ws err).nextBuf = s.nextBuf := by unfold State.reply; rfl
@[simp] theorem State.reply_fifos : (s.reply r ws err).fifos = s.fifos := by unfold State.reply; rfl
@[simp] theorem State.reply_seqs : (s.reply r ws err).seqs = s.seqs := by unfold State.reply; rfl
@[simp] theorem State.reply_hdrs : (s.reply r ws err).hdrs = s.hdrs := by unfold State.reply; rfl
@[simp] theorem State.reply_links : (s.reply r ws err).links = s.links := by unfold State.reply; rfl
@[simp] theorem State.reply_landW : (s.reply r ws err).landW = s.landW := by unfold State.reply; rfl
@[simp] theorem State.reply_held : (s.reply r ws err).held = s.held := by unfold State.reply; rfl
@[simp] theorem State.reply_rules : (s.reply r ws err).rules = s.rules := by unfold State.reply; rfl
@[simp] theorem State.reply_clsSt : (s.reply r ws err).clsSt = s.clsSt := by unfold State.reply; rfl
@[simp] theorem State.reply_asets : (s.reply r ws err).asets = s.asets := by unfold State.reply; rfl
@[simp] theorem State.reply_tpls : (s.reply r ws err).tpls = s.tpls := by unfold State.reply; rfl
@[simp] theorem State.reply_cnts : (s.reply r ws err).cnts = s.cnts := by unfold State.reply; rfl
@[simp] theorem State.reply_sampling : (s.reply r ws err).sampling = s.sampling := by unfold State.reply; rfl
@[simp] theorem State.reply_ipId : (s.reply r ws err).ipId = s.ipId := by unfold State.reply; rfl
@[simp] theorem State.reply_greSeq : (s.reply r ws err).greSeq = s.greSeq := by unfold State.reply; rfl
@[simp] theorem State.reply_nodes : (s.reply r ws err).nodes = s.nodes := by unfold State.reply; rfl
@[simp] theorem State.reply_queues : (s.reply r ws err).queues = s.queues := by unfold State.reply; rfl
@[simp] theorem State.reply_outlets : (s.reply r ws err).outlets = s.outlets := by unfold State.reply; rfl
@[simp] theorem State.reply_sel : (s.reply r ws err).sel = s.sel := by unfold State.reply; rfl
@[simp] theorem State.reply_gates : (s.reply r ws err).gates = s.gates := by unfold State.reply; rfl
@[simp] theorem State.reply_plcrs : (s.reply r ws err).plcrs = s.plcrs := by unfold State.reply; rfl
@[simp] theorem State.reply_apls : (s.reply r ws err).apls = s.apls := by unfold State.reply; rfl
@[simp] theorem State.reply_aplReads : (s.reply r ws err).aplReads = s.aplReads := by unfold State.reply; rfl
@[simp] theorem State.reply_winReqs : (s.reply r ws err).winReqs = s.winReqs := by unfold State.reply; rfl
@[simp] theorem State.reply_eps : (s.reply r ws err).eps = s.eps := by unfold State.reply; rfl
@[simp] theorem State.reply_hwait : (s.reply r ws err).hwait = s.hwait := by unfold State.reply; rfl
@[simp] theorem State.reply_arrived : (s.reply r ws err).arrived = s.arrived := by unfold State.reply; rfl
@[simp] theorem State.reply_hreads : (s.reply r ws err).hreads = s.hreads := by unfold State.reply; rfl
@[simp] theorem State.reply_bothFull : (s.reply r ws err).bothFull = s.bothFull := by unfold State.reply; rfl
@[simp] theorem State.reply_binds : (s.reply r ws err).binds = s.binds := by unfold State.reply; rfl
@[simp] theorem State.reply_wrings : (s.reply r ws err).wrings = s.wrings := by unfold State.reply; rfl
@[simp] theorem State.reply_crings : (s.reply r ws err).crings = s.crings := by unfold State.reply; rfl
@[simp] theorem State.reply_txs : (s.reply r ws err).txs = s.txs := by unfold State.reply; rfl
@[simp] theorem State.reply_txNext : (s.reply r ws err).txNext = s.txNext := by unfold State.reply; rfl
@[simp] theorem State.reply_cqes : (s.reply r ws err).cqes = s.cqes := by unfold State.reply; rfl
@[simp] theorem State.reply_near : (s.reply r ws err).near = s.near := by unfold State.reply; rfl
@[simp] theorem State.reply_ovf : (s.reply r ws err).ovf = s.ovf := by unfold State.reply; rfl
@[simp] theorem State.reply_learns : (s.reply r ws err).learns = s.learns := by unfold State.reply; rfl
@[simp] theorem State.reply_tblSt : (s.reply r ws err).tblSt = s.tblSt := by unfold State.reply; rfl
@[simp] theorem State.reply_ageDue : (s.reply r ws err).ageDue = s.ageDue := by unfold State.reply; rfl
@[simp] theorem State.reply_ctxs : (s.reply r ws err).ctxs = s.ctxs := by unfold State.reply; rfl
@[simp] theorem State.reply_cuEvts : (s.reply r ws err).cuEvts = s.cuEvts := by unfold State.reply; rfl
@[simp] theorem State.reply_thrs : (s.reply r ws err).thrs = s.thrs := by unfold State.reply; rfl
@[simp] theorem State.reply_chans : (s.reply r ws err).chans = s.chans := by unfold State.reply; rfl
@[simp] theorem State.reply_ureqs : (s.reply r ws err).ureqs = s.ureqs := by unfold State.reply; rfl
@[simp] theorem State.reply_inq : (s.reply r ws err).inq = s.inq := by unfold State.reply; rfl
@[simp] theorem State.reply_checks : (s.reply r ws err).checks = s.checks := by unfold State.reply; rfl
@[simp] theorem State.reply_dbgs : (s.reply r ws err).dbgs = s.dbgs := by unfold State.reply; rfl
@[simp] theorem State.reply_still : (s.reply r ws err).still = s.still := by unfold State.reply; rfl
@[simp] theorem State.reply_csBad : (s.reply r ws err).csBad = s.csBad := by unfold State.reply; rfl
@[simp] theorem State.reply_csStage : (s.reply r ws err).csStage = s.csStage := by unfold State.reply; rfl
@[simp] theorem State.reply_dmas : (s.reply r ws err).dmas = s.dmas := by unfold State.reply; rfl
@[simp] theorem State.reply_tick : (s.reply r ws err).tick = s.tick := by unfold State.reply; rfl
@[simp] theorem State.reply_arbs : (s.reply r ws err).arbs = s.arbs := by unfold State.reply; rfl
@[simp] theorem State.reply_lastRing : (s.reply r ws err).lastRing = s.lastRing := by unfold State.reply; rfl
@[simp] theorem State.reply_nvs : (s.reply r ws err).nvs = s.nvs := by unfold State.reply; rfl
end

section
variable (s : State) (r : Ureq)
@[simp] theorem State.dropRequest_pending : (s.dropRequest r).pending = s.pending := by unfold State.dropRequest; rfl
@[simp] theorem State.dropRequest_clk : (s.dropRequest r).clk = s.clk := by unfold State.dropRequest; rfl
@[simp] theorem State.dropRequest_ptime : (s.dropRequest r).ptime = s.ptime := by unfold State.dropRequest; rfl
@[simp] theorem State.dropRequest_ptFrac : (s.dropRequest r).ptFrac = s.ptFrac := by unfold State.dropRequest; rfl
@[simp] theorem State.dropRequest_regs : (s.dropRequest r).regs = s.regs := by unfold State.dropRequest; rfl
@[simp] theorem State.dropRequest_fast : (s.dropRequest r).fast = s.fast := by unfold State.dropRequest; rfl
@[simp] theorem State.dropRequest_ferry : (s.dropRequest r).ferry = s.ferry := by unfold State.dropRequest; rfl
@[simp] theorem State.dropRequest_ctrs : (s.dropRequest r).ctrs = s.ctrs := by unfold State.dropRequest; rfl
@[simp] theorem State.dropRequest_drw : (s.dropRequest r).drw = s.drw := by unfold State.dropRequest; rfl
@[simp] theorem State.dropRequest_resets : (s.dropRequest r).resets = s.resets := by unfold State.dropRequest; rfl
@[simp] theorem State.dropRequest_fences : (s.dropRequest r).fences = s.fences := by unfold State.dropRequest; rfl
@[simp] theorem State.dropRequest_doms : (s.dropRequest r).doms = s.doms := by unfold State.dropRequest; rfl
@[simp] theorem State.dropRequest_barriers : (s.dropRequest r).barriers = s.barriers := by unfold State.dropRequest; rfl
@[simp] theorem State.dropRequest_reports : (s.dropRequest r).reports = s.reports := by unfold State.dropRequest; rfl
@[simp] theorem State.dropRequest_colls : (s.dropRequest r).colls = s.colls := by unfold State.dropRequest; rfl
@[simp] theorem State.dropRequest_log : (s.dropRequest r).log = s.log := by unfold State.dropRequest; rfl
@[simp] theorem State.dropRequest_fuses : (s.dropRequest r).fuses = s.fuses := by unfold State.dropRequest; rfl
@[simp] theorem State.dropRequest_sec : (s.dropRequest r).sec = s.sec := by unfold State.dropRequest; rfl
@[simp] theorem State.dropRequest_omc : (s.dropRequest r).omc = s.omc := by unfold State.dropRequest; rfl
@[simp] theorem State.dropRequest_jtag : (s.dropRequest r).jtag = s.jtag := by unfold State.dropRequest; rfl
@[simp] theorem State.dropRequest_pins : (s.dropRequest r).pins = s.pins := by unfold State.dropRequest; rfl
@[simp] theorem State.dropRequest_cfg : (s.dropRequest r).cfg = s.cfg := by unfold State.dropRequest; rfl
@[simp] theorem State.dropRequest_mem : (s.dropRequest r).mem = s.mem := by unfold State.dropRequest; rfl
@[simp] theorem State.dropRequest_fresh : (s.dropRequest r).fresh = s.fresh := by unfold State.dropRequest; rfl
@[simp] theorem State.dropRequest_out : (s.dropRequest r).out = s.out := by unfold State.dropRequest; rfl
@[simp] theorem State.dropRequest_bufs : (s.dropRequest r).bufs = s.bufs := by unfold State.dropRequest; rfl
@[simp] theorem State.dropRequest_nextBuf : (s.dropRequest r).nextBuf = s.nextBuf := by unfold State.dropRequest; rfl
@[simp] theorem State.dropRequest_fifos : (s.dropRequest r).fifos = s.fifos := by unfold State.dropRequest; rfl
@[simp] theorem State.dropRequest_seqs : (s.dropRequest r).seqs = s.seqs := by unfold State.dropRequest; rfl
@[simp] theorem State.dropRequest_hdrs : (s.dropRequest r).hdrs = s.hdrs := by unfold State.dropRequest; rfl
@[simp] theorem State.dropRequest_links : (s.dropRequest r).links = s.links := by unfold State.dropRequest; rfl
@[simp] theorem State.dropRequest_landW : (s.dropRequest r).landW = s.landW := by unfold State.dropRequest; rfl
@[simp] theorem State.dropRequest_held : (s.dropRequest r).held = s.held := by unfold State.dropRequest; rfl
@[simp] theorem State.dropRequest_rules : (s.dropRequest r).rules = s.rules := by unfold State.dropRequest; rfl
@[simp] theorem State.dropRequest_clsSt : (s.dropRequest r).clsSt = s.clsSt := by unfold State.dropRequest; rfl
@[simp] theorem State.dropRequest_asets : (s.dropRequest r).asets = s.asets := by unfold State.dropRequest; rfl
@[simp] theorem State.dropRequest_tpls : (s.dropRequest r).tpls = s.tpls := by unfold State.dropRequest; rfl
@[simp] theorem State.dropRequest_cnts : (s.dropRequest r).cnts = s.cnts := by unfold State.dropRequest; rfl
@[simp] theorem State.dropRequest_sampling : (s.dropRequest r).sampling = s.sampling := by unfold State.dropRequest; rfl
@[simp] theorem State.dropRequest_ipId : (s.dropRequest r).ipId = s.ipId := by unfold State.dropRequest; rfl
@[simp] theorem State.dropRequest_greSeq : (s.dropRequest r).greSeq = s.greSeq := by unfold State.dropRequest; rfl
@[simp] theorem State.dropRequest_nodes : (s.dropRequest r).nodes = s.nodes := by unfold State.dropRequest; rfl
@[simp] theorem State.dropRequest_queues : (s.dropRequest r).queues = s.queues := by unfold State.dropRequest; rfl
@[simp] theorem State.dropRequest_outlets : (s.dropRequest r).outlets = s.outlets := by unfold State.dropRequest; rfl
@[simp] theorem State.dropRequest_sel : (s.dropRequest r).sel = s.sel := by unfold State.dropRequest; rfl
@[simp] theorem State.dropRequest_gates : (s.dropRequest r).gates = s.gates := by unfold State.dropRequest; rfl
@[simp] theorem State.dropRequest_plcrs : (s.dropRequest r).plcrs = s.plcrs := by unfold State.dropRequest; rfl
@[simp] theorem State.dropRequest_apls : (s.dropRequest r).apls = s.apls := by unfold State.dropRequest; rfl
@[simp] theorem State.dropRequest_aplReads : (s.dropRequest r).aplReads = s.aplReads := by unfold State.dropRequest; rfl
@[simp] theorem State.dropRequest_winReqs : (s.dropRequest r).winReqs = s.winReqs := by unfold State.dropRequest; rfl
@[simp] theorem State.dropRequest_eps : (s.dropRequest r).eps = s.eps := by unfold State.dropRequest; rfl
@[simp] theorem State.dropRequest_hwait : (s.dropRequest r).hwait = s.hwait := by unfold State.dropRequest; rfl
@[simp] theorem State.dropRequest_arrived : (s.dropRequest r).arrived = s.arrived := by unfold State.dropRequest; rfl
@[simp] theorem State.dropRequest_hreads : (s.dropRequest r).hreads = s.hreads := by unfold State.dropRequest; rfl
@[simp] theorem State.dropRequest_bothFull : (s.dropRequest r).bothFull = s.bothFull := by unfold State.dropRequest; rfl
@[simp] theorem State.dropRequest_binds : (s.dropRequest r).binds = s.binds := by unfold State.dropRequest; rfl
@[simp] theorem State.dropRequest_wrings : (s.dropRequest r).wrings = s.wrings := by unfold State.dropRequest; rfl
@[simp] theorem State.dropRequest_crings : (s.dropRequest r).crings = s.crings := by unfold State.dropRequest; rfl
@[simp] theorem State.dropRequest_txs : (s.dropRequest r).txs = s.txs := by unfold State.dropRequest; rfl
@[simp] theorem State.dropRequest_txNext : (s.dropRequest r).txNext = s.txNext := by unfold State.dropRequest; rfl
@[simp] theorem State.dropRequest_cqes : (s.dropRequest r).cqes = s.cqes := by unfold State.dropRequest; rfl
@[simp] theorem State.dropRequest_near : (s.dropRequest r).near = s.near := by unfold State.dropRequest; rfl
@[simp] theorem State.dropRequest_ovf : (s.dropRequest r).ovf = s.ovf := by unfold State.dropRequest; rfl
@[simp] theorem State.dropRequest_learns : (s.dropRequest r).learns = s.learns := by unfold State.dropRequest; rfl
@[simp] theorem State.dropRequest_tblSt : (s.dropRequest r).tblSt = s.tblSt := by unfold State.dropRequest; rfl
@[simp] theorem State.dropRequest_ageDue : (s.dropRequest r).ageDue = s.ageDue := by unfold State.dropRequest; rfl
@[simp] theorem State.dropRequest_ctxs : (s.dropRequest r).ctxs = s.ctxs := by unfold State.dropRequest; rfl
@[simp] theorem State.dropRequest_cuEvts : (s.dropRequest r).cuEvts = s.cuEvts := by unfold State.dropRequest; rfl
@[simp] theorem State.dropRequest_thrs : (s.dropRequest r).thrs = s.thrs := by unfold State.dropRequest; rfl
@[simp] theorem State.dropRequest_chans : (s.dropRequest r).chans = s.chans := by unfold State.dropRequest; rfl
@[simp] theorem State.dropRequest_ureps : (s.dropRequest r).ureps = s.ureps := by unfold State.dropRequest; rfl
@[simp] theorem State.dropRequest_inq : (s.dropRequest r).inq = s.inq := by unfold State.dropRequest; rfl
@[simp] theorem State.dropRequest_checks : (s.dropRequest r).checks = s.checks := by unfold State.dropRequest; rfl
@[simp] theorem State.dropRequest_dbgs : (s.dropRequest r).dbgs = s.dbgs := by unfold State.dropRequest; rfl
@[simp] theorem State.dropRequest_still : (s.dropRequest r).still = s.still := by unfold State.dropRequest; rfl
@[simp] theorem State.dropRequest_csBad : (s.dropRequest r).csBad = s.csBad := by unfold State.dropRequest; rfl
@[simp] theorem State.dropRequest_csStage : (s.dropRequest r).csStage = s.csStage := by unfold State.dropRequest; rfl
@[simp] theorem State.dropRequest_dmas : (s.dropRequest r).dmas = s.dmas := by unfold State.dropRequest; rfl
@[simp] theorem State.dropRequest_tick : (s.dropRequest r).tick = s.tick := by unfold State.dropRequest; rfl
@[simp] theorem State.dropRequest_arbs : (s.dropRequest r).arbs = s.arbs := by unfold State.dropRequest; rfl
@[simp] theorem State.dropRequest_lastRing : (s.dropRequest r).lastRing = s.lastRing := by unfold State.dropRequest; rfl
@[simp] theorem State.dropRequest_nvs : (s.dropRequest r).nvs = s.nvs := by unfold State.dropRequest; rfl
end

section
variable (s : State) (c : Nat) (x : KeyCtx)
@[simp] theorem State.setCtx_pending : (s.setCtx c x).pending = s.pending := by unfold State.setCtx; rfl
@[simp] theorem State.setCtx_clk : (s.setCtx c x).clk = s.clk := by unfold State.setCtx; rfl
@[simp] theorem State.setCtx_ptime : (s.setCtx c x).ptime = s.ptime := by unfold State.setCtx; rfl
@[simp] theorem State.setCtx_ptFrac : (s.setCtx c x).ptFrac = s.ptFrac := by unfold State.setCtx; rfl
@[simp] theorem State.setCtx_regs : (s.setCtx c x).regs = s.regs := by unfold State.setCtx; rfl
@[simp] theorem State.setCtx_fast : (s.setCtx c x).fast = s.fast := by unfold State.setCtx; rfl
@[simp] theorem State.setCtx_ferry : (s.setCtx c x).ferry = s.ferry := by unfold State.setCtx; rfl
@[simp] theorem State.setCtx_ctrs : (s.setCtx c x).ctrs = s.ctrs := by unfold State.setCtx; rfl
@[simp] theorem State.setCtx_drw : (s.setCtx c x).drw = s.drw := by unfold State.setCtx; rfl
@[simp] theorem State.setCtx_resets : (s.setCtx c x).resets = s.resets := by unfold State.setCtx; rfl
@[simp] theorem State.setCtx_fences : (s.setCtx c x).fences = s.fences := by unfold State.setCtx; rfl
@[simp] theorem State.setCtx_doms : (s.setCtx c x).doms = s.doms := by unfold State.setCtx; rfl
@[simp] theorem State.setCtx_barriers : (s.setCtx c x).barriers = s.barriers := by unfold State.setCtx; rfl
@[simp] theorem State.setCtx_reports : (s.setCtx c x).reports = s.reports := by unfold State.setCtx; rfl
@[simp] theorem State.setCtx_colls : (s.setCtx c x).colls = s.colls := by unfold State.setCtx; rfl
@[simp] theorem State.setCtx_log : (s.setCtx c x).log = s.log := by unfold State.setCtx; rfl
@[simp] theorem State.setCtx_fuses : (s.setCtx c x).fuses = s.fuses := by unfold State.setCtx; rfl
@[simp] theorem State.setCtx_sec : (s.setCtx c x).sec = s.sec := by unfold State.setCtx; rfl
@[simp] theorem State.setCtx_omc : (s.setCtx c x).omc = s.omc := by unfold State.setCtx; rfl
@[simp] theorem State.setCtx_jtag : (s.setCtx c x).jtag = s.jtag := by unfold State.setCtx; rfl
@[simp] theorem State.setCtx_pins : (s.setCtx c x).pins = s.pins := by unfold State.setCtx; rfl
@[simp] theorem State.setCtx_cfg : (s.setCtx c x).cfg = s.cfg := by unfold State.setCtx; rfl
@[simp] theorem State.setCtx_mem : (s.setCtx c x).mem = s.mem := by unfold State.setCtx; rfl
@[simp] theorem State.setCtx_fresh : (s.setCtx c x).fresh = s.fresh := by unfold State.setCtx; rfl
@[simp] theorem State.setCtx_out : (s.setCtx c x).out = s.out := by unfold State.setCtx; rfl
@[simp] theorem State.setCtx_bufs : (s.setCtx c x).bufs = s.bufs := by unfold State.setCtx; rfl
@[simp] theorem State.setCtx_nextBuf : (s.setCtx c x).nextBuf = s.nextBuf := by unfold State.setCtx; rfl
@[simp] theorem State.setCtx_fifos : (s.setCtx c x).fifos = s.fifos := by unfold State.setCtx; rfl
@[simp] theorem State.setCtx_seqs : (s.setCtx c x).seqs = s.seqs := by unfold State.setCtx; rfl
@[simp] theorem State.setCtx_hdrs : (s.setCtx c x).hdrs = s.hdrs := by unfold State.setCtx; rfl
@[simp] theorem State.setCtx_links : (s.setCtx c x).links = s.links := by unfold State.setCtx; rfl
@[simp] theorem State.setCtx_landW : (s.setCtx c x).landW = s.landW := by unfold State.setCtx; rfl
@[simp] theorem State.setCtx_held : (s.setCtx c x).held = s.held := by unfold State.setCtx; rfl
@[simp] theorem State.setCtx_rules : (s.setCtx c x).rules = s.rules := by unfold State.setCtx; rfl
@[simp] theorem State.setCtx_clsSt : (s.setCtx c x).clsSt = s.clsSt := by unfold State.setCtx; rfl
@[simp] theorem State.setCtx_asets : (s.setCtx c x).asets = s.asets := by unfold State.setCtx; rfl
@[simp] theorem State.setCtx_tpls : (s.setCtx c x).tpls = s.tpls := by unfold State.setCtx; rfl
@[simp] theorem State.setCtx_cnts : (s.setCtx c x).cnts = s.cnts := by unfold State.setCtx; rfl
@[simp] theorem State.setCtx_sampling : (s.setCtx c x).sampling = s.sampling := by unfold State.setCtx; rfl
@[simp] theorem State.setCtx_ipId : (s.setCtx c x).ipId = s.ipId := by unfold State.setCtx; rfl
@[simp] theorem State.setCtx_greSeq : (s.setCtx c x).greSeq = s.greSeq := by unfold State.setCtx; rfl
@[simp] theorem State.setCtx_nodes : (s.setCtx c x).nodes = s.nodes := by unfold State.setCtx; rfl
@[simp] theorem State.setCtx_queues : (s.setCtx c x).queues = s.queues := by unfold State.setCtx; rfl
@[simp] theorem State.setCtx_outlets : (s.setCtx c x).outlets = s.outlets := by unfold State.setCtx; rfl
@[simp] theorem State.setCtx_sel : (s.setCtx c x).sel = s.sel := by unfold State.setCtx; rfl
@[simp] theorem State.setCtx_gates : (s.setCtx c x).gates = s.gates := by unfold State.setCtx; rfl
@[simp] theorem State.setCtx_plcrs : (s.setCtx c x).plcrs = s.plcrs := by unfold State.setCtx; rfl
@[simp] theorem State.setCtx_apls : (s.setCtx c x).apls = s.apls := by unfold State.setCtx; rfl
@[simp] theorem State.setCtx_aplReads : (s.setCtx c x).aplReads = s.aplReads := by unfold State.setCtx; rfl
@[simp] theorem State.setCtx_winReqs : (s.setCtx c x).winReqs = s.winReqs := by unfold State.setCtx; rfl
@[simp] theorem State.setCtx_eps : (s.setCtx c x).eps = s.eps := by unfold State.setCtx; rfl
@[simp] theorem State.setCtx_hwait : (s.setCtx c x).hwait = s.hwait := by unfold State.setCtx; rfl
@[simp] theorem State.setCtx_arrived : (s.setCtx c x).arrived = s.arrived := by unfold State.setCtx; rfl
@[simp] theorem State.setCtx_hreads : (s.setCtx c x).hreads = s.hreads := by unfold State.setCtx; rfl
@[simp] theorem State.setCtx_bothFull : (s.setCtx c x).bothFull = s.bothFull := by unfold State.setCtx; rfl
@[simp] theorem State.setCtx_binds : (s.setCtx c x).binds = s.binds := by unfold State.setCtx; rfl
@[simp] theorem State.setCtx_wrings : (s.setCtx c x).wrings = s.wrings := by unfold State.setCtx; rfl
@[simp] theorem State.setCtx_crings : (s.setCtx c x).crings = s.crings := by unfold State.setCtx; rfl
@[simp] theorem State.setCtx_txs : (s.setCtx c x).txs = s.txs := by unfold State.setCtx; rfl
@[simp] theorem State.setCtx_txNext : (s.setCtx c x).txNext = s.txNext := by unfold State.setCtx; rfl
@[simp] theorem State.setCtx_cqes : (s.setCtx c x).cqes = s.cqes := by unfold State.setCtx; rfl
@[simp] theorem State.setCtx_near : (s.setCtx c x).near = s.near := by unfold State.setCtx; rfl
@[simp] theorem State.setCtx_ovf : (s.setCtx c x).ovf = s.ovf := by unfold State.setCtx; rfl
@[simp] theorem State.setCtx_learns : (s.setCtx c x).learns = s.learns := by unfold State.setCtx; rfl
@[simp] theorem State.setCtx_tblSt : (s.setCtx c x).tblSt = s.tblSt := by unfold State.setCtx; rfl
@[simp] theorem State.setCtx_ageDue : (s.setCtx c x).ageDue = s.ageDue := by unfold State.setCtx; rfl
@[simp] theorem State.setCtx_cuEvts : (s.setCtx c x).cuEvts = s.cuEvts := by unfold State.setCtx; rfl
@[simp] theorem State.setCtx_thrs : (s.setCtx c x).thrs = s.thrs := by unfold State.setCtx; rfl
@[simp] theorem State.setCtx_chans : (s.setCtx c x).chans = s.chans := by unfold State.setCtx; rfl
@[simp] theorem State.setCtx_ureqs : (s.setCtx c x).ureqs = s.ureqs := by unfold State.setCtx; rfl
@[simp] theorem State.setCtx_ureps : (s.setCtx c x).ureps = s.ureps := by unfold State.setCtx; rfl
@[simp] theorem State.setCtx_inq : (s.setCtx c x).inq = s.inq := by unfold State.setCtx; rfl
@[simp] theorem State.setCtx_checks : (s.setCtx c x).checks = s.checks := by unfold State.setCtx; rfl
@[simp] theorem State.setCtx_dbgs : (s.setCtx c x).dbgs = s.dbgs := by unfold State.setCtx; rfl
@[simp] theorem State.setCtx_still : (s.setCtx c x).still = s.still := by unfold State.setCtx; rfl
@[simp] theorem State.setCtx_csBad : (s.setCtx c x).csBad = s.csBad := by unfold State.setCtx; rfl
@[simp] theorem State.setCtx_csStage : (s.setCtx c x).csStage = s.csStage := by unfold State.setCtx; rfl
@[simp] theorem State.setCtx_dmas : (s.setCtx c x).dmas = s.dmas := by unfold State.setCtx; rfl
@[simp] theorem State.setCtx_tick : (s.setCtx c x).tick = s.tick := by unfold State.setCtx; rfl
@[simp] theorem State.setCtx_arbs : (s.setCtx c x).arbs = s.arbs := by unfold State.setCtx; rfl
@[simp] theorem State.setCtx_lastRing : (s.setCtx c x).lastRing = s.lastRing := by unfold State.setCtx; rfl
@[simp] theorem State.setCtx_nvs : (s.setCtx c x).nvs = s.nvs := by unfold State.setCtx; rfl
end

section
variable (s : State) (r k : Nat) (x : DmaChan)
@[simp] theorem State.setDma_pending : (s.setDma r k x).pending = s.pending := by unfold State.setDma; rfl
@[simp] theorem State.setDma_clk : (s.setDma r k x).clk = s.clk := by unfold State.setDma; rfl
@[simp] theorem State.setDma_ptime : (s.setDma r k x).ptime = s.ptime := by unfold State.setDma; rfl
@[simp] theorem State.setDma_ptFrac : (s.setDma r k x).ptFrac = s.ptFrac := by unfold State.setDma; rfl
@[simp] theorem State.setDma_regs : (s.setDma r k x).regs = s.regs := by unfold State.setDma; rfl
@[simp] theorem State.setDma_fast : (s.setDma r k x).fast = s.fast := by unfold State.setDma; rfl
@[simp] theorem State.setDma_ferry : (s.setDma r k x).ferry = s.ferry := by unfold State.setDma; rfl
@[simp] theorem State.setDma_ctrs : (s.setDma r k x).ctrs = s.ctrs := by unfold State.setDma; rfl
@[simp] theorem State.setDma_drw : (s.setDma r k x).drw = s.drw := by unfold State.setDma; rfl
@[simp] theorem State.setDma_resets : (s.setDma r k x).resets = s.resets := by unfold State.setDma; rfl
@[simp] theorem State.setDma_fences : (s.setDma r k x).fences = s.fences := by unfold State.setDma; rfl
@[simp] theorem State.setDma_doms : (s.setDma r k x).doms = s.doms := by unfold State.setDma; rfl
@[simp] theorem State.setDma_barriers : (s.setDma r k x).barriers = s.barriers := by unfold State.setDma; rfl
@[simp] theorem State.setDma_reports : (s.setDma r k x).reports = s.reports := by unfold State.setDma; rfl
@[simp] theorem State.setDma_colls : (s.setDma r k x).colls = s.colls := by unfold State.setDma; rfl
@[simp] theorem State.setDma_log : (s.setDma r k x).log = s.log := by unfold State.setDma; rfl
@[simp] theorem State.setDma_fuses : (s.setDma r k x).fuses = s.fuses := by unfold State.setDma; rfl
@[simp] theorem State.setDma_sec : (s.setDma r k x).sec = s.sec := by unfold State.setDma; rfl
@[simp] theorem State.setDma_omc : (s.setDma r k x).omc = s.omc := by unfold State.setDma; rfl
@[simp] theorem State.setDma_jtag : (s.setDma r k x).jtag = s.jtag := by unfold State.setDma; rfl
@[simp] theorem State.setDma_pins : (s.setDma r k x).pins = s.pins := by unfold State.setDma; rfl
@[simp] theorem State.setDma_cfg : (s.setDma r k x).cfg = s.cfg := by unfold State.setDma; rfl
@[simp] theorem State.setDma_mem : (s.setDma r k x).mem = s.mem := by unfold State.setDma; rfl
@[simp] theorem State.setDma_fresh : (s.setDma r k x).fresh = s.fresh := by unfold State.setDma; rfl
@[simp] theorem State.setDma_out : (s.setDma r k x).out = s.out := by unfold State.setDma; rfl
@[simp] theorem State.setDma_bufs : (s.setDma r k x).bufs = s.bufs := by unfold State.setDma; rfl
@[simp] theorem State.setDma_nextBuf : (s.setDma r k x).nextBuf = s.nextBuf := by unfold State.setDma; rfl
@[simp] theorem State.setDma_fifos : (s.setDma r k x).fifos = s.fifos := by unfold State.setDma; rfl
@[simp] theorem State.setDma_seqs : (s.setDma r k x).seqs = s.seqs := by unfold State.setDma; rfl
@[simp] theorem State.setDma_hdrs : (s.setDma r k x).hdrs = s.hdrs := by unfold State.setDma; rfl
@[simp] theorem State.setDma_links : (s.setDma r k x).links = s.links := by unfold State.setDma; rfl
@[simp] theorem State.setDma_landW : (s.setDma r k x).landW = s.landW := by unfold State.setDma; rfl
@[simp] theorem State.setDma_held : (s.setDma r k x).held = s.held := by unfold State.setDma; rfl
@[simp] theorem State.setDma_rules : (s.setDma r k x).rules = s.rules := by unfold State.setDma; rfl
@[simp] theorem State.setDma_clsSt : (s.setDma r k x).clsSt = s.clsSt := by unfold State.setDma; rfl
@[simp] theorem State.setDma_asets : (s.setDma r k x).asets = s.asets := by unfold State.setDma; rfl
@[simp] theorem State.setDma_tpls : (s.setDma r k x).tpls = s.tpls := by unfold State.setDma; rfl
@[simp] theorem State.setDma_cnts : (s.setDma r k x).cnts = s.cnts := by unfold State.setDma; rfl
@[simp] theorem State.setDma_sampling : (s.setDma r k x).sampling = s.sampling := by unfold State.setDma; rfl
@[simp] theorem State.setDma_ipId : (s.setDma r k x).ipId = s.ipId := by unfold State.setDma; rfl
@[simp] theorem State.setDma_greSeq : (s.setDma r k x).greSeq = s.greSeq := by unfold State.setDma; rfl
@[simp] theorem State.setDma_nodes : (s.setDma r k x).nodes = s.nodes := by unfold State.setDma; rfl
@[simp] theorem State.setDma_queues : (s.setDma r k x).queues = s.queues := by unfold State.setDma; rfl
@[simp] theorem State.setDma_outlets : (s.setDma r k x).outlets = s.outlets := by unfold State.setDma; rfl
@[simp] theorem State.setDma_sel : (s.setDma r k x).sel = s.sel := by unfold State.setDma; rfl
@[simp] theorem State.setDma_gates : (s.setDma r k x).gates = s.gates := by unfold State.setDma; rfl
@[simp] theorem State.setDma_plcrs : (s.setDma r k x).plcrs = s.plcrs := by unfold State.setDma; rfl
@[simp] theorem State.setDma_apls : (s.setDma r k x).apls = s.apls := by unfold State.setDma; rfl
@[simp] theorem State.setDma_aplReads : (s.setDma r k x).aplReads = s.aplReads := by unfold State.setDma; rfl
@[simp] theorem State.setDma_winReqs : (s.setDma r k x).winReqs = s.winReqs := by unfold State.setDma; rfl
@[simp] theorem State.setDma_eps : (s.setDma r k x).eps = s.eps := by unfold State.setDma; rfl
@[simp] theorem State.setDma_hwait : (s.setDma r k x).hwait = s.hwait := by unfold State.setDma; rfl
@[simp] theorem State.setDma_arrived : (s.setDma r k x).arrived = s.arrived := by unfold State.setDma; rfl
@[simp] theorem State.setDma_hreads : (s.setDma r k x).hreads = s.hreads := by unfold State.setDma; rfl
@[simp] theorem State.setDma_bothFull : (s.setDma r k x).bothFull = s.bothFull := by unfold State.setDma; rfl
@[simp] theorem State.setDma_binds : (s.setDma r k x).binds = s.binds := by unfold State.setDma; rfl
@[simp] theorem State.setDma_wrings : (s.setDma r k x).wrings = s.wrings := by unfold State.setDma; rfl
@[simp] theorem State.setDma_crings : (s.setDma r k x).crings = s.crings := by unfold State.setDma; rfl
@[simp] theorem State.setDma_txs : (s.setDma r k x).txs = s.txs := by unfold State.setDma; rfl
@[simp] theorem State.setDma_txNext : (s.setDma r k x).txNext = s.txNext := by unfold State.setDma; rfl
@[simp] theorem State.setDma_cqes : (s.setDma r k x).cqes = s.cqes := by unfold State.setDma; rfl
@[simp] theorem State.setDma_near : (s.setDma r k x).near = s.near := by unfold State.setDma; rfl
@[simp] theorem State.setDma_ovf : (s.setDma r k x).ovf = s.ovf := by unfold State.setDma; rfl
@[simp] theorem State.setDma_learns : (s.setDma r k x).learns = s.learns := by unfold State.setDma; rfl
@[simp] theorem State.setDma_tblSt : (s.setDma r k x).tblSt = s.tblSt := by unfold State.setDma; rfl
@[simp] theorem State.setDma_ageDue : (s.setDma r k x).ageDue = s.ageDue := by unfold State.setDma; rfl
@[simp] theorem State.setDma_ctxs : (s.setDma r k x).ctxs = s.ctxs := by unfold State.setDma; rfl
@[simp] theorem State.setDma_cuEvts : (s.setDma r k x).cuEvts = s.cuEvts := by unfold State.setDma; rfl
@[simp] theorem State.setDma_thrs : (s.setDma r k x).thrs = s.thrs := by unfold State.setDma; rfl
@[simp] theorem State.setDma_chans : (s.setDma r k x).chans = s.chans := by unfold State.setDma; rfl
@[simp] theorem State.setDma_ureqs : (s.setDma r k x).ureqs = s.ureqs := by unfold State.setDma; rfl
@[simp] theorem State.setDma_ureps : (s.setDma r k x).ureps = s.ureps := by unfold State.setDma; rfl
@[simp] theorem State.setDma_inq : (s.setDma r k x).inq = s.inq := by unfold State.setDma; rfl
@[simp] theorem State.setDma_checks : (s.setDma r k x).checks = s.checks := by unfold State.setDma; rfl
@[simp] theorem State.setDma_dbgs : (s.setDma r k x).dbgs = s.dbgs := by unfold State.setDma; rfl
@[simp] theorem State.setDma_still : (s.setDma r k x).still = s.still := by unfold State.setDma; rfl
@[simp] theorem State.setDma_csBad : (s.setDma r k x).csBad = s.csBad := by unfold State.setDma; rfl
@[simp] theorem State.setDma_csStage : (s.setDma r k x).csStage = s.csStage := by unfold State.setDma; rfl
@[simp] theorem State.setDma_tick : (s.setDma r k x).tick = s.tick := by unfold State.setDma; rfl
@[simp] theorem State.setDma_arbs : (s.setDma r k x).arbs = s.arbs := by unfold State.setDma; rfl
@[simp] theorem State.setDma_lastRing : (s.setDma r k x).lastRing = s.lastRing := by unfold State.setDma; rfl
@[simp] theorem State.setDma_nvs : (s.setDma r k x).nvs = s.nvs := by unfold State.setDma; rfl
end

section
variable (s : State) (e : Nat) (x : EpState)
@[simp] theorem State.setEp_pending : (s.setEp e x).pending = s.pending := by unfold State.setEp; rfl
@[simp] theorem State.setEp_clk : (s.setEp e x).clk = s.clk := by unfold State.setEp; rfl
@[simp] theorem State.setEp_ptime : (s.setEp e x).ptime = s.ptime := by unfold State.setEp; rfl
@[simp] theorem State.setEp_ptFrac : (s.setEp e x).ptFrac = s.ptFrac := by unfold State.setEp; rfl
@[simp] theorem State.setEp_regs : (s.setEp e x).regs = s.regs := by unfold State.setEp; rfl
@[simp] theorem State.setEp_fast : (s.setEp e x).fast = s.fast := by unfold State.setEp; rfl
@[simp] theorem State.setEp_ferry : (s.setEp e x).ferry = s.ferry := by unfold State.setEp; rfl
@[simp] theorem State.setEp_ctrs : (s.setEp e x).ctrs = s.ctrs := by unfold State.setEp; rfl
@[simp] theorem State.setEp_drw : (s.setEp e x).drw = s.drw := by unfold State.setEp; rfl
@[simp] theorem State.setEp_resets : (s.setEp e x).resets = s.resets := by unfold State.setEp; rfl
@[simp] theorem State.setEp_fences : (s.setEp e x).fences = s.fences := by unfold State.setEp; rfl
@[simp] theorem State.setEp_doms : (s.setEp e x).doms = s.doms := by unfold State.setEp; rfl
@[simp] theorem State.setEp_barriers : (s.setEp e x).barriers = s.barriers := by unfold State.setEp; rfl
@[simp] theorem State.setEp_reports : (s.setEp e x).reports = s.reports := by unfold State.setEp; rfl
@[simp] theorem State.setEp_colls : (s.setEp e x).colls = s.colls := by unfold State.setEp; rfl
@[simp] theorem State.setEp_log : (s.setEp e x).log = s.log := by unfold State.setEp; rfl
@[simp] theorem State.setEp_fuses : (s.setEp e x).fuses = s.fuses := by unfold State.setEp; rfl
@[simp] theorem State.setEp_sec : (s.setEp e x).sec = s.sec := by unfold State.setEp; rfl
@[simp] theorem State.setEp_omc : (s.setEp e x).omc = s.omc := by unfold State.setEp; rfl
@[simp] theorem State.setEp_jtag : (s.setEp e x).jtag = s.jtag := by unfold State.setEp; rfl
@[simp] theorem State.setEp_pins : (s.setEp e x).pins = s.pins := by unfold State.setEp; rfl
@[simp] theorem State.setEp_cfg : (s.setEp e x).cfg = s.cfg := by unfold State.setEp; rfl
@[simp] theorem State.setEp_mem : (s.setEp e x).mem = s.mem := by unfold State.setEp; rfl
@[simp] theorem State.setEp_fresh : (s.setEp e x).fresh = s.fresh := by unfold State.setEp; rfl
@[simp] theorem State.setEp_out : (s.setEp e x).out = s.out := by unfold State.setEp; rfl
@[simp] theorem State.setEp_bufs : (s.setEp e x).bufs = s.bufs := by unfold State.setEp; rfl
@[simp] theorem State.setEp_nextBuf : (s.setEp e x).nextBuf = s.nextBuf := by unfold State.setEp; rfl
@[simp] theorem State.setEp_fifos : (s.setEp e x).fifos = s.fifos := by unfold State.setEp; rfl
@[simp] theorem State.setEp_seqs : (s.setEp e x).seqs = s.seqs := by unfold State.setEp; rfl
@[simp] theorem State.setEp_hdrs : (s.setEp e x).hdrs = s.hdrs := by unfold State.setEp; rfl
@[simp] theorem State.setEp_links : (s.setEp e x).links = s.links := by unfold State.setEp; rfl
@[simp] theorem State.setEp_landW : (s.setEp e x).landW = s.landW := by unfold State.setEp; rfl
@[simp] theorem State.setEp_held : (s.setEp e x).held = s.held := by unfold State.setEp; rfl
@[simp] theorem State.setEp_rules : (s.setEp e x).rules = s.rules := by unfold State.setEp; rfl
@[simp] theorem State.setEp_clsSt : (s.setEp e x).clsSt = s.clsSt := by unfold State.setEp; rfl
@[simp] theorem State.setEp_asets : (s.setEp e x).asets = s.asets := by unfold State.setEp; rfl
@[simp] theorem State.setEp_tpls : (s.setEp e x).tpls = s.tpls := by unfold State.setEp; rfl
@[simp] theorem State.setEp_cnts : (s.setEp e x).cnts = s.cnts := by unfold State.setEp; rfl
@[simp] theorem State.setEp_sampling : (s.setEp e x).sampling = s.sampling := by unfold State.setEp; rfl
@[simp] theorem State.setEp_ipId : (s.setEp e x).ipId = s.ipId := by unfold State.setEp; rfl
@[simp] theorem State.setEp_greSeq : (s.setEp e x).greSeq = s.greSeq := by unfold State.setEp; rfl
@[simp] theorem State.setEp_nodes : (s.setEp e x).nodes = s.nodes := by unfold State.setEp; rfl
@[simp] theorem State.setEp_queues : (s.setEp e x).queues = s.queues := by unfold State.setEp; rfl
@[simp] theorem State.setEp_outlets : (s.setEp e x).outlets = s.outlets := by unfold State.setEp; rfl
@[simp] theorem State.setEp_sel : (s.setEp e x).sel = s.sel := by unfold State.setEp; rfl
@[simp] theorem State.setEp_gates : (s.setEp e x).gates = s.gates := by unfold State.setEp; rfl
@[simp] theorem State.setEp_plcrs : (s.setEp e x).plcrs = s.plcrs := by unfold State.setEp; rfl
@[simp] theorem State.setEp_apls : (s.setEp e x).apls = s.apls := by unfold State.setEp; rfl
@[simp] theorem State.setEp_aplReads : (s.setEp e x).aplReads = s.aplReads := by unfold State.setEp; rfl
@[simp] theorem State.setEp_winReqs : (s.setEp e x).winReqs = s.winReqs := by unfold State.setEp; rfl
@[simp] theorem State.setEp_hwait : (s.setEp e x).hwait = s.hwait := by unfold State.setEp; rfl
@[simp] theorem State.setEp_arrived : (s.setEp e x).arrived = s.arrived := by unfold State.setEp; rfl
@[simp] theorem State.setEp_hreads : (s.setEp e x).hreads = s.hreads := by unfold State.setEp; rfl
@[simp] theorem State.setEp_bothFull : (s.setEp e x).bothFull = s.bothFull := by unfold State.setEp; rfl
@[simp] theorem State.setEp_binds : (s.setEp e x).binds = s.binds := by unfold State.setEp; rfl
@[simp] theorem State.setEp_wrings : (s.setEp e x).wrings = s.wrings := by unfold State.setEp; rfl
@[simp] theorem State.setEp_crings : (s.setEp e x).crings = s.crings := by unfold State.setEp; rfl
@[simp] theorem State.setEp_txs : (s.setEp e x).txs = s.txs := by unfold State.setEp; rfl
@[simp] theorem State.setEp_txNext : (s.setEp e x).txNext = s.txNext := by unfold State.setEp; rfl
@[simp] theorem State.setEp_cqes : (s.setEp e x).cqes = s.cqes := by unfold State.setEp; rfl
@[simp] theorem State.setEp_near : (s.setEp e x).near = s.near := by unfold State.setEp; rfl
@[simp] theorem State.setEp_ovf : (s.setEp e x).ovf = s.ovf := by unfold State.setEp; rfl
@[simp] theorem State.setEp_learns : (s.setEp e x).learns = s.learns := by unfold State.setEp; rfl
@[simp] theorem State.setEp_tblSt : (s.setEp e x).tblSt = s.tblSt := by unfold State.setEp; rfl
@[simp] theorem State.setEp_ageDue : (s.setEp e x).ageDue = s.ageDue := by unfold State.setEp; rfl
@[simp] theorem State.setEp_ctxs : (s.setEp e x).ctxs = s.ctxs := by unfold State.setEp; rfl
@[simp] theorem State.setEp_cuEvts : (s.setEp e x).cuEvts = s.cuEvts := by unfold State.setEp; rfl
@[simp] theorem State.setEp_thrs : (s.setEp e x).thrs = s.thrs := by unfold State.setEp; rfl
@[simp] theorem State.setEp_chans : (s.setEp e x).chans = s.chans := by unfold State.setEp; rfl
@[simp] theorem State.setEp_ureqs : (s.setEp e x).ureqs = s.ureqs := by unfold State.setEp; rfl
@[simp] theorem State.setEp_ureps : (s.setEp e x).ureps = s.ureps := by unfold State.setEp; rfl
@[simp] theorem State.setEp_inq : (s.setEp e x).inq = s.inq := by unfold State.setEp; rfl
@[simp] theorem State.setEp_checks : (s.setEp e x).checks = s.checks := by unfold State.setEp; rfl
@[simp] theorem State.setEp_dbgs : (s.setEp e x).dbgs = s.dbgs := by unfold State.setEp; rfl
@[simp] theorem State.setEp_still : (s.setEp e x).still = s.still := by unfold State.setEp; rfl
@[simp] theorem State.setEp_csBad : (s.setEp e x).csBad = s.csBad := by unfold State.setEp; rfl
@[simp] theorem State.setEp_csStage : (s.setEp e x).csStage = s.csStage := by unfold State.setEp; rfl
@[simp] theorem State.setEp_dmas : (s.setEp e x).dmas = s.dmas := by unfold State.setEp; rfl
@[simp] theorem State.setEp_tick : (s.setEp e x).tick = s.tick := by unfold State.setEp; rfl
@[simp] theorem State.setEp_arbs : (s.setEp e x).arbs = s.arbs := by unfold State.setEp; rfl
@[simp] theorem State.setEp_lastRing : (s.setEp e x).lastRing = s.lastRing := by unfold State.setEp; rfl
@[simp] theorem State.setEp_nvs : (s.setEp e x).nvs = s.nvs := by unfold State.setEp; rfl
end

section
variable (s : State) (k : Nat) (r : WorkRing)
@[simp] theorem State.setWring_pending : (s.setWring k r).pending = s.pending := by unfold State.setWring; rfl
@[simp] theorem State.setWring_clk : (s.setWring k r).clk = s.clk := by unfold State.setWring; rfl
@[simp] theorem State.setWring_ptime : (s.setWring k r).ptime = s.ptime := by unfold State.setWring; rfl
@[simp] theorem State.setWring_ptFrac : (s.setWring k r).ptFrac = s.ptFrac := by unfold State.setWring; rfl
@[simp] theorem State.setWring_regs : (s.setWring k r).regs = s.regs := by unfold State.setWring; rfl
@[simp] theorem State.setWring_fast : (s.setWring k r).fast = s.fast := by unfold State.setWring; rfl
@[simp] theorem State.setWring_ferry : (s.setWring k r).ferry = s.ferry := by unfold State.setWring; rfl
@[simp] theorem State.setWring_ctrs : (s.setWring k r).ctrs = s.ctrs := by unfold State.setWring; rfl
@[simp] theorem State.setWring_drw : (s.setWring k r).drw = s.drw := by unfold State.setWring; rfl
@[simp] theorem State.setWring_resets : (s.setWring k r).resets = s.resets := by unfold State.setWring; rfl
@[simp] theorem State.setWring_fences : (s.setWring k r).fences = s.fences := by unfold State.setWring; rfl
@[simp] theorem State.setWring_doms : (s.setWring k r).doms = s.doms := by unfold State.setWring; rfl
@[simp] theorem State.setWring_barriers : (s.setWring k r).barriers = s.barriers := by unfold State.setWring; rfl
@[simp] theorem State.setWring_reports : (s.setWring k r).reports = s.reports := by unfold State.setWring; rfl
@[simp] theorem State.setWring_colls : (s.setWring k r).colls = s.colls := by unfold State.setWring; rfl
@[simp] theorem State.setWring_log : (s.setWring k r).log = s.log := by unfold State.setWring; rfl
@[simp] theorem State.setWring_fuses : (s.setWring k r).fuses = s.fuses := by unfold State.setWring; rfl
@[simp] theorem State.setWring_sec : (s.setWring k r).sec = s.sec := by unfold State.setWring; rfl
@[simp] theorem State.setWring_omc : (s.setWring k r).omc = s.omc := by unfold State.setWring; rfl
@[simp] theorem State.setWring_jtag : (s.setWring k r).jtag = s.jtag := by unfold State.setWring; rfl
@[simp] theorem State.setWring_pins : (s.setWring k r).pins = s.pins := by unfold State.setWring; rfl
@[simp] theorem State.setWring_cfg : (s.setWring k r).cfg = s.cfg := by unfold State.setWring; rfl
@[simp] theorem State.setWring_mem : (s.setWring k r).mem = s.mem := by unfold State.setWring; rfl
@[simp] theorem State.setWring_fresh : (s.setWring k r).fresh = s.fresh := by unfold State.setWring; rfl
@[simp] theorem State.setWring_out : (s.setWring k r).out = s.out := by unfold State.setWring; rfl
@[simp] theorem State.setWring_bufs : (s.setWring k r).bufs = s.bufs := by unfold State.setWring; rfl
@[simp] theorem State.setWring_nextBuf : (s.setWring k r).nextBuf = s.nextBuf := by unfold State.setWring; rfl
@[simp] theorem State.setWring_fifos : (s.setWring k r).fifos = s.fifos := by unfold State.setWring; rfl
@[simp] theorem State.setWring_seqs : (s.setWring k r).seqs = s.seqs := by unfold State.setWring; rfl
@[simp] theorem State.setWring_hdrs : (s.setWring k r).hdrs = s.hdrs := by unfold State.setWring; rfl
@[simp] theorem State.setWring_links : (s.setWring k r).links = s.links := by unfold State.setWring; rfl
@[simp] theorem State.setWring_landW : (s.setWring k r).landW = s.landW := by unfold State.setWring; rfl
@[simp] theorem State.setWring_held : (s.setWring k r).held = s.held := by unfold State.setWring; rfl
@[simp] theorem State.setWring_rules : (s.setWring k r).rules = s.rules := by unfold State.setWring; rfl
@[simp] theorem State.setWring_clsSt : (s.setWring k r).clsSt = s.clsSt := by unfold State.setWring; rfl
@[simp] theorem State.setWring_asets : (s.setWring k r).asets = s.asets := by unfold State.setWring; rfl
@[simp] theorem State.setWring_tpls : (s.setWring k r).tpls = s.tpls := by unfold State.setWring; rfl
@[simp] theorem State.setWring_cnts : (s.setWring k r).cnts = s.cnts := by unfold State.setWring; rfl
@[simp] theorem State.setWring_sampling : (s.setWring k r).sampling = s.sampling := by unfold State.setWring; rfl
@[simp] theorem State.setWring_ipId : (s.setWring k r).ipId = s.ipId := by unfold State.setWring; rfl
@[simp] theorem State.setWring_greSeq : (s.setWring k r).greSeq = s.greSeq := by unfold State.setWring; rfl
@[simp] theorem State.setWring_nodes : (s.setWring k r).nodes = s.nodes := by unfold State.setWring; rfl
@[simp] theorem State.setWring_queues : (s.setWring k r).queues = s.queues := by unfold State.setWring; rfl
@[simp] theorem State.setWring_outlets : (s.setWring k r).outlets = s.outlets := by unfold State.setWring; rfl
@[simp] theorem State.setWring_sel : (s.setWring k r).sel = s.sel := by unfold State.setWring; rfl
@[simp] theorem State.setWring_gates : (s.setWring k r).gates = s.gates := by unfold State.setWring; rfl
@[simp] theorem State.setWring_plcrs : (s.setWring k r).plcrs = s.plcrs := by unfold State.setWring; rfl
@[simp] theorem State.setWring_apls : (s.setWring k r).apls = s.apls := by unfold State.setWring; rfl
@[simp] theorem State.setWring_aplReads : (s.setWring k r).aplReads = s.aplReads := by unfold State.setWring; rfl
@[simp] theorem State.setWring_winReqs : (s.setWring k r).winReqs = s.winReqs := by unfold State.setWring; rfl
@[simp] theorem State.setWring_eps : (s.setWring k r).eps = s.eps := by unfold State.setWring; rfl
@[simp] theorem State.setWring_hwait : (s.setWring k r).hwait = s.hwait := by unfold State.setWring; rfl
@[simp] theorem State.setWring_arrived : (s.setWring k r).arrived = s.arrived := by unfold State.setWring; rfl
@[simp] theorem State.setWring_hreads : (s.setWring k r).hreads = s.hreads := by unfold State.setWring; rfl
@[simp] theorem State.setWring_bothFull : (s.setWring k r).bothFull = s.bothFull := by unfold State.setWring; rfl
@[simp] theorem State.setWring_binds : (s.setWring k r).binds = s.binds := by unfold State.setWring; rfl
@[simp] theorem State.setWring_crings : (s.setWring k r).crings = s.crings := by unfold State.setWring; rfl
@[simp] theorem State.setWring_txs : (s.setWring k r).txs = s.txs := by unfold State.setWring; rfl
@[simp] theorem State.setWring_txNext : (s.setWring k r).txNext = s.txNext := by unfold State.setWring; rfl
@[simp] theorem State.setWring_cqes : (s.setWring k r).cqes = s.cqes := by unfold State.setWring; rfl
@[simp] theorem State.setWring_near : (s.setWring k r).near = s.near := by unfold State.setWring; rfl
@[simp] theorem State.setWring_ovf : (s.setWring k r).ovf = s.ovf := by unfold State.setWring; rfl
@[simp] theorem State.setWring_learns : (s.setWring k r).learns = s.learns := by unfold State.setWring; rfl
@[simp] theorem State.setWring_tblSt : (s.setWring k r).tblSt = s.tblSt := by unfold State.setWring; rfl
@[simp] theorem State.setWring_ageDue : (s.setWring k r).ageDue = s.ageDue := by unfold State.setWring; rfl
@[simp] theorem State.setWring_ctxs : (s.setWring k r).ctxs = s.ctxs := by unfold State.setWring; rfl
@[simp] theorem State.setWring_cuEvts : (s.setWring k r).cuEvts = s.cuEvts := by unfold State.setWring; rfl
@[simp] theorem State.setWring_thrs : (s.setWring k r).thrs = s.thrs := by unfold State.setWring; rfl
@[simp] theorem State.setWring_chans : (s.setWring k r).chans = s.chans := by unfold State.setWring; rfl
@[simp] theorem State.setWring_ureqs : (s.setWring k r).ureqs = s.ureqs := by unfold State.setWring; rfl
@[simp] theorem State.setWring_ureps : (s.setWring k r).ureps = s.ureps := by unfold State.setWring; rfl
@[simp] theorem State.setWring_inq : (s.setWring k r).inq = s.inq := by unfold State.setWring; rfl
@[simp] theorem State.setWring_checks : (s.setWring k r).checks = s.checks := by unfold State.setWring; rfl
@[simp] theorem State.setWring_dbgs : (s.setWring k r).dbgs = s.dbgs := by unfold State.setWring; rfl
@[simp] theorem State.setWring_still : (s.setWring k r).still = s.still := by unfold State.setWring; rfl
@[simp] theorem State.setWring_csBad : (s.setWring k r).csBad = s.csBad := by unfold State.setWring; rfl
@[simp] theorem State.setWring_csStage : (s.setWring k r).csStage = s.csStage := by unfold State.setWring; rfl
@[simp] theorem State.setWring_dmas : (s.setWring k r).dmas = s.dmas := by unfold State.setWring; rfl
@[simp] theorem State.setWring_tick : (s.setWring k r).tick = s.tick := by unfold State.setWring; rfl
@[simp] theorem State.setWring_arbs : (s.setWring k r).arbs = s.arbs := by unfold State.setWring; rfl
@[simp] theorem State.setWring_lastRing : (s.setWring k r).lastRing = s.lastRing := by unfold State.setWring; rfl
@[simp] theorem State.setWring_nvs : (s.setWring k r).nvs = s.nvs := by unfold State.setWring; rfl
end

section
variable (s : State) (k : Nat) (r : CplRing)
@[simp] theorem State.setCring_pending : (s.setCring k r).pending = s.pending := by unfold State.setCring; rfl
@[simp] theorem State.setCring_clk : (s.setCring k r).clk = s.clk := by unfold State.setCring; rfl
@[simp] theorem State.setCring_ptime : (s.setCring k r).ptime = s.ptime := by unfold State.setCring; rfl
@[simp] theorem State.setCring_ptFrac : (s.setCring k r).ptFrac = s.ptFrac := by unfold State.setCring; rfl
@[simp] theorem State.setCring_regs : (s.setCring k r).regs = s.regs := by unfold State.setCring; rfl
@[simp] theorem State.setCring_fast : (s.setCring k r).fast = s.fast := by unfold State.setCring; rfl
@[simp] theorem State.setCring_ferry : (s.setCring k r).ferry = s.ferry := by unfold State.setCring; rfl
@[simp] theorem State.setCring_ctrs : (s.setCring k r).ctrs = s.ctrs := by unfold State.setCring; rfl
@[simp] theorem State.setCring_drw : (s.setCring k r).drw = s.drw := by unfold State.setCring; rfl
@[simp] theorem State.setCring_resets : (s.setCring k r).resets = s.resets := by unfold State.setCring; rfl
@[simp] theorem State.setCring_fences : (s.setCring k r).fences = s.fences := by unfold State.setCring; rfl
@[simp] theorem State.setCring_doms : (s.setCring k r).doms = s.doms := by unfold State.setCring; rfl
@[simp] theorem State.setCring_barriers : (s.setCring k r).barriers = s.barriers := by unfold State.setCring; rfl
@[simp] theorem State.setCring_reports : (s.setCring k r).reports = s.reports := by unfold State.setCring; rfl
@[simp] theorem State.setCring_colls : (s.setCring k r).colls = s.colls := by unfold State.setCring; rfl
@[simp] theorem State.setCring_log : (s.setCring k r).log = s.log := by unfold State.setCring; rfl
@[simp] theorem State.setCring_fuses : (s.setCring k r).fuses = s.fuses := by unfold State.setCring; rfl
@[simp] theorem State.setCring_sec : (s.setCring k r).sec = s.sec := by unfold State.setCring; rfl
@[simp] theorem State.setCring_omc : (s.setCring k r).omc = s.omc := by unfold State.setCring; rfl
@[simp] theorem State.setCring_jtag : (s.setCring k r).jtag = s.jtag := by unfold State.setCring; rfl
@[simp] theorem State.setCring_pins : (s.setCring k r).pins = s.pins := by unfold State.setCring; rfl
@[simp] theorem State.setCring_cfg : (s.setCring k r).cfg = s.cfg := by unfold State.setCring; rfl
@[simp] theorem State.setCring_mem : (s.setCring k r).mem = s.mem := by unfold State.setCring; rfl
@[simp] theorem State.setCring_fresh : (s.setCring k r).fresh = s.fresh := by unfold State.setCring; rfl
@[simp] theorem State.setCring_out : (s.setCring k r).out = s.out := by unfold State.setCring; rfl
@[simp] theorem State.setCring_bufs : (s.setCring k r).bufs = s.bufs := by unfold State.setCring; rfl
@[simp] theorem State.setCring_nextBuf : (s.setCring k r).nextBuf = s.nextBuf := by unfold State.setCring; rfl
@[simp] theorem State.setCring_fifos : (s.setCring k r).fifos = s.fifos := by unfold State.setCring; rfl
@[simp] theorem State.setCring_seqs : (s.setCring k r).seqs = s.seqs := by unfold State.setCring; rfl
@[simp] theorem State.setCring_hdrs : (s.setCring k r).hdrs = s.hdrs := by unfold State.setCring; rfl
@[simp] theorem State.setCring_links : (s.setCring k r).links = s.links := by unfold State.setCring; rfl
@[simp] theorem State.setCring_landW : (s.setCring k r).landW = s.landW := by unfold State.setCring; rfl
@[simp] theorem State.setCring_held : (s.setCring k r).held = s.held := by unfold State.setCring; rfl
@[simp] theorem State.setCring_rules : (s.setCring k r).rules = s.rules := by unfold State.setCring; rfl
@[simp] theorem State.setCring_clsSt : (s.setCring k r).clsSt = s.clsSt := by unfold State.setCring; rfl
@[simp] theorem State.setCring_asets : (s.setCring k r).asets = s.asets := by unfold State.setCring; rfl
@[simp] theorem State.setCring_tpls : (s.setCring k r).tpls = s.tpls := by unfold State.setCring; rfl
@[simp] theorem State.setCring_cnts : (s.setCring k r).cnts = s.cnts := by unfold State.setCring; rfl
@[simp] theorem State.setCring_sampling : (s.setCring k r).sampling = s.sampling := by unfold State.setCring; rfl
@[simp] theorem State.setCring_ipId : (s.setCring k r).ipId = s.ipId := by unfold State.setCring; rfl
@[simp] theorem State.setCring_greSeq : (s.setCring k r).greSeq = s.greSeq := by unfold State.setCring; rfl
@[simp] theorem State.setCring_nodes : (s.setCring k r).nodes = s.nodes := by unfold State.setCring; rfl
@[simp] theorem State.setCring_queues : (s.setCring k r).queues = s.queues := by unfold State.setCring; rfl
@[simp] theorem State.setCring_outlets : (s.setCring k r).outlets = s.outlets := by unfold State.setCring; rfl
@[simp] theorem State.setCring_sel : (s.setCring k r).sel = s.sel := by unfold State.setCring; rfl
@[simp] theorem State.setCring_gates : (s.setCring k r).gates = s.gates := by unfold State.setCring; rfl
@[simp] theorem State.setCring_plcrs : (s.setCring k r).plcrs = s.plcrs := by unfold State.setCring; rfl
@[simp] theorem State.setCring_apls : (s.setCring k r).apls = s.apls := by unfold State.setCring; rfl
@[simp] theorem State.setCring_aplReads : (s.setCring k r).aplReads = s.aplReads := by unfold State.setCring; rfl
@[simp] theorem State.setCring_winReqs : (s.setCring k r).winReqs = s.winReqs := by unfold State.setCring; rfl
@[simp] theorem State.setCring_eps : (s.setCring k r).eps = s.eps := by unfold State.setCring; rfl
@[simp] theorem State.setCring_hwait : (s.setCring k r).hwait = s.hwait := by unfold State.setCring; rfl
@[simp] theorem State.setCring_arrived : (s.setCring k r).arrived = s.arrived := by unfold State.setCring; rfl
@[simp] theorem State.setCring_hreads : (s.setCring k r).hreads = s.hreads := by unfold State.setCring; rfl
@[simp] theorem State.setCring_bothFull : (s.setCring k r).bothFull = s.bothFull := by unfold State.setCring; rfl
@[simp] theorem State.setCring_binds : (s.setCring k r).binds = s.binds := by unfold State.setCring; rfl
@[simp] theorem State.setCring_wrings : (s.setCring k r).wrings = s.wrings := by unfold State.setCring; rfl
@[simp] theorem State.setCring_txs : (s.setCring k r).txs = s.txs := by unfold State.setCring; rfl
@[simp] theorem State.setCring_txNext : (s.setCring k r).txNext = s.txNext := by unfold State.setCring; rfl
@[simp] theorem State.setCring_cqes : (s.setCring k r).cqes = s.cqes := by unfold State.setCring; rfl
@[simp] theorem State.setCring_near : (s.setCring k r).near = s.near := by unfold State.setCring; rfl
@[simp] theorem State.setCring_ovf : (s.setCring k r).ovf = s.ovf := by unfold State.setCring; rfl
@[simp] theorem State.setCring_learns : (s.setCring k r).learns = s.learns := by unfold State.setCring; rfl
@[simp] theorem State.setCring_tblSt : (s.setCring k r).tblSt = s.tblSt := by unfold State.setCring; rfl
@[simp] theorem State.setCring_ageDue : (s.setCring k r).ageDue = s.ageDue := by unfold State.setCring; rfl
@[simp] theorem State.setCring_ctxs : (s.setCring k r).ctxs = s.ctxs := by unfold State.setCring; rfl
@[simp] theorem State.setCring_cuEvts : (s.setCring k r).cuEvts = s.cuEvts := by unfold State.setCring; rfl
@[simp] theorem State.setCring_thrs : (s.setCring k r).thrs = s.thrs := by unfold State.setCring; rfl
@[simp] theorem State.setCring_chans : (s.setCring k r).chans = s.chans := by unfold State.setCring; rfl
@[simp] theorem State.setCring_ureqs : (s.setCring k r).ureqs = s.ureqs := by unfold State.setCring; rfl
@[simp] theorem State.setCring_ureps : (s.setCring k r).ureps = s.ureps := by unfold State.setCring; rfl
@[simp] theorem State.setCring_inq : (s.setCring k r).inq = s.inq := by unfold State.setCring; rfl
@[simp] theorem State.setCring_checks : (s.setCring k r).checks = s.checks := by unfold State.setCring; rfl
@[simp] theorem State.setCring_dbgs : (s.setCring k r).dbgs = s.dbgs := by unfold State.setCring; rfl
@[simp] theorem State.setCring_still : (s.setCring k r).still = s.still := by unfold State.setCring; rfl
@[simp] theorem State.setCring_csBad : (s.setCring k r).csBad = s.csBad := by unfold State.setCring; rfl
@[simp] theorem State.setCring_csStage : (s.setCring k r).csStage = s.csStage := by unfold State.setCring; rfl
@[simp] theorem State.setCring_dmas : (s.setCring k r).dmas = s.dmas := by unfold State.setCring; rfl
@[simp] theorem State.setCring_tick : (s.setCring k r).tick = s.tick := by unfold State.setCring; rfl
@[simp] theorem State.setCring_arbs : (s.setCring k r).arbs = s.arbs := by unfold State.setCring; rfl
@[simp] theorem State.setCring_lastRing : (s.setCring k r).lastRing = s.lastRing := by unfold State.setCring; rfl
@[simp] theorem State.setCring_nvs : (s.setCring k r).nvs = s.nvs := by unfold State.setCring; rfl
end

section
variable (s : State) (i : Nat) (x : TxRec)
@[simp] theorem State.setTx_pending : (s.setTx i x).pending = s.pending := by unfold State.setTx; rfl
@[simp] theorem State.setTx_clk : (s.setTx i x).clk = s.clk := by unfold State.setTx; rfl
@[simp] theorem State.setTx_ptime : (s.setTx i x).ptime = s.ptime := by unfold State.setTx; rfl
@[simp] theorem State.setTx_ptFrac : (s.setTx i x).ptFrac = s.ptFrac := by unfold State.setTx; rfl
@[simp] theorem State.setTx_regs : (s.setTx i x).regs = s.regs := by unfold State.setTx; rfl
@[simp] theorem State.setTx_fast : (s.setTx i x).fast = s.fast := by unfold State.setTx; rfl
@[simp] theorem State.setTx_ferry : (s.setTx i x).ferry = s.ferry := by unfold State.setTx; rfl
@[simp] theorem State.setTx_ctrs : (s.setTx i x).ctrs = s.ctrs := by unfold State.setTx; rfl
@[simp] theorem State.setTx_drw : (s.setTx i x).drw = s.drw := by unfold State.setTx; rfl
@[simp] theorem State.setTx_resets : (s.setTx i x).resets = s.resets := by unfold State.setTx; rfl
@[simp] theorem State.setTx_fences : (s.setTx i x).fences = s.fences := by unfold State.setTx; rfl
@[simp] theorem State.setTx_doms : (s.setTx i x).doms = s.doms := by unfold State.setTx; rfl
@[simp] theorem State.setTx_barriers : (s.setTx i x).barriers = s.barriers := by unfold State.setTx; rfl
@[simp] theorem State.setTx_reports : (s.setTx i x).reports = s.reports := by unfold State.setTx; rfl
@[simp] theorem State.setTx_colls : (s.setTx i x).colls = s.colls := by unfold State.setTx; rfl
@[simp] theorem State.setTx_log : (s.setTx i x).log = s.log := by unfold State.setTx; rfl
@[simp] theorem State.setTx_fuses : (s.setTx i x).fuses = s.fuses := by unfold State.setTx; rfl
@[simp] theorem State.setTx_sec : (s.setTx i x).sec = s.sec := by unfold State.setTx; rfl
@[simp] theorem State.setTx_omc : (s.setTx i x).omc = s.omc := by unfold State.setTx; rfl
@[simp] theorem State.setTx_jtag : (s.setTx i x).jtag = s.jtag := by unfold State.setTx; rfl
@[simp] theorem State.setTx_pins : (s.setTx i x).pins = s.pins := by unfold State.setTx; rfl
@[simp] theorem State.setTx_cfg : (s.setTx i x).cfg = s.cfg := by unfold State.setTx; rfl
@[simp] theorem State.setTx_mem : (s.setTx i x).mem = s.mem := by unfold State.setTx; rfl
@[simp] theorem State.setTx_fresh : (s.setTx i x).fresh = s.fresh := by unfold State.setTx; rfl
@[simp] theorem State.setTx_out : (s.setTx i x).out = s.out := by unfold State.setTx; rfl
@[simp] theorem State.setTx_bufs : (s.setTx i x).bufs = s.bufs := by unfold State.setTx; rfl
@[simp] theorem State.setTx_nextBuf : (s.setTx i x).nextBuf = s.nextBuf := by unfold State.setTx; rfl
@[simp] theorem State.setTx_fifos : (s.setTx i x).fifos = s.fifos := by unfold State.setTx; rfl
@[simp] theorem State.setTx_seqs : (s.setTx i x).seqs = s.seqs := by unfold State.setTx; rfl
@[simp] theorem State.setTx_hdrs : (s.setTx i x).hdrs = s.hdrs := by unfold State.setTx; rfl
@[simp] theorem State.setTx_links : (s.setTx i x).links = s.links := by unfold State.setTx; rfl
@[simp] theorem State.setTx_landW : (s.setTx i x).landW = s.landW := by unfold State.setTx; rfl
@[simp] theorem State.setTx_held : (s.setTx i x).held = s.held := by unfold State.setTx; rfl
@[simp] theorem State.setTx_rules : (s.setTx i x).rules = s.rules := by unfold State.setTx; rfl
@[simp] theorem State.setTx_clsSt : (s.setTx i x).clsSt = s.clsSt := by unfold State.setTx; rfl
@[simp] theorem State.setTx_asets : (s.setTx i x).asets = s.asets := by unfold State.setTx; rfl
@[simp] theorem State.setTx_tpls : (s.setTx i x).tpls = s.tpls := by unfold State.setTx; rfl
@[simp] theorem State.setTx_cnts : (s.setTx i x).cnts = s.cnts := by unfold State.setTx; rfl
@[simp] theorem State.setTx_sampling : (s.setTx i x).sampling = s.sampling := by unfold State.setTx; rfl
@[simp] theorem State.setTx_ipId : (s.setTx i x).ipId = s.ipId := by unfold State.setTx; rfl
@[simp] theorem State.setTx_greSeq : (s.setTx i x).greSeq = s.greSeq := by unfold State.setTx; rfl
@[simp] theorem State.setTx_nodes : (s.setTx i x).nodes = s.nodes := by unfold State.setTx; rfl
@[simp] theorem State.setTx_queues : (s.setTx i x).queues = s.queues := by unfold State.setTx; rfl
@[simp] theorem State.setTx_outlets : (s.setTx i x).outlets = s.outlets := by unfold State.setTx; rfl
@[simp] theorem State.setTx_sel : (s.setTx i x).sel = s.sel := by unfold State.setTx; rfl
@[simp] theorem State.setTx_gates : (s.setTx i x).gates = s.gates := by unfold State.setTx; rfl
@[simp] theorem State.setTx_plcrs : (s.setTx i x).plcrs = s.plcrs := by unfold State.setTx; rfl
@[simp] theorem State.setTx_apls : (s.setTx i x).apls = s.apls := by unfold State.setTx; rfl
@[simp] theorem State.setTx_aplReads : (s.setTx i x).aplReads = s.aplReads := by unfold State.setTx; rfl
@[simp] theorem State.setTx_winReqs : (s.setTx i x).winReqs = s.winReqs := by unfold State.setTx; rfl
@[simp] theorem State.setTx_eps : (s.setTx i x).eps = s.eps := by unfold State.setTx; rfl
@[simp] theorem State.setTx_hwait : (s.setTx i x).hwait = s.hwait := by unfold State.setTx; rfl
@[simp] theorem State.setTx_arrived : (s.setTx i x).arrived = s.arrived := by unfold State.setTx; rfl
@[simp] theorem State.setTx_hreads : (s.setTx i x).hreads = s.hreads := by unfold State.setTx; rfl
@[simp] theorem State.setTx_bothFull : (s.setTx i x).bothFull = s.bothFull := by unfold State.setTx; rfl
@[simp] theorem State.setTx_binds : (s.setTx i x).binds = s.binds := by unfold State.setTx; rfl
@[simp] theorem State.setTx_wrings : (s.setTx i x).wrings = s.wrings := by unfold State.setTx; rfl
@[simp] theorem State.setTx_crings : (s.setTx i x).crings = s.crings := by unfold State.setTx; rfl
@[simp] theorem State.setTx_txNext : (s.setTx i x).txNext = s.txNext := by unfold State.setTx; rfl
@[simp] theorem State.setTx_cqes : (s.setTx i x).cqes = s.cqes := by unfold State.setTx; rfl
@[simp] theorem State.setTx_near : (s.setTx i x).near = s.near := by unfold State.setTx; rfl
@[simp] theorem State.setTx_ovf : (s.setTx i x).ovf = s.ovf := by unfold State.setTx; rfl
@[simp] theorem State.setTx_learns : (s.setTx i x).learns = s.learns := by unfold State.setTx; rfl
@[simp] theorem State.setTx_tblSt : (s.setTx i x).tblSt = s.tblSt := by unfold State.setTx; rfl
@[simp] theorem State.setTx_ageDue : (s.setTx i x).ageDue = s.ageDue := by unfold State.setTx; rfl
@[simp] theorem State.setTx_ctxs : (s.setTx i x).ctxs = s.ctxs := by unfold State.setTx; rfl
@[simp] theorem State.setTx_cuEvts : (s.setTx i x).cuEvts = s.cuEvts := by unfold State.setTx; rfl
@[simp] theorem State.setTx_thrs : (s.setTx i x).thrs = s.thrs := by unfold State.setTx; rfl
@[simp] theorem State.setTx_chans : (s.setTx i x).chans = s.chans := by unfold State.setTx; rfl
@[simp] theorem State.setTx_ureqs : (s.setTx i x).ureqs = s.ureqs := by unfold State.setTx; rfl
@[simp] theorem State.setTx_ureps : (s.setTx i x).ureps = s.ureps := by unfold State.setTx; rfl
@[simp] theorem State.setTx_inq : (s.setTx i x).inq = s.inq := by unfold State.setTx; rfl
@[simp] theorem State.setTx_checks : (s.setTx i x).checks = s.checks := by unfold State.setTx; rfl
@[simp] theorem State.setTx_dbgs : (s.setTx i x).dbgs = s.dbgs := by unfold State.setTx; rfl
@[simp] theorem State.setTx_still : (s.setTx i x).still = s.still := by unfold State.setTx; rfl
@[simp] theorem State.setTx_csBad : (s.setTx i x).csBad = s.csBad := by unfold State.setTx; rfl
@[simp] theorem State.setTx_csStage : (s.setTx i x).csStage = s.csStage := by unfold State.setTx; rfl
@[simp] theorem State.setTx_dmas : (s.setTx i x).dmas = s.dmas := by unfold State.setTx; rfl
@[simp] theorem State.setTx_tick : (s.setTx i x).tick = s.tick := by unfold State.setTx; rfl
@[simp] theorem State.setTx_arbs : (s.setTx i x).arbs = s.arbs := by unfold State.setTx; rfl
@[simp] theorem State.setTx_lastRing : (s.setTx i x).lastRing = s.lastRing := by unfold State.setTx; rfl
@[simp] theorem State.setTx_nvs : (s.setTx i x).nvs = s.nvs := by unfold State.setTx; rfl
end

section
variable (s : State) (k : Nat) (b : Buf)
@[simp] theorem State.setBuf_pending : (s.setBuf k b).pending = s.pending := by unfold State.setBuf; rfl
@[simp] theorem State.setBuf_clk : (s.setBuf k b).clk = s.clk := by unfold State.setBuf; rfl
@[simp] theorem State.setBuf_ptime : (s.setBuf k b).ptime = s.ptime := by unfold State.setBuf; rfl
@[simp] theorem State.setBuf_ptFrac : (s.setBuf k b).ptFrac = s.ptFrac := by unfold State.setBuf; rfl
@[simp] theorem State.setBuf_regs : (s.setBuf k b).regs = s.regs := by unfold State.setBuf; rfl
@[simp] theorem State.setBuf_fast : (s.setBuf k b).fast = s.fast := by unfold State.setBuf; rfl
@[simp] theorem State.setBuf_ferry : (s.setBuf k b).ferry = s.ferry := by unfold State.setBuf; rfl
@[simp] theorem State.setBuf_ctrs : (s.setBuf k b).ctrs = s.ctrs := by unfold State.setBuf; rfl
@[simp] theorem State.setBuf_drw : (s.setBuf k b).drw = s.drw := by unfold State.setBuf; rfl
@[simp] theorem State.setBuf_resets : (s.setBuf k b).resets = s.resets := by unfold State.setBuf; rfl
@[simp] theorem State.setBuf_fences : (s.setBuf k b).fences = s.fences := by unfold State.setBuf; rfl
@[simp] theorem State.setBuf_doms : (s.setBuf k b).doms = s.doms := by unfold State.setBuf; rfl
@[simp] theorem State.setBuf_barriers : (s.setBuf k b).barriers = s.barriers := by unfold State.setBuf; rfl
@[simp] theorem State.setBuf_reports : (s.setBuf k b).reports = s.reports := by unfold State.setBuf; rfl
@[simp] theorem State.setBuf_colls : (s.setBuf k b).colls = s.colls := by unfold State.setBuf; rfl
@[simp] theorem State.setBuf_log : (s.setBuf k b).log = s.log := by unfold State.setBuf; rfl
@[simp] theorem State.setBuf_fuses : (s.setBuf k b).fuses = s.fuses := by unfold State.setBuf; rfl
@[simp] theorem State.setBuf_sec : (s.setBuf k b).sec = s.sec := by unfold State.setBuf; rfl
@[simp] theorem State.setBuf_omc : (s.setBuf k b).omc = s.omc := by unfold State.setBuf; rfl
@[simp] theorem State.setBuf_jtag : (s.setBuf k b).jtag = s.jtag := by unfold State.setBuf; rfl
@[simp] theorem State.setBuf_pins : (s.setBuf k b).pins = s.pins := by unfold State.setBuf; rfl
@[simp] theorem State.setBuf_cfg : (s.setBuf k b).cfg = s.cfg := by unfold State.setBuf; rfl
@[simp] theorem State.setBuf_mem : (s.setBuf k b).mem = s.mem := by unfold State.setBuf; rfl
@[simp] theorem State.setBuf_fresh : (s.setBuf k b).fresh = s.fresh := by unfold State.setBuf; rfl
@[simp] theorem State.setBuf_out : (s.setBuf k b).out = s.out := by unfold State.setBuf; rfl
@[simp] theorem State.setBuf_nextBuf : (s.setBuf k b).nextBuf = s.nextBuf := by unfold State.setBuf; rfl
@[simp] theorem State.setBuf_fifos : (s.setBuf k b).fifos = s.fifos := by unfold State.setBuf; rfl
@[simp] theorem State.setBuf_seqs : (s.setBuf k b).seqs = s.seqs := by unfold State.setBuf; rfl
@[simp] theorem State.setBuf_hdrs : (s.setBuf k b).hdrs = s.hdrs := by unfold State.setBuf; rfl
@[simp] theorem State.setBuf_links : (s.setBuf k b).links = s.links := by unfold State.setBuf; rfl
@[simp] theorem State.setBuf_landW : (s.setBuf k b).landW = s.landW := by unfold State.setBuf; rfl
@[simp] theorem State.setBuf_held : (s.setBuf k b).held = s.held := by unfold State.setBuf; rfl
@[simp] theorem State.setBuf_rules : (s.setBuf k b).rules = s.rules := by unfold State.setBuf; rfl
@[simp] theorem State.setBuf_clsSt : (s.setBuf k b).clsSt = s.clsSt := by unfold State.setBuf; rfl
@[simp] theorem State.setBuf_asets : (s.setBuf k b).asets = s.asets := by unfold State.setBuf; rfl
@[simp] theorem State.setBuf_tpls : (s.setBuf k b).tpls = s.tpls := by unfold State.setBuf; rfl
@[simp] theorem State.setBuf_cnts : (s.setBuf k b).cnts = s.cnts := by unfold State.setBuf; rfl
@[simp] theorem State.setBuf_sampling : (s.setBuf k b).sampling = s.sampling := by unfold State.setBuf; rfl
@[simp] theorem State.setBuf_ipId : (s.setBuf k b).ipId = s.ipId := by unfold State.setBuf; rfl
@[simp] theorem State.setBuf_greSeq : (s.setBuf k b).greSeq = s.greSeq := by unfold State.setBuf; rfl
@[simp] theorem State.setBuf_nodes : (s.setBuf k b).nodes = s.nodes := by unfold State.setBuf; rfl
@[simp] theorem State.setBuf_queues : (s.setBuf k b).queues = s.queues := by unfold State.setBuf; rfl
@[simp] theorem State.setBuf_outlets : (s.setBuf k b).outlets = s.outlets := by unfold State.setBuf; rfl
@[simp] theorem State.setBuf_sel : (s.setBuf k b).sel = s.sel := by unfold State.setBuf; rfl
@[simp] theorem State.setBuf_gates : (s.setBuf k b).gates = s.gates := by unfold State.setBuf; rfl
@[simp] theorem State.setBuf_plcrs : (s.setBuf k b).plcrs = s.plcrs := by unfold State.setBuf; rfl
@[simp] theorem State.setBuf_apls : (s.setBuf k b).apls = s.apls := by unfold State.setBuf; rfl
@[simp] theorem State.setBuf_aplReads : (s.setBuf k b).aplReads = s.aplReads := by unfold State.setBuf; rfl
@[simp] theorem State.setBuf_winReqs : (s.setBuf k b).winReqs = s.winReqs := by unfold State.setBuf; rfl
@[simp] theorem State.setBuf_eps : (s.setBuf k b).eps = s.eps := by unfold State.setBuf; rfl
@[simp] theorem State.setBuf_hwait : (s.setBuf k b).hwait = s.hwait := by unfold State.setBuf; rfl
@[simp] theorem State.setBuf_arrived : (s.setBuf k b).arrived = s.arrived := by unfold State.setBuf; rfl
@[simp] theorem State.setBuf_hreads : (s.setBuf k b).hreads = s.hreads := by unfold State.setBuf; rfl
@[simp] theorem State.setBuf_bothFull : (s.setBuf k b).bothFull = s.bothFull := by unfold State.setBuf; rfl
@[simp] theorem State.setBuf_binds : (s.setBuf k b).binds = s.binds := by unfold State.setBuf; rfl
@[simp] theorem State.setBuf_wrings : (s.setBuf k b).wrings = s.wrings := by unfold State.setBuf; rfl
@[simp] theorem State.setBuf_crings : (s.setBuf k b).crings = s.crings := by unfold State.setBuf; rfl
@[simp] theorem State.setBuf_txs : (s.setBuf k b).txs = s.txs := by unfold State.setBuf; rfl
@[simp] theorem State.setBuf_txNext : (s.setBuf k b).txNext = s.txNext := by unfold State.setBuf; rfl
@[simp] theorem State.setBuf_cqes : (s.setBuf k b).cqes = s.cqes := by unfold State.setBuf; rfl
@[simp] theorem State.setBuf_near : (s.setBuf k b).near = s.near := by unfold State.setBuf; rfl
@[simp] theorem State.setBuf_ovf : (s.setBuf k b).ovf = s.ovf := by unfold State.setBuf; rfl
@[simp] theorem State.setBuf_learns : (s.setBuf k b).learns = s.learns := by unfold State.setBuf; rfl
@[simp] theorem State.setBuf_tblSt : (s.setBuf k b).tblSt = s.tblSt := by unfold State.setBuf; rfl
@[simp] theorem State.setBuf_ageDue : (s.setBuf k b).ageDue = s.ageDue := by unfold State.setBuf; rfl
@[simp] theorem State.setBuf_ctxs : (s.setBuf k b).ctxs = s.ctxs := by unfold State.setBuf; rfl
@[simp] theorem State.setBuf_cuEvts : (s.setBuf k b).cuEvts = s.cuEvts := by unfold State.setBuf; rfl
@[simp] theorem State.setBuf_thrs : (s.setBuf k b).thrs = s.thrs := by unfold State.setBuf; rfl
@[simp] theorem State.setBuf_chans : (s.setBuf k b).chans = s.chans := by unfold State.setBuf; rfl
@[simp] theorem State.setBuf_ureqs : (s.setBuf k b).ureqs = s.ureqs := by unfold State.setBuf; rfl
@[simp] theorem State.setBuf_ureps : (s.setBuf k b).ureps = s.ureps := by unfold State.setBuf; rfl
@[simp] theorem State.setBuf_inq : (s.setBuf k b).inq = s.inq := by unfold State.setBuf; rfl
@[simp] theorem State.setBuf_checks : (s.setBuf k b).checks = s.checks := by unfold State.setBuf; rfl
@[simp] theorem State.setBuf_dbgs : (s.setBuf k b).dbgs = s.dbgs := by unfold State.setBuf; rfl
@[simp] theorem State.setBuf_still : (s.setBuf k b).still = s.still := by unfold State.setBuf; rfl
@[simp] theorem State.setBuf_csBad : (s.setBuf k b).csBad = s.csBad := by unfold State.setBuf; rfl
@[simp] theorem State.setBuf_csStage : (s.setBuf k b).csStage = s.csStage := by unfold State.setBuf; rfl
@[simp] theorem State.setBuf_dmas : (s.setBuf k b).dmas = s.dmas := by unfold State.setBuf; rfl
@[simp] theorem State.setBuf_tick : (s.setBuf k b).tick = s.tick := by unfold State.setBuf; rfl
@[simp] theorem State.setBuf_arbs : (s.setBuf k b).arbs = s.arbs := by unfold State.setBuf; rfl
@[simp] theorem State.setBuf_lastRing : (s.setBuf k b).lastRing = s.lastRing := by unfold State.setBuf; rfl
@[simp] theorem State.setBuf_nvs : (s.setBuf k b).nvs = s.nvs := by unfold State.setBuf; rfl
end

section
variable (s : State) (k : Nat) (f : Fifo)
@[simp] theorem State.setFifo_pending : (s.setFifo k f).pending = s.pending := by unfold State.setFifo; rfl
@[simp] theorem State.setFifo_clk : (s.setFifo k f).clk = s.clk := by unfold State.setFifo; rfl
@[simp] theorem State.setFifo_ptime : (s.setFifo k f).ptime = s.ptime := by unfold State.setFifo; rfl
@[simp] theorem State.setFifo_ptFrac : (s.setFifo k f).ptFrac = s.ptFrac := by unfold State.setFifo; rfl
@[simp] theorem State.setFifo_regs : (s.setFifo k f).regs = s.regs := by unfold State.setFifo; rfl
@[simp] theorem State.setFifo_fast : (s.setFifo k f).fast = s.fast := by unfold State.setFifo; rfl
@[simp] theorem State.setFifo_ferry : (s.setFifo k f).ferry = s.ferry := by unfold State.setFifo; rfl
@[simp] theorem State.setFifo_ctrs : (s.setFifo k f).ctrs = s.ctrs := by unfold State.setFifo; rfl
@[simp] theorem State.setFifo_drw : (s.setFifo k f).drw = s.drw := by unfold State.setFifo; rfl
@[simp] theorem State.setFifo_resets : (s.setFifo k f).resets = s.resets := by unfold State.setFifo; rfl
@[simp] theorem State.setFifo_fences : (s.setFifo k f).fences = s.fences := by unfold State.setFifo; rfl
@[simp] theorem State.setFifo_doms : (s.setFifo k f).doms = s.doms := by unfold State.setFifo; rfl
@[simp] theorem State.setFifo_barriers : (s.setFifo k f).barriers = s.barriers := by unfold State.setFifo; rfl
@[simp] theorem State.setFifo_reports : (s.setFifo k f).reports = s.reports := by unfold State.setFifo; rfl
@[simp] theorem State.setFifo_colls : (s.setFifo k f).colls = s.colls := by unfold State.setFifo; rfl
@[simp] theorem State.setFifo_log : (s.setFifo k f).log = s.log := by unfold State.setFifo; rfl
@[simp] theorem State.setFifo_fuses : (s.setFifo k f).fuses = s.fuses := by unfold State.setFifo; rfl
@[simp] theorem State.setFifo_sec : (s.setFifo k f).sec = s.sec := by unfold State.setFifo; rfl
@[simp] theorem State.setFifo_omc : (s.setFifo k f).omc = s.omc := by unfold State.setFifo; rfl
@[simp] theorem State.setFifo_jtag : (s.setFifo k f).jtag = s.jtag := by unfold State.setFifo; rfl
@[simp] theorem State.setFifo_pins : (s.setFifo k f).pins = s.pins := by unfold State.setFifo; rfl
@[simp] theorem State.setFifo_cfg : (s.setFifo k f).cfg = s.cfg := by unfold State.setFifo; rfl
@[simp] theorem State.setFifo_mem : (s.setFifo k f).mem = s.mem := by unfold State.setFifo; rfl
@[simp] theorem State.setFifo_fresh : (s.setFifo k f).fresh = s.fresh := by unfold State.setFifo; rfl
@[simp] theorem State.setFifo_out : (s.setFifo k f).out = s.out := by unfold State.setFifo; rfl
@[simp] theorem State.setFifo_bufs : (s.setFifo k f).bufs = s.bufs := by unfold State.setFifo; rfl
@[simp] theorem State.setFifo_nextBuf : (s.setFifo k f).nextBuf = s.nextBuf := by unfold State.setFifo; rfl
@[simp] theorem State.setFifo_seqs : (s.setFifo k f).seqs = s.seqs := by unfold State.setFifo; rfl
@[simp] theorem State.setFifo_hdrs : (s.setFifo k f).hdrs = s.hdrs := by unfold State.setFifo; rfl
@[simp] theorem State.setFifo_links : (s.setFifo k f).links = s.links := by unfold State.setFifo; rfl
@[simp] theorem State.setFifo_landW : (s.setFifo k f).landW = s.landW := by unfold State.setFifo; rfl
@[simp] theorem State.setFifo_held : (s.setFifo k f).held = s.held := by unfold State.setFifo; rfl
@[simp] theorem State.setFifo_rules : (s.setFifo k f).rules = s.rules := by unfold State.setFifo; rfl
@[simp] theorem State.setFifo_clsSt : (s.setFifo k f).clsSt = s.clsSt := by unfold State.setFifo; rfl
@[simp] theorem State.setFifo_asets : (s.setFifo k f).asets = s.asets := by unfold State.setFifo; rfl
@[simp] theorem State.setFifo_tpls : (s.setFifo k f).tpls = s.tpls := by unfold State.setFifo; rfl
@[simp] theorem State.setFifo_cnts : (s.setFifo k f).cnts = s.cnts := by unfold State.setFifo; rfl
@[simp] theorem State.setFifo_sampling : (s.setFifo k f).sampling = s.sampling := by unfold State.setFifo; rfl
@[simp] theorem State.setFifo_ipId : (s.setFifo k f).ipId = s.ipId := by unfold State.setFifo; rfl
@[simp] theorem State.setFifo_greSeq : (s.setFifo k f).greSeq = s.greSeq := by unfold State.setFifo; rfl
@[simp] theorem State.setFifo_nodes : (s.setFifo k f).nodes = s.nodes := by unfold State.setFifo; rfl
@[simp] theorem State.setFifo_queues : (s.setFifo k f).queues = s.queues := by unfold State.setFifo; rfl
@[simp] theorem State.setFifo_outlets : (s.setFifo k f).outlets = s.outlets := by unfold State.setFifo; rfl
@[simp] theorem State.setFifo_sel : (s.setFifo k f).sel = s.sel := by unfold State.setFifo; rfl
@[simp] theorem State.setFifo_gates : (s.setFifo k f).gates = s.gates := by unfold State.setFifo; rfl
@[simp] theorem State.setFifo_plcrs : (s.setFifo k f).plcrs = s.plcrs := by unfold State.setFifo; rfl
@[simp] theorem State.setFifo_apls : (s.setFifo k f).apls = s.apls := by unfold State.setFifo; rfl
@[simp] theorem State.setFifo_aplReads : (s.setFifo k f).aplReads = s.aplReads := by unfold State.setFifo; rfl
@[simp] theorem State.setFifo_winReqs : (s.setFifo k f).winReqs = s.winReqs := by unfold State.setFifo; rfl
@[simp] theorem State.setFifo_eps : (s.setFifo k f).eps = s.eps := by unfold State.setFifo; rfl
@[simp] theorem State.setFifo_hwait : (s.setFifo k f).hwait = s.hwait := by unfold State.setFifo; rfl
@[simp] theorem State.setFifo_arrived : (s.setFifo k f).arrived = s.arrived := by unfold State.setFifo; rfl
@[simp] theorem State.setFifo_hreads : (s.setFifo k f).hreads = s.hreads := by unfold State.setFifo; rfl
@[simp] theorem State.setFifo_bothFull : (s.setFifo k f).bothFull = s.bothFull := by unfold State.setFifo; rfl
@[simp] theorem State.setFifo_binds : (s.setFifo k f).binds = s.binds := by unfold State.setFifo; rfl
@[simp] theorem State.setFifo_wrings : (s.setFifo k f).wrings = s.wrings := by unfold State.setFifo; rfl
@[simp] theorem State.setFifo_crings : (s.setFifo k f).crings = s.crings := by unfold State.setFifo; rfl
@[simp] theorem State.setFifo_txs : (s.setFifo k f).txs = s.txs := by unfold State.setFifo; rfl
@[simp] theorem State.setFifo_txNext : (s.setFifo k f).txNext = s.txNext := by unfold State.setFifo; rfl
@[simp] theorem State.setFifo_cqes : (s.setFifo k f).cqes = s.cqes := by unfold State.setFifo; rfl
@[simp] theorem State.setFifo_near : (s.setFifo k f).near = s.near := by unfold State.setFifo; rfl
@[simp] theorem State.setFifo_ovf : (s.setFifo k f).ovf = s.ovf := by unfold State.setFifo; rfl
@[simp] theorem State.setFifo_learns : (s.setFifo k f).learns = s.learns := by unfold State.setFifo; rfl
@[simp] theorem State.setFifo_tblSt : (s.setFifo k f).tblSt = s.tblSt := by unfold State.setFifo; rfl
@[simp] theorem State.setFifo_ageDue : (s.setFifo k f).ageDue = s.ageDue := by unfold State.setFifo; rfl
@[simp] theorem State.setFifo_ctxs : (s.setFifo k f).ctxs = s.ctxs := by unfold State.setFifo; rfl
@[simp] theorem State.setFifo_cuEvts : (s.setFifo k f).cuEvts = s.cuEvts := by unfold State.setFifo; rfl
@[simp] theorem State.setFifo_thrs : (s.setFifo k f).thrs = s.thrs := by unfold State.setFifo; rfl
@[simp] theorem State.setFifo_chans : (s.setFifo k f).chans = s.chans := by unfold State.setFifo; rfl
@[simp] theorem State.setFifo_ureqs : (s.setFifo k f).ureqs = s.ureqs := by unfold State.setFifo; rfl
@[simp] theorem State.setFifo_ureps : (s.setFifo k f).ureps = s.ureps := by unfold State.setFifo; rfl
@[simp] theorem State.setFifo_inq : (s.setFifo k f).inq = s.inq := by unfold State.setFifo; rfl
@[simp] theorem State.setFifo_checks : (s.setFifo k f).checks = s.checks := by unfold State.setFifo; rfl
@[simp] theorem State.setFifo_dbgs : (s.setFifo k f).dbgs = s.dbgs := by unfold State.setFifo; rfl
@[simp] theorem State.setFifo_still : (s.setFifo k f).still = s.still := by unfold State.setFifo; rfl
@[simp] theorem State.setFifo_csBad : (s.setFifo k f).csBad = s.csBad := by unfold State.setFifo; rfl
@[simp] theorem State.setFifo_csStage : (s.setFifo k f).csStage = s.csStage := by unfold State.setFifo; rfl
@[simp] theorem State.setFifo_dmas : (s.setFifo k f).dmas = s.dmas := by unfold State.setFifo; rfl
@[simp] theorem State.setFifo_tick : (s.setFifo k f).tick = s.tick := by unfold State.setFifo; rfl
@[simp] theorem State.setFifo_arbs : (s.setFifo k f).arbs = s.arbs := by unfold State.setFifo; rfl
@[simp] theorem State.setFifo_lastRing : (s.setFifo k f).lastRing = s.lastRing := by unfold State.setFifo; rfl
@[simp] theorem State.setFifo_nvs : (s.setFifo k f).nvs = s.nvs := by unfold State.setFifo; rfl
end

section
variable (s : State) (k : Nat) (q : FerrySeq)
@[simp] theorem State.setSeq_pending : (s.setSeq k q).pending = s.pending := by unfold State.setSeq; rfl
@[simp] theorem State.setSeq_clk : (s.setSeq k q).clk = s.clk := by unfold State.setSeq; rfl
@[simp] theorem State.setSeq_ptime : (s.setSeq k q).ptime = s.ptime := by unfold State.setSeq; rfl
@[simp] theorem State.setSeq_ptFrac : (s.setSeq k q).ptFrac = s.ptFrac := by unfold State.setSeq; rfl
@[simp] theorem State.setSeq_regs : (s.setSeq k q).regs = s.regs := by unfold State.setSeq; rfl
@[simp] theorem State.setSeq_fast : (s.setSeq k q).fast = s.fast := by unfold State.setSeq; rfl
@[simp] theorem State.setSeq_ferry : (s.setSeq k q).ferry = s.ferry := by unfold State.setSeq; rfl
@[simp] theorem State.setSeq_ctrs : (s.setSeq k q).ctrs = s.ctrs := by unfold State.setSeq; rfl
@[simp] theorem State.setSeq_drw : (s.setSeq k q).drw = s.drw := by unfold State.setSeq; rfl
@[simp] theorem State.setSeq_resets : (s.setSeq k q).resets = s.resets := by unfold State.setSeq; rfl
@[simp] theorem State.setSeq_fences : (s.setSeq k q).fences = s.fences := by unfold State.setSeq; rfl
@[simp] theorem State.setSeq_doms : (s.setSeq k q).doms = s.doms := by unfold State.setSeq; rfl
@[simp] theorem State.setSeq_barriers : (s.setSeq k q).barriers = s.barriers := by unfold State.setSeq; rfl
@[simp] theorem State.setSeq_reports : (s.setSeq k q).reports = s.reports := by unfold State.setSeq; rfl
@[simp] theorem State.setSeq_colls : (s.setSeq k q).colls = s.colls := by unfold State.setSeq; rfl
@[simp] theorem State.setSeq_log : (s.setSeq k q).log = s.log := by unfold State.setSeq; rfl
@[simp] theorem State.setSeq_fuses : (s.setSeq k q).fuses = s.fuses := by unfold State.setSeq; rfl
@[simp] theorem State.setSeq_sec : (s.setSeq k q).sec = s.sec := by unfold State.setSeq; rfl
@[simp] theorem State.setSeq_omc : (s.setSeq k q).omc = s.omc := by unfold State.setSeq; rfl
@[simp] theorem State.setSeq_jtag : (s.setSeq k q).jtag = s.jtag := by unfold State.setSeq; rfl
@[simp] theorem State.setSeq_pins : (s.setSeq k q).pins = s.pins := by unfold State.setSeq; rfl
@[simp] theorem State.setSeq_cfg : (s.setSeq k q).cfg = s.cfg := by unfold State.setSeq; rfl
@[simp] theorem State.setSeq_mem : (s.setSeq k q).mem = s.mem := by unfold State.setSeq; rfl
@[simp] theorem State.setSeq_fresh : (s.setSeq k q).fresh = s.fresh := by unfold State.setSeq; rfl
@[simp] theorem State.setSeq_out : (s.setSeq k q).out = s.out := by unfold State.setSeq; rfl
@[simp] theorem State.setSeq_bufs : (s.setSeq k q).bufs = s.bufs := by unfold State.setSeq; rfl
@[simp] theorem State.setSeq_nextBuf : (s.setSeq k q).nextBuf = s.nextBuf := by unfold State.setSeq; rfl
@[simp] theorem State.setSeq_fifos : (s.setSeq k q).fifos = s.fifos := by unfold State.setSeq; rfl
@[simp] theorem State.setSeq_hdrs : (s.setSeq k q).hdrs = s.hdrs := by unfold State.setSeq; rfl
@[simp] theorem State.setSeq_links : (s.setSeq k q).links = s.links := by unfold State.setSeq; rfl
@[simp] theorem State.setSeq_landW : (s.setSeq k q).landW = s.landW := by unfold State.setSeq; rfl
@[simp] theorem State.setSeq_held : (s.setSeq k q).held = s.held := by unfold State.setSeq; rfl
@[simp] theorem State.setSeq_rules : (s.setSeq k q).rules = s.rules := by unfold State.setSeq; rfl
@[simp] theorem State.setSeq_clsSt : (s.setSeq k q).clsSt = s.clsSt := by unfold State.setSeq; rfl
@[simp] theorem State.setSeq_asets : (s.setSeq k q).asets = s.asets := by unfold State.setSeq; rfl
@[simp] theorem State.setSeq_tpls : (s.setSeq k q).tpls = s.tpls := by unfold State.setSeq; rfl
@[simp] theorem State.setSeq_cnts : (s.setSeq k q).cnts = s.cnts := by unfold State.setSeq; rfl
@[simp] theorem State.setSeq_sampling : (s.setSeq k q).sampling = s.sampling := by unfold State.setSeq; rfl
@[simp] theorem State.setSeq_ipId : (s.setSeq k q).ipId = s.ipId := by unfold State.setSeq; rfl
@[simp] theorem State.setSeq_greSeq : (s.setSeq k q).greSeq = s.greSeq := by unfold State.setSeq; rfl
@[simp] theorem State.setSeq_nodes : (s.setSeq k q).nodes = s.nodes := by unfold State.setSeq; rfl
@[simp] theorem State.setSeq_queues : (s.setSeq k q).queues = s.queues := by unfold State.setSeq; rfl
@[simp] theorem State.setSeq_outlets : (s.setSeq k q).outlets = s.outlets := by unfold State.setSeq; rfl
@[simp] theorem State.setSeq_sel : (s.setSeq k q).sel = s.sel := by unfold State.setSeq; rfl
@[simp] theorem State.setSeq_gates : (s.setSeq k q).gates = s.gates := by unfold State.setSeq; rfl
@[simp] theorem State.setSeq_plcrs : (s.setSeq k q).plcrs = s.plcrs := by unfold State.setSeq; rfl
@[simp] theorem State.setSeq_apls : (s.setSeq k q).apls = s.apls := by unfold State.setSeq; rfl
@[simp] theorem State.setSeq_aplReads : (s.setSeq k q).aplReads = s.aplReads := by unfold State.setSeq; rfl
@[simp] theorem State.setSeq_winReqs : (s.setSeq k q).winReqs = s.winReqs := by unfold State.setSeq; rfl
@[simp] theorem State.setSeq_eps : (s.setSeq k q).eps = s.eps := by unfold State.setSeq; rfl
@[simp] theorem State.setSeq_hwait : (s.setSeq k q).hwait = s.hwait := by unfold State.setSeq; rfl
@[simp] theorem State.setSeq_arrived : (s.setSeq k q).arrived = s.arrived := by unfold State.setSeq; rfl
@[simp] theorem State.setSeq_hreads : (s.setSeq k q).hreads = s.hreads := by unfold State.setSeq; rfl
@[simp] theorem State.setSeq_bothFull : (s.setSeq k q).bothFull = s.bothFull := by unfold State.setSeq; rfl
@[simp] theorem State.setSeq_binds : (s.setSeq k q).binds = s.binds := by unfold State.setSeq; rfl
@[simp] theorem State.setSeq_wrings : (s.setSeq k q).wrings = s.wrings := by unfold State.setSeq; rfl
@[simp] theorem State.setSeq_crings : (s.setSeq k q).crings = s.crings := by unfold State.setSeq; rfl
@[simp] theorem State.setSeq_txs : (s.setSeq k q).txs = s.txs := by unfold State.setSeq; rfl
@[simp] theorem State.setSeq_txNext : (s.setSeq k q).txNext = s.txNext := by unfold State.setSeq; rfl
@[simp] theorem State.setSeq_cqes : (s.setSeq k q).cqes = s.cqes := by unfold State.setSeq; rfl
@[simp] theorem State.setSeq_near : (s.setSeq k q).near = s.near := by unfold State.setSeq; rfl
@[simp] theorem State.setSeq_ovf : (s.setSeq k q).ovf = s.ovf := by unfold State.setSeq; rfl
@[simp] theorem State.setSeq_learns : (s.setSeq k q).learns = s.learns := by unfold State.setSeq; rfl
@[simp] theorem State.setSeq_tblSt : (s.setSeq k q).tblSt = s.tblSt := by unfold State.setSeq; rfl
@[simp] theorem State.setSeq_ageDue : (s.setSeq k q).ageDue = s.ageDue := by unfold State.setSeq; rfl
@[simp] theorem State.setSeq_ctxs : (s.setSeq k q).ctxs = s.ctxs := by unfold State.setSeq; rfl
@[simp] theorem State.setSeq_cuEvts : (s.setSeq k q).cuEvts = s.cuEvts := by unfold State.setSeq; rfl
@[simp] theorem State.setSeq_thrs : (s.setSeq k q).thrs = s.thrs := by unfold State.setSeq; rfl
@[simp] theorem State.setSeq_chans : (s.setSeq k q).chans = s.chans := by unfold State.setSeq; rfl
@[simp] theorem State.setSeq_ureqs : (s.setSeq k q).ureqs = s.ureqs := by unfold State.setSeq; rfl
@[simp] theorem State.setSeq_ureps : (s.setSeq k q).ureps = s.ureps := by unfold State.setSeq; rfl
@[simp] theorem State.setSeq_inq : (s.setSeq k q).inq = s.inq := by unfold State.setSeq; rfl
@[simp] theorem State.setSeq_checks : (s.setSeq k q).checks = s.checks := by unfold State.setSeq; rfl
@[simp] theorem State.setSeq_dbgs : (s.setSeq k q).dbgs = s.dbgs := by unfold State.setSeq; rfl
@[simp] theorem State.setSeq_still : (s.setSeq k q).still = s.still := by unfold State.setSeq; rfl
@[simp] theorem State.setSeq_csBad : (s.setSeq k q).csBad = s.csBad := by unfold State.setSeq; rfl
@[simp] theorem State.setSeq_csStage : (s.setSeq k q).csStage = s.csStage := by unfold State.setSeq; rfl
@[simp] theorem State.setSeq_dmas : (s.setSeq k q).dmas = s.dmas := by unfold State.setSeq; rfl
@[simp] theorem State.setSeq_tick : (s.setSeq k q).tick = s.tick := by unfold State.setSeq; rfl
@[simp] theorem State.setSeq_arbs : (s.setSeq k q).arbs = s.arbs := by unfold State.setSeq; rfl
@[simp] theorem State.setSeq_lastRing : (s.setSeq k q).lastRing = s.lastRing := by unfold State.setSeq; rfl
@[simp] theorem State.setSeq_nvs : (s.setSeq k q).nvs = s.nvs := by unfold State.setSeq; rfl
end

section
variable (s : State) (d kind i : Nat) (n : Node)
@[simp] theorem State.setNode_pending : (s.setNode d kind i n).pending = s.pending := by unfold State.setNode; rfl
@[simp] theorem State.setNode_clk : (s.setNode d kind i n).clk = s.clk := by unfold State.setNode; rfl
@[simp] theorem State.setNode_ptime : (s.setNode d kind i n).ptime = s.ptime := by unfold State.setNode; rfl
@[simp] theorem State.setNode_ptFrac : (s.setNode d kind i n).ptFrac = s.ptFrac := by unfold State.setNode; rfl
@[simp] theorem State.setNode_regs : (s.setNode d kind i n).regs = s.regs := by unfold State.setNode; rfl
@[simp] theorem State.setNode_fast : (s.setNode d kind i n).fast = s.fast := by unfold State.setNode; rfl
@[simp] theorem State.setNode_ferry : (s.setNode d kind i n).ferry = s.ferry := by unfold State.setNode; rfl
@[simp] theorem State.setNode_ctrs : (s.setNode d kind i n).ctrs = s.ctrs := by unfold State.setNode; rfl
@[simp] theorem State.setNode_drw : (s.setNode d kind i n).drw = s.drw := by unfold State.setNode; rfl
@[simp] theorem State.setNode_resets : (s.setNode d kind i n).resets = s.resets := by unfold State.setNode; rfl
@[simp] theorem State.setNode_fences : (s.setNode d kind i n).fences = s.fences := by unfold State.setNode; rfl
@[simp] theorem State.setNode_doms : (s.setNode d kind i n).doms = s.doms := by unfold State.setNode; rfl
@[simp] theorem State.setNode_barriers : (s.setNode d kind i n).barriers = s.barriers := by unfold State.setNode; rfl
@[simp] theorem State.setNode_reports : (s.setNode d kind i n).reports = s.reports := by unfold State.setNode; rfl
@[simp] theorem State.setNode_colls : (s.setNode d kind i n).colls = s.colls := by unfold State.setNode; rfl
@[simp] theorem State.setNode_log : (s.setNode d kind i n).log = s.log := by unfold State.setNode; rfl
@[simp] theorem State.setNode_fuses : (s.setNode d kind i n).fuses = s.fuses := by unfold State.setNode; rfl
@[simp] theorem State.setNode_sec : (s.setNode d kind i n).sec = s.sec := by unfold State.setNode; rfl
@[simp] theorem State.setNode_omc : (s.setNode d kind i n).omc = s.omc := by unfold State.setNode; rfl
@[simp] theorem State.setNode_jtag : (s.setNode d kind i n).jtag = s.jtag := by unfold State.setNode; rfl
@[simp] theorem State.setNode_pins : (s.setNode d kind i n).pins = s.pins := by unfold State.setNode; rfl
@[simp] theorem State.setNode_cfg : (s.setNode d kind i n).cfg = s.cfg := by unfold State.setNode; rfl
@[simp] theorem State.setNode_mem : (s.setNode d kind i n).mem = s.mem := by unfold State.setNode; rfl
@[simp] theorem State.setNode_fresh : (s.setNode d kind i n).fresh = s.fresh := by unfold State.setNode; rfl
@[simp] theorem State.setNode_out : (s.setNode d kind i n).out = s.out := by unfold State.setNode; rfl
@[simp] theorem State.setNode_bufs : (s.setNode d kind i n).bufs = s.bufs := by unfold State.setNode; rfl
@[simp] theorem State.setNode_nextBuf : (s.setNode d kind i n).nextBuf = s.nextBuf := by unfold State.setNode; rfl
@[simp] theorem State.setNode_fifos : (s.setNode d kind i n).fifos = s.fifos := by unfold State.setNode; rfl
@[simp] theorem State.setNode_seqs : (s.setNode d kind i n).seqs = s.seqs := by unfold State.setNode; rfl
@[simp] theorem State.setNode_hdrs : (s.setNode d kind i n).hdrs = s.hdrs := by unfold State.setNode; rfl
@[simp] theorem State.setNode_links : (s.setNode d kind i n).links = s.links := by unfold State.setNode; rfl
@[simp] theorem State.setNode_landW : (s.setNode d kind i n).landW = s.landW := by unfold State.setNode; rfl
@[simp] theorem State.setNode_held : (s.setNode d kind i n).held = s.held := by unfold State.setNode; rfl
@[simp] theorem State.setNode_rules : (s.setNode d kind i n).rules = s.rules := by unfold State.setNode; rfl
@[simp] theorem State.setNode_clsSt : (s.setNode d kind i n).clsSt = s.clsSt := by unfold State.setNode; rfl
@[simp] theorem State.setNode_asets : (s.setNode d kind i n).asets = s.asets := by unfold State.setNode; rfl
@[simp] theorem State.setNode_tpls : (s.setNode d kind i n).tpls = s.tpls := by unfold State.setNode; rfl
@[simp] theorem State.setNode_cnts : (s.setNode d kind i n).cnts = s.cnts := by unfold State.setNode; rfl
@[simp] theorem State.setNode_sampling : (s.setNode d kind i n).sampling = s.sampling := by unfold State.setNode; rfl
@[simp] theorem State.setNode_ipId : (s.setNode d kind i n).ipId = s.ipId := by unfold State.setNode; rfl
@[simp] theorem State.setNode_greSeq : (s.setNode d kind i n).greSeq = s.greSeq := by unfold State.setNode; rfl
@[simp] theorem State.setNode_queues : (s.setNode d kind i n).queues = s.queues := by unfold State.setNode; rfl
@[simp] theorem State.setNode_outlets : (s.setNode d kind i n).outlets = s.outlets := by unfold State.setNode; rfl
@[simp] theorem State.setNode_sel : (s.setNode d kind i n).sel = s.sel := by unfold State.setNode; rfl
@[simp] theorem State.setNode_gates : (s.setNode d kind i n).gates = s.gates := by unfold State.setNode; rfl
@[simp] theorem State.setNode_plcrs : (s.setNode d kind i n).plcrs = s.plcrs := by unfold State.setNode; rfl
@[simp] theorem State.setNode_apls : (s.setNode d kind i n).apls = s.apls := by unfold State.setNode; rfl
@[simp] theorem State.setNode_aplReads : (s.setNode d kind i n).aplReads = s.aplReads := by unfold State.setNode; rfl
@[simp] theorem State.setNode_winReqs : (s.setNode d kind i n).winReqs = s.winReqs := by unfold State.setNode; rfl
@[simp] theorem State.setNode_eps : (s.setNode d kind i n).eps = s.eps := by unfold State.setNode; rfl
@[simp] theorem State.setNode_hwait : (s.setNode d kind i n).hwait = s.hwait := by unfold State.setNode; rfl
@[simp] theorem State.setNode_arrived : (s.setNode d kind i n).arrived = s.arrived := by unfold State.setNode; rfl
@[simp] theorem State.setNode_hreads : (s.setNode d kind i n).hreads = s.hreads := by unfold State.setNode; rfl
@[simp] theorem State.setNode_bothFull : (s.setNode d kind i n).bothFull = s.bothFull := by unfold State.setNode; rfl
@[simp] theorem State.setNode_binds : (s.setNode d kind i n).binds = s.binds := by unfold State.setNode; rfl
@[simp] theorem State.setNode_wrings : (s.setNode d kind i n).wrings = s.wrings := by unfold State.setNode; rfl
@[simp] theorem State.setNode_crings : (s.setNode d kind i n).crings = s.crings := by unfold State.setNode; rfl
@[simp] theorem State.setNode_txs : (s.setNode d kind i n).txs = s.txs := by unfold State.setNode; rfl
@[simp] theorem State.setNode_txNext : (s.setNode d kind i n).txNext = s.txNext := by unfold State.setNode; rfl
@[simp] theorem State.setNode_cqes : (s.setNode d kind i n).cqes = s.cqes := by unfold State.setNode; rfl
@[simp] theorem State.setNode_near : (s.setNode d kind i n).near = s.near := by unfold State.setNode; rfl
@[simp] theorem State.setNode_ovf : (s.setNode d kind i n).ovf = s.ovf := by unfold State.setNode; rfl
@[simp] theorem State.setNode_learns : (s.setNode d kind i n).learns = s.learns := by unfold State.setNode; rfl
@[simp] theorem State.setNode_tblSt : (s.setNode d kind i n).tblSt = s.tblSt := by unfold State.setNode; rfl
@[simp] theorem State.setNode_ageDue : (s.setNode d kind i n).ageDue = s.ageDue := by unfold State.setNode; rfl
@[simp] theorem State.setNode_ctxs : (s.setNode d kind i n).ctxs = s.ctxs := by unfold State.setNode; rfl
@[simp] theorem State.setNode_cuEvts : (s.setNode d kind i n).cuEvts = s.cuEvts := by unfold State.setNode; rfl
@[simp] theorem State.setNode_thrs : (s.setNode d kind i n).thrs = s.thrs := by unfold State.setNode; rfl
@[simp] theorem State.setNode_chans : (s.setNode d kind i n).chans = s.chans := by unfold State.setNode; rfl
@[simp] theorem State.setNode_ureqs : (s.setNode d kind i n).ureqs = s.ureqs := by unfold State.setNode; rfl
@[simp] theorem State.setNode_ureps : (s.setNode d kind i n).ureps = s.ureps := by unfold State.setNode; rfl
@[simp] theorem State.setNode_inq : (s.setNode d kind i n).inq = s.inq := by unfold State.setNode; rfl
@[simp] theorem State.setNode_checks : (s.setNode d kind i n).checks = s.checks := by unfold State.setNode; rfl
@[simp] theorem State.setNode_dbgs : (s.setNode d kind i n).dbgs = s.dbgs := by unfold State.setNode; rfl
@[simp] theorem State.setNode_still : (s.setNode d kind i n).still = s.still := by unfold State.setNode; rfl
@[simp] theorem State.setNode_csBad : (s.setNode d kind i n).csBad = s.csBad := by unfold State.setNode; rfl
@[simp] theorem State.setNode_csStage : (s.setNode d kind i n).csStage = s.csStage := by unfold State.setNode; rfl
@[simp] theorem State.setNode_dmas : (s.setNode d kind i n).dmas = s.dmas := by unfold State.setNode; rfl
@[simp] theorem State.setNode_tick : (s.setNode d kind i n).tick = s.tick := by unfold State.setNode; rfl
@[simp] theorem State.setNode_arbs : (s.setNode d kind i n).arbs = s.arbs := by unfold State.setNode; rfl
@[simp] theorem State.setNode_lastRing : (s.setNode d kind i n).lastRing = s.lastRing := by unfold State.setNode; rfl
@[simp] theorem State.setNode_nvs : (s.setNode d kind i n).nvs = s.nvs := by unfold State.setNode; rfl
end

section
variable (s : State) (k : Nat) (l : List Entry)
@[simp] theorem State.setBacklog_pending : (s.setBacklog k l).pending = s.pending := by unfold State.setBacklog; rfl
@[simp] theorem State.setBacklog_clk : (s.setBacklog k l).clk = s.clk := by unfold State.setBacklog; rfl
@[simp] theorem State.setBacklog_ptime : (s.setBacklog k l).ptime = s.ptime := by unfold State.setBacklog; rfl
@[simp] theorem State.setBacklog_ptFrac : (s.setBacklog k l).ptFrac = s.ptFrac := by unfold State.setBacklog; rfl
@[simp] theorem State.setBacklog_regs : (s.setBacklog k l).regs = s.regs := by unfold State.setBacklog; rfl
@[simp] theorem State.setBacklog_fast : (s.setBacklog k l).fast = s.fast := by unfold State.setBacklog; rfl
@[simp] theorem State.setBacklog_ferry : (s.setBacklog k l).ferry = s.ferry := by unfold State.setBacklog; rfl
@[simp] theorem State.setBacklog_ctrs : (s.setBacklog k l).ctrs = s.ctrs := by unfold State.setBacklog; rfl
@[simp] theorem State.setBacklog_drw : (s.setBacklog k l).drw = s.drw := by unfold State.setBacklog; rfl
@[simp] theorem State.setBacklog_resets : (s.setBacklog k l).resets = s.resets := by unfold State.setBacklog; rfl
@[simp] theorem State.setBacklog_fences : (s.setBacklog k l).fences = s.fences := by unfold State.setBacklog; rfl
@[simp] theorem State.setBacklog_doms : (s.setBacklog k l).doms = s.doms := by unfold State.setBacklog; rfl
@[simp] theorem State.setBacklog_barriers : (s.setBacklog k l).barriers = s.barriers := by unfold State.setBacklog; rfl
@[simp] theorem State.setBacklog_reports : (s.setBacklog k l).reports = s.reports := by unfold State.setBacklog; rfl
@[simp] theorem State.setBacklog_colls : (s.setBacklog k l).colls = s.colls := by unfold State.setBacklog; rfl
@[simp] theorem State.setBacklog_log : (s.setBacklog k l).log = s.log := by unfold State.setBacklog; rfl
@[simp] theorem State.setBacklog_fuses : (s.setBacklog k l).fuses = s.fuses := by unfold State.setBacklog; rfl
@[simp] theorem State.setBacklog_sec : (s.setBacklog k l).sec = s.sec := by unfold State.setBacklog; rfl
@[simp] theorem State.setBacklog_omc : (s.setBacklog k l).omc = s.omc := by unfold State.setBacklog; rfl
@[simp] theorem State.setBacklog_jtag : (s.setBacklog k l).jtag = s.jtag := by unfold State.setBacklog; rfl
@[simp] theorem State.setBacklog_pins : (s.setBacklog k l).pins = s.pins := by unfold State.setBacklog; rfl
@[simp] theorem State.setBacklog_cfg : (s.setBacklog k l).cfg = s.cfg := by unfold State.setBacklog; rfl
@[simp] theorem State.setBacklog_mem : (s.setBacklog k l).mem = s.mem := by unfold State.setBacklog; rfl
@[simp] theorem State.setBacklog_fresh : (s.setBacklog k l).fresh = s.fresh := by unfold State.setBacklog; rfl
@[simp] theorem State.setBacklog_out : (s.setBacklog k l).out = s.out := by unfold State.setBacklog; rfl
@[simp] theorem State.setBacklog_bufs : (s.setBacklog k l).bufs = s.bufs := by unfold State.setBacklog; rfl
@[simp] theorem State.setBacklog_nextBuf : (s.setBacklog k l).nextBuf = s.nextBuf := by unfold State.setBacklog; rfl
@[simp] theorem State.setBacklog_fifos : (s.setBacklog k l).fifos = s.fifos := by unfold State.setBacklog; rfl
@[simp] theorem State.setBacklog_seqs : (s.setBacklog k l).seqs = s.seqs := by unfold State.setBacklog; rfl
@[simp] theorem State.setBacklog_hdrs : (s.setBacklog k l).hdrs = s.hdrs := by unfold State.setBacklog; rfl
@[simp] theorem State.setBacklog_links : (s.setBacklog k l).links = s.links := by unfold State.setBacklog; rfl
@[simp] theorem State.setBacklog_landW : (s.setBacklog k l).landW = s.landW := by unfold State.setBacklog; rfl
@[simp] theorem State.setBacklog_held : (s.setBacklog k l).held = s.held := by unfold State.setBacklog; rfl
@[simp] theorem State.setBacklog_rules : (s.setBacklog k l).rules = s.rules := by unfold State.setBacklog; rfl
@[simp] theorem State.setBacklog_clsSt : (s.setBacklog k l).clsSt = s.clsSt := by unfold State.setBacklog; rfl
@[simp] theorem State.setBacklog_asets : (s.setBacklog k l).asets = s.asets := by unfold State.setBacklog; rfl
@[simp] theorem State.setBacklog_tpls : (s.setBacklog k l).tpls = s.tpls := by unfold State.setBacklog; rfl
@[simp] theorem State.setBacklog_cnts : (s.setBacklog k l).cnts = s.cnts := by unfold State.setBacklog; rfl
@[simp] theorem State.setBacklog_sampling : (s.setBacklog k l).sampling = s.sampling := by unfold State.setBacklog; rfl
@[simp] theorem State.setBacklog_ipId : (s.setBacklog k l).ipId = s.ipId := by unfold State.setBacklog; rfl
@[simp] theorem State.setBacklog_greSeq : (s.setBacklog k l).greSeq = s.greSeq := by unfold State.setBacklog; rfl
@[simp] theorem State.setBacklog_nodes : (s.setBacklog k l).nodes = s.nodes := by unfold State.setBacklog; rfl
@[simp] theorem State.setBacklog_outlets : (s.setBacklog k l).outlets = s.outlets := by unfold State.setBacklog; rfl
@[simp] theorem State.setBacklog_sel : (s.setBacklog k l).sel = s.sel := by unfold State.setBacklog; rfl
@[simp] theorem State.setBacklog_gates : (s.setBacklog k l).gates = s.gates := by unfold State.setBacklog; rfl
@[simp] theorem State.setBacklog_plcrs : (s.setBacklog k l).plcrs = s.plcrs := by unfold State.setBacklog; rfl
@[simp] theorem State.setBacklog_apls : (s.setBacklog k l).apls = s.apls := by unfold State.setBacklog; rfl
@[simp] theorem State.setBacklog_aplReads : (s.setBacklog k l).aplReads = s.aplReads := by unfold State.setBacklog; rfl
@[simp] theorem State.setBacklog_winReqs : (s.setBacklog k l).winReqs = s.winReqs := by unfold State.setBacklog; rfl
@[simp] theorem State.setBacklog_eps : (s.setBacklog k l).eps = s.eps := by unfold State.setBacklog; rfl
@[simp] theorem State.setBacklog_hwait : (s.setBacklog k l).hwait = s.hwait := by unfold State.setBacklog; rfl
@[simp] theorem State.setBacklog_arrived : (s.setBacklog k l).arrived = s.arrived := by unfold State.setBacklog; rfl
@[simp] theorem State.setBacklog_hreads : (s.setBacklog k l).hreads = s.hreads := by unfold State.setBacklog; rfl
@[simp] theorem State.setBacklog_bothFull : (s.setBacklog k l).bothFull = s.bothFull := by unfold State.setBacklog; rfl
@[simp] theorem State.setBacklog_binds : (s.setBacklog k l).binds = s.binds := by unfold State.setBacklog; rfl
@[simp] theorem State.setBacklog_wrings : (s.setBacklog k l).wrings = s.wrings := by unfold State.setBacklog; rfl
@[simp] theorem State.setBacklog_crings : (s.setBacklog k l).crings = s.crings := by unfold State.setBacklog; rfl
@[simp] theorem State.setBacklog_txs : (s.setBacklog k l).txs = s.txs := by unfold State.setBacklog; rfl
@[simp] theorem State.setBacklog_txNext : (s.setBacklog k l).txNext = s.txNext := by unfold State.setBacklog; rfl
@[simp] theorem State.setBacklog_cqes : (s.setBacklog k l).cqes = s.cqes := by unfold State.setBacklog; rfl
@[simp] theorem State.setBacklog_near : (s.setBacklog k l).near = s.near := by unfold State.setBacklog; rfl
@[simp] theorem State.setBacklog_ovf : (s.setBacklog k l).ovf = s.ovf := by unfold State.setBacklog; rfl
@[simp] theorem State.setBacklog_learns : (s.setBacklog k l).learns = s.learns := by unfold State.setBacklog; rfl
@[simp] theorem State.setBacklog_tblSt : (s.setBacklog k l).tblSt = s.tblSt := by unfold State.setBacklog; rfl
@[simp] theorem State.setBacklog_ageDue : (s.setBacklog k l).ageDue = s.ageDue := by unfold State.setBacklog; rfl
@[simp] theorem State.setBacklog_ctxs : (s.setBacklog k l).ctxs = s.ctxs := by unfold State.setBacklog; rfl
@[simp] theorem State.setBacklog_cuEvts : (s.setBacklog k l).cuEvts = s.cuEvts := by unfold State.setBacklog; rfl
@[simp] theorem State.setBacklog_thrs : (s.setBacklog k l).thrs = s.thrs := by unfold State.setBacklog; rfl
@[simp] theorem State.setBacklog_chans : (s.setBacklog k l).chans = s.chans := by unfold State.setBacklog; rfl
@[simp] theorem State.setBacklog_ureqs : (s.setBacklog k l).ureqs = s.ureqs := by unfold State.setBacklog; rfl
@[simp] theorem State.setBacklog_ureps : (s.setBacklog k l).ureps = s.ureps := by unfold State.setBacklog; rfl
@[simp] theorem State.setBacklog_inq : (s.setBacklog k l).inq = s.inq := by unfold State.setBacklog; rfl
@[simp] theorem State.setBacklog_checks : (s.setBacklog k l).checks = s.checks := by unfold State.setBacklog; rfl
@[simp] theorem State.setBacklog_dbgs : (s.setBacklog k l).dbgs = s.dbgs := by unfold State.setBacklog; rfl
@[simp] theorem State.setBacklog_still : (s.setBacklog k l).still = s.still := by unfold State.setBacklog; rfl
@[simp] theorem State.setBacklog_csBad : (s.setBacklog k l).csBad = s.csBad := by unfold State.setBacklog; rfl
@[simp] theorem State.setBacklog_csStage : (s.setBacklog k l).csStage = s.csStage := by unfold State.setBacklog; rfl
@[simp] theorem State.setBacklog_dmas : (s.setBacklog k l).dmas = s.dmas := by unfold State.setBacklog; rfl
@[simp] theorem State.setBacklog_tick : (s.setBacklog k l).tick = s.tick := by unfold State.setBacklog; rfl
@[simp] theorem State.setBacklog_arbs : (s.setBacklog k l).arbs = s.arbs := by unfold State.setBacklog; rfl
@[simp] theorem State.setBacklog_lastRing : (s.setBacklog k l).lastRing = s.lastRing := by unfold State.setBacklog; rfl
@[simp] theorem State.setBacklog_nvs : (s.setBacklog k l).nvs = s.nvs := by unfold State.setBacklog; rfl
end

section
variable (s : State) (d o : Nat) (x : Outlet)
@[simp] theorem State.setOutlet_pending : (s.setOutlet d o x).pending = s.pending := by unfold State.setOutlet; rfl
@[simp] theorem State.setOutlet_clk : (s.setOutlet d o x).clk = s.clk := by unfold State.setOutlet; rfl
@[simp] theorem State.setOutlet_ptime : (s.setOutlet d o x).ptime = s.ptime := by unfold State.setOutlet; rfl
@[simp] theorem State.setOutlet_ptFrac : (s.setOutlet d o x).ptFrac = s.ptFrac := by unfold State.setOutlet; rfl
@[simp] theorem State.setOutlet_regs : (s.setOutlet d o x).regs = s.regs := by unfold State.setOutlet; rfl
@[simp] theorem State.setOutlet_fast : (s.setOutlet d o x).fast = s.fast := by unfold State.setOutlet; rfl
@[simp] theorem State.setOutlet_ferry : (s.setOutlet d o x).ferry = s.ferry := by unfold State.setOutlet; rfl
@[simp] theorem State.setOutlet_ctrs : (s.setOutlet d o x).ctrs = s.ctrs := by unfold State.setOutlet; rfl
@[simp] theorem State.setOutlet_drw : (s.setOutlet d o x).drw = s.drw := by unfold State.setOutlet; rfl
@[simp] theorem State.setOutlet_resets : (s.setOutlet d o x).resets = s.resets := by unfold State.setOutlet; rfl
@[simp] theorem State.setOutlet_fences : (s.setOutlet d o x).fences = s.fences := by unfold State.setOutlet; rfl
@[simp] theorem State.setOutlet_doms : (s.setOutlet d o x).doms = s.doms := by unfold State.setOutlet; rfl
@[simp] theorem State.setOutlet_barriers : (s.setOutlet d o x).barriers = s.barriers := by unfold State.setOutlet; rfl
@[simp] theorem State.setOutlet_reports : (s.setOutlet d o x).reports = s.reports := by unfold State.setOutlet; rfl
@[simp] theorem State.setOutlet_colls : (s.setOutlet d o x).colls = s.colls := by unfold State.setOutlet; rfl
@[simp] theorem State.setOutlet_log : (s.setOutlet d o x).log = s.log := by unfold State.setOutlet; rfl
@[simp] theorem State.setOutlet_fuses : (s.setOutlet d o x).fuses = s.fuses := by unfold State.setOutlet; rfl
@[simp] theorem State.setOutlet_sec : (s.setOutlet d o x).sec = s.sec := by unfold State.setOutlet; rfl
@[simp] theorem State.setOutlet_omc : (s.setOutlet d o x).omc = s.omc := by unfold State.setOutlet; rfl
@[simp] theorem State.setOutlet_jtag : (s.setOutlet d o x).jtag = s.jtag := by unfold State.setOutlet; rfl
@[simp] theorem State.setOutlet_pins : (s.setOutlet d o x).pins = s.pins := by unfold State.setOutlet; rfl
@[simp] theorem State.setOutlet_cfg : (s.setOutlet d o x).cfg = s.cfg := by unfold State.setOutlet; rfl
@[simp] theorem State.setOutlet_mem : (s.setOutlet d o x).mem = s.mem := by unfold State.setOutlet; rfl
@[simp] theorem State.setOutlet_fresh : (s.setOutlet d o x).fresh = s.fresh := by unfold State.setOutlet; rfl
@[simp] theorem State.setOutlet_out : (s.setOutlet d o x).out = s.out := by unfold State.setOutlet; rfl
@[simp] theorem State.setOutlet_bufs : (s.setOutlet d o x).bufs = s.bufs := by unfold State.setOutlet; rfl
@[simp] theorem State.setOutlet_nextBuf : (s.setOutlet d o x).nextBuf = s.nextBuf := by unfold State.setOutlet; rfl
@[simp] theorem State.setOutlet_fifos : (s.setOutlet d o x).fifos = s.fifos := by unfold State.setOutlet; rfl
@[simp] theorem State.setOutlet_seqs : (s.setOutlet d o x).seqs = s.seqs := by unfold State.setOutlet; rfl
@[simp] theorem State.setOutlet_hdrs : (s.setOutlet d o x).hdrs = s.hdrs := by unfold State.setOutlet; rfl
@[simp] theorem State.setOutlet_links : (s.setOutlet d o x).links = s.links := by unfold State.setOutlet; rfl
@[simp] theorem State.setOutlet_landW : (s.setOutlet d o x).landW = s.landW := by unfold State.setOutlet; rfl
@[simp] theorem State.setOutlet_held : (s.setOutlet d o x).held = s.held := by unfold State.setOutlet; rfl
@[simp] theorem State.setOutlet_rules : (s.setOutlet d o x).rules = s.rules := by unfold State.setOutlet; rfl
@[simp] theorem State.setOutlet_clsSt : (s.setOutlet d o x).clsSt = s.clsSt := by unfold State.setOutlet; rfl
@[simp] theorem State.setOutlet_asets : (s.setOutlet d o x).asets = s.asets := by unfold State.setOutlet; rfl
@[simp] theorem State.setOutlet_tpls : (s.setOutlet d o x).tpls = s.tpls := by unfold State.setOutlet; rfl
@[simp] theorem State.setOutlet_cnts : (s.setOutlet d o x).cnts = s.cnts := by unfold State.setOutlet; rfl
@[simp] theorem State.setOutlet_sampling : (s.setOutlet d o x).sampling = s.sampling := by unfold State.setOutlet; rfl
@[simp] theorem State.setOutlet_ipId : (s.setOutlet d o x).ipId = s.ipId := by unfold State.setOutlet; rfl
@[simp] theorem State.setOutlet_greSeq : (s.setOutlet d o x).greSeq = s.greSeq := by unfold State.setOutlet; rfl
@[simp] theorem State.setOutlet_nodes : (s.setOutlet d o x).nodes = s.nodes := by unfold State.setOutlet; rfl
@[simp] theorem State.setOutlet_queues : (s.setOutlet d o x).queues = s.queues := by unfold State.setOutlet; rfl
@[simp] theorem State.setOutlet_sel : (s.setOutlet d o x).sel = s.sel := by unfold State.setOutlet; rfl
@[simp] theorem State.setOutlet_gates : (s.setOutlet d o x).gates = s.gates := by unfold State.setOutlet; rfl
@[simp] theorem State.setOutlet_plcrs : (s.setOutlet d o x).plcrs = s.plcrs := by unfold State.setOutlet; rfl
@[simp] theorem State.setOutlet_apls : (s.setOutlet d o x).apls = s.apls := by unfold State.setOutlet; rfl
@[simp] theorem State.setOutlet_aplReads : (s.setOutlet d o x).aplReads = s.aplReads := by unfold State.setOutlet; rfl
@[simp] theorem State.setOutlet_winReqs : (s.setOutlet d o x).winReqs = s.winReqs := by unfold State.setOutlet; rfl
@[simp] theorem State.setOutlet_eps : (s.setOutlet d o x).eps = s.eps := by unfold State.setOutlet; rfl
@[simp] theorem State.setOutlet_hwait : (s.setOutlet d o x).hwait = s.hwait := by unfold State.setOutlet; rfl
@[simp] theorem State.setOutlet_arrived : (s.setOutlet d o x).arrived = s.arrived := by unfold State.setOutlet; rfl
@[simp] theorem State.setOutlet_hreads : (s.setOutlet d o x).hreads = s.hreads := by unfold State.setOutlet; rfl
@[simp] theorem State.setOutlet_bothFull : (s.setOutlet d o x).bothFull = s.bothFull := by unfold State.setOutlet; rfl
@[simp] theorem State.setOutlet_binds : (s.setOutlet d o x).binds = s.binds := by unfold State.setOutlet; rfl
@[simp] theorem State.setOutlet_wrings : (s.setOutlet d o x).wrings = s.wrings := by unfold State.setOutlet; rfl
@[simp] theorem State.setOutlet_crings : (s.setOutlet d o x).crings = s.crings := by unfold State.setOutlet; rfl
@[simp] theorem State.setOutlet_txs : (s.setOutlet d o x).txs = s.txs := by unfold State.setOutlet; rfl
@[simp] theorem State.setOutlet_txNext : (s.setOutlet d o x).txNext = s.txNext := by unfold State.setOutlet; rfl
@[simp] theorem State.setOutlet_cqes : (s.setOutlet d o x).cqes = s.cqes := by unfold State.setOutlet; rfl
@[simp] theorem State.setOutlet_near : (s.setOutlet d o x).near = s.near := by unfold State.setOutlet; rfl
@[simp] theorem State.setOutlet_ovf : (s.setOutlet d o x).ovf = s.ovf := by unfold State.setOutlet; rfl
@[simp] theorem State.setOutlet_learns : (s.setOutlet d o x).learns = s.learns := by unfold State.setOutlet; rfl
@[simp] theorem State.setOutlet_tblSt : (s.setOutlet d o x).tblSt = s.tblSt := by unfold State.setOutlet; rfl
@[simp] theorem State.setOutlet_ageDue : (s.setOutlet d o x).ageDue = s.ageDue := by unfold State.setOutlet; rfl
@[simp] theorem State.setOutlet_ctxs : (s.setOutlet d o x).ctxs = s.ctxs := by unfold State.setOutlet; rfl
@[simp] theorem State.setOutlet_cuEvts : (s.setOutlet d o x).cuEvts = s.cuEvts := by unfold State.setOutlet; rfl
@[simp] theorem State.setOutlet_thrs : (s.setOutlet d o x).thrs = s.thrs := by unfold State.setOutlet; rfl
@[simp] theorem State.setOutlet_chans : (s.setOutlet d o x).chans = s.chans := by unfold State.setOutlet; rfl
@[simp] theorem State.setOutlet_ureqs : (s.setOutlet d o x).ureqs = s.ureqs := by unfold State.setOutlet; rfl
@[simp] theorem State.setOutlet_ureps : (s.setOutlet d o x).ureps = s.ureps := by unfold State.setOutlet; rfl
@[simp] theorem State.setOutlet_inq : (s.setOutlet d o x).inq = s.inq := by unfold State.setOutlet; rfl
@[simp] theorem State.setOutlet_checks : (s.setOutlet d o x).checks = s.checks := by unfold State.setOutlet; rfl
@[simp] theorem State.setOutlet_dbgs : (s.setOutlet d o x).dbgs = s.dbgs := by unfold State.setOutlet; rfl
@[simp] theorem State.setOutlet_still : (s.setOutlet d o x).still = s.still := by unfold State.setOutlet; rfl
@[simp] theorem State.setOutlet_csBad : (s.setOutlet d o x).csBad = s.csBad := by unfold State.setOutlet; rfl
@[simp] theorem State.setOutlet_csStage : (s.setOutlet d o x).csStage = s.csStage := by unfold State.setOutlet; rfl
@[simp] theorem State.setOutlet_dmas : (s.setOutlet d o x).dmas = s.dmas := by unfold State.setOutlet; rfl
@[simp] theorem State.setOutlet_tick : (s.setOutlet d o x).tick = s.tick := by unfold State.setOutlet; rfl
@[simp] theorem State.setOutlet_arbs : (s.setOutlet d o x).arbs = s.arbs := by unfold State.setOutlet; rfl
@[simp] theorem State.setOutlet_lastRing : (s.setOutlet d o x).lastRing = s.lastRing := by unfold State.setOutlet; rfl
@[simp] theorem State.setOutlet_nvs : (s.setOutlet d o x).nvs = s.nvs := by unfold State.setOutlet; rfl
end

section
variable (s : State) (e f : Nat) (x : NvCtl)
@[simp] theorem State.setNv_pending : (s.setNv e f x).pending = s.pending := by unfold State.setNv; rfl
@[simp] theorem State.setNv_clk : (s.setNv e f x).clk = s.clk := by unfold State.setNv; rfl
@[simp] theorem State.setNv_ptime : (s.setNv e f x).ptime = s.ptime := by unfold State.setNv; rfl
@[simp] theorem State.setNv_ptFrac : (s.setNv e f x).ptFrac = s.ptFrac := by unfold State.setNv; rfl
@[simp] theorem State.setNv_regs : (s.setNv e f x).regs = s.regs := by unfold State.setNv; rfl
@[simp] theorem State.setNv_fast : (s.setNv e f x).fast = s.fast := by unfold State.setNv; rfl
@[simp] theorem State.setNv_ferry : (s.setNv e f x).ferry = s.ferry := by unfold State.setNv; rfl
@[simp] theorem State.setNv_ctrs : (s.setNv e f x).ctrs = s.ctrs := by unfold State.setNv; rfl
@[simp] theorem State.setNv_drw : (s.setNv e f x).drw = s.drw := by unfold State.setNv; rfl
@[simp] theorem State.setNv_resets : (s.setNv e f x).resets = s.resets := by unfold State.setNv; rfl
@[simp] theorem State.setNv_fences : (s.setNv e f x).fences = s.fences := by unfold State.setNv; rfl
@[simp] theorem State.setNv_doms : (s.setNv e f x).doms = s.doms := by unfold State.setNv; rfl
@[simp] theorem State.setNv_barriers : (s.setNv e f x).barriers = s.barriers := by unfold State.setNv; rfl
@[simp] theorem State.setNv_reports : (s.setNv e f x).reports = s.reports := by unfold State.setNv; rfl
@[simp] theorem State.setNv_colls : (s.setNv e f x).colls = s.colls := by unfold State.setNv; rfl
@[simp] theorem State.setNv_log : (s.setNv e f x).log = s.log := by unfold State.setNv; rfl
@[simp] theorem State.setNv_fuses : (s.setNv e f x).fuses = s.fuses := by unfold State.setNv; rfl
@[simp] theorem State.setNv_sec : (s.setNv e f x).sec = s.sec := by unfold State.setNv; rfl
@[simp] theorem State.setNv_omc : (s.setNv e f x).omc = s.omc := by unfold State.setNv; rfl
@[simp] theorem State.setNv_jtag : (s.setNv e f x).jtag = s.jtag := by unfold State.setNv; rfl
@[simp] theorem State.setNv_pins : (s.setNv e f x).pins = s.pins := by unfold State.setNv; rfl
@[simp] theorem State.setNv_cfg : (s.setNv e f x).cfg = s.cfg := by unfold State.setNv; rfl
@[simp] theorem State.setNv_mem : (s.setNv e f x).mem = s.mem := by unfold State.setNv; rfl
@[simp] theorem State.setNv_fresh : (s.setNv e f x).fresh = s.fresh := by unfold State.setNv; rfl
@[simp] theorem State.setNv_out : (s.setNv e f x).out = s.out := by unfold State.setNv; rfl
@[simp] theorem State.setNv_bufs : (s.setNv e f x).bufs = s.bufs := by unfold State.setNv; rfl
@[simp] theorem State.setNv_nextBuf : (s.setNv e f x).nextBuf = s.nextBuf := by unfold State.setNv; rfl
@[simp] theorem State.setNv_fifos : (s.setNv e f x).fifos = s.fifos := by unfold State.setNv; rfl
@[simp] theorem State.setNv_seqs : (s.setNv e f x).seqs = s.seqs := by unfold State.setNv; rfl
@[simp] theorem State.setNv_hdrs : (s.setNv e f x).hdrs = s.hdrs := by unfold State.setNv; rfl
@[simp] theorem State.setNv_links : (s.setNv e f x).links = s.links := by unfold State.setNv; rfl
@[simp] theorem State.setNv_landW : (s.setNv e f x).landW = s.landW := by unfold State.setNv; rfl
@[simp] theorem State.setNv_held : (s.setNv e f x).held = s.held := by unfold State.setNv; rfl
@[simp] theorem State.setNv_rules : (s.setNv e f x).rules = s.rules := by unfold State.setNv; rfl
@[simp] theorem State.setNv_clsSt : (s.setNv e f x).clsSt = s.clsSt := by unfold State.setNv; rfl
@[simp] theorem State.setNv_asets : (s.setNv e f x).asets = s.asets := by unfold State.setNv; rfl
@[simp] theorem State.setNv_tpls : (s.setNv e f x).tpls = s.tpls := by unfold State.setNv; rfl
@[simp] theorem State.setNv_cnts : (s.setNv e f x).cnts = s.cnts := by unfold State.setNv; rfl
@[simp] theorem State.setNv_sampling : (s.setNv e f x).sampling = s.sampling := by unfold State.setNv; rfl
@[simp] theorem State.setNv_ipId : (s.setNv e f x).ipId = s.ipId := by unfold State.setNv; rfl
@[simp] theorem State.setNv_greSeq : (s.setNv e f x).greSeq = s.greSeq := by unfold State.setNv; rfl
@[simp] theorem State.setNv_nodes : (s.setNv e f x).nodes = s.nodes := by unfold State.setNv; rfl
@[simp] theorem State.setNv_queues : (s.setNv e f x).queues = s.queues := by unfold State.setNv; rfl
@[simp] theorem State.setNv_outlets : (s.setNv e f x).outlets = s.outlets := by unfold State.setNv; rfl
@[simp] theorem State.setNv_sel : (s.setNv e f x).sel = s.sel := by unfold State.setNv; rfl
@[simp] theorem State.setNv_gates : (s.setNv e f x).gates = s.gates := by unfold State.setNv; rfl
@[simp] theorem State.setNv_plcrs : (s.setNv e f x).plcrs = s.plcrs := by unfold State.setNv; rfl
@[simp] theorem State.setNv_apls : (s.setNv e f x).apls = s.apls := by unfold State.setNv; rfl
@[simp] theorem State.setNv_aplReads : (s.setNv e f x).aplReads = s.aplReads := by unfold State.setNv; rfl
@[simp] theorem State.setNv_winReqs : (s.setNv e f x).winReqs = s.winReqs := by unfold State.setNv; rfl
@[simp] theorem State.setNv_eps : (s.setNv e f x).eps = s.eps := by unfold State.setNv; rfl
@[simp] theorem State.setNv_hwait : (s.setNv e f x).hwait = s.hwait := by unfold State.setNv; rfl
@[simp] theorem State.setNv_arrived : (s.setNv e f x).arrived = s.arrived := by unfold State.setNv; rfl
@[simp] theorem State.setNv_hreads : (s.setNv e f x).hreads = s.hreads := by unfold State.setNv; rfl
@[simp] theorem State.setNv_bothFull : (s.setNv e f x).bothFull = s.bothFull := by unfold State.setNv; rfl
@[simp] theorem State.setNv_binds : (s.setNv e f x).binds = s.binds := by unfold State.setNv; rfl
@[simp] theorem State.setNv_wrings : (s.setNv e f x).wrings = s.wrings := by unfold State.setNv; rfl
@[simp] theorem State.setNv_crings : (s.setNv e f x).crings = s.crings := by unfold State.setNv; rfl
@[simp] theorem State.setNv_txs : (s.setNv e f x).txs = s.txs := by unfold State.setNv; rfl
@[simp] theorem State.setNv_txNext : (s.setNv e f x).txNext = s.txNext := by unfold State.setNv; rfl
@[simp] theorem State.setNv_cqes : (s.setNv e f x).cqes = s.cqes := by unfold State.setNv; rfl
@[simp] theorem State.setNv_near : (s.setNv e f x).near = s.near := by unfold State.setNv; rfl
@[simp] theorem State.setNv_ovf : (s.setNv e f x).ovf = s.ovf := by unfold State.setNv; rfl
@[simp] theorem State.setNv_learns : (s.setNv e f x).learns = s.learns := by unfold State.setNv; rfl
@[simp] theorem State.setNv_tblSt : (s.setNv e f x).tblSt = s.tblSt := by unfold State.setNv; rfl
@[simp] theorem State.setNv_ageDue : (s.setNv e f x).ageDue = s.ageDue := by unfold State.setNv; rfl
@[simp] theorem State.setNv_ctxs : (s.setNv e f x).ctxs = s.ctxs := by unfold State.setNv; rfl
@[simp] theorem State.setNv_cuEvts : (s.setNv e f x).cuEvts = s.cuEvts := by unfold State.setNv; rfl
@[simp] theorem State.setNv_thrs : (s.setNv e f x).thrs = s.thrs := by unfold State.setNv; rfl
@[simp] theorem State.setNv_chans : (s.setNv e f x).chans = s.chans := by unfold State.setNv; rfl
@[simp] theorem State.setNv_ureqs : (s.setNv e f x).ureqs = s.ureqs := by unfold State.setNv; rfl
@[simp] theorem State.setNv_ureps : (s.setNv e f x).ureps = s.ureps := by unfold State.setNv; rfl
@[simp] theorem State.setNv_inq : (s.setNv e f x).inq = s.inq := by unfold State.setNv; rfl
@[simp] theorem State.setNv_checks : (s.setNv e f x).checks = s.checks := by unfold State.setNv; rfl
@[simp] theorem State.setNv_dbgs : (s.setNv e f x).dbgs = s.dbgs := by unfold State.setNv; rfl
@[simp] theorem State.setNv_still : (s.setNv e f x).still = s.still := by unfold State.setNv; rfl
@[simp] theorem State.setNv_csBad : (s.setNv e f x).csBad = s.csBad := by unfold State.setNv; rfl
@[simp] theorem State.setNv_csStage : (s.setNv e f x).csStage = s.csStage := by unfold State.setNv; rfl
@[simp] theorem State.setNv_dmas : (s.setNv e f x).dmas = s.dmas := by unfold State.setNv; rfl
@[simp] theorem State.setNv_tick : (s.setNv e f x).tick = s.tick := by unfold State.setNv; rfl
@[simp] theorem State.setNv_arbs : (s.setNv e f x).arbs = s.arbs := by unfold State.setNv; rfl
@[simp] theorem State.setNv_lastRing : (s.setNv e f x).lastRing = s.lastRing := by unfold State.setNv; rfl
end

section
variable (s : State) (q : Nat) (a : AplState)
@[simp] theorem State.setApl_pending : (s.setApl q a).pending = s.pending := by unfold State.setApl; rfl
@[simp] theorem State.setApl_clk : (s.setApl q a).clk = s.clk := by unfold State.setApl; rfl
@[simp] theorem State.setApl_ptime : (s.setApl q a).ptime = s.ptime := by unfold State.setApl; rfl
@[simp] theorem State.setApl_ptFrac : (s.setApl q a).ptFrac = s.ptFrac := by unfold State.setApl; rfl
@[simp] theorem State.setApl_regs : (s.setApl q a).regs = s.regs := by unfold State.setApl; rfl
@[simp] theorem State.setApl_fast : (s.setApl q a).fast = s.fast := by unfold State.setApl; rfl
@[simp] theorem State.setApl_ferry : (s.setApl q a).ferry = s.ferry := by unfold State.setApl; rfl
@[simp] theorem State.setApl_ctrs : (s.setApl q a).ctrs = s.ctrs := by unfold State.setApl; rfl
@[simp] theorem State.setApl_drw : (s.setApl q a).drw = s.drw := by unfold State.setApl; rfl
@[simp] theorem State.setApl_resets : (s.setApl q a).resets = s.resets := by unfold State.setApl; rfl
@[simp] theorem State.setApl_fences : (s.setApl q a).fences = s.fences := by unfold State.setApl; rfl
@[simp] theorem State.setApl_doms : (s.setApl q a).doms = s.doms := by unfold State.setApl; rfl
@[simp] theorem State.setApl_barriers : (s.setApl q a).barriers = s.barriers := by unfold State.setApl; rfl
@[simp] theorem State.setApl_reports : (s.setApl q a).reports = s.reports := by unfold State.setApl; rfl
@[simp] theorem State.setApl_colls : (s.setApl q a).colls = s.colls := by unfold State.setApl; rfl
@[simp] theorem State.setApl_log : (s.setApl q a).log = s.log := by unfold State.setApl; rfl
@[simp] theorem State.setApl_fuses : (s.setApl q a).fuses = s.fuses := by unfold State.setApl; rfl
@[simp] theorem State.setApl_sec : (s.setApl q a).sec = s.sec := by unfold State.setApl; rfl
@[simp] theorem State.setApl_omc : (s.setApl q a).omc = s.omc := by unfold State.setApl; rfl
@[simp] theorem State.setApl_jtag : (s.setApl q a).jtag = s.jtag := by unfold State.setApl; rfl
@[simp] theorem State.setApl_pins : (s.setApl q a).pins = s.pins := by unfold State.setApl; rfl
@[simp] theorem State.setApl_cfg : (s.setApl q a).cfg = s.cfg := by unfold State.setApl; rfl
@[simp] theorem State.setApl_mem : (s.setApl q a).mem = s.mem := by unfold State.setApl; rfl
@[simp] theorem State.setApl_fresh : (s.setApl q a).fresh = s.fresh := by unfold State.setApl; rfl
@[simp] theorem State.setApl_out : (s.setApl q a).out = s.out := by unfold State.setApl; rfl
@[simp] theorem State.setApl_bufs : (s.setApl q a).bufs = s.bufs := by unfold State.setApl; rfl
@[simp] theorem State.setApl_nextBuf : (s.setApl q a).nextBuf = s.nextBuf := by unfold State.setApl; rfl
@[simp] theorem State.setApl_fifos : (s.setApl q a).fifos = s.fifos := by unfold State.setApl; rfl
@[simp] theorem State.setApl_seqs : (s.setApl q a).seqs = s.seqs := by unfold State.setApl; rfl
@[simp] theorem State.setApl_hdrs : (s.setApl q a).hdrs = s.hdrs := by unfold State.setApl; rfl
@[simp] theorem State.setApl_links : (s.setApl q a).links = s.links := by unfold State.setApl; rfl
@[simp] theorem State.setApl_landW : (s.setApl q a).landW = s.landW := by unfold State.setApl; rfl
@[simp] theorem State.setApl_held : (s.setApl q a).held = s.held := by unfold State.setApl; rfl
@[simp] theorem State.setApl_rules : (s.setApl q a).rules = s.rules := by unfold State.setApl; rfl
@[simp] theorem State.setApl_clsSt : (s.setApl q a).clsSt = s.clsSt := by unfold State.setApl; rfl
@[simp] theorem State.setApl_asets : (s.setApl q a).asets = s.asets := by unfold State.setApl; rfl
@[simp] theorem State.setApl_tpls : (s.setApl q a).tpls = s.tpls := by unfold State.setApl; rfl
@[simp] theorem State.setApl_cnts : (s.setApl q a).cnts = s.cnts := by unfold State.setApl; rfl
@[simp] theorem State.setApl_sampling : (s.setApl q a).sampling = s.sampling := by unfold State.setApl; rfl
@[simp] theorem State.setApl_ipId : (s.setApl q a).ipId = s.ipId := by unfold State.setApl; rfl
@[simp] theorem State.setApl_greSeq : (s.setApl q a).greSeq = s.greSeq := by unfold State.setApl; rfl
@[simp] theorem State.setApl_nodes : (s.setApl q a).nodes = s.nodes := by unfold State.setApl; rfl
@[simp] theorem State.setApl_queues : (s.setApl q a).queues = s.queues := by unfold State.setApl; rfl
@[simp] theorem State.setApl_outlets : (s.setApl q a).outlets = s.outlets := by unfold State.setApl; rfl
@[simp] theorem State.setApl_sel : (s.setApl q a).sel = s.sel := by unfold State.setApl; rfl
@[simp] theorem State.setApl_gates : (s.setApl q a).gates = s.gates := by unfold State.setApl; rfl
@[simp] theorem State.setApl_plcrs : (s.setApl q a).plcrs = s.plcrs := by unfold State.setApl; rfl
@[simp] theorem State.setApl_aplReads : (s.setApl q a).aplReads = s.aplReads := by unfold State.setApl; rfl
@[simp] theorem State.setApl_winReqs : (s.setApl q a).winReqs = s.winReqs := by unfold State.setApl; rfl
@[simp] theorem State.setApl_eps : (s.setApl q a).eps = s.eps := by unfold State.setApl; rfl
@[simp] theorem State.setApl_hwait : (s.setApl q a).hwait = s.hwait := by unfold State.setApl; rfl
@[simp] theorem State.setApl_arrived : (s.setApl q a).arrived = s.arrived := by unfold State.setApl; rfl
@[simp] theorem State.setApl_hreads : (s.setApl q a).hreads = s.hreads := by unfold State.setApl; rfl
@[simp] theorem State.setApl_bothFull : (s.setApl q a).bothFull = s.bothFull := by unfold State.setApl; rfl
@[simp] theorem State.setApl_binds : (s.setApl q a).binds = s.binds := by unfold State.setApl; rfl
@[simp] theorem State.setApl_wrings : (s.setApl q a).wrings = s.wrings := by unfold State.setApl; rfl
@[simp] theorem State.setApl_crings : (s.setApl q a).crings = s.crings := by unfold State.setApl; rfl
@[simp] theorem State.setApl_txs : (s.setApl q a).txs = s.txs := by unfold State.setApl; rfl
@[simp] theorem State.setApl_txNext : (s.setApl q a).txNext = s.txNext := by unfold State.setApl; rfl
@[simp] theorem State.setApl_cqes : (s.setApl q a).cqes = s.cqes := by unfold State.setApl; rfl
@[simp] theorem State.setApl_near : (s.setApl q a).near = s.near := by unfold State.setApl; rfl
@[simp] theorem State.setApl_ovf : (s.setApl q a).ovf = s.ovf := by unfold State.setApl; rfl
@[simp] theorem State.setApl_learns : (s.setApl q a).learns = s.learns := by unfold State.setApl; rfl
@[simp] theorem State.setApl_tblSt : (s.setApl q a).tblSt = s.tblSt := by unfold State.setApl; rfl
@[simp] theorem State.setApl_ageDue : (s.setApl q a).ageDue = s.ageDue := by unfold State.setApl; rfl
@[simp] theorem State.setApl_ctxs : (s.setApl q a).ctxs = s.ctxs := by unfold State.setApl; rfl
@[simp] theorem State.setApl_cuEvts : (s.setApl q a).cuEvts = s.cuEvts := by unfold State.setApl; rfl
@[simp] theorem State.setApl_thrs : (s.setApl q a).thrs = s.thrs := by unfold State.setApl; rfl
@[simp] theorem State.setApl_chans : (s.setApl q a).chans = s.chans := by unfold State.setApl; rfl
@[simp] theorem State.setApl_ureqs : (s.setApl q a).ureqs = s.ureqs := by unfold State.setApl; rfl
@[simp] theorem State.setApl_ureps : (s.setApl q a).ureps = s.ureps := by unfold State.setApl; rfl
@[simp] theorem State.setApl_inq : (s.setApl q a).inq = s.inq := by unfold State.setApl; rfl
@[simp] theorem State.setApl_checks : (s.setApl q a).checks = s.checks := by unfold State.setApl; rfl
@[simp] theorem State.setApl_dbgs : (s.setApl q a).dbgs = s.dbgs := by unfold State.setApl; rfl
@[simp] theorem State.setApl_still : (s.setApl q a).still = s.still := by unfold State.setApl; rfl
@[simp] theorem State.setApl_csBad : (s.setApl q a).csBad = s.csBad := by unfold State.setApl; rfl
@[simp] theorem State.setApl_csStage : (s.setApl q a).csStage = s.csStage := by unfold State.setApl; rfl
@[simp] theorem State.setApl_dmas : (s.setApl q a).dmas = s.dmas := by unfold State.setApl; rfl
@[simp] theorem State.setApl_tick : (s.setApl q a).tick = s.tick := by unfold State.setApl; rfl
@[simp] theorem State.setApl_arbs : (s.setApl q a).arbs = s.arbs := by unfold State.setApl; rfl
@[simp] theorem State.setApl_lastRing : (s.setApl q a).lastRing = s.lastRing := by unfold State.setApl; rfl
@[simp] theorem State.setApl_nvs : (s.setApl q a).nvs = s.nvs := by unfold State.setApl; rfl
end

section
variable (s : State) (i : Nat) (x : Tap)
@[simp] theorem State.setTap_pending : (s.setTap i x).pending = s.pending := by unfold State.setTap; rfl
@[simp] theorem State.setTap_clk : (s.setTap i x).clk = s.clk := by unfold State.setTap; rfl
@[simp] theorem State.setTap_ptime : (s.setTap i x).ptime = s.ptime := by unfold State.setTap; rfl
@[simp] theorem State.setTap_ptFrac : (s.setTap i x).ptFrac = s.ptFrac := by unfold State.setTap; rfl
@[simp] theorem State.setTap_regs : (s.setTap i x).regs = s.regs := by unfold State.setTap; rfl
@[simp] theorem State.setTap_fast : (s.setTap i x).fast = s.fast := by unfold State.setTap; rfl
@[simp] theorem State.setTap_ferry : (s.setTap i x).ferry = s.ferry := by unfold State.setTap; rfl
@[simp] theorem State.setTap_ctrs : (s.setTap i x).ctrs = s.ctrs := by unfold State.setTap; rfl
@[simp] theorem State.setTap_drw : (s.setTap i x).drw = s.drw := by unfold State.setTap; rfl
@[simp] theorem State.setTap_resets : (s.setTap i x).resets = s.resets := by unfold State.setTap; rfl
@[simp] theorem State.setTap_fences : (s.setTap i x).fences = s.fences := by unfold State.setTap; rfl
@[simp] theorem State.setTap_doms : (s.setTap i x).doms = s.doms := by unfold State.setTap; rfl
@[simp] theorem State.setTap_barriers : (s.setTap i x).barriers = s.barriers := by unfold State.setTap; rfl
@[simp] theorem State.setTap_reports : (s.setTap i x).reports = s.reports := by unfold State.setTap; rfl
@[simp] theorem State.setTap_colls : (s.setTap i x).colls = s.colls := by unfold State.setTap; rfl
@[simp] theorem State.setTap_log : (s.setTap i x).log = s.log := by unfold State.setTap; rfl
@[simp] theorem State.setTap_fuses : (s.setTap i x).fuses = s.fuses := by unfold State.setTap; rfl
@[simp] theorem State.setTap_sec : (s.setTap i x).sec = s.sec := by unfold State.setTap; rfl
@[simp] theorem State.setTap_omc : (s.setTap i x).omc = s.omc := by unfold State.setTap; rfl
@[simp] theorem State.setTap_pins : (s.setTap i x).pins = s.pins := by unfold State.setTap; rfl
@[simp] theorem State.setTap_cfg : (s.setTap i x).cfg = s.cfg := by unfold State.setTap; rfl
@[simp] theorem State.setTap_mem : (s.setTap i x).mem = s.mem := by unfold State.setTap; rfl
@[simp] theorem State.setTap_fresh : (s.setTap i x).fresh = s.fresh := by unfold State.setTap; rfl
@[simp] theorem State.setTap_out : (s.setTap i x).out = s.out := by unfold State.setTap; rfl
@[simp] theorem State.setTap_bufs : (s.setTap i x).bufs = s.bufs := by unfold State.setTap; rfl
@[simp] theorem State.setTap_nextBuf : (s.setTap i x).nextBuf = s.nextBuf := by unfold State.setTap; rfl
@[simp] theorem State.setTap_fifos : (s.setTap i x).fifos = s.fifos := by unfold State.setTap; rfl
@[simp] theorem State.setTap_seqs : (s.setTap i x).seqs = s.seqs := by unfold State.setTap; rfl
@[simp] theorem State.setTap_hdrs : (s.setTap i x).hdrs = s.hdrs := by unfold State.setTap; rfl
@[simp] theorem State.setTap_links : (s.setTap i x).links = s.links := by unfold State.setTap; rfl
@[simp] theorem State.setTap_landW : (s.setTap i x).landW = s.landW := by unfold State.setTap; rfl
@[simp] theorem State.setTap_held : (s.setTap i x).held = s.held := by unfold State.setTap; rfl
@[simp] theorem State.setTap_rules : (s.setTap i x).rules = s.rules := by unfold State.setTap; rfl
@[simp] theorem State.setTap_clsSt : (s.setTap i x).clsSt = s.clsSt := by unfold State.setTap; rfl
@[simp] theorem State.setTap_asets : (s.setTap i x).asets = s.asets := by unfold State.setTap; rfl
@[simp] theorem State.setTap_tpls : (s.setTap i x).tpls = s.tpls := by unfold State.setTap; rfl
@[simp] theorem State.setTap_cnts : (s.setTap i x).cnts = s.cnts := by unfold State.setTap; rfl
@[simp] theorem State.setTap_sampling : (s.setTap i x).sampling = s.sampling := by unfold State.setTap; rfl
@[simp] theorem State.setTap_ipId : (s.setTap i x).ipId = s.ipId := by unfold State.setTap; rfl
@[simp] theorem State.setTap_greSeq : (s.setTap i x).greSeq = s.greSeq := by unfold State.setTap; rfl
@[simp] theorem State.setTap_nodes : (s.setTap i x).nodes = s.nodes := by unfold State.setTap; rfl
@[simp] theorem State.setTap_queues : (s.setTap i x).queues = s.queues := by unfold State.setTap; rfl
@[simp] theorem State.setTap_outlets : (s.setTap i x).outlets = s.outlets := by unfold State.setTap; rfl
@[simp] theorem State.setTap_sel : (s.setTap i x).sel = s.sel := by unfold State.setTap; rfl
@[simp] theorem State.setTap_gates : (s.setTap i x).gates = s.gates := by unfold State.setTap; rfl
@[simp] theorem State.setTap_plcrs : (s.setTap i x).plcrs = s.plcrs := by unfold State.setTap; rfl
@[simp] theorem State.setTap_apls : (s.setTap i x).apls = s.apls := by unfold State.setTap; rfl
@[simp] theorem State.setTap_aplReads : (s.setTap i x).aplReads = s.aplReads := by unfold State.setTap; rfl
@[simp] theorem State.setTap_winReqs : (s.setTap i x).winReqs = s.winReqs := by unfold State.setTap; rfl
@[simp] theorem State.setTap_eps : (s.setTap i x).eps = s.eps := by unfold State.setTap; rfl
@[simp] theorem State.setTap_hwait : (s.setTap i x).hwait = s.hwait := by unfold State.setTap; rfl
@[simp] theorem State.setTap_arrived : (s.setTap i x).arrived = s.arrived := by unfold State.setTap; rfl
@[simp] theorem State.setTap_hreads : (s.setTap i x).hreads = s.hreads := by unfold State.setTap; rfl
@[simp] theorem State.setTap_bothFull : (s.setTap i x).bothFull = s.bothFull := by unfold State.setTap; rfl
@[simp] theorem State.setTap_binds : (s.setTap i x).binds = s.binds := by unfold State.setTap; rfl
@[simp] theorem State.setTap_wrings : (s.setTap i x).wrings = s.wrings := by unfold State.setTap; rfl
@[simp] theorem State.setTap_crings : (s.setTap i x).crings = s.crings := by unfold State.setTap; rfl
@[simp] theorem State.setTap_txs : (s.setTap i x).txs = s.txs := by unfold State.setTap; rfl
@[simp] theorem State.setTap_txNext : (s.setTap i x).txNext = s.txNext := by unfold State.setTap; rfl
@[simp] theorem State.setTap_cqes : (s.setTap i x).cqes = s.cqes := by unfold State.setTap; rfl
@[simp] theorem State.setTap_near : (s.setTap i x).near = s.near := by unfold State.setTap; rfl
@[simp] theorem State.setTap_ovf : (s.setTap i x).ovf = s.ovf := by unfold State.setTap; rfl
@[simp] theorem State.setTap_learns : (s.setTap i x).learns = s.learns := by unfold State.setTap; rfl
@[simp] theorem State.setTap_tblSt : (s.setTap i x).tblSt = s.tblSt := by unfold State.setTap; rfl
@[simp] theorem State.setTap_ageDue : (s.setTap i x).ageDue = s.ageDue := by unfold State.setTap; rfl
@[simp] theorem State.setTap_ctxs : (s.setTap i x).ctxs = s.ctxs := by unfold State.setTap; rfl
@[simp] theorem State.setTap_cuEvts : (s.setTap i x).cuEvts = s.cuEvts := by unfold State.setTap; rfl
@[simp] theorem State.setTap_thrs : (s.setTap i x).thrs = s.thrs := by unfold State.setTap; rfl
@[simp] theorem State.setTap_chans : (s.setTap i x).chans = s.chans := by unfold State.setTap; rfl
@[simp] theorem State.setTap_ureqs : (s.setTap i x).ureqs = s.ureqs := by unfold State.setTap; rfl
@[simp] theorem State.setTap_ureps : (s.setTap i x).ureps = s.ureps := by unfold State.setTap; rfl
@[simp] theorem State.setTap_inq : (s.setTap i x).inq = s.inq := by unfold State.setTap; rfl
@[simp] theorem State.setTap_checks : (s.setTap i x).checks = s.checks := by unfold State.setTap; rfl
@[simp] theorem State.setTap_dbgs : (s.setTap i x).dbgs = s.dbgs := by unfold State.setTap; rfl
@[simp] theorem State.setTap_still : (s.setTap i x).still = s.still := by unfold State.setTap; rfl
@[simp] theorem State.setTap_csBad : (s.setTap i x).csBad = s.csBad := by unfold State.setTap; rfl
@[simp] theorem State.setTap_csStage : (s.setTap i x).csStage = s.csStage := by unfold State.setTap; rfl
@[simp] theorem State.setTap_dmas : (s.setTap i x).dmas = s.dmas := by unfold State.setTap; rfl
@[simp] theorem State.setTap_tick : (s.setTap i x).tick = s.tick := by unfold State.setTap; rfl
@[simp] theorem State.setTap_arbs : (s.setTap i x).arbs = s.arbs := by unfold State.setTap; rfl
@[simp] theorem State.setTap_lastRing : (s.setTap i x).lastRing = s.lastRing := by unfold State.setTap; rfl
@[simp] theorem State.setTap_nvs : (s.setTap i x).nvs = s.nvs := by unfold State.setTap; rfl
end

section
variable (s : State) (r : Nat) (l : LearnState)
@[simp] theorem State.setLearn_pending : (s.setLearn r l).pending = s.pending := by unfold State.setLearn; rfl
@[simp] theorem State.setLearn_clk : (s.setLearn r l).clk = s.clk := by unfold State.setLearn; rfl
@[simp] theorem State.setLearn_ptime : (s.setLearn r l).ptime = s.ptime := by unfold State.setLearn; rfl
@[simp] theorem State.setLearn_ptFrac : (s.setLearn r l).ptFrac = s.ptFrac := by unfold State.setLearn; rfl
@[simp] theorem State.setLearn_regs : (s.setLearn r l).regs = s.regs := by unfold State.setLearn; rfl
@[simp] theorem State.setLearn_fast : (s.setLearn r l).fast = s.fast := by unfold State.setLearn; rfl
@[simp] theorem State.setLearn_ferry : (s.setLearn r l).ferry = s.ferry := by unfold State.setLearn; rfl
@[simp] theorem State.setLearn_ctrs : (s.setLearn r l).ctrs = s.ctrs := by unfold State.setLearn; rfl
@[simp] theorem State.setLearn_drw : (s.setLearn r l).drw = s.drw := by unfold State.setLearn; rfl
@[simp] theorem State.setLearn_resets : (s.setLearn r l).resets = s.resets := by unfold State.setLearn; rfl
@[simp] theorem State.setLearn_fences : (s.setLearn r l).fences = s.fences := by unfold State.setLearn; rfl
@[simp] theorem State.setLearn_doms : (s.setLearn r l).doms = s.doms := by unfold State.setLearn; rfl
@[simp] theorem State.setLearn_barriers : (s.setLearn r l).barriers = s.barriers := by unfold State.setLearn; rfl
@[simp] theorem State.setLearn_reports : (s.setLearn r l).reports = s.reports := by unfold State.setLearn; rfl
@[simp] theorem State.setLearn_colls : (s.setLearn r l).colls = s.colls := by unfold State.setLearn; rfl
@[simp] theorem State.setLearn_log : (s.setLearn r l).log = s.log := by unfold State.setLearn; rfl
@[simp] theorem State.setLearn_fuses : (s.setLearn r l).fuses = s.fuses := by unfold State.setLearn; rfl
@[simp] theorem State.setLearn_sec : (s.setLearn r l).sec = s.sec := by unfold State.setLearn; rfl
@[simp] theorem State.setLearn_omc : (s.setLearn r l).omc = s.omc := by unfold State.setLearn; rfl
@[simp] theorem State.setLearn_jtag : (s.setLearn r l).jtag = s.jtag := by unfold State.setLearn; rfl
@[simp] theorem State.setLearn_pins : (s.setLearn r l).pins = s.pins := by unfold State.setLearn; rfl
@[simp] theorem State.setLearn_cfg : (s.setLearn r l).cfg = s.cfg := by unfold State.setLearn; rfl
@[simp] theorem State.setLearn_mem : (s.setLearn r l).mem = s.mem := by unfold State.setLearn; rfl
@[simp] theorem State.setLearn_fresh : (s.setLearn r l).fresh = s.fresh := by unfold State.setLearn; rfl
@[simp] theorem State.setLearn_out : (s.setLearn r l).out = s.out := by unfold State.setLearn; rfl
@[simp] theorem State.setLearn_bufs : (s.setLearn r l).bufs = s.bufs := by unfold State.setLearn; rfl
@[simp] theorem State.setLearn_nextBuf : (s.setLearn r l).nextBuf = s.nextBuf := by unfold State.setLearn; rfl
@[simp] theorem State.setLearn_fifos : (s.setLearn r l).fifos = s.fifos := by unfold State.setLearn; rfl
@[simp] theorem State.setLearn_seqs : (s.setLearn r l).seqs = s.seqs := by unfold State.setLearn; rfl
@[simp] theorem State.setLearn_hdrs : (s.setLearn r l).hdrs = s.hdrs := by unfold State.setLearn; rfl
@[simp] theorem State.setLearn_links : (s.setLearn r l).links = s.links := by unfold State.setLearn; rfl
@[simp] theorem State.setLearn_landW : (s.setLearn r l).landW = s.landW := by unfold State.setLearn; rfl
@[simp] theorem State.setLearn_held : (s.setLearn r l).held = s.held := by unfold State.setLearn; rfl
@[simp] theorem State.setLearn_rules : (s.setLearn r l).rules = s.rules := by unfold State.setLearn; rfl
@[simp] theorem State.setLearn_clsSt : (s.setLearn r l).clsSt = s.clsSt := by unfold State.setLearn; rfl
@[simp] theorem State.setLearn_asets : (s.setLearn r l).asets = s.asets := by unfold State.setLearn; rfl
@[simp] theorem State.setLearn_tpls : (s.setLearn r l).tpls = s.tpls := by unfold State.setLearn; rfl
@[simp] theorem State.setLearn_cnts : (s.setLearn r l).cnts = s.cnts := by unfold State.setLearn; rfl
@[simp] theorem State.setLearn_sampling : (s.setLearn r l).sampling = s.sampling := by unfold State.setLearn; rfl
@[simp] theorem State.setLearn_ipId : (s.setLearn r l).ipId = s.ipId := by unfold State.setLearn; rfl
@[simp] theorem State.setLearn_greSeq : (s.setLearn r l).greSeq = s.greSeq := by unfold State.setLearn; rfl
@[simp] theorem State.setLearn_nodes : (s.setLearn r l).nodes = s.nodes := by unfold State.setLearn; rfl
@[simp] theorem State.setLearn_queues : (s.setLearn r l).queues = s.queues := by unfold State.setLearn; rfl
@[simp] theorem State.setLearn_outlets : (s.setLearn r l).outlets = s.outlets := by unfold State.setLearn; rfl
@[simp] theorem State.setLearn_sel : (s.setLearn r l).sel = s.sel := by unfold State.setLearn; rfl
@[simp] theorem State.setLearn_gates : (s.setLearn r l).gates = s.gates := by unfold State.setLearn; rfl
@[simp] theorem State.setLearn_plcrs : (s.setLearn r l).plcrs = s.plcrs := by unfold State.setLearn; rfl
@[simp] theorem State.setLearn_apls : (s.setLearn r l).apls = s.apls := by unfold State.setLearn; rfl
@[simp] theorem State.setLearn_aplReads : (s.setLearn r l).aplReads = s.aplReads := by unfold State.setLearn; rfl
@[simp] theorem State.setLearn_winReqs : (s.setLearn r l).winReqs = s.winReqs := by unfold State.setLearn; rfl
@[simp] theorem State.setLearn_eps : (s.setLearn r l).eps = s.eps := by unfold State.setLearn; rfl
@[simp] theorem State.setLearn_hwait : (s.setLearn r l).hwait = s.hwait := by unfold State.setLearn; rfl
@[simp] theorem State.setLearn_arrived : (s.setLearn r l).arrived = s.arrived := by unfold State.setLearn; rfl
@[simp] theorem State.setLearn_hreads : (s.setLearn r l).hreads = s.hreads := by unfold State.setLearn; rfl
@[simp] theorem State.setLearn_bothFull : (s.setLearn r l).bothFull = s.bothFull := by unfold State.setLearn; rfl
@[simp] theorem State.setLearn_binds : (s.setLearn r l).binds = s.binds := by unfold State.setLearn; rfl
@[simp] theorem State.setLearn_wrings : (s.setLearn r l).wrings = s.wrings := by unfold State.setLearn; rfl
@[simp] theorem State.setLearn_crings : (s.setLearn r l).crings = s.crings := by unfold State.setLearn; rfl
@[simp] theorem State.setLearn_txs : (s.setLearn r l).txs = s.txs := by unfold State.setLearn; rfl
@[simp] theorem State.setLearn_txNext : (s.setLearn r l).txNext = s.txNext := by unfold State.setLearn; rfl
@[simp] theorem State.setLearn_cqes : (s.setLearn r l).cqes = s.cqes := by unfold State.setLearn; rfl
@[simp] theorem State.setLearn_near : (s.setLearn r l).near = s.near := by unfold State.setLearn; rfl
@[simp] theorem State.setLearn_ovf : (s.setLearn r l).ovf = s.ovf := by unfold State.setLearn; rfl
@[simp] theorem State.setLearn_tblSt : (s.setLearn r l).tblSt = s.tblSt := by unfold State.setLearn; rfl
@[simp] theorem State.setLearn_ageDue : (s.setLearn r l).ageDue = s.ageDue := by unfold State.setLearn; rfl
@[simp] theorem State.setLearn_ctxs : (s.setLearn r l).ctxs = s.ctxs := by unfold State.setLearn; rfl
@[simp] theorem State.setLearn_cuEvts : (s.setLearn r l).cuEvts = s.cuEvts := by unfold State.setLearn; rfl
@[simp] theorem State.setLearn_thrs : (s.setLearn r l).thrs = s.thrs := by unfold State.setLearn; rfl
@[simp] theorem State.setLearn_chans : (s.setLearn r l).chans = s.chans := by unfold State.setLearn; rfl
@[simp] theorem State.setLearn_ureqs : (s.setLearn r l).ureqs = s.ureqs := by unfold State.setLearn; rfl
@[simp] theorem State.setLearn_ureps : (s.setLearn r l).ureps = s.ureps := by unfold State.setLearn; rfl
@[simp] theorem State.setLearn_inq : (s.setLearn r l).inq = s.inq := by unfold State.setLearn; rfl
@[simp] theorem State.setLearn_checks : (s.setLearn r l).checks = s.checks := by unfold State.setLearn; rfl
@[simp] theorem State.setLearn_dbgs : (s.setLearn r l).dbgs = s.dbgs := by unfold State.setLearn; rfl
@[simp] theorem State.setLearn_still : (s.setLearn r l).still = s.still := by unfold State.setLearn; rfl
@[simp] theorem State.setLearn_csBad : (s.setLearn r l).csBad = s.csBad := by unfold State.setLearn; rfl
@[simp] theorem State.setLearn_csStage : (s.setLearn r l).csStage = s.csStage := by unfold State.setLearn; rfl
@[simp] theorem State.setLearn_dmas : (s.setLearn r l).dmas = s.dmas := by unfold State.setLearn; rfl
@[simp] theorem State.setLearn_tick : (s.setLearn r l).tick = s.tick := by unfold State.setLearn; rfl
@[simp] theorem State.setLearn_arbs : (s.setLearn r l).arbs = s.arbs := by unfold State.setLearn; rfl
@[simp] theorem State.setLearn_lastRing : (s.setLearn r l).lastRing = s.lastRing := by unfold State.setLearn; rfl
@[simp] theorem State.setLearn_nvs : (s.setLearn r l).nvs = s.nvs := by unfold State.setLearn; rfl
end

section
variable (s : State) (r : Nat) (x : TblRegion)
@[simp] theorem State.setTblR_pending : (s.setTblR r x).pending = s.pending := by unfold State.setTblR; rfl
@[simp] theorem State.setTblR_clk : (s.setTblR r x).clk = s.clk := by unfold State.setTblR; rfl
@[simp] theorem State.setTblR_ptime : (s.setTblR r x).ptime = s.ptime := by unfold State.setTblR; rfl
@[simp] theorem State.setTblR_ptFrac : (s.setTblR r x).ptFrac = s.ptFrac := by unfold State.setTblR; rfl
@[simp] theorem State.setTblR_regs : (s.setTblR r x).regs = s.regs := by unfold State.setTblR; rfl
@[simp] theorem State.setTblR_fast : (s.setTblR r x).fast = s.fast := by unfold State.setTblR; rfl
@[simp] theorem State.setTblR_ferry : (s.setTblR r x).ferry = s.ferry := by unfold State.setTblR; rfl
@[simp] theorem State.setTblR_ctrs : (s.setTblR r x).ctrs = s.ctrs := by unfold State.setTblR; rfl
@[simp] theorem State.setTblR_drw : (s.setTblR r x).drw = s.drw := by unfold State.setTblR; rfl
@[simp] theorem State.setTblR_resets : (s.setTblR r x).resets = s.resets := by unfold State.setTblR; rfl
@[simp] theorem State.setTblR_fences : (s.setTblR r x).fences = s.fences := by unfold State.setTblR; rfl
@[simp] theorem State.setTblR_doms : (s.setTblR r x).doms = s.doms := by unfold State.setTblR; rfl
@[simp] theorem State.setTblR_barriers : (s.setTblR r x).barriers = s.barriers := by unfold State.setTblR; rfl
@[simp] theorem State.setTblR_reports : (s.setTblR r x).reports = s.reports := by unfold State.setTblR; rfl
@[simp] theorem State.setTblR_colls : (s.setTblR r x).colls = s.colls := by unfold State.setTblR; rfl
@[simp] theorem State.setTblR_log : (s.setTblR r x).log = s.log := by unfold State.setTblR; rfl
@[simp] theorem State.setTblR_fuses : (s.setTblR r x).fuses = s.fuses := by unfold State.setTblR; rfl
@[simp] theorem State.setTblR_sec : (s.setTblR r x).sec = s.sec := by unfold State.setTblR; rfl
@[simp] theorem State.setTblR_omc : (s.setTblR r x).omc = s.omc := by unfold State.setTblR; rfl
@[simp] theorem State.setTblR_jtag : (s.setTblR r x).jtag = s.jtag := by unfold State.setTblR; rfl
@[simp] theorem State.setTblR_pins : (s.setTblR r x).pins = s.pins := by unfold State.setTblR; rfl
@[simp] theorem State.setTblR_cfg : (s.setTblR r x).cfg = s.cfg := by unfold State.setTblR; rfl
@[simp] theorem State.setTblR_mem : (s.setTblR r x).mem = s.mem := by unfold State.setTblR; rfl
@[simp] theorem State.setTblR_fresh : (s.setTblR r x).fresh = s.fresh := by unfold State.setTblR; rfl
@[simp] theorem State.setTblR_out : (s.setTblR r x).out = s.out := by unfold State.setTblR; rfl
@[simp] theorem State.setTblR_bufs : (s.setTblR r x).bufs = s.bufs := by unfold State.setTblR; rfl
@[simp] theorem State.setTblR_nextBuf : (s.setTblR r x).nextBuf = s.nextBuf := by unfold State.setTblR; rfl
@[simp] theorem State.setTblR_fifos : (s.setTblR r x).fifos = s.fifos := by unfold State.setTblR; rfl
@[simp] theorem State.setTblR_seqs : (s.setTblR r x).seqs = s.seqs := by unfold State.setTblR; rfl
@[simp] theorem State.setTblR_hdrs : (s.setTblR r x).hdrs = s.hdrs := by unfold State.setTblR; rfl
@[simp] theorem State.setTblR_links : (s.setTblR r x).links = s.links := by unfold State.setTblR; rfl
@[simp] theorem State.setTblR_landW : (s.setTblR r x).landW = s.landW := by unfold State.setTblR; rfl
@[simp] theorem State.setTblR_held : (s.setTblR r x).held = s.held := by unfold State.setTblR; rfl
@[simp] theorem State.setTblR_rules : (s.setTblR r x).rules = s.rules := by unfold State.setTblR; rfl
@[simp] theorem State.setTblR_clsSt : (s.setTblR r x).clsSt = s.clsSt := by unfold State.setTblR; rfl
@[simp] theorem State.setTblR_asets : (s.setTblR r x).asets = s.asets := by unfold State.setTblR; rfl
@[simp] theorem State.setTblR_tpls : (s.setTblR r x).tpls = s.tpls := by unfold State.setTblR; rfl
@[simp] theorem State.setTblR_cnts : (s.setTblR r x).cnts = s.cnts := by unfold State.setTblR; rfl
@[simp] theorem State.setTblR_sampling : (s.setTblR r x).sampling = s.sampling := by unfold State.setTblR; rfl
@[simp] theorem State.setTblR_ipId : (s.setTblR r x).ipId = s.ipId := by unfold State.setTblR; rfl
@[simp] theorem State.setTblR_greSeq : (s.setTblR r x).greSeq = s.greSeq := by unfold State.setTblR; rfl
@[simp] theorem State.setTblR_nodes : (s.setTblR r x).nodes = s.nodes := by unfold State.setTblR; rfl
@[simp] theorem State.setTblR_queues : (s.setTblR r x).queues = s.queues := by unfold State.setTblR; rfl
@[simp] theorem State.setTblR_outlets : (s.setTblR r x).outlets = s.outlets := by unfold State.setTblR; rfl
@[simp] theorem State.setTblR_sel : (s.setTblR r x).sel = s.sel := by unfold State.setTblR; rfl
@[simp] theorem State.setTblR_gates : (s.setTblR r x).gates = s.gates := by unfold State.setTblR; rfl
@[simp] theorem State.setTblR_plcrs : (s.setTblR r x).plcrs = s.plcrs := by unfold State.setTblR; rfl
@[simp] theorem State.setTblR_apls : (s.setTblR r x).apls = s.apls := by unfold State.setTblR; rfl
@[simp] theorem State.setTblR_aplReads : (s.setTblR r x).aplReads = s.aplReads := by unfold State.setTblR; rfl
@[simp] theorem State.setTblR_winReqs : (s.setTblR r x).winReqs = s.winReqs := by unfold State.setTblR; rfl
@[simp] theorem State.setTblR_eps : (s.setTblR r x).eps = s.eps := by unfold State.setTblR; rfl
@[simp] theorem State.setTblR_hwait : (s.setTblR r x).hwait = s.hwait := by unfold State.setTblR; rfl
@[simp] theorem State.setTblR_arrived : (s.setTblR r x).arrived = s.arrived := by unfold State.setTblR; rfl
@[simp] theorem State.setTblR_hreads : (s.setTblR r x).hreads = s.hreads := by unfold State.setTblR; rfl
@[simp] theorem State.setTblR_bothFull : (s.setTblR r x).bothFull = s.bothFull := by unfold State.setTblR; rfl
@[simp] theorem State.setTblR_binds : (s.setTblR r x).binds = s.binds := by unfold State.setTblR; rfl
@[simp] theorem State.setTblR_wrings : (s.setTblR r x).wrings = s.wrings := by unfold State.setTblR; rfl
@[simp] theorem State.setTblR_crings : (s.setTblR r x).crings = s.crings := by unfold State.setTblR; rfl
@[simp] theorem State.setTblR_txs : (s.setTblR r x).txs = s.txs := by unfold State.setTblR; rfl
@[simp] theorem State.setTblR_txNext : (s.setTblR r x).txNext = s.txNext := by unfold State.setTblR; rfl
@[simp] theorem State.setTblR_cqes : (s.setTblR r x).cqes = s.cqes := by unfold State.setTblR; rfl
@[simp] theorem State.setTblR_near : (s.setTblR r x).near = s.near := by unfold State.setTblR; rfl
@[simp] theorem State.setTblR_ovf : (s.setTblR r x).ovf = s.ovf := by unfold State.setTblR; rfl
@[simp] theorem State.setTblR_learns : (s.setTblR r x).learns = s.learns := by unfold State.setTblR; rfl
@[simp] theorem State.setTblR_ageDue : (s.setTblR r x).ageDue = s.ageDue := by unfold State.setTblR; rfl
@[simp] theorem State.setTblR_ctxs : (s.setTblR r x).ctxs = s.ctxs := by unfold State.setTblR; rfl
@[simp] theorem State.setTblR_cuEvts : (s.setTblR r x).cuEvts = s.cuEvts := by unfold State.setTblR; rfl
@[simp] theorem State.setTblR_thrs : (s.setTblR r x).thrs = s.thrs := by unfold State.setTblR; rfl
@[simp] theorem State.setTblR_chans : (s.setTblR r x).chans = s.chans := by unfold State.setTblR; rfl
@[simp] theorem State.setTblR_ureqs : (s.setTblR r x).ureqs = s.ureqs := by unfold State.setTblR; rfl
@[simp] theorem State.setTblR_ureps : (s.setTblR r x).ureps = s.ureps := by unfold State.setTblR; rfl
@[simp] theorem State.setTblR_inq : (s.setTblR r x).inq = s.inq := by unfold State.setTblR; rfl
@[simp] theorem State.setTblR_checks : (s.setTblR r x).checks = s.checks := by unfold State.setTblR; rfl
@[simp] theorem State.setTblR_dbgs : (s.setTblR r x).dbgs = s.dbgs := by unfold State.setTblR; rfl
@[simp] theorem State.setTblR_still : (s.setTblR r x).still = s.still := by unfold State.setTblR; rfl
@[simp] theorem State.setTblR_csBad : (s.setTblR r x).csBad = s.csBad := by unfold State.setTblR; rfl
@[simp] theorem State.setTblR_csStage : (s.setTblR r x).csStage = s.csStage := by unfold State.setTblR; rfl
@[simp] theorem State.setTblR_dmas : (s.setTblR r x).dmas = s.dmas := by unfold State.setTblR; rfl
@[simp] theorem State.setTblR_tick : (s.setTblR r x).tick = s.tick := by unfold State.setTblR; rfl
@[simp] theorem State.setTblR_arbs : (s.setTblR r x).arbs = s.arbs := by unfold State.setTblR; rfl
@[simp] theorem State.setTblR_lastRing : (s.setTblR r x).lastRing = s.lastRing := by unfold State.setTblR; rfl
@[simp] theorem State.setTblR_nvs : (s.setTblR r x).nvs = s.nvs := by unfold State.setTblR; rfl
end

section
variable (s : State) (c k : Nat) (x : CheckSt)
@[simp] theorem State.setCheck_pending : (s.setCheck c k x).pending = s.pending := by unfold State.setCheck; rfl
@[simp] theorem State.setCheck_clk : (s.setCheck c k x).clk = s.clk := by unfold State.setCheck; rfl
@[simp] theorem State.setCheck_ptime : (s.setCheck c k x).ptime = s.ptime := by unfold State.setCheck; rfl
@[simp] theorem State.setCheck_ptFrac : (s.setCheck c k x).ptFrac = s.ptFrac := by unfold State.setCheck; rfl
@[simp] theorem State.setCheck_regs : (s.setCheck c k x).regs = s.regs := by unfold State.setCheck; rfl
@[simp] theorem State.setCheck_fast : (s.setCheck c k x).fast = s.fast := by unfold State.setCheck; rfl
@[simp] theorem State.setCheck_ferry : (s.setCheck c k x).ferry = s.ferry := by unfold State.setCheck; rfl
@[simp] theorem State.setCheck_ctrs : (s.setCheck c k x).ctrs = s.ctrs := by unfold State.setCheck; rfl
@[simp] theorem State.setCheck_drw : (s.setCheck c k x).drw = s.drw := by unfold State.setCheck; rfl
@[simp] theorem State.setCheck_resets : (s.setCheck c k x).resets = s.resets := by unfold State.setCheck; rfl
@[simp] theorem State.setCheck_fences : (s.setCheck c k x).fences = s.fences := by unfold State.setCheck; rfl
@[simp] theorem State.setCheck_doms : (s.setCheck c k x).doms = s.doms := by unfold State.setCheck; rfl
@[simp] theorem State.setCheck_barriers : (s.setCheck c k x).barriers = s.barriers := by unfold State.setCheck; rfl
@[simp] theorem State.setCheck_reports : (s.setCheck c k x).reports = s.reports := by unfold State.setCheck; rfl
@[simp] theorem State.setCheck_colls : (s.setCheck c k x).colls = s.colls := by unfold State.setCheck; rfl
@[simp] theorem State.setCheck_log : (s.setCheck c k x).log = s.log := by unfold State.setCheck; rfl
@[simp] theorem State.setCheck_fuses : (s.setCheck c k x).fuses = s.fuses := by unfold State.setCheck; rfl
@[simp] theorem State.setCheck_sec : (s.setCheck c k x).sec = s.sec := by unfold State.setCheck; rfl
@[simp] theorem State.setCheck_omc : (s.setCheck c k x).omc = s.omc := by unfold State.setCheck; rfl
@[simp] theorem State.setCheck_jtag : (s.setCheck c k x).jtag = s.jtag := by unfold State.setCheck; rfl
@[simp] theorem State.setCheck_pins : (s.setCheck c k x).pins = s.pins := by unfold State.setCheck; rfl
@[simp] theorem State.setCheck_cfg : (s.setCheck c k x).cfg = s.cfg := by unfold State.setCheck; rfl
@[simp] theorem State.setCheck_mem : (s.setCheck c k x).mem = s.mem := by unfold State.setCheck; rfl
@[simp] theorem State.setCheck_fresh : (s.setCheck c k x).fresh = s.fresh := by unfold State.setCheck; rfl
@[simp] theorem State.setCheck_out : (s.setCheck c k x).out = s.out := by unfold State.setCheck; rfl
@[simp] theorem State.setCheck_bufs : (s.setCheck c k x).bufs = s.bufs := by unfold State.setCheck; rfl
@[simp] theorem State.setCheck_nextBuf : (s.setCheck c k x).nextBuf = s.nextBuf := by unfold State.setCheck; rfl
@[simp] theorem State.setCheck_fifos : (s.setCheck c k x).fifos = s.fifos := by unfold State.setCheck; rfl
@[simp] theorem State.setCheck_seqs : (s.setCheck c k x).seqs = s.seqs := by unfold State.setCheck; rfl
@[simp] theorem State.setCheck_hdrs : (s.setCheck c k x).hdrs = s.hdrs := by unfold State.setCheck; rfl
@[simp] theorem State.setCheck_links : (s.setCheck c k x).links = s.links := by unfold State.setCheck; rfl
@[simp] theorem State.setCheck_landW : (s.setCheck c k x).landW = s.landW := by unfold State.setCheck; rfl
@[simp] theorem State.setCheck_held : (s.setCheck c k x).held = s.held := by unfold State.setCheck; rfl
@[simp] theorem State.setCheck_rules : (s.setCheck c k x).rules = s.rules := by unfold State.setCheck; rfl
@[simp] theorem State.setCheck_clsSt : (s.setCheck c k x).clsSt = s.clsSt := by unfold State.setCheck; rfl
@[simp] theorem State.setCheck_asets : (s.setCheck c k x).asets = s.asets := by unfold State.setCheck; rfl
@[simp] theorem State.setCheck_tpls : (s.setCheck c k x).tpls = s.tpls := by unfold State.setCheck; rfl
@[simp] theorem State.setCheck_cnts : (s.setCheck c k x).cnts = s.cnts := by unfold State.setCheck; rfl
@[simp] theorem State.setCheck_sampling : (s.setCheck c k x).sampling = s.sampling := by unfold State.setCheck; rfl
@[simp] theorem State.setCheck_ipId : (s.setCheck c k x).ipId = s.ipId := by unfold State.setCheck; rfl
@[simp] theorem State.setCheck_greSeq : (s.setCheck c k x).greSeq = s.greSeq := by unfold State.setCheck; rfl
@[simp] theorem State.setCheck_nodes : (s.setCheck c k x).nodes = s.nodes := by unfold State.setCheck; rfl
@[simp] theorem State.setCheck_queues : (s.setCheck c k x).queues = s.queues := by unfold State.setCheck; rfl
@[simp] theorem State.setCheck_outlets : (s.setCheck c k x).outlets = s.outlets := by unfold State.setCheck; rfl
@[simp] theorem State.setCheck_sel : (s.setCheck c k x).sel = s.sel := by unfold State.setCheck; rfl
@[simp] theorem State.setCheck_gates : (s.setCheck c k x).gates = s.gates := by unfold State.setCheck; rfl
@[simp] theorem State.setCheck_plcrs : (s.setCheck c k x).plcrs = s.plcrs := by unfold State.setCheck; rfl
@[simp] theorem State.setCheck_apls : (s.setCheck c k x).apls = s.apls := by unfold State.setCheck; rfl
@[simp] theorem State.setCheck_aplReads : (s.setCheck c k x).aplReads = s.aplReads := by unfold State.setCheck; rfl
@[simp] theorem State.setCheck_winReqs : (s.setCheck c k x).winReqs = s.winReqs := by unfold State.setCheck; rfl
@[simp] theorem State.setCheck_eps : (s.setCheck c k x).eps = s.eps := by unfold State.setCheck; rfl
@[simp] theorem State.setCheck_hwait : (s.setCheck c k x).hwait = s.hwait := by unfold State.setCheck; rfl
@[simp] theorem State.setCheck_arrived : (s.setCheck c k x).arrived = s.arrived := by unfold State.setCheck; rfl
@[simp] theorem State.setCheck_hreads : (s.setCheck c k x).hreads = s.hreads := by unfold State.setCheck; rfl
@[simp] theorem State.setCheck_bothFull : (s.setCheck c k x).bothFull = s.bothFull := by unfold State.setCheck; rfl
@[simp] theorem State.setCheck_binds : (s.setCheck c k x).binds = s.binds := by unfold State.setCheck; rfl
@[simp] theorem State.setCheck_wrings : (s.setCheck c k x).wrings = s.wrings := by unfold State.setCheck; rfl
@[simp] theorem State.setCheck_crings : (s.setCheck c k x).crings = s.crings := by unfold State.setCheck; rfl
@[simp] theorem State.setCheck_txs : (s.setCheck c k x).txs = s.txs := by unfold State.setCheck; rfl
@[simp] theorem State.setCheck_txNext : (s.setCheck c k x).txNext = s.txNext := by unfold State.setCheck; rfl
@[simp] theorem State.setCheck_cqes : (s.setCheck c k x).cqes = s.cqes := by unfold State.setCheck; rfl
@[simp] theorem State.setCheck_near : (s.setCheck c k x).near = s.near := by unfold State.setCheck; rfl
@[simp] theorem State.setCheck_ovf : (s.setCheck c k x).ovf = s.ovf := by unfold State.setCheck; rfl
@[simp] theorem State.setCheck_learns : (s.setCheck c k x).learns = s.learns := by unfold State.setCheck; rfl
@[simp] theorem State.setCheck_tblSt : (s.setCheck c k x).tblSt = s.tblSt := by unfold State.setCheck; rfl
@[simp] theorem State.setCheck_ageDue : (s.setCheck c k x).ageDue = s.ageDue := by unfold State.setCheck; rfl
@[simp] theorem State.setCheck_ctxs : (s.setCheck c k x).ctxs = s.ctxs := by unfold State.setCheck; rfl
@[simp] theorem State.setCheck_cuEvts : (s.setCheck c k x).cuEvts = s.cuEvts := by unfold State.setCheck; rfl
@[simp] theorem State.setCheck_thrs : (s.setCheck c k x).thrs = s.thrs := by unfold State.setCheck; rfl
@[simp] theorem State.setCheck_chans : (s.setCheck c k x).chans = s.chans := by unfold State.setCheck; rfl
@[simp] theorem State.setCheck_ureqs : (s.setCheck c k x).ureqs = s.ureqs := by unfold State.setCheck; rfl
@[simp] theorem State.setCheck_ureps : (s.setCheck c k x).ureps = s.ureps := by unfold State.setCheck; rfl
@[simp] theorem State.setCheck_inq : (s.setCheck c k x).inq = s.inq := by unfold State.setCheck; rfl
@[simp] theorem State.setCheck_dbgs : (s.setCheck c k x).dbgs = s.dbgs := by unfold State.setCheck; rfl
@[simp] theorem State.setCheck_still : (s.setCheck c k x).still = s.still := by unfold State.setCheck; rfl
@[simp] theorem State.setCheck_csBad : (s.setCheck c k x).csBad = s.csBad := by unfold State.setCheck; rfl
@[simp] theorem State.setCheck_csStage : (s.setCheck c k x).csStage = s.csStage := by unfold State.setCheck; rfl
@[simp] theorem State.setCheck_dmas : (s.setCheck c k x).dmas = s.dmas := by unfold State.setCheck; rfl
@[simp] theorem State.setCheck_tick : (s.setCheck c k x).tick = s.tick := by unfold State.setCheck; rfl
@[simp] theorem State.setCheck_arbs : (s.setCheck c k x).arbs = s.arbs := by unfold State.setCheck; rfl
@[simp] theorem State.setCheck_lastRing : (s.setCheck c k x).lastRing = s.lastRing := by unfold State.setCheck; rfl
@[simp] theorem State.setCheck_nvs : (s.setCheck c k x).nvs = s.nvs := by unfold State.setCheck; rfl
end

end Sys2Proof.Machine
end

