-- ==== Sys2Proof/Laws/Ops.lean ====
section
/-! SUPPORT. What the shared operations over registers, counters, interrupts and page accesses do: what each answers, and
all that it can change. -/
namespace Sys2Proof.Machine
open Sys2Proof.Safety

/-! ### Registers -/

/-- Registers of a page have keys of their own. -/
theorem rkey_inj {p q o r : Nat} (ho : o < 4096) (hr : r < 4096) : rkey p o = rkey q r ↔ p = q ∧ o = r := by
  unfold rkey; omega

@[simp] theorem rd_post_self (s : State) (p : PageKey) (off : Nat) (v : Reg) : (s.post p off v).rd p off = v :=
  tabGet_put_self ..

theorem rd_post_of_ne (s : State) {p q : PageKey} {o r : Nat} (v : Reg) (h : rkey q r ≠ rkey p o) :
    (s.post p o v).rd q r = s.rd q r := tabGet_put_of_ne _ _ _ _ _ _ h

@[simp] theorem fr_setFast_self (s : State) (p : PageKey) (off : Nat) (v : Reg) : (s.setFast p off v).fr p off = v :=
  tabGet_put_self ..

theorem fr_setFast_of_ne (s : State) {p q : PageKey} {o r : Nat} (v : Reg) (h : rkey q r ≠ rkey p o) :
    (s.setFast p o v).fr q r = s.fr q r := tabGet_put_of_ne _ _ _ _ _ _ h

@[simp] theorem fr_post (s : State) (p q : PageKey) (o r : Nat) (v : Reg) : (s.post p o v).fr q r = s.fr q r := rfl
@[simp] theorem rd_setFast (s : State) (p q : PageKey) (o r : Nat) (v : Reg) : (s.setFast p o v).rd q r = s.rd q r := rfl
@[simp] theorem rd_emit (s : State) (o : Output) (q : PageKey) (r : Nat) : (s.emit o).rd q r = s.rd q r := rfl
@[simp] theorem fr_emit (s : State) (o : Output) (q : PageKey) (r : Nat) : (s.emit o).fr q r = s.fr q r := rfl
@[simp] theorem rd_setByte (s : State) (a : Nat) (b : Byte) (q : PageKey) (r : Nat) : (s.setByte a b).rd q r = s.rd q r := rfl
@[simp] theorem rd_setCtr (s : State) (p : PageKey) (i : Nat) (v : Counter) (q : PageKey) (r : Nat) :
    (s.setCtr p i v).rd q r = s.rd q r := rfl

@[simp] theorem ctr_setCtr_self (s : State) (p : PageKey) (i : Nat) (v : Counter) : (s.setCtr p i v).ctr p i = v :=
  tabGet_put_self ..

theorem ctr_setCtr_of_ne (s : State) {p q : PageKey} {i j : Nat} (v : Counter) (h : ctrKey q j ≠ ctrKey p i) :
    (s.setCtr p i v).ctr q j = s.ctr q j := tabGet_put_of_ne _ _ _ _ _ _ h

@[simp] theorem ctr_post (s : State) (p q : PageKey) (o i : Nat) (v : Reg) : (s.post p o v).ctr q i = s.ctr q i := rfl

@[simp] theorem dom_setDom_self (s : State) (d : Nat) (v : Domain) : (s.setDom d v).dom d = v := tabGet_put_self ..

theorem dom_setDom_of_ne (s : State) {d e : Nat} (v : Domain) (h : e ≠ d) : (s.setDom d v).dom e = s.dom e :=
  tabGet_put_of_ne _ _ _ _ _ _ h

@[simp] theorem chan_setChan_self (s : State) (c n : Nat) (x : Chan) : (s.setChan c n x).chan c n = x :=
  tabGet_put_self ..

@[simp] theorem thr_setThr_self (s : State) (c i : Nat) (x : Thread) : (s.setThr c i x).thr c i = x :=
  tabGet_put_self ..

@[simp] theorem ctx_setCtx_self (s : State) (c : Nat) (x : KeyCtx) : (s.setCtx c x).ctx c = x := tabGet_put_self ..

@[simp] theorem nv_setNv_self (s : State) (e f : Nat) (x : NvCtl) : (s.setNv e f x).nv e f = x := tabGet_put_self ..

@[simp] theorem ep_setEp_self (s : State) (e : Nat) (x : EpState) : (s.setEp e x).ep e = x := tabGet_put_self ..

/-! ### What changes registers and outputs alone -/

/-- Only registers, what fast logic holds of them, and outputs differ. -/
def RegFrame (s t : State) : Prop := ∃ r f o, t = { s with regs := r, fast := f, out := o }

theorem RegFrame.onlyRegs {s t : State} (h : RegFrame s t) : OnlyRegs s t := by
  obtain ⟨r, f, o, rfl⟩ := h
  rfl

theorem RegFrame.refl (s : State) : RegFrame s s := ⟨s.regs, s.fast, s.out, rfl⟩

theorem RegFrame.trans {s t u : State} (h : RegFrame s t) (g : RegFrame t u) : RegFrame s u := by
  obtain ⟨r, f, o, rfl⟩ := h
  obtain ⟨r', f', o', rfl⟩ := g
  exact ⟨r', f', o', rfl⟩

theorem regFrame_post (s : State) (p : PageKey) (off : Nat) (v : Reg) : RegFrame s (s.post p off v) :=
  ⟨_, _, _, rfl⟩

theorem regFrame_setFast (s : State) (p : PageKey) (off : Nat) (v : Reg) : RegFrame s (s.setFast p off v) :=
  ⟨_, _, _, rfl⟩

theorem regFrame_emit (s : State) (o : Output) : RegFrame s (s.emit o) := ⟨_, _, _, rfl⟩

theorem regFrame_postBoth (s : State) (p : PageKey) (off : Nat) (v : Reg) : RegFrame s (s.postBoth p off v) :=
  (regFrame_post s p off v).trans (regFrame_setFast _ p off v)

theorem regFrame_postFld (s : State) (p : PageKey) (off lo w v : Nat) : RegFrame s (s.postFld p off lo w v) :=
  regFrame_post ..

theorem regFrame_postBit (s : State) (p : PageKey) (off i : Nat) (b : Bool) : RegFrame s (s.postBit p off i b) :=
  regFrame_post ..

theorem regFrame_bumpReg (s : State) (p : PageKey) (off lo w : Nat) : RegFrame s (s.bumpReg p off lo w) :=
  regFrame_post ..

/-- A vector that is disabled does nothing, a masked one sets its pending bit, another is sent (R348). -/
theorem regFrame_msixSend (s : State) (e f v : Nat) : RegFrame s (s.msixSend e f v) := by
  unfold State.msixSend
  dsimp only
  split
  · exact .refl s
  · split
    · exact regFrame_postBit ..
    · exact regFrame_emit ..

/-- The rise of a page's output is announced, and sends vectors (R303, R484). -/
theorem regFrame_irqOut (s : State) (p : PageKey) : RegFrame s (s.irqOut p) := by
  unfold State.irqOut
  dsimp only
  refine (regFrame_emit s (.omcIrq p)).trans ?_
  generalize s.emit (.omcIrq p) = u
  split <;> first
    | with_reducible exact regFrame_msixSend ..
    | with_reducible exact (regFrame_msixSend ..).trans (regFrame_msixSend ..)
    | with_reducible exact .refl u
    | (split <;> first | with_reducible exact regFrame_msixSend .. | with_reducible exact .refl u)

theorem regFrame_raiseInt (s : State) (p : PageKey) (bits : Reg) : RegFrame s (s.raiseInt p bits) := by
  unfold State.raiseInt
  dsimp only
  split
  · exact (regFrame_post ..).trans (regFrame_irqOut ..)
  · exact regFrame_post ..

theorem regFrame_raiseBit (s : State) (p : PageKey) (i : Nat) : RegFrame s (s.raiseBit p i) := regFrame_raiseInt ..

theorem regFrame_noteHalf (s : State) (p : PageKey) (i : Nat) : RegFrame s (s.noteHalf p i) := by
  unfold State.noteHalf
  split
  · exact .refl s
  · split
    · split
      · exact .refl s
      · exact (regFrame_postBit ..).trans (regFrame_raiseBit ..)
    · split
      · exact regFrame_raiseBit ..
      · exact .refl s

/-- A write lands in its register, and may raise SEAL_WRITE (R48). -/
theorem regFrame_land (s : State) (p : PageKey) (off : Nat) (v : Reg) : RegFrame s (s.land p off v) := by
  unfold State.land
  dsimp only
  split
  · exact .refl s
  · split
    · exact (regFrame_post ..).trans (regFrame_raiseBit ..)
    · exact regFrame_post ..

theorem regFrame_stamp (s : State) (p : PageKey) : RegFrame s (s.stamp p) := regFrame_post ..

theorem regFrame_applied (s : State) (p : PageKey) : RegFrame s (s.applied p) := by
  unfold State.applied
  split
  · exact .refl s
  · exact regFrame_postFld ..

/-- A write of the lantern domain changes registers alone where its action does (R43). -/
theorem regFrame_lanternWrite (s : State) (p : PageKey) (off : Nat) (v : Reg) {act : State → State}
    (h : ∀ u, RegFrame u (act u)) : RegFrame s (s.lanternWrite p off v act) := by
  unfold State.lanternWrite
  exact (((regFrame_stamp s p).trans (regFrame_land ..)).trans (regFrame_setFast ..)).trans
    ((h _).trans (regFrame_applied ..))

theorem regFrame_lockRead (s : State) (mid : Mid) (p : PageKey) (l : Nat) : RegFrame s (s.lockRead mid p l).2 := by
  unfold State.lockRead
  dsimp only
  split
  · split <;> exact .refl s
  · exact (regFrame_post ..).trans (regFrame_postFld ..)

theorem regFrame_lockFree (s : State) (p : PageKey) (l : Nat) : RegFrame s (s.lockFree p l) :=
  (regFrame_post ..).trans (regFrame_post ..)

/-! ### Counters, logs, reports, power -/

/-- A count changes counters, registers and outputs alone (R46, R92). -/
theorem count_frame (s : State) (p : PageKey) (i n : Nat) :
    ∃ c r f o, s.count p i n = { s with ctrs := c, regs := r, fast := f, out := o } := by
  unfold State.count
  dsimp only
  split
  · exact ⟨s.ctrs, s.regs, s.fast, s.out, rfl⟩
  · split
    · obtain ⟨r, f, o, h⟩ := (regFrame_noteHalf (s.setCtr p i (s.ctr p i + BitVec.ofNat 48 n)) p i)
      exact ⟨_, r, f, o, h⟩
    · exact ⟨_, s.regs, s.fast, s.out, rfl⟩

/-- A record changes the log, and a counter or register of the LOG page (R480). -/
theorem stageLog_frame (s : State) (r : LogRec) :
    ∃ l c g f o, s.stageLog r = { s with log := l, ctrs := c, regs := g, fast := f, out := o } := by
  unfold State.stageLog
  dsimp only
  split
  · obtain ⟨c, g, f, o, h⟩ := count_frame { s with log := _ } logPage 0x04 1
    exact ⟨_, c, g, f, o, h⟩
  · generalize (if r.severity = 0 then 256 else 224) = room
    split
    · exact ⟨_, _, _, _, _, rfl⟩
    · obtain ⟨c, g, f, o, h⟩ := count_frame { s with log := _ } logPage r.severity 1
      exact ⟨_, c, g, f, o, h⟩

/-- A report is held by its reporter, or withheld and counted (R473). -/
theorem report_frame (s : State) (a q : PageKey) (code cls detail : Nat) :
    ∃ x c g f o, s.report a q code cls detail = { s with reports := x, ctrs := c, regs := g, fast := f, out := o } := by
  unfold State.report
  dsimp only
  split
  · split
    · exact ⟨s.reports, s.ctrs, s.regs, s.fast, s.out, rfl⟩
    · obtain ⟨c, g, f, o, h⟩ := count_frame s (collectorOf _) 0x03 1
      exact ⟨_, c, g, f, o, h⟩
  · exact ⟨_, s.ctrs, s.regs, s.fast, s.out, rfl⟩

/-- A wake request changes one power domain (R66). -/
theorem wake_frame (s : State) (d : Nat) : ∃ x, s.wake d = { s with doms := x } := by
  unfold State.wake
  dsimp only
  split
  · exact ⟨s.doms, rfl⟩
  · split <;> exact ⟨_, rfl⟩

/-! ### Page accesses (R31, R35) -/

/-- An admitted write takes effect. -/
theorem accessWrite_admitted {s : State} {mid : Mid} {p : PageKey} {off : Nat} (h : Admitted s mid p off)
    (eff : State → State) : s.accessWrite mid p off eff = eff s := by
  obtain ⟨h1, h2, h3, h4⟩ := h
  obtain ⟨t, ht⟩ := Option.isSome_iff_exists.1 h1
  obtain ⟨d, hd⟩ := Option.isSome_iff_exists.1 h4
  simp [State.accessWrite, ht, h2, h3, hd]

/-- A write that is admitted takes effect, and any other has no effect but its counts. -/
theorem accessWrite_cases (s : State) (mid : Mid) (p : PageKey) (off : Nat) (eff : State → State) :
    (Admitted s mid p off ∧ s.accessWrite mid p off eff = eff s) ∨
    s.accessWrite mid p off eff = s ∨ s.accessWrite mid p off eff = s.bumpReg lbusPage 0x100 0 32 ∨
    (∃ g, s.hostGate mid p true = some g ∧ s.accessWrite mid p off eff = g.2) ∨
    s.accessWrite mid p off eff = s.refuseClass mid p := by
  unfold State.accessWrite
  cases h1 : pageType p with
  | none => dsimp only; split <;> simp
  | some t =>
    cases h2 : s.hostGate mid p true with
    | some g => simp
    | none =>
      dsimp only
      by_cases h3 : s.classAdmits mid p off = true
      · cases h4 : regDesc p off with
        | none => simp [h3]
        | some d => simp [h3, Admitted, h1, h2, h4]
      · simp [h3]

/-- An admitted write of a register that fast logic applies at once: the register takes the value, fast logic holds it, and
the register acts. -/
theorem ownWrite_ready {s : State} {mid : Mid} {p : PageKey} {off : Nat} (h : Admitted s mid p off) (v : Reg)
    (act : State → State) (hr : ((s.stamp p).land p off v).fastReady p = true) :
    s.ownWrite mid p off v act =
      (act (((s.stamp p).land p off v).setFast p off (((s.stamp p).land p off v).rd p off))).applied p := by
  unfold State.ownWrite
  rw [accessWrite_admitted h]
  simp [State.ferryWrite, hr]

/-- An admitted write of a register of the lantern domain. -/
theorem nowWrite_admitted {s : State} {mid : Mid} {p : PageKey} {off : Nat} (h : Admitted s mid p off) (v : Reg)
    (act : State → State) : s.nowWrite mid p off v act = s.lanternWrite p off v act := by
  unfold State.nowWrite
  rw [accessWrite_admitted h]

/-- An admitted read returns what its effect answers. -/
theorem accessRead_admitted {s : State} {mid : Mid} {p : PageKey} {off : Nat} (h : Admitted s mid p off)
    (eff : State → Reg × State) :
    s.accessRead mid p off eff = (eff s).2.emit (.readData mid (rkey p off) ((eff s).1.setWidth 64)) := by
  obtain ⟨h1, h2, h3, h4⟩ := h
  obtain ⟨t, ht⟩ := Option.isSome_iff_exists.1 h1
  obtain ⟨d, hd⟩ := Option.isSome_iff_exists.1 h4
  simp [State.accessRead, ht, h2, h3, hd]

end Sys2Proof.Machine
end

