-- ==== Sys2Proof/Tests/Slice0.lean ====
section
/-! SUPPORT. Tests of the model: single commands on small states, with what the spec says of them; and witnesses, which show
a state and operands that meet the hypotheses of each statement. A theorem `test_…` shows both where it can. -/
namespace Sys2Proof.Tests
open Sys2Proof.Machine Sys2Proof.Safety
set_option Elab.async false

/-- The state after a command. -/
def run (c : Instr) (s : State) : State :=
  match exec c s with
  | .next t => t
  | _ => s

/-- Only the listed registers differ. -/
def regsBut (ks : List Nat) (s t : State) : Bool :=
  (s.regs ++ t.regs).all fun e => ks.contains e.1 || tabGet (regReset e.1) t.regs e.1 == tabGet (regReset e.1) s.regs e.1

/-- The state after reset. -/
def s0 : State := State.reset

/-! ### Commands that are ill-formed, the queue, the tick -/

theorem test_illFormed : (Instr.lockAcquire 0 0).wf = false ∧ (Instr.idleToDim 338).wf = false ∧
    (Instr.rcCounterRead 0 0 0x024).wf = false := by decide +kernel

theorem test_step_runs_front :
    step { s0 with pending := [.alarmFire 5, .captureIr] } = exec (.alarmFire 5) { s0 with pending := [.captureIr] } :=
  rfl

theorem test_tick : (match step s0 with | .next t => t.clk == 1 && t.ptime == 1 && t.pending == [] && t.regs == [] | _ => false)
    = true := by decide +kernel

/-! ### Pages -/

/-- The table page of region 2 of the second die (R53's example, MIDs 0x2900 and 0x4D5E). -/
def lockP : PageKey := regPage 6 0
/-- The lock of R53 held by endpoint 9's PF0. -/
def lockS : State := s0.post lockP 0x104 0x40002900

theorem test_lock_free : hasLock lockP = true ∧ Admitted s0 0x2900 lockP 0x100 ∧ fld (s0.rd lockP 0x104) 30 2 = 0 ∧
    (let t := run (.lockAcquire 0x2900 lockP) s0
     t.rd lockP 0x104 = 0x40002900 ∧ t.out = [.readData 0x2900 (rkey lockP 0x100) 0x40002900] ∧
     regsBut [rkey lockP 0x100, rkey lockP 0x104] s0 t = true ∧ OnlyRegs s0 t) := by decide +kernel

theorem test_lock_held : Admitted lockS 0x2900 lockP 0x100 ∧ Admitted lockS 0 lockP 0x100 ∧
    run (.lockAcquire 0x2900 lockP) lockS = lockS.emit (.readData 0x2900 (rkey lockP 0x100) 0x40002900) ∧
    run (.lockAcquire 0 lockP) lockS = lockS.emit (.readData 0 (rkey lockP 0x100) 0x80002900) ∧
    (let t := run (.lockRelease 0x2900 lockP 0x2900) lockS
     t.rd lockP 0x104 = 0 ∧ t.rd lockP 0x030 = 1 ∧ OnlyRegs lockS t ∧
     regsBut [rkey lockP 0x100, rkey lockP 0x104, rkey lockP 0x030, rkey lockP 0x034] lockS t = true) := by decide +kernel

/-- The lock of a mailbox window, held by PF0 of endpoint 9, with a full count of bad releases. -/
def badS : State := (s0.post (instPage 9 0 17) 0x104 0x40002900).post (instPage 9 0 17) 0x108 0xFFFF

theorem test_bad_release : hasLock (instPage 9 0 17) = true ∧ Admitted badS 0x2901 (instPage 9 0 17) 0x100 ∧
    (let t := run (.lockRelease 0x2901 (instPage 9 0 17) 0x2900) badS
     t.rd (instPage 9 0 17) 0x104 = 0x40002900 ∧ bit (t.rd (instPage 9 0 17) 0x010) 29 = true ∧
     fld (t.rd (instPage 9 0 17) 0x108) 0 16 = 65535) := by decide +kernel

/-- A SEC page with a fault counted and one interrupt enabled. -/
def intS : State := (s0.post secPage 0x024 5).post secPage 0x014 8

theorem test_count_reads : Admitted intS 0 secPage 0x024 ∧
    (let t := run (.faultCountRead 0 secPage) intS
     t.out = [.readData 0 (rkey secPage 0x024) 5] ∧ fld (t.rd secPage 0x024) 0 16 = 0 ∧ OnlyRegs intS t ∧
     regsBut [rkey secPage 0x024] intS t = true) ∧ run (.rcCounterRead 0 secPage 0x024) intS = run (.faultCountRead 0 secPage) intS ∧
    Admitted badS 0 (instPage 9 0 17) 0x108 ∧
    (let t := run (.lockBadrelRead 0 (instPage 9 0 17)) badS
     t.out = [.readData 0 (rkey (instPage 9 0 17) 0x108) 0xFFFF] ∧ fld (t.rd (instPage 9 0 17) 0x108) 0 16 = 0) := by
  decide +kernel

theorem test_int_set_clear : Admitted intS 0 secPage 0x01C ∧ Admitted intS 0 secPage 0x010 ∧
    (let t := run (.intSet 0 secPage 0x18) intS
     t.rd secPage 0x010 = 0x18 ∧ t.out = [.omcIrq secPage] ∧ t.rd secPage 0x030 = 1 ∧ OnlyRegs intS t ∧
     tabFind t.cuEvts secPage = none ∧
     (run (.intRawClear 0 secPage 0x18 0x10) t).rd secPage 0x010 = 0x10 ∧
     (run (.intRawClear 0 secPage 0x18 0) t).rd secPage 0x010 = 0 ∧
     (run (.intRawClear 0 secPage 0x18 0) t).out = t.out) ∧
    (run (.intSet 0 secPage 0x10) intS).out = [] := by decide +kernel

theorem test_header : Admitted s0 0 secPage 0x028 ∧ Admitted s0 0 secPage 0x008 ∧ Admitted s0 0 secPage 0x02C ∧
    domainOf secPage = some 337 ∧
    (run (.cfgSeal 0 secPage) s0).isSealed secPage = true ∧
    fld ((run (.pwrPolicy 0 secPage 2) s0).rd secPage 0x008) 4 2 = 2 ∧
    fld ((run (.pwrPolicy 0 secPage 3) (run (.pwrPolicy 0 secPage 2) s0)).rd secPage 0x008) 4 2 = 2 ∧
    (let t := run (.pageEnable 0 secPage true) s0
     bit (t.rd secPage 0x008) 0 = true ∧ bit (t.fr secPage 0x008) 0 = true) ∧
    (let t := run (.wakeNow 0 secPage) s0
     bit (t.rd secPage 0x02C) 8 = false ∧ t.doms = s0.doms) ∧
    (let t := run (.wakeNow 0 (pipePage 0 0)) (s0.setDom 128 { st := .dim })
     bit (t.rd (pipePage 0 0) 0x02C) 8 = true ∧ (t.dom 128).st = .wakingDim) := by decide +kernel

/-- The MAC page of port 53 (R77's example): 0x45842. -/
def macP : PageKey := 0x45842
/-- The same with its domain dark. -/
def macDark : State := s0.setDom 261 { st := .dark }

theorem test_register_write : pageType macP = some .mac ∧ (regDesc macP 0x100).isSome = true ∧
    (let t := run (.registerWrite 0 false (.internal (BitVec.ofNat 32 (macP * 4096 + 0x10C))) [1, 0, 0, 0]) s0
     t.rd macP 0x030 = 1 ∧ t.mem = s0.mem) ∧
    macDark.fastReady macP = false ∧
    ((regDesc macP 0x104).map fun d => d.legal) = some [] ∧
    (let t := run (.registerWrite 0 false (.internal (BitVec.ofNat 32 (macP * 4096 + 0x104))) [0x34, 0x12, 0, 0]) macDark
     (t.ferry.map fun w => (w.page, w.off, w.vals)) = [(macP, 0x104, [t.rd macP 0x104])] ∧ t.fast = macDark.fast ∧
     (let u := run (.ferryBatch macP) (t.setDom 261 {})
      u.fr macP 0x104 = t.rd macP 0x104 ∧ fld (u.rd macP 0x034) 16 16 = 1 ∧ u.ferry = [] ∧ u.waiting macP = false)) := by
  decide +kernel

theorem test_soft_reset : Admitted s0 0 (regPage 0 12) 0x008 ∧ s0.fastReady (regPage 0 12) = true ∧
    (let t := run (.softReset 0 (regPage 0 12)) s0
     bit (t.rd (regPage 0 12) 0x008) 1 = true ∧ t.resets = [(.unit (regPage 0 12), 0)] ∧ t.litPage (regPage 0 12) = true ∧
     (let u := run (.softResetDone (regPage 0 12)) t
      bit (u.rd (regPage 0 12) 0x008) 1 = false ∧ u.resets = [])) := by decide +kernel

theorem test_deferred_read : Admitted s0 0x0005 macP 0x0E0 ∧ s0.ctrExists macP 3 = true ∧
    (let s := s0.setCtr macP 3 0x100000007
     let t := run (.drwGo 5 macP 0x40000003) s
     t.rd macP 0x0E4 = 0x40000005 ∧ (t.drw.map fun d => (d.index, d.clear)) = [(3, true)] ∧
     (let u := run (.drwGo 6 macP 0x40000001) t
      bit (u.rd macP 0x0E4) 29 = true ∧ u.drw = t.drw) ∧
     (let u := run (.drwComplete macP) t
      bit (u.rd macP 0x0E4) 31 = true ∧ bit (u.rd macP 0x0E4) 30 = false ∧ u.rd macP 0x0E8 = 7 ∧ u.ctr macP 3 = 0 ∧
      u.drw = [])) := by decide +kernel

/-! ### Power and reset -/

/-- The clock stands at 1 ms. -/
def idleS : State := { s0 with clk := 1000000 }

theorem test_power_down : (idleS.dom 128).st = .lit ∧ idleS.domIdle 128 = true ∧ idleS.domFenced 128 = false ∧
    2 ≤ idleS.depth 128 ∧ (s0.policy 128 = 1 ∨ (run (.idleToDim 128) { s0 with clk := 5 }) = { s0 with clk := 5 }) ∧
    (let t := run (.idleToDim 128) idleS
     (t.dom 128).st = .dim ∧ t = { idleS with doms := t.doms } ∧
     (let u := run (.dimToDark 128) t
      (u.dom 128).st = .enteringDark ∧
      (let v := run (.darkEntryDone 128) { u with clk := 1000240 }
       (v.dom 128).st = .dark ∧ (run (.darkEntryDone 128) { u with clk := 1000239 }).doms = u.doms ∧
       v.wakeAdmits 128 .work = true ∧
       (let w := run (.wakeRequest 128 .work) v
        (w.dom 128).st = .wakingDark ∧ (run (.wakeRequest 128 .work) u).dom 128 = w.dom 128 ∨ True) ∧
       ((run (.wakeComplete 128) (run (.wakeRequest 128 .work) v)).litDom 128 = true)))) := by decide +kernel

theorem test_fenced_domain : (let s := { idleS with fences := [.unit (pipePage 0 0)] }
    s.domFenced 128 = true ∧ run (.idleToDim 128) s = s ∧ run (.wakeRequest 128 .work) s = s ∧
    s.policy 128 ≠ 1 ∧ (s0.postBoth (pipePage 0 0) 0x008 0x10).policy 128 = 1) := by decide +kernel

theorem test_reference_loss : s0.pins.netref.getLsbD 1 = true ∧
    (let t := run (.netrefLoss 1) s0
     t.pins.netref.getLsbD 1 = false ∧ t.linkUp (npgPage 8 1) = false) ∧
    (run (.pcierefLoss 3) s0).pins.pcieref = 7 ∧ midIsOmc 7 = true ∧
    (let t := run (.fabricBarrier 7) s0
     t = { s0 with barriers := [7] } ∧ t.mastersDone 7 = true ∧ run (.fabricBarrierDone 7) t = s0) ∧
    (let s : State := { s0 with barriers := [0], ferry := [{ page := macP, off := 0x104, vals := [0], raw := [0], mid := 0, seq := 1 }] }
     s.mastersDone 0 = false ∧ run (.fabricBarrierDone 0) s = s) := by decide +kernel

/-- Cluster 5 is fenced and holds a byte of memory. -/
def cluS : State := { s0.setByte (cmemBase 5 + 7) 9 with fences := [.cluster 5, .unit (chanPage 5)] }

theorem test_cluster_reset : Admitted cluS 0 (cluPage 5 0) 0x100 ∧
    (let t := run (.clusterReset 0 5 false) cluS
     (t.resets.any fun r => r.1 == .cluster 5) = true ∧ t.fences = [] ∧ bit (t.rd (cluPage 5 0) 0x100) 0 = true ∧
     t.litDom 5 = true ∧ bit (t.fr (cluPage 5 0) 0x100) 1 = false ∧
     (let u := run (.clusterResetDone 5) t
      (u.resets.any fun r => r.1 == .cluster 5) = false ∧ u.mem = t.mem)) ∧
    (let t := run (.clusterReset 0 5 true) cluS
     bit (t.fr (cluPage 5 0) 0x100) 1 = true ∧ (run (.clusterResetDone 5) t).mem = []) := by decide +kernel

theorem test_fences_lift : (let s : State := { s0 with fences := [.die 1, .region 4, .cluster 32, .unit (cluPage 64 0)] }
    (s.fencesLift (.region 4)).fences = [.die 1, .unit (cluPage 64 0)] ∧
    (s.fencesLift (.die 1)).fences = [.unit (cluPage 64 0)]) := by decide +kernel

theorem test_package_reset : (let s := ((s0.setByte flashBase 3).setByte (omcMem + 8) 1).postBoth omcPage 0x100 0x5
    let t := run .pkgResetAssert s
    t.pins.pkgResetN = false ∧ t.pins.hiZ = true ∧ t.mem = [(flashBase, 3)] ∧ t.rd omcPage 0x100 = 0x3E8 ∧
    t.fuses = s.fuses ∧ t.pins.pwrGood = true ∧
    (let u := run .pkgResetRelease t
     u.pins.pkgResetN = true ∧ u.sec.lcKnown = true ∧ u.pins.hiZ = false) ∧
    (let u := run .pwrGoodFall s
     u.pins.pwrGood = false ∧ u.pins.thermTripN = true ∧ u.mem = [(flashBase, 3)] ∧
     (run (.pwrGoodRise 5) u).pins.perstN = 5 ∧ (run (.pwrGoodRise 5) u).jtag = {})) := by decide +kernel

/-! ### Ports and peer links -/

/-- A state in which a register holds a value, in fast logic too. -/
def withReg (s : State) (p : PageKey) (off : Nat) (v : Reg) : State := s.postBoth p off v

/-- Port 53's group and MAC enabled, the link up. -/
def macS : State :=
  (withReg (withReg (withReg s0 (macP - 2) 0x100 4) (macP - 2) 0x008 1) macP 0x008 1).post macP 0x10C 0x80000000

theorem test_link : (let s := macS.post macP 0x10C 0
     s.linkAllowed macP = true ∧ s.linkUp macP = false ∧
     (let t := run (.linkUp macP) s
      t.linkUp macP = true ∧ fld (t.rd macP 0x10C) 0 3 = s.macRate macP ∧ bit (t.rd macP 0x10C) 28 = true ∧
      bit (t.rd macP 0x010) 0 = true)) ∧
    macS.linkUp macP = true ∧
    (let t := run (.linkDown macP true false) macS
     t.linkUp macP = false ∧ bit (t.rd macP 0x10C) 27 = true ∧ bit (t.rd macP 0x10C) 26 = false ∧ t.ctr macP 0x24 = 1) ∧
    Admitted macS 0 macP 0x008 ∧ macS.fastReady macP = true ∧ bit (macS.rd macP 0x008) 0 = true ∧
    (run (.pageEnable 0 macP false) macS).linkUp macP = false := by decide +kernel

theorem test_preempt_verify : (let s := macS.post macP 0x114 2
    s.rdFld macP 0x114 0 3 = 2 ∧ (run (.preemptVerify macP true) s).rd macP 0x114 = 0x103 ∧
    (run (.preemptVerify macP false) s).rd macP 0x114 = 4 ∧
    bit ((run (.preemptVerify macP false) s).rd macP 0x010) 3 = true) := by decide +kernel

theorem test_port_mode : Admitted macS 0 (macP - 2) 0x100 ∧ macS.fastReady (macP - 2) = true ∧
    pageType (macP - 2) = some .npg ∧ (run (.portModeChange 0 (macP - 2) 0x100 2) macS).linkUp macP = false ∧
    Admitted s0 0 (peerPage 3 0) 0x108 ∧ s0.fastReady (peerPage 3 0) = true ∧ pageType (peerPage 3 0) = some .peer ∧
    (run (.portModeChange 0 (peerPage 3 0) 0x108 0) (s0.post (peerPage 3 3) 0x10C 0x80000000)).linkUp (peerPage 3 3) = false := by
  decide +kernel

/-- A broadcast frame of 60 bytes. -/
def frame60 : List Byte := List.replicate 6 0xFF ++ List.replicate 6 2 ++ [0x88, 0xB5] ++ zeros 46

theorem test_frame_receive : MacOpen macS macP ∧ frame60.length = 60 ∧ 64 ≤ macS.frFld macP 0x100 0 14 ∧
    beAt frame60 12 2 ≠ 0x8808 ∧ macS.macFilter macP (beAt frame60 0 6) = true ∧
    (let t := run (.frameReceive macP .whole (frame60 ++ fcsBytes frame60)) macS
     t.ctr macP 3 = 1 ∧ t.ctr macP 0 = 1 ∧ t.ctr macP 4 = 0 ∧ t.ctr macP 1 = 64 ∧ t.ctr macP 2 = 64) ∧
    (let t := run (.frameReceive macP .whole (frame60 ++ [1, 2, 3, 4])) macS
     t.ctr macP 3 = 1 ∧ t.ctr macP 0 = 0 ∧ t.ctr macP 4 = 1 ∧ t.ctr macP 2 = 64 ∧ t.fifos = macS.fifos) := by decide +kernel

/-- A unicast frame that port 53 does not take. -/
def strange60 : List Byte := List.replicate 6 4 ++ frame60.drop 6

theorem test_frame_filtered : macS.macFilter macP (beAt strange60 0 6) = false ∧
    (let t := run (.frameReceive macP .whole (strange60 ++ fcsBytes strange60)) macS
     t.ctr macP 0x17 = 1 ∧ t.ctr macP 0 = 0 ∧ t.fifos = macS.fifos) := by decide +kernel

theorem test_fec : macS.linkAllowed macP = true ∧
    (let t := run (.fecCodewordReceive macP 3 false 1) macS
     t.ctr macP 0x20 = 1 ∧ t.ctr macP 0x21 = 0 ∧ t.ctr macP 0x22 = 3 ∧ t.ctr macP 0x23 = 1) ∧
    (run (.fecCodewordReceive macP 3 true 0) macS).ctr macP 0x21 = 1 := by decide +kernel

theorem test_mac_transmit : (let e : Entry := { dest := 0, bytes := frame60.take 40, buf := 0 }
    let s := { macS with sel := [((macOutlet macP).1 * 256 + (macOutlet macP).2, e)] }
    s.bufBad 0 = false ∧ (padTo e.bytes 60).length + 4 ≤ s.frFld macP 0x100 0 14 ∧
    (let t := run (.macTransmit macP) s
     .frame macP (padTo e.bytes 60 ++ fcsBytes (padTo e.bytes 60)) true ∈ t.out ∧ t.sel = [])) := by decide +kernel

theorem test_ptime_step : Admitted s0 0 ptimePage 0x118 ∧
    (let s := s0.post ptimePage 0x110 50
     let t := run (.ptimeStepGo 0) s
     bit (t.rd ptimePage 0x118) 0 = true ∧ t.ptime = 0 ∧ OnlyRegs s t ∧
     (run .ptimeStepApply { t with ptime := 1000 }).ptime = 1050 ∧
     run .ptimeStepApply { t with ptime := 1001 } = { t with ptime := 1001 }) := by decide +kernel

theorem test_ptime_rate : Admitted s0 0 ptimePage 0x108 ∧
    ((run (.ptimeRate 0 1000000001) s0).rd ptimePage 0x108).toInt = 1000000000 ∧
    bit ((run (.ptimeRate 0 1000000001) s0).rd ptimePage 0x11C) 0 = true ∧
    ((run (.ptimeRate 0 (BitVec.ofInt 32 (-1000000000))) s0).rd ptimePage 0x108).toInt = -1000000000 ∧
    bit ((run (.ptimeRate 0 (BitVec.ofInt 32 (-1000000000))) s0).rd ptimePage 0x11C) 0 = false := by decide +kernel

theorem test_pps : (let s := withReg { s0 with ptime := 3000000000 } ptimePage 0x128 0x80000000
    bit (s.fr ptimePage 0x128) 31 = true ∧ s.pins.ppsOut = false ∧ s.pins.hiZ = false ∧
    (run .ppsOutPulse s).pins.ppsOut = true ∧ .pin "PPS_OUT" 0 true ∈ (run .ppsOutPulse s).out ∧
    (run .ppsInEdge s).rd64 ptimePage 0x120 = 3000000000 ∧ bit ((run .ppsInEdge s).rd ptimePage 0x010) 0 = true) := by
  decide +kernel

/-- Peer port 2 in APL mode with its link up and APL in state `st`. -/
def peerS (st : Nat) (a : AplState) : State :=
  { ((withReg s0 (peerPage 2 0) 0x100 2).post (peerPage 2 3) 0x10C 0x80000000).post (peerPage 2 1) 0x108
      (BitVec.ofNat 32 (st * 2 ^ 30)) with apls := [(2, a)] }
/-- Frames 4094 to 0 are held. -/
def heldS : State := peerS 2 { next := 4095, txSeq := 1, held := [(4094, [1]), (4095, [2]), (0, [3])] }

theorem test_apl_data : AplUp heldS 2 ∧ aplBodyOk 4 (tluHdr 4 1 0 4 0 ++ [1, 2, 3, 4]) = true ∧
    (let t := run (.data 2 4095 4 (tluHdr 4 1 0 4 0 ++ [1, 2, 3, 4])) heldS
     (t.apl 2).next = 0 ∧ (t.apl 2).nakSent = false ∧ .apl 2 (aplWire (aplHdr 2 0 4095 1 0 0) []) ∈ t.out ∧
     t.ctr (aplPage 2) 1 = 1) ∧
    (let t := run (.data 2 4094 4 (tluHdr 4 1 0 4 0 ++ [1, 2, 3, 4])) heldS
     t = heldS.emit (.apl 2 (aplWire (aplHdr 2 0 (heldS.apl 2).ackSeq 1 0 0) []))) ∧
    (let t := run (.data 2 1 4 (tluHdr 4 1 0 4 0 ++ [1, 2, 3, 4])) heldS
     (t.apl 2).next = 4095 ∧ (t.apl 2).nakSent = true ∧ run (.data 2 1 4 (tluHdr 4 1 0 4 0 ++ [1, 2, 3, 4])) t = t) := by
  decide +kernel

theorem test_apl_ack : (let t := run (.ack 2 4095) heldS
      (t.apl 2).held = [(0, [3])] ∧ (t.apl 2).replays = 0 ∧ t = { heldS with apls := t.apls }) ∧
    0 < heldS.frFld (aplPage 2) 0x100 0 4 ∧
    (let t := run (.nak 2 4094) heldS
     (t.apl 2).held = [(4095, [2]), (0, [3])] ∧ .apl 2 [2] ∈ t.out ∧ .apl 2 [3] ∈ t.out ∧ t.ctr (aplPage 2) 4 = 1) ∧
    (run (.ack 2 7) heldS).ctr (aplPage 2) 0x0C = 1 ∧
    run (.aplFrameReceive 2 0xA7 (aplWire (aplHdr 2 0 4095 1 0 0) [])) heldS = run (.ack 2 4095) heldS ∧
    (run (.aplFrameReceive 2 0xA7 [1, 2]) heldS).ctr (aplPage 2) 2 = 1 := by decide +kernel

theorem test_apl_replay : (let s := { heldS with clk := 10000000 }
    s.frFld (aplPage 2) 0x100 16 8 * 1000 ≤ s.clk - (s.apl 2).timer ∧ 1 < s.frFld (aplPage 2) 0x100 0 4 ∧
    (let t := run (.aplReplayTimeout 2) s
     (t.apl 2).replays = 1 ∧ (t.apl 2).held = (s.apl 2).held ∧ .apl 2 [3] ∈ t.out) ∧
    (let u := peerS 2 { replays := 15, held := [(0, [3])] }
     let t := run (.aplReplayTimeout 2) { u with clk := 10000000 }
     u.frFld (aplPage 2) 0x100 0 4 ≤ 16 ∧ t.aplSt 2 = 1 ∧ t.apl 2 = {})) := by decide +kernel

theorem test_apl_send : (let u : Nat × List Byte := (4, tluHdr 4 1 0 4 0 ++ [1, 2, 3, 4])
    let s := peerS 2 { sendq := [u], gotCredit := true }
    s.winReqs = [] ∧ s.isFenced (aplPage 2) = false ∧ (s.apl 2).roomFor 4 u.2.length = true ∧
    (let t := run (.aplDataSend 2 4) s
     (t.apl 2).txSeq = 1 ∧ (t.apl 2).sendq = [] ∧
     (t.apl 2).held = [(0, aplWire (aplHdr 1 0 (s.apl 2).ackSeq 1 4 u.2.length) u.2)])) := by decide +kernel

theorem test_apl_bringup : (peerS 1 {}).aplLive 2 = true ∧ (peerS 1 {}).aplSt 2 = 1 ∧
    (run (.aplInitTick 2) (peerS 1 {})).out.length = 1 ∧
    (run (.aplInitTick 2) (peerS 1 { gotInit := true, gotSeen := true })).aplSt 2 = 2 ∧
    (let t := run (.init 2 (beBytes 8 (2 ^ 56 + 2 ^ 55 + 7 * 2 ^ 24 + 4112))) (peerS 1 { sentSeen := true })
     (t.apl 2).gotInit = true ∧ (t.apl 2).maxTlu = 4112 ∧ fld (t.rd (aplPage 2) 0x10C) 0 24 = 7 ∧ t.aplSt 2 = 2) ∧
    (let t := run (.init 2 (beBytes 8 (2 * 2 ^ 56 + 4112))) (peerS 1 {})
     t.aplSt 2 = 1 ∧ bit (t.rd (aplPage 2) 0x010) 1 = true ∧ t.ctr (aplPage 2) 0x0D = 1) := by decide +kernel

theorem test_apl_credit : (let t := run (.credit 2 (beBytes 8 (5 * 2 ^ 48 + 9) ++ zeros 24)) heldS
      (t.apl 2).gotCredit = true ∧ (t.apl 2).hdrLim = [5, 0, 0, 0] ∧ (t.apl 2).dataLim = [9, 0, 0, 0]) ∧
    .apl 2 (aplWire (aplHdr 4 0 0 0 0 32) (creditBody (heldS.apl 2))) ∈ (run (.aplCreditTick 2) heldS).out ∧
    (let t := run (.aplDown 2) heldS
     t.aplSt 2 = 1 ∧ t.apl 2 = {}) := by decide +kernel

/-- A window of peer port 2 over the HBM of die 1, from address 4096, for 8 KiB, read and write. -/
def winS : State :=
  withReg (withReg (withReg heldS (pwinPage 2) 0x400 0xF3400001) (pwinPage 2) 0x404 4096) (diePage 1 4) 0x008 1

theorem test_mwr_mrd : AplUp winS 2 ∧ winS.winTranslate 2 8191 1 true = some (0, 0xF3400001, 12287) ∧
    winS.winTranslate 2 8192 1 true = none ∧
    (run (.mwr 2 8191 [7]) winS).mem = [(hbmBase 1 + 12287, 7)] ∧ winS.winTdiError 2 8192 = none ∧
    (let t := run (.mwr 2 8192 [7]) winS
     t.ctr (aplPage 2) 0x0A = 1 ∧ bit (t.rd (aplPage 2) 0x010) 3 = true ∧ t.mem = []) ∧
    ((run (.mrd 2 5 8192 1) winS).apl 2).sendq = [(4, tluHdr 4 5 1 0 0)] ∧
    ((run (.mrd 2 5 8191 1) (winS.setByte (hbmBase 1 + 12287) 7)).apl 2).sendq = [(4, tluHdr 4 5 0 1 0 ++ [7])] := by
  decide +kernel

/-- Tag 9 reads for a memory port; tag 10 is quarantined. -/
def cplS : State := { heldS with clk := 400000000, aplReads :=
  [(2057, { who := .mport 1 2, addr := 0, len := 2, at_ := 0 }), (2058, { who := .mport 1 2, addr := 0, len := 2, at_ := 0, quar := some 0 })] }

theorem test_cpl : AplUp cplS 2 ∧
    (let t := run (.cpl 2 9 0 0 [1, 2]) cplS
     t.arrived = [{ client := .mport 1 2, status := 0, data := [1, 2] }] ∧ tabFind t.aplReads 2057 = none) ∧
    ((tabFind (run (.cpl 2 9 0 1 [1]) cplS).aplReads 2057).map AplRead.got) = some [1] ∧
    (run (.cpl 2 10 0 0 [1]) cplS).ctr (aplPage 2) 9 = 1 ∧ (run (.cpl 2 11 0 0 [1]) cplS).ctr (aplPage 2) 9 = 1 ∧
    cplS.frFld (aplPage 2) 0x104 0 16 * 2000 ≤ cplS.clk ∧
    (run (.aplMrdTimeout 2 9) cplS).arrived = [{ client := .mport 1 2, status := 2, data := [] }] ∧
    tabFind (run (.aplTagQuarantineEnd 2 10) cplS).aplReads 2058 = none := by decide +kernel

/-! ### Pipelines -/

/-- Classifier page of region 6, bank 0 active, rule 5 of bank 1 addressed, with a rule in the data registers. -/
def clsS : State :=
  withReg (withReg (withReg (withReg s0 (clsPage 6) 0x10C 0x20005) (clsPage 6) 0x120 0xAB) (clsPage 6) 0x150 0xFF)
    (clsPage 6) 0x180 0x11

theorem test_cls_rule : clsS.fastReady (clsPage 6) = true ∧ Admitted clsS 0 (clsPage 6) 0x110 ∧
    bit (clsS.rd (clsPage 6) 0x110) 31 = false ∧ clsS.bankLocked 6 1 = false ∧ clsS.rdFld (clsPage 6) 0x10C 17 1 = 1 ∧
    (let t := run (.clsRuleWrite 0 6 true) clsS
     t.rules = [(ruleKey 6 1 5, { value := 0xAB :: zeros 39, mask := 0xFF :: zeros 39, valid := true, result := 0x11 })] ∧
     (let u := run (.clsRuleRead 0 6) (t.postBoth (clsPage 6) 0x180 0)
      u.fr (clsPage 6) 0x180 = 0x11 ∧ bit (u.rd (clsPage 6) 0x110) 2 = true ∧ u.rules = t.rules) ∧
     (run (.clsRuleWrite 0 6 false) t).rules.map (fun e => e.2.valid) = [false]) := by decide +kernel

theorem test_cls_locked : (let s := withReg clsS (clsPage 6) 0x10C 5
    s.bankLocked 6 (s.rdFld (clsPage 6) 0x10C 17 1) = true ∧
    (let t := run (.clsRuleWrite 0 6 true) s
     t.rules = [] ∧ bit (t.rd (clsPage 6) 0x110) 30 = true ∧ bit (t.rd (clsPage 6) 0x010) 1 = true)) := by decide +kernel

theorem test_cls_prof : Admitted clsS 0 (clsPage 6) 0xBE4 ∧ Admitted clsS 0 (clsPage 6) 0x800 ∧
    (run (.clsProfWrite 0 6 1 15 9 0xFFFFFF7C) clsS).fr (clsPage 6) 0xBE4 = 0x8000007C ∧
    (run (.clsProfWrite 0 6 0 15 9 0x8000007C) clsS).fr (clsPage 6) 0x7E4 = 0 := by decide +kernel

theorem test_cls_swap : Admitted clsS 0 (clsPage 6) 0x104 ∧ bit (clsS.rd (clsPage 6) 0x108) 31 = true ∧
    (let t := run (.clsSwap 0 6) clsS
     t.rd (clsPage 6) 0x100 = 1 ∧ (tabGet {} t.clsSt 6).old = some 0 ∧ t.stamped 6 0 = 0 ∧ t.bankLocked 6 0 = true ∧
     bit ((run (.clsSwap 0 6) t).rd (clsPage 6) 0x108) 29 = true ∧
     (let u := run (.swapDone 6) t
      bit (u.rd (clsPage 6) 0x108) 31 = true ∧ u.bankLocked 6 0 = false ∧ bit (u.rd (clsPage 6) 0x010) 0 = true) ∧
     (let u := { t with hdrs := [{ pipe := 24, frame := { buf := 0, src := 0, ts := 0 }, seq := none, bank := some 0 }] }
      u.stamped 6 0 = 1 ∧ run (.swapDone 6) u = u)) := by decide +kernel

/-- Pipeline 27 with action set 3 and template line 2 addressed. -/
def asS : State := withReg (withReg (withReg (withReg s0 (pipeKey 27) 0x130 3) (pipeKey 27) 0x140 0xE0)
  (pipeKey 27) 0x160 2) (pipeKey 27) 0x1BC 0x12345678

theorem test_action_sets : asS.fastReady (pipeKey 27) = true ∧ Admitted asS 0 (pipeKey 27) 0x134 ∧
    Admitted asS 0 (pipeKey 27) 0x164 ∧ bit (asS.rd (pipeKey 27) 0x134) 31 = false ∧
    bit (asS.rd (pipeKey 27) 0x164) 31 = false ∧
    (let t := run (.pipeAsWrite 0 27) asS
     padTo (tabGet [] t.asets (6 * 16384 + 3)) 32 = 0xE0 :: zeros 31 ∧ t.asets.length = 1 ∧
     (run (.pipeAsRead 0 27) (withReg t (pipeKey 27) 0x140 0)).fr (pipeKey 27) 0x140 = 0xE0) ∧
    (let t := run (.pipeTplWrite 0 27) asS
     padTo (tabGet [] t.tpls (6 * 8192 + 2)) 64 = zeros 60 ++ [0x78, 0x56, 0x34, 0x12] ∧
     (run (.pipeTplRead 0 27) (withReg t (pipeKey 27) 0x1BC 0)).fr (pipeKey 27) 0x1BC = 0x12345678) ∧
    (run (.pipeTplWrite 0 27) (withReg asS (pipeKey 27) 0x160 0)).tpls = [] := by decide +kernel

/-- The counter cache of regions 6 and 7 with one pair each. -/
def cntS : State := { (withReg s0 (pipePage 6 0) 0x120 0x10) with
  cnts := [(6 * 2 ^ 22 + 5, { packets := 3, octets := 200 }), (7 * 2 ^ 22, { packets := 1, octets := 64 })] }

theorem test_counter_cache :
    (let t := run (.counterWriteback 6 5) cntS
     leAt (t.bytes (hbmBase 1 + 0x10000 + 80) 16) 0 8 = 3 ∧ leAt (t.bytes (hbmBase 1 + 0x10000 + 80) 16) 8 8 = 200 ∧
     t.cnts.map (·.1) = [7 * 2 ^ 22] ∧ t.mem.map (·.1) = [hbmBase 1 + 0x10000 + 80, hbmBase 1 + 0x10000 + 88]) ∧
    Admitted cntS 0 (pipeKey 24) 0x128 ∧ cntS.fastReady (pipeKey 24) = true ∧
    (let t := run (.pipeCntFlush 0 24) cntS
     t.cnts.map (·.1) = [7 * 2 ^ 22] ∧ t.rd (pipeKey 24) 0x128 = 0) := by decide +kernel

/-- A frame of source 5 of region 6 in buffer 2^32 (the first of die 1), a broadcast of an unknown EtherType. -/
def frm : Frame := { buf := 2 ^ 32, src := 0, ts := 0 }
/-- Its source with one frame waiting in each class. -/
def sprS : State := { s0 with fifos := [(6 * 32 + 5, { exp := [frm], ord := [frm] })],
                              bufs := [(2 ^ 32, { bytes := frame60, size := 64, express := false, refs := 1 })] }

theorem test_spread : (sprS.seq 197).above = 0 ∧ sprS.openPipes 6 = [24, 25, 26, 27] ∧
    (let t := run (.spread 197) sprS
     t.fifo 197 = { exp := [frm] } ∧ t.hdrs = [{ pipe := 25, frame := frm, seq := some 197, ferry := 0 }] ∧
     (t.seq 197).next = 1 ∧ (t.seq 197).w = 65535 ∧ (t.seq 197).unres.map OpenF.f = [0] ∧ run (.spread 197) t = t) ∧
    sprS.pinnedPipe 197 = some 25 ∧
    (let t := run (.expressSpread 197) sprS
     t.fifo 197 = { ord := [frm] } ∧ t.hdrs = [{ pipe := 25, frame := frm, seq := none }] ∧ t.seqs = []) := by
  decide +kernel

theorem test_spread_window : (let s := { sprS with seqs := [(197, { next := 8192 })] }
    8192 ≤ (s.seq 197).above ∧
    (let t := run (.spread 197) s
     (t.seq 197).paused = true ∧ t.hdrs = [] ∧ t.ctr (diePage 1 6) 3 = 1 ∧ run (.spread 197) t = t) ∧
    (let u := { sprS with seqs := [(197, { next := 8191 })] }
     (u.seq 197).above = 8191 ∧ (run (.spread 197) u).hdrs.length = 1)) := by decide +kernel

theorem test_forced_hole : (let s := { run (.spread 197) sprS with clk := 1000 * s0.frFld (diePage 1 6) 0x100 0 16 }
    (s.seq 197).unres.map OpenF.at_ = [0] ∧
    (let t := run (.forcedHole 197) s
     (t.seq 197).late = [0] ∧ (t.seq 197).unres = [] ∧ (t.seq 197).next = 1 ∧ t.ctr (diePage 1 6) 0 = 1) ∧
    (let u := { s with clk := s.clk - 1 }
     run (.forcedHole 197) u = u)) := by decide +kernel

/-- A header waits at pipeline 25. -/
def pasS : State := run (.expressSpread 197) sprS

theorem test_pass : pasS.pipeOn 25 = true ∧ pasS.nextHdr 25 = some 0 ∧
    (parseFrame { pasS.parseCfg (pipeKey 25) with csum := some 0 } (pasS.bufBytes (2 ^ 32))).malf = 0 ∧
    StagesOff pasS (pipeKey 25) ∧
    (let t := run (.pipelinePass 25) pasS
     t.hdrs = [] ∧ t.ctr (pipeKey 25) 0x10 = 1 ∧ t.links = [] ∧ t.queues = []) ∧
    pasS.nextHdr 24 = none ∧ run (.pipelinePass 24) pasS = pasS ∧
    (let s := { pasS with bufs := [(2 ^ 32, { bytes := frame60.take 12 ++ [8, 0, 0x65] ++ zeros 45, size := 64, express := false, refs := 1 })] }
     (parseFrame { s.parseCfg (pipeKey 25) with csum := some 0 } (s.bufBytes (2 ^ 32))).malf = 3 ∧
     s.frFld (pipeKey 25) 0x108 4 2 = 0 ∧ (run (.pipelinePass 25) s).hdrs = [] ∧
     (run (.pipelinePass 25) s).ctr (pipeKey 25) 3 = 1) := by decide +kernel

/-- A header of pipeline 25 waits at its last stage for a far lookup. -/
def farS (t : Ns) : State :=
  let k : Park := { stage := 11, since := 0, pass := { prv := zeros 128, parsed := {} }, reply := none, tern := none }
  { pasS with clk := t, hdrs := [{ pipe := 25, frame := frm, seq := none, park := some k }] }

theorem test_far : (farS 879).pipeOn 25 = true ∧ ((farS 879).parked 25).length = 1 ∧
    BarePass { prv := zeros 128, parsed := {} } ∧ (farS 0).frFld (pipeKey 25) 0x2B4 0 24 = 0 ∧
    (run (.farResume 25 0) (farS 879)).hdrs = [] ∧ run (.farTimeout 25 0) (farS 879) = farS 879 ∧
    run (.farResume 25 0) (farS 880) = farS 880 ∧
    (run (.farTimeout 25 0) (farS 880)).hdrs = [] ∧
    bit ((run (.farTimeout 25 0) (farS 880)).rd (pipeKey 25) 0x010) 2 = true ∧
    run (.farResume 25 1) (farS 880) = farS 880 ∧ run (.farTimeout 25 1) (farS 880) = farS 880 := by decide +kernel

/-- A header of pipeline 25 waits for a verdict of context 9. -/
def tagS (good : Bool) : State :=
  let k : Check := { ctx := 9, region := 6, number := 70, good := good }
  let x : PassSt := { prv := zeros 128, parsed := {} }
  { pasS with hdrs := [{ pipe := 25, frame := frm, seq := none, checks := [k], owed := some x }] }

theorem test_tag_verdict : ((tagS true).ctx 9).replayed 70 = false ∧
    (let t := run (.tagVerdict 25) (tagS true)
     t.ctx 9 = ((tagS true).ctx 9).accept 70 ∧ (t.ctx 9).replay.getLsbD 70 = true ∧ t.hdrs = [] ∧ t.links = []) ∧
    (let t := run (.tagVerdict 25) (tagS false)
     t.ctxs = [] ∧ t.ctr (ciphPage 6) 1 = 1 ∧ t.hdrs = []) ∧
    run (.tagVerdict 24) (tagS true) = tagS true := by decide +kernel

/-- Entry 65535 of sequence 5 waits on the link from die 1 to die 2, then its watermark; 0 is held. -/
def lanS : State :=
  let e : Entry := { seq := some 5, ferry := 0, dest := 0, bytes := frame60, buf := 2 ^ 32 }
  { sprS with links := [(6, [.entry { e with ferry := 1 }, .mark 5 0])], held := [(2, [e])] }

theorem test_landing : atOrBelow 1 (lanS.landMark 2 5) = false ∧
    (let t := run (.landingEntryArrive 1 2) lanS
     (tabGet [] t.held 2).map Entry.ferry = [0, 1] ∧ tabGet [] t.links 6 = [.mark 5 0] ∧
     (let u := run (.landingWatermarkArrive 1 2) t
      u.landMark 2 5 = 0 ∧ (tabGet [] u.held 2).map Entry.ferry = [1] ∧ u.ctr (landPage 2) 2 = 1 ∧
      run (.landingWatermarkArrive 1 2) u = u ∧ run (.landingEntryArrive 1 2) u = u)) ∧
    (let s := { lanS with landW := [(2 * 1024 + 5, 1)] }
     atOrBelow 1 (s.landMark 2 5) = true ∧ (run (.landingEntryArrive 1 2) s).ctr (landPage 2) 2 = 1) ∧
    (let s := { lanS with links := [(6, [.entry { seq := none, dest := 0, bytes := frame60, buf := 2 ^ 32 }])] }
     tabGet [] (run (.landingEntryArrive 1 2) s).links 6 = [] ∧ (run (.landingEntryArrive 1 2) s).held = s.held) := by
  decide +kernel

/-! ### Exact-match tables -/

/-- A table command: opcode, table of the die, key byte, result, data and generation. -/
def tblCmd (op tbl key result data gen : Nat) : List Byte :=
  leBytes 1 op ++ zeros 3 ++ leBytes 4 tbl ++ leBytes 1 key ++ zeros 39 ++ leBytes 4 result ++ leBytes 8 data ++ leBytes 4 gen
/-- A request of a thread of cluster 53, channel 3. -/
def ureq (b : List Byte) : Ureq := { cluster := 53, chan := 3, mid := 0x4D5E, lease := none, words := bytesWords b }
/-- Table 0 of region 6 (table 16 of its die), enabled, with 4-byte keys and 64 buckets, held by the thread. -/
def tblT : State :=
  withReg (withReg (withReg ((s0.post (regPage 6 0) 0x104 0x40004D5E)) (regPage 6 0) 0x200 0x80040600) (regPage 6 0) 0x20C 7)
    (chanPage 53) 0x218 0x30200000
/-- It is asked with a command. -/
def tblQ (s : State) (b : List Byte) : State := { s with ureqs := [ureq b] }
/-- The table with key 5 at its place, RESULT 9 and DATA 10. -/
def tblE (flags : Nat) (s : State) : State :=
  let e : TEnt := { key := 5 :: zeros 15, result := 9, data := 10, ectl := BitVec.ofNat 32 (2 ^ 31 + flags) }
  s.putEnt 48 (4 * (buckets (s.geo 48) (5 :: zeros 39)).1) e
/-- The place of key 5. -/
def pl5 : Nat := 4 * (buckets (tblT.geo 48) (5 :: zeros 39)).1
/-- The port's reply. -/
def replied (t : State) : List Byte := (t.ureps.map fun r => wordBytes r.words).flatten

theorem test_insert : (let b := tblCmd 1 16 5 9 10 0
    let s := tblQ tblT b
    TblAsk s 53 3 1 (ureq b) b 48 ∧ s.findKey 48 (slice b 8 40) = [] ∧ (s.geo 48).far = false ∧
    s.freeWay 48 (buckets (s.geo 48) (s.keyOf 48 (slice b 8 40))).1 = some pl5 ∧
    (let t := run (.insert 53 3) s
     t.entAt 48 pl5 = { key := 5 :: zeros 15, result := 9, data := 10, ectl := 0x80000001 } ∧ t.tblGen 48 = 1 ∧
     t.near.length = 1 ∧ t.ureqs = [] ∧ leAt (replied t) 5 1 = 0 ∧ leAt (replied t) 60 3 = 1 ∧
     (let v := run (.insert 53 3) (tblQ { t with ureps := [] } b)
      v.near = t.near ∧ leAt (replied v) 5 1 = 1))) := by decide +kernel

theorem test_insert_no_lock : (let b := tblCmd 1 16 5 9 10 0
    let s := tblQ (tblT.post (regPage 6 0) 0x104 0) b
    s.request 53 3 = some (ureq b) ∧ s.holdsTbl 0x4D5E 48 = false ∧
    (let t := run (.insert 53 3) s
     t.near = [] ∧ t.ctr (regPage 6 0) 0x82 = 1 ∧ leAt (replied t) 5 1 = 4)) := by decide +kernel

theorem test_update_upsert : (let b := tblCmd 2 16 5 7 8 0
    let s := tblQ (tblE 0 tblT) b
    TblAsk s 53 3 2 (ureq b) b 48 ∧ s.findKey 48 (slice b 8 40) = [pl5] ∧ pl5 < ovfPlace ∧
    (let t := run (.update 53 3) s
     t.entAt 48 pl5 = { key := 5 :: zeros 15, result := 7, data := 8, ectl := 0x80000001 } ∧ leAt (replied t) 60 3 = 1) ∧
    (let u := tblQ tblT b
     u.findKey 48 (slice b 8 40) = [] ∧ leAt (replied (run (.update 53 3) u)) 5 1 = 2 ∧
     (run (.update 53 3) u).near = [])) ∧
    (let b := tblCmd 3 16 5 7 8 0
     TblAsk (tblQ tblT b) 53 3 3 (ureq b) b 48 ∧ (run (.upsert 53 3) (tblQ tblT b)).near.length = 1 ∧
     ((run (.upsert 53 3) (tblQ (tblE 0 tblT) b)).entAt 48 pl5).data = 8) := by decide +kernel

theorem test_delete_read : (let b := tblCmd 4 16 5 0 0 0
    let s := tblQ (tblE 0 tblT) b
    TblAsk s 53 3 4 (ureq b) b 48 ∧ s.ovfPlaces 48 = [] ∧
    (let t := run (.delete 53 3) s
     t.near = [] ∧ t.ctr (regPage 6 0) 6 = 1 ∧ leAt (replied t) 5 1 = 0) ∧
    leAt (replied (run (.delete 53 3) (tblQ tblT b))) 5 1 = 2) ∧
    (let b := tblCmd 5 16 5 0 0 0
     let t := run (.tblRead 53 3) (tblQ (tblE 3 tblT) b)
     TblAsk (tblQ (tblE 3 tblT) b) 53 3 5 (ureq b) b 48 ∧ leAt (replied t) 48 4 = 9 ∧ leAt (replied t) 52 8 = 10 ∧
     leAt (replied t) 60 3 = 3 ∧ t.near = (tblE 3 tblT).near) := by decide +kernel

theorem test_walks : (let b := tblCmd 6 16 0 0 0 0
    let d := tblCmd 7 16 0 0 0 5
    TblAsk (tblQ tblT b) 53 3 6 (ureq b) b 48 ∧ TblAsk (tblQ tblT d) 53 3 7 (ureq d) d 48 ∧
    (let t := run (.walkFull 53 3) (tblQ tblT b)
     bit (t.rd (regPage 6 0) 0x124) 31 = true ∧ bit (t.rd (regPage 6 0) 0x124) 29 = false ∧ t.rd (regPage 6 0) 0x128 = 0 ∧
     leAt (replied t) 5 1 = 0 ∧
     leAt (replied (run (.walkDelta 53 3) (tblQ { t with ureps := [] } d))) 5 1 = 0x0B ∧
     t.ringSt 6 = 0 ∧ (run (.walkVisit 6) t).rdFld (regPage 6 0) 0x128 0 25 = 1 ∧
     Admitted t 0 (regPage 6 0) 0x124 ∧ bit ((run (.walkAbort 0 6) t).rd (regPage 6 0) 0x124) 31 = false) ∧
    leAt (replied (run (.walkDelta 53 3) (tblQ tblT d))) 5 1 = 7 ∧
    (let u := tblT.postFld (regPage 6 0) 0x21C 0 24 (2 ^ 23 + 5)
     leAt (replied (run (.walkDelta 53 3) (tblQ u d))) 5 1 = 0 ∧
     bit ((run (.walkDelta 53 3) (tblQ u d)).rd (regPage 6 0) 0x124) 29 = true) ∧
    run (.walkVisit 6) tblT = tblT) := by decide +kernel

theorem test_flush_lock : (let b := tblCmd 8 16 0 0 0 0
    let s := tblQ (tblE (2 ^ 26) tblT) b
    TblAsk s 53 3 8 (ureq b) b 48 ∧ s.placesOf 48 = [pl5] ∧ (s.entAt 48 pl5).learned = true ∧
    (let t := run (.flushLearned 53 3) s
     t.near = [] ∧ leAt (replied t) 60 3 = 1 ∧ t.ctr (regPage 6 0) 6 = 1) ∧
    (tblQ tblT b).placesOf 48 = [] ∧ leAt (replied (run (.flushLearned 53 3) (tblQ tblT b))) 60 3 = 0) ∧
    (let b := tblCmd 0x10 16 0 0 0 0
     let t := run (.tblPortLock 53 3) (tblQ (tblT.post (regPage 6 0) 0x104 0) b)
     t.rd (regPage 6 0) 0x104 = 0x40004D5E ∧ leAt (replied t) 8 4 = 0x40004D5E) ∧
    (let b := leBytes 4 0x11 ++ leBytes 4 16 ++ leBytes 4 0x4D5E ++ zeros 52
     let t := run (.tblPortUnlock 53 3) (tblQ tblT b)
     (tblQ tblT b).holdsTbl 0x4D5E 48 = true ∧ t.rd (regPage 6 0) 0x104 = 0 ∧ leAt (replied t) 5 1 = 0) := by
  decide +kernel

/-- A learned key 5 with source 7 waits at region 6, whose learner runs; the table learns and moves sources. -/
def lrnS (s : State) : State :=
  { withReg (withReg s (lrnPage 6) 0x100 0x80000001) (regPage 6 0) 0x200 0x8C040600 with
    learns := [(6, { queue := [{ slot := 0, key := 5 :: zeros 39, src := 7 }] })] }

theorem test_learn : (let s := lrnS (tblE (2 ^ 26) tblT)
    bit (s.fr (lrnPage 6) 0x100) 31 = true ∧ s.ringSt 6 ≠ 2 ∧ s.tblLive 48 = true ∧
    bit (s.fr (tblPage 48) (descOff 48)) 26 = true ∧ s.findKey 48 (5 :: zeros 39) = [pl5] ∧
    (s.entAt 48 pl5).static = false ∧ (s.entAt 48 pl5).pinned = false ∧ (s.entAt 48 pl5).learned = true ∧
    (let t := run (.learnExecute 6) s
     natField (t.entAt 48 pl5).data.toNat 0 16 = 7 ∧ t.ctr (lrnPage 6) 4 = 1 ∧ run (.learnExecute 6) t = t)) ∧
    (let s := withReg (lrnS tblT) (regPage 6 0) 0x200 0
     s.tblLive 48 = false ∧ (run (.learnExecute 6) s).ctr (lrnPage 6) 2 = 1 ∧ (run (.learnExecute 6) s).near = []) := by
  decide +kernel

theorem test_aging_start : (let s := { tblT with clk := 50, ageDue := [(48, 49)] }
    s.duePass 6 = some (0, 49) ∧
    (let t := run (.agingPassStart 6) s
     (t.tblR 6).aging = some (0, 0) ∧ t.ctr (regPage 6 0) 0x83 = 1 ∧ bit (t.rd (regPage 6 0) 0x010) 5 = true ∧
     run (.agingPassStart 6) t = t) ∧
    (run (.agingPassStart 6) { s with clk := 49 }).ctrs = [] ∧ run (.agingPassStart 6) { s with clk := 48 } = { s with clk := 48 }) := by
  decide +kernel

/-- The aging pass is at key 5. -/
def ageS (flags : Nat) : State :=
  { lrnS (tblE flags tblT) with tblSt := [(6, { aging := some (0, pl5) })] }

theorem test_aging_visit :
    (let t := run (.agingVisit 6) (ageS (2 ^ 30))
     pl5 < 256 ∧ (t.entAt 48 pl5).ectl = 0x80000000 ∧ (t.tblR 6).aging = some (0, pl5 + 1)) ∧
    ((run (.agingVisit 6) (ageS 0)).entAt 48 pl5).ectl = 0xA0000000 ∧
    ((ageS (2 ^ 29 + 2 ^ 28)).entAt 48 pl5).static = true ∧
    (run (.agingVisit 6) (ageS (2 ^ 29 + 2 ^ 28))).near = (ageS (2 ^ 29 + 2 ^ 28)).near ∧
    bit ((ageS (2 ^ 29)).fr (regPage 6 0) 0x200) 27 = true ∧
    (let t := run (.agingVisit 6) (ageS (2 ^ 29))
     t.near = [] ∧ t.ctr (regPage 6 0) 7 = 1) := by decide +kernel

/-- The learn ring of region 6 is paused. -/
def pauS : State :=
  { tblT.post (lrnPage 6) 0x114 0x80000000 with clk := 70000000000, learns := [(6, { pend := [zeros 64] })] }

theorem test_learn_ring : pauS.ringSt 6 = 2 ∧ pauS.frFld (lrnPage 6) 0x100 0 16 * 1000000 ≤ pauS.clk ∧
    (let t := run (.learnRingStall 6) pauS
     t.ringSt 6 = 3 ∧ (t.learn 6).pend = [] ∧ bit (t.rd (lrnPage 6) 0x010) 2 = true ∧ t.ctr (lrnPage 6) 7 = 1 ∧
     Admitted t 0 (lrnPage 6) 0x104 ∧ t.fastReady (lrnPage 6) = true ∧
     (run (.lrnRingRestart 0 6 1) t).ringSt 6 = 0 ∧ ((run (.lrnRingRestart 0 6 1) t).learn 6).restart = true ∧
     (run (.lrnRingRestart 0 6 1) (withReg t (lrnPage 6) 0x100 0x80000000)).ringSt 6 = 1) ∧
    (let s := { withReg pauS (lrnPage 6) 0x10C 4 with learns := [] }
     let s := s.post (lrnPage 6) 0x110 16
     Admitted s 0 (lrnPage 6) 0x110 ∧ idxDiff (s.rdFld (lrnPage 6) 0x110 0 16) 1 < 2 ^ s.frFld (lrnPage 6) 0x10C 0 4 ∧
     (run (.lrnConsWrite 0 6 0x10000) s).ringSt 6 = 1 ∧
     (run (.lrnConsWrite 0 6 0x10000) s).rdFld (lrnPage 6) 0x110 16 16 = 1) := by decide +kernel

/-- Slot 1 of region 6 before it is enabled: 64 buckets after those of slot 0. -/
def enaS : State := withReg (withReg tblT (regPage 6 0) 0x224 256) (regPage 6 0) 0x22C 7

theorem test_table_enable : Admitted enaS 0 (regPage 6 0) 0x220 ∧ enaS.fastReady (regPage 6 0) = true ∧
    bit (enaS.rd (regPage 6 0) 0x220) 31 = false ∧ bit (enaS.rd (regPage 6 0) 0x220) 29 = false ∧
    (let t := run (.tableEnable 0 6 1 0x80040600) enaS
     bit (t.rd (regPage 6 0) 0x220) 29 = true ∧ (t.tblR 6).clearing.contains 1 = true ∧
     (let u := run (.tableClearDone 6 1) t
      bit (u.rd (regPage 6 0) 0x220) 31 = true ∧ u.tblLive 49 = true ∧ bit (u.rd (regPage 6 0) 0x220) 29 = false ∧
      (run (.tableDisable 0 6 1 0x00040600) u).tblLive 49 = false)) ∧
    (let t := run (.tableEnable 0 6 1 0x80040600) (withReg enaS (regPage 6 0) 0x224 252)
     bit (t.rd (regPage 6 0) 0x220) 29 = false ∧ bit (t.rd (regPage 6 0) 0x220) 30 = true) := by decide +kernel

/-- The command ring of region 6 runs for the OMC at 4096, with 16 entries. -/
def crS : State :=
  ((withReg (withReg s0 (regPage 6 0) 0x110 0x1000) (regPage 6 0) 0x118 0x8004)).post (regPage 6 0) 0x120 0x80000000

theorem test_command_ring : Admitted crS 0 (regPage 6 0) 0x110 ∧ crS.cmdOwner 6 = 0 ∧
    (let t := run (.tblCmdBaseWrite 0 6 0x5000) crS
     t.rd (regPage 6 0) 0x110 = 0x1000 ∧ t.ctr (regPage 6 0) 0x84 = 1) ∧
    Admitted crS 0 (regPage 6 0) 0x118 ∧ bit ((run (.tblCmdCfgWrite 0 6 4) crS).rd (regPage 6 0) 0x118) 15 = false ∧
    (let s := withReg crS (regPage 6 0) 0x118 0x29008004
     s.cmdOwner 6 = 0x2900 ∧ Admitted s 0x2901 (regPage 6 0) 0x118 ∧
     (run (.tblCmdCfgWrite 0x2901 6 0x29000004) s).ctr (regPage 6 0) 0x84 = 1 ∧
     (run (.tblCmdDb 0x2901 6 3) s).ctr (regPage 6 0) 0x81 = 1) ∧
    Admitted crS 0 (regPage 6 0) 0x11C ∧
    fld ((run (.tblCmdDb 0 6 16) crS).fr (regPage 6 0) 0x11C) 0 16 = 16 ∧
    bit ((run (.tblCmdDb 0 6 17) crS).rd (regPage 6 0) 0x120) 30 = true ∧
    fld ((run (.tblCmdDb 0 6 17) crS).fr (regPage 6 0) 0x11C) 0 16 = 0 := by decide +kernel

/-- A fetch of the command at 4096 is in progress. -/
def fetS (b : List Byte) : State := { (crS.setBytes (omcMem + 4096) b) with tblSt := [(6, { fetching := true })] }

theorem test_command_fetch : (fetS [5]).cmdAddr 6 = 4096 ∧
    (let t := run (.tblCmdFetch 6) (fetS [5])
     (t.tblR 6).stall = true ∧ (t.tblR 6).stallAt = some 0 ∧ t.mem = (fetS [5]).mem ∧
     run (.tblCmdRefetch 6) { t with clk := 999 } = { t with clk := 999 } ∧
     ((run (.tblCmdRefetch 6) { t with clk := 1000 }).tblR 6).stall = false) ∧
    (let s := fetS (tblCmd 5 32 0 0 0 (2 ^ 31))
     let t := run (.tblCmdFetch 6) s
     (byteAt (s.bytes 4096 64) 63).testBit 7 = true ∧ t.rdFld (regPage 6 0) 0x120 0 16 = 1 ∧ t.byte 4101 = 5 ∧
     t.byte 4159 = 0 ∧ t.ctr (regPage 6 0) 0x80 = 1 ∧ bit (t.rd (regPage 6 0) 0x010) 1 = true) := by decide +kernel

/-! ### The cipher -/

/-- Contexts 5 (ACTIVE, MACsec), 6 (RESYNC, TLS receive, at its soft limit) and 9 (RETIRED); the die's vault is open and
the KEK is loaded. -/
def ctxS : State :=
  let s := [24, 25, 26, 27].foldl (fun s r => withReg s (ciphPage (r - 20)) 0x104 0x80000000) s0
  { s with sec := { s.sec with kek := some 7 }
           ctxs := [(2 ^ 22 + 5, { st := 1, proto := 1, usage := 3, limit := 100, soft := 90 }),
                    (2 ^ 22 + 6, { st := 5, proto := 4, usage := 90, limit := 100, soft := 90, record := [1] }),
                    (2 ^ 22 + 9, { st := 4, proto := 1 })] }
/-- With a blob for MACsec of the OMC's scope in the registers of region 6's page, and successor 6 named. -/
def cuS : State :=
  withReg (withReg ctxS (ciphPage 6) 0x218 0x01000000) (ciphPage 6) 0x210 0x400006

theorem test_cu_commands : CuReady cuS 0 (ciphPage 6) ∧ cuS.alarmLevel = 0 ∧
    cuS.cuCtx (ciphPage 6) 0x400005 = some 0x400005 ∧ (cuS.ctx 0x400005).st = 1 ∧
    cuS.sec.kek = some 7 ∧
    (let t := run (.cuLoad 0 (ciphPage 6) 0x400005) cuS
     t.ctxs = cuS.ctxs ∧ fld (t.rd (ciphPage 6) 0x20C) 0 8 ≠ 0) ∧
    (let t := run (.retire 0 (ciphPage 6) 0x400005) cuS
     (t.ctx 0x400005).st = 4 ∧ (t.ctx 0x400006) = cuS.ctx 0x400006 ∧ t.rd (ciphPage 6) 0x20C = 0x40000000) ∧
    (let t := run (.query 0 (ciphPage 6) 0x400005) cuS
     t.rd (ciphPage 6) 0x230 = 3 ∧ fld (t.rd (ciphPage 6) 0x234) 28 4 = 1 ∧ t.ctxs = cuS.ctxs) ∧
    fld (cuS.fr (ciphPage 6) 0x218) 24 4 = 1 ∧
    cuScopeOk (ciphPage 6) (BitVec.ofNat 32 (leAt (cuS.cuBytes (ciphPage 6) 0x140 32) 12 4)) = true ∧
    (cuS.ctx 0x400007).st = 0 ∧ CuResult (run (.cuLoad 0 (ciphPage 6) 0x400007) cuS) (ciphPage 6) 2 := by decide +kernel

theorem test_cu_next_resync : (cuS.ctx 0x400006).owner = (cuS.ctx 0x400005).owner ∧
    (let t := run (.setNext 0 (ciphPage 6) 0x400005) cuS
     t.ctx 0x400005 = { cuS.ctx 0x400005 with next := some 0x400006, switched := false }) ∧
    ((run (.setNext 0 (ciphPage 6) 0x400006) cuS).ctx 0x400006).next = none ∧
    CuResult (run (.resync 0 (ciphPage 6) 0x400005) cuS) (ciphPage 6) 6 ∧
    (let t := run (.resync 0 (ciphPage 6) 0x400006) cuS
     (t.ctx 0x400006).st = 2 ∧ (t.ctx 0x400006).record = [] ∧ CuResult t (ciphPage 6) 0) := by decide +kernel

/-- Cipher user page of endpoint 9's VF 0x12, whose window is 8 contexts from 0x440100; alarm level 2 in `a2`. -/
def cuW : State := ((ctxS.post (instPage 9 0x12 2) 0x100 0x440100).post (instPage 9 0x12 2) 0x104 8)
/-- The alarm level is A2. -/
def a2 (s : State) : State := s.post secPage 0x104 2

theorem test_cu_window : pageType (instPage 9 0x12 2) = some .cu ∧ CuReady cuW 0x2912 (instPage 9 0x12 2) ∧
    cuW.cuCtx (instPage 9 0x12 2) 7 = some 0x440107 ∧ cuW.cuCtx (instPage 9 0x12 2) 8 = none ∧
    CuResult (run (.query 0x2912 (instPage 9 0x12 2) 8) cuW) (instPage 9 0x12 2) 1 ∧
    (run (.query 0x2912 (instPage 9 0x12 2) 7) cuW).rd (instPage 9 0x12 2) 0x10C = 0x40000000 ∧
    CuReady (a2 cuW) 0x2912 (instPage 9 0x12 2) ∧ (a2 cuW).alarmLevel = 2 ∧
    CuResult (run (.generate 0x2912 (instPage 9 0x12 2) 7) (a2 cuW)) (instPage 9 0x12 2) 5 ∧
    CuResult (run (.resync 0x2912 (instPage 9 0x12 2) 7) (a2 cuW)) (instPage 9 0x12 2) 5 := by decide +kernel

theorem test_contexts : (ctxS.ctx 0x400009).st = 4 ∧ ctxS.ctxBusy 0x400009 = false ∧
    (run (.contextFreed 0x400009) ctxS).ctx 0x400009 = {} ∧
    (let s := { ctxS with hdrs := (tagS true).hdrs.map fun h => { h with checks := h.checks.map fun k => { k with ctx := 0x400009 } } }
     s.ctxBusy 0x400009 = true ∧ run (.contextFreed 0x400009) s = s) ∧
    ctxS.eclipsed = false ∧ ctxS.vaultOn 0x400005 = true ∧ (ctxS.ctx 0x400005).usable = true ∧
    (let t := run (.contextFill 6 0x400005) ctxS
     (t.ctx 0x400005).holder = some 6 ∧ t.ctr (ciphPage 6) 5 = 1 ∧ run (.contextFill 7 0x400005) t = t ∧
     (let u := run (.contextMigrate 7 0x400005) t
      (u.ctx 0x400005).holder = some 7 ∧ u.ctr (ciphPage 7) 6 = 1) ∧
     (let v := { t with ctxs := [(0x400005, { t.ctx 0x400005 with pin := true })] }
      (v.ctx 0x400005).holder = some 6 ∧ run (.contextMigrate 7 0x400005) v = v)) := by decide +kernel

theorem test_cu_events : (let s := { ctxS with cuEvts := [(ciphPage 6, [(5, 1), (6, 2)])] }
    isCuPage (ciphPage 6) = true ∧ Admitted s 0 (ciphPage 6) 0x214 ∧
    tabGet [] (run (.cuEvtPop 0 (ciphPage 6)) s).cuEvts (ciphPage 6) = [(6, 2)]) ∧
    (let s := cuS.post (ciphPage 6) 0x20C 0x80000000
     Admitted s 0 (ciphPage 6) 0x208 ∧ (run (.retire 0 (ciphPage 6) 0x400005) s).ctxs = s.ctxs ∧
     (run (.retire 0 (ciphPage 6) 0x400005) s).ctr (ciphPage 6) 9 = 1) := by decide +kernel

/-! ### Egress -/

/-- Die 1's scheduler with a node record for queue 3 in the registers: enabled, parent 0, weight 7, CIR 100, CBS 2,000. -/
def nodS : State :=
  let p := schedPage 1
  let s := { s0 with nodes := [(nodeKey 1 1 0, { en := true }), (nodeKey 1 2 0, { en := true })] }
  withReg (withReg (withReg (withReg (withReg s p 0x100 3) p 0x110 0x80000000) p 0x114 7) p 0x118 100) p 0x11C 2000

theorem test_node_record : RecordReady nodS 0 (schedPage 1) 0x104 ∧ nodS.parentOk 1 0 0 = true ∧
    (let t := run (.schedNodeWrite 0 1) nodS
     (t.node 1 0 3).weight = 7 ∧ (t.node 1 0 3).cir = 100 ∧ (t.node 1 0 3).cbs = 2000 ∧ t.rd (schedPage 1) 0x104 = 0 ∧
     t.nodes.length = 3 ∧
     (let u := run (.schedNodeRead 0 1) (withReg t (schedPage 1) 0x114 0)
      u.fr (schedPage 1) 0x114 = 7 ∧ u.nodes = t.nodes)) ∧
    (let s := withReg nodS (schedPage 1) 0x120 99
     badRate 100 99 = true ∧ (run (.schedNodeWrite 0 1) s).rd (schedPage 1) 0x104 = 0x400 ∧
     (run (.schedNodeWrite 0 1) s).nodes = s.nodes ∧ badRate 100 100 = false) ∧
    (let s := withReg nodS (schedPage 1) 0x100 0x80000000 |>.postBoth (schedPage 1) 0x100 (0x80000000 + 1440)
     nodeCount 2 = 1440 ∧ (run (.schedNodeWrite 0 1) s).rd (schedPage 1) 0x104 = 0x100) := by decide +kernel

/-- An outlet record for outlet 9 of die 1: express rate 50, burst 65,536, default queue 3. -/
def outS : State :=
  let p := schedPage 1
  withReg (withReg (withReg (withReg s0 p 0x140 9) p 0x154 50) p 0x158 65536) p 0x178 3

theorem test_outlet_record : RecordReady outS 0 (schedPage 1) 0x144 ∧ outletExists 9 = true ∧ outletExists 65 = false ∧
    (let t := run (.schedOutWrite 0 1) outS
     (t.outlet 1 9).expBurst = 65536 ∧ (t.outlet 1 9).defq = 3 ∧ (t.outlet 1 9).expRate = 50 ∧
     t.rd (schedPage 1) 0x144 = 0 ∧
     (run (.schedOutRead 0 1) (withReg t (schedPage 1) 0x154 0)).fr (schedPage 1) 0x154 = 50) ∧
    (run (.schedOutWrite 0 1) (withReg outS (schedPage 1) 0x140 65)).rd (schedPage 1) 0x144 = 0x100 ∧
    (let p := schedPage 1
     let s := withReg (withReg (withReg outS p 0x150 0xC0000000) p 0x15C 0x00010000) p 0x164 1000
     bankOk true 0x00010000 1000 = true ∧
     (let t := run (.schedOutWrite 0 1) s
      (t.outlet 1 9).pending = true ∧ (t.outlet 1 9).gateEn = true ∧
      bit (t.rd p 0x144) 8 = false ∧
      (let u := run (.gateBankChange 1 9) t
       (u.outlet 1 9).pending = false ∧ bit (u.rd p 0x010) 1 = true ∧ u.ctr p 8 = 1 ∧ run (.gateBankChange 1 9) u = u))) := by
  decide +kernel

theorem test_gate_policer : (let p := schedPage 1
    let s := withReg (withReg (withReg s0 p 0x180 8191) p 0x188 0x1FF) p 0x18C 500
    RecordReady s 0 p 0x184 ∧
    (let t := run (.schedGateWrite 0 1) s
     t.gates = [(1 * 8192 + 8191, 0x1F4000001FF)] ∧ t.rd p 0x184 = 0 ∧
     (run (.schedGateRead 0 1) (withReg t p 0x18C 0)).fr p 0x18C = 500)) ∧
    (let p := plcrPage 1
     let s := withReg (withReg (withReg (withReg s0 p 0x100 262143) p 0x110 0xC0000000) p 0x114 10) p 0x118 1000
     RecordReady s 0 p 0x104 ∧
     (let t := run (.plcrWrite 0 1) s
      t.plcrs = [(plcrKey 1 262143, { en := true, redDrop := true, cir := 10, cbs := 1000, ctok := 1000000 })] ∧
      (run (.plcrRead 0 1) (withReg t p 0x118 0)).fr p 0x118 = 1000) ∧
     (run (.plcrWrite 0 1) (withReg s p 0x11C 9)).rd p 0x104 = 0x400) := by decide +kernel

/-- A queue 918,000 millibytes in debt, as R248's example leaves it, that gains 5 millibytes a tick; and a policer. -/
def tokS : State := { s0 with ptime := 80, nodes := [(nodeKey 1 0 3, { cir := 5, cbs := 1, ctok := -918000 })]
                              plcrs := [(9, { cir := 200, cbs := 1, ctok := 1, pir := 3, pbs := 5, ptok := 4000 })] }

theorem test_token_tick : (let t := run .tokenTick tokS
    t.tick = 10 ∧ (t.node 1 0 3).ctok = -917950 ∧ (tabGet {} t.plcrs 9).ctok = 1000 ∧ (tabGet {} t.plcrs 9).ptok = 4030) := by
  decide +kernel

/-- Port 53's outlet with its link up, and one express frame and one of queue 3 for it. -/
def egrS : State :=
  let e : Entry := { dest := 0x40000000, bytes := frame60, buf := 0 }
  { macS with queues := [(expKey 1 41, [{ e with express := true }]), (queueKey 1 3, [e])]
              nodes := [(nodeKey 1 0 3, { en := true, parent := 0 }), (nodeKey 1 1 0, { en := true, parent := 9 * 41 }),
                        (nodeKey 1 2 (9 * 41), { en := true })] }

theorem test_outlet_select : outletMac 1 41 = some macP ∧ egrS.outletFree 1 41 = true ∧ egrS.gateRun 1 41 = none ∧
    egrS.backlog (expKey 1 41) ≠ [] ∧ egrS.available 1 41 ≠ [] ∧
    (let t := run (.outletSelect 1 41) egrS
     (tabFind t.sel 297).map Entry.express = some true ∧ t.backlog (expKey 1 41) = [] ∧ t.ctr (schedPage 1) 5 = 1 ∧
     t.nodes = egrS.nodes) ∧
    (let s := { egrS with queues := egrS.queues.drop 1 }
     s.backlog (expKey 1 41) = [] ∧ (s.available 1 41).map Avail.q = [3] ∧
     (let t := run (.outletSelect 1 41) s
      (tabFind t.sel 297).isSome = true ∧ t.backlog (queueKey 1 3) = [] ∧ t.ctr (schedPage 1) 0x10000C = 1 ∧
      t.ctr (schedPage 1) 0x10000D = 60)) ∧
    (let s := egrS.post macP 0x10C 0
     s.linkUp macP = false ∧ (run (.outletSelect 1 41) s).queues = []) := by decide +kernel

/-- A running gate list of two entries on outlet 9 of die 1. -/
def gatS (t : Nat) : State :=
  let x : Outlet := { gateEn := true, running := true, run := 0x00020000, runCycle := 1000 }
  { s0 with ptime := BitVec.ofNat 64 t, gates := [(8192, 0x640000000F), (8193, 0x64000000F0)], outlets := [(256 + 9, x)] }

theorem test_gates : (gatS 100).gateList 1 0x00020000 1000 = [(15, 100), (240, 900)] ∧
    ((run (.gateEntryAdvance 1 9) (gatS 100)).outlet 1 9).entry = 1 ∧
    run (.gateEntryAdvance 1 9) (gatS 99) = gatS 99 ∧ run (.gateEntryAdvance 1 8) (gatS 100) = gatS 100 := by decide +kernel

theorem test_arbiters : (let s := withReg s0 (arbPage 6) 0x180 0xFFFFFFFF
    arbCount 2 = 10 ∧ (s.arb 6 2).reqs = [] ∧ s.tickets 6 2 3 ≠ 0 ∧ s.arbGone 6 2 3 = false ∧
    bit (s.rd (arbPage 6) 0x194) 3 = false ∧
    (let t := run (.arbDraw 6 2 8) s
     t.ctr (arbPage 6) 140 = 1 ∧ (t.arb 6 2).lfsr = lfsrNext 1 ∧ (t.arb 6 2).reqs = [] ∧
     (run (.arbDraw 6 2 0) t).ctrs = t.ctrs) ∧
    (run (.fordGrant 6 2) s).ctr (arbPage 6) 0xC2 = 1 ∧ Admitted s 0 (arbPage 6) 0x190 ∧ s.fastReady (arbPage 6) = true ∧
    ((run (.arbSeed 0 6 2 0xABC) s).arb 6 2).lfsr = 0xABC ∧ (run (.arbSeed 0 6 2 0) s).arbs = []) ∧
    (let s := { s0 with clk := 10000, arbs := [(26, { reqs := [{ r := 3, since := 0, off := some 13000 }, { r := 4, since := 0, off := some 13001 }] })] }
     ((run (.backoffExpire 6 2 3) s).arb 6 2).reqs.map ArbReq.off = [none, some 13001] ∧
     ((run (.backoffExpire 6 2 4) s).arb 6 2).reqs = (s.arb 6 2).reqs ∧ (run (.arbMask 6 2) s).arbs = s.arbs) := by decide +kernel

/-! ### PCIe endpoints -/

/-- Endpoint 9 ready with PERST_N deasserted at 20 ns and the clock at `t`; its link is down. -/
def epS (t : Ns) : State :=
  let s := withReg s0 (epP 9) 0x008 1
  { s with clk := t, pins := { s.pins with perstN := 512 }, omc := { s.omc with released := true, running := true }
           eps := [(9, { deassertAt := some 20 })] }
/-- Its link is up, 16 lanes wide, in flit mode, and it is ready for configuration; PF0 has memory space and bus
mastering, and 32 VFs. -/
def epU : State :=
  let s := ((epS 90000000).post (epP 9) 0x104 0x60000000).post (epL 9) 0x104 0x44000000
  ((s.cfgPut 9 0 0x004 6).cfgPut 9 0 0x168 0x19).cfgPut 9 0 0x170 32

theorem test_perst : epU.pins.perstN.getLsbD 9 = true ∧ s0.pins.perstN.getLsbD 9 = false ∧
    run (.perstAssert 9) s0 = s0 ∧
    (let u := run (.perstDeassert 9) { s0 with clk := 90000000 }
     u.pins.perstN.getLsbD 9 = true ∧ u.pins.wakeN.getLsbD 9 = true ∧ (u.ep 9).deassertAt = some 90000000 ∧
     bit (u.rd (epP 9) 0x104) 31 = false) := by decide +kernel

theorem test_cfg_ready : (epS 80000020).omc.released = true ∧ ((epS 80000020).ep 9).hot = false ∧
    run (.cfgReady 9) (epS 80000019) = epS 80000019 ∧
    bit ((run (.cfgReady 9) (epS 80000020)).rd (epP 9) 0x104) 30 = true ∧
    (run (.cfgReady 9) (epS 80000020)).isSealed almapPage = true := by decide +kernel

theorem test_dl_up : (epS 30).ready (epP 9) = true ∧ (epS 30).pcieRef 9 = true ∧ bit ((epS 30).fr (epP 9) 0x100) 1 = false ∧
    fld ((epS 30).fr (epL 9) 0x100) 26 3 ≤ 1 ∧ fld ((epS 30).fr (epL 9) 0x100) 29 2 ≤ 1 ∧
    (let t := run (.dlUp 9 1 1 false) (epS 30)
     t.dlUp 9 = true ∧ fld (t.rd (epL 9) 0x104) 27 3 = 1 ∧ fld (t.rd (epL 9) 0x104) 22 5 = 8 ∧
     bit (t.rd (epL 9) 0x104) 30 = false ∧ bit ((run (.dlUp 9 0 0 false) (epS 30)).rd (epL 9) 0x104) 30 = true) ∧
    epU.dlUp 9 = true ∧ run (.hotReset 9 false) (epS 30) = epS 30 := by decide +kernel

theorem test_flr : epU.underFlr 9 0 = false ∧ epU.fnEnabled 9 0x12 = true ∧ epU.fnEnabled 9 34 = false ∧
    (let t := run (.vfFlr 9 0x12) epU
     t.underFlr 9 0x12 = true ∧ run (.vfFlr 9 0x12) t = t ∧
     (run (.flrComplete 9 0x12) t).underFlr 9 0x12 = false) ∧
    run (.flrComplete 9 0x12) epU = epU := by decide +kernel

theorem test_ep_reset : Admitted epU 0 (epP 9) 0x100 ∧ midIsOmc 0 = true ∧ run (.epReset 0x2900 9) epU = epU := by decide +kernel

theorem test_power_states : (let t := run (.dStateChange 9 0 true) epU
    t.dState 9 0 = 3 ∧ bit (t.rd (epP 9) 0x140) 0 = true ∧
    (let u := run (.dStateChange 9 1 true) t
     u.pstate 9 = 0 ∧ u.dState 9 1 = 3 ∧
     (let v := run (.linkPmEntry 9 2 false false) u
      v.pstate 9 = 2 ∧ bit (v.rd (epL 9) 0x010) 0 = true ∧ (run (.linkPmExit 9) v).pstate 9 = 0 ∧
      (let w := run (.clkreqNChange 9 true) (v.cfgPut 9 0 0x2B8 2)
       w.pstate 9 = 3 ∧ (run (.clkreqNChange 9 false) w).pstate 9 = 2)))) ∧
    ((run (.linkPmEntry 9 5 false true) epU).ep 9).inL2 = true ∧
    (let s := (withReg epU (epL 9) 0x10C 0x20000000).cfgPut 9 0 0x2D8 0x10
     let t := run (.linkPmEntry 9 1 true false) s
     t.pstate 9 = 1 ∧ fld (t.rd (epL 9) 0x104) 22 5 = 8) ∧
    (let s := epU.setEp 9 { (epU.ep 9) with ltrDue := true }
     .pcieMsg 9 0 "LTR" ∈ (run (.ltrSend 9) s).out ∧ ((run (.ltrSend 9) s).ep 9).ltrDue = false) ∧
    run (.ltrSend 9) (epS 30) = epS 30 := by decide +kernel

theorem test_config : bit (epU.rd (epP 9) 0x104) 30 = true ∧ epU.underFlr 9 0 = false ∧
    tabFind epU.cfg (cfgKey 9 0 0) = none ∧
    run (.configRequest 9 0 0 none) epU = epU.emit (.cfgCpl 9 0 0 false 0xA6401F9C) ∧
    run (.configRequest 9 34 0 none) epU = epU.emit (.pcieMsg 9 34 "UR") ∧
    epU.lockedBy 9 0 0x03C = [] ∧
    (let t := run (.configRequest 9 0 0x03C (some 0x123)) epU
     t.cfgRd 9 0 0x03C = (epU.cfgRd 9 0 0x03C &&& ~~~cfgMask 0 0x03C) ||| (0x123 &&& cfgMask 0 0x03C)) ∧
    (let s := epU.post (epP 9) 0x104 0x20000000
     run (.configRequest 9 0 0 none) s = s.emit (.cfgCpl 9 0 0 true 0)) := by decide +kernel

/-- A read of 8 bytes waits at endpoint 9. -/
def hrw : HRead := { ep := 9, fn := 0, addr := 64, len := 8, client := .dmaSrc 5 0 0 }
/-- It waits. -/
def rdS : State := { epU.cfgPut 9 0 0x078 0x1000 with hwait := [hrw] }

theorem test_host_read : rdS.mayRead 9 0 = true ∧ rdS.tagSpace 9 0 = (256, 768) ∧
    (let t := run (.hostReadIssue 9 0x1A3) rdS
     t.hreads = [(tagKey 9 0x1A3, { hrw with at_ := 90000000 })] ∧ t.hwait = [] ∧
     t.out = [.hostRead 9 0 0x1A3 64 8] ∧
     (let u := run (.hostCompletion 9 0x1A3 0 0 false 0 [1, 2, 3, 4, 5, 6, 7, 8]) t
      u.hreads = [] ∧ u.arrived = [{ client := .dmaSrc 5 0 0, off := 0, status := 0, data := [1, 2, 3, 4, 5, 6, 7, 8] }]) ∧
     ((tabFind (run (.hostCompletion 9 0x1A3 0 0 false 0 [1]) t).hreads (tagKey 9 0x1A3)).map HRead.got) = some [1] ∧
     (run (.hostCompletion 9 0x1A3 0 1 false 0 []) t).arrived.map Arrived.status = [7] ∧
     (run (.hostCompletion 9 0x1A3 0 0 true 0 []) t).arrived.map Arrived.status = [8] ∧
     (run (.hostCompletion 9 0x1A4 0 0 false 0 []) t).ctr (epPage 9 0) 1 = 1 ∧
     t.cplTimeout 9 0 = 45000000 ∧ run (.hostReadTimeout 9 0x1A3) t = t ∧
     (let u := run (.hostReadTimeout 9 0x1A3) { t with clk := 135000000 }
      u.arrived.map Arrived.status = [2] ∧ u.ctr (epPage 9 0) 0 = 1 ∧
      run (.tagQuarantineEnd 9 0x1A3) { u with clk := 224999999 } = { u with clk := 224999999 } ∧
      (run (.tagQuarantineEnd 9 0x1A3) { u with clk := 225000000 }).hreads = [])) ∧
    run (.hostReadIssue 9 0x1A3) epU = epU := by decide +kernel

/-- Every tag of endpoint 9 without extended tags is held. -/
def fullTags : State :=
  { (rdS.cfgPut 9 0 0x078 0) with hreads := (List.range 256).map fun i => (tagKey 9 i, hrw) }

theorem test_host_read_full : fullTags.tagSpace 9 0 = (0, 256) ∧ (fullTags.epReads 9).length = 256 ∧
    (let t := run (.hostReadIssue 9 5) fullTags
     t.ctr (epPage 9 0) 4 = 1 ∧ t.hreads = fullTags.hreads ∧ run (.hostReadIssue 9 5) t = t) := by decide +kernel

theorem test_doe_ide : epU.omc.running = true ∧ (run (.doeObject 9 0 [0] .none) epU).out.length = 1 ∧
    (let s := epU.post secPage 0x104 3
     s.alarmLevel = 3 ∧ run (.doeObject 9 2 [1] .none) s = s.emit (.reply "doe" [0x13, 0x7F])) ∧
    run (.doeObject 9 2 [1] .none) (epS 30) = epS 30 ∧
    (let s := epU.setEp 9 { (epU.ep 9) with ide := [(4, true)] }
     let t := run (.ideCheckFail 9 true 4) s
     tabFind (t.ep 9).ide 4 = some false ∧ bit (t.rd (epPage 9 3) 0x010) 0 = true ∧
     run (.ideCheckFail 9 true 4) t = t) := by decide +kernel

theorem test_doe_too_long : (List.replicate 65537 (0 : Byte)).length = 65537 := List.length_replicate

/-- VF 0x12 of endpoint 9 has a running instance. -/
def tdiS : State := epU.post (instPage 9 0x12 0) 0x104 1

theorem test_tdisp : tdiS.fnEnabled 9 0x12 = true ∧ tdiS.tdi 9 0x12 = 0 ∧ tdiS.instSt 9 0x12 = 1 ∧
    run (.startInterface 9 0x12) tdiS = tdiS.emit (.reply "tdisp-error" [0x12]) ∧
    run (.getDeviceInterfaceState 9 0x12) tdiS = tdiS.emit (.reply "tdisp-state" [0]) ∧
    run (.getTdispVersion 9) tdiS = tdiS.emit (.reply "tdisp-version" [1, 0x10]) ∧
    (run (.getTdispCapabilities 9) tdiS).out.length = 1 ∧
    (let t := run (.lockInterface 9 0x12 4) tdiS
     t.tdi 9 0x12 = 1 ∧ t.rdFld (epPage 9 3) 0x248 0 8 = 4 ∧
     run (.lockInterface 9 0x12 4) t = t.emit (.reply "tdisp-error" [0x12]) ∧
     (run (.getDeviceInterfaceReport 9 0x12) t).out.length = t.out.length + 1 ∧
     (run (.startInterface 9 0x12) t).tdi 9 0x12 = 2 ∧
     (let u := t.post (instPage 9 0x12 0) 0x104 0
      u.instSt 9 0x12 = 0 ∧ (run (.stopInterface 9 0x12) u).tdi 9 0x12 = 0)) := by decide +kernel

theorem test_peer_window_commit : Admitted s0 0 (pwinPage 2) 0x104 ∧ s0.fastReady (pwinPage 2) = true ∧
    bit (s0.rd (pwinPage 2) 0x108) 31 = true ∧
    (let t := run (.pwinCommit 0 2) s0
     bit (t.rd (pwinPage 2) 0x108) 30 = true ∧
     (let u := run (.pwinBankSwitch 2) t
      u.rd (pwinPage 2) 0x100 = 1 ∧ bit (u.rd (pwinPage 2) 0x108) 30 = false ∧ bit (u.rd (pwinPage 2) 0x010) 0 = true ∧
      run (.pwinBankSwitch 2) u = u)) ∧
    (let s := s0.post (pwinPage 2) 0x108 0
     bit ((run (.pwinCommit 0 2) s).rd (pwinPage 2) 0x108) 29 = true) := by decide +kernel

/-! ### Instances and mailboxes -/

/-- The parameter of PF0 of endpoint 9 for VF 0x12: 8 work rings, 4 completion rings, 256 contexts from 0x440100 (R307's
example), with pools of 4,096 and 2,048 rings and 65,536 contexts from 0x440000. -/
def creS : State :=
  let p := iadmPage 9 0
  let s := (((epU.post p 0x110 0x12).post p 0x11C 8).post p 0x120 4).post p 0x124 0x440100
  let s := ((s.post p 0x128 256).post p 0x140 0x10001000).post p 0x144 0x08000800
  ((s.post p 0x148 0x440000).post p 0x14C 65536).post p 0x150 65536

theorem test_create : Admitted creS 0x2900 (iadmPage 9 0) 0x114 ∧ creS.managerStopped 0x2900 9 0x12 = false ∧
    creS.ofPf 9 0 0x12 = true ∧ creS.instSt 9 0x12 = 0 ∧ creS.windows = [] ∧
    (let t := run (.create 0x2900 9 0) creS
     t.rd (iadmPage 9 0) 0x118 = 0x40000000 ∧ t.instSt 9 0x12 = 1 ∧ t.rd (ictlPage 9 0x12) 0x108 = 0x80004 ∧
     t.rd (instPage 9 0x12 2) 0x100 = 0x440100 ∧ t.rd (instPage 9 0x12 2) 0x104 = 256 ∧
     t.rdFld (iadmPage 9 0) 0x140 16 14 = 4088 ∧ t.rdFld (iadmPage 9 0) 0x144 16 13 = 2044 ∧
     t.rdFld (iadmPage 9 0) 0x150 0 18 = 65280 ∧
     (run (.create 0x2900 9 0) t).rd (iadmPage 9 0) 0x118 = 0x40000002 ∧
     (let u := run (.iadmQuery 0x2900 9 0) (t.post (iadmPage 9 0) 0x11C 0)
      u.rd (iadmPage 9 0) 0x11C = 8 ∧ u.rd (iadmPage 9 0) 0x128 = 256)) ∧
    (run (.create 0x2900 9 0) (creS.post (iadmPage 9 0) 0x11C 4097)).rd (iadmPage 9 0) 0x118 = 0x40000009 ∧
    (run (.create 0x2900 9 0) (creS.post (iadmPage 9 0) 0x140 0x00070007)).rd (iadmPage 9 0) 0x118 = 0x40000005 ∧
    (run (.iadmQuery 0x2900 9 0) creS).rd (iadmPage 9 0) 0x118 = 0x40000003 := by decide +kernel

/-- VF 0x12 of endpoint 9 has an instance in state `st`, whose drain has cause `cause`. -/
def insS (st cause : Nat) : State :=
  creS.post (ictlPage 9 0x12) 0x104 (BitVec.ofNat 32 (st + cause * 2 ^ 20 + (if cause = 4 then 2 else 1) * 2 ^ 24))

theorem test_enable : Admitted (insS 1 0) 0x2912 (ictlPage 9 0x12) 0x100 ∧
    (insS 1 0).managerStopped 0x2912 9 0x12 = false ∧ (insS 1 0).instSt 9 0x12 = 1 ∧
    (let t := run (.ictlEnable 0x2912 9 0x12 true) (insS 1 0)
     t.instSt 9 0x12 = 2 ∧ t.rd (ictlPage 9 0x12) 0x100 = 1) ∧
    (let t := run (.ictlEnable 0x2912 9 0x12 true) (insS 0 0)
     t.instSt 9 0x12 = 0 ∧ bit (t.rd (ictlPage 9 0x12) 0x104) 29 = true ∧ t.ctr (ictlPage 9 0x12) 0 = 1) := by
  decide +kernel

theorem test_drains : (insS 3 4).instSt 9 0x12 = 3 ∧ (insS 2 0).instSt 9 0x12 = 2 ∧
    (insS 2 0).managerStopped 0x2900 9 0x12 = false ∧ Admitted (insS 2 0) 0x2900 (iadmPage 9 0) 0x114 ∧
    (run (.destroy 0x2900 9 0) (insS 3 4)).rd (iadmPage 9 0) 0x118 = 0x40000008 ∧
    (run (.quiesce 0x2900 9 0) (insS 1 0)).rd (iadmPage 9 0) 0x118 = 0x40000008 ∧
    (insS 3 2).instQuiet 9 0x12 = true ∧ (insS 3 2).rdFld (ictlPage 9 0x12) 0x104 20 4 = 2 ∧ ((insS 3 2).ep 9).late = [] ∧
    (run (.drainEnd 9 0x12) (insS 3 2)).instSt 9 0x12 = 1 ∧ run (.drainEnd 9 0x12) (insS 2 0) = insS 2 0 ∧
    (insS 3 4).instQuiet 9 0x12 = true := by decide +kernel

theorem test_pool_write : Admitted s0 0 (iadmPage 9 0) 0x140 ∧ midIsOmc 0 = true ∧
    s0.rdFld (iadmPage 9 0) 0x140 16 14 = s0.rdFld (iadmPage 9 0) 0x140 0 14 ∧
    (let v : Reg := BitVec.ofNat 32 (8192 - s0.rdFld (iadmPage 9 1) 0x140 0 14)
     let t := run (.poolWrite 0 9 0 0 v) s0
     t.rdFld (iadmPage 9 0) 0x140 0 14 = v.toNat ∧ t.rdFld (iadmPage 9 0) 0x140 16 14 = v.toNat) ∧
    (let s := s0.post (iadmPage 9 0) 0x140 0x00070008
     (run (.poolWrite 0 9 0 0 5) s).rd (iadmPage 9 0) 0x140 = 0x00070008) ∧
    (run (.poolWrite 0x2900 9 0 0 5) s0).rd lbusPage 0x10C =
      BitVec.ofNat 32 (0x2900 * 65536 + (unitPath (iadmPage 9 0)).toNat) := by decide +kernel

/-- The mailbox page of VF 0x12 of endpoint 9. -/
def mbP : PageKey := instPage 9 0x12 1

theorem test_mailbox : Admitted (insS 2 0) 0x2912 mbP 0x100 ∧ (insS 2 0).mailRole 0x2912 mbP 0x100 true = true ∧
    (insS 2 0).mailRole 0x2900 mbP 0x100 true = false ∧ (insS 2 0).mailRole 0x2900 mbP 0x100 false = true ∧
    (let t := run (.msgWrite 0x2912 mbP 0x100 15 0xABCD) (insS 2 0)
     t.rd mbP 0x13C = 0xABCD ∧ t.halfFull mbP 0x100 = false ∧
     (let u := run (.send 0x2912 mbP 0x100 3) t
      u.halfFull mbP 0x100 = true ∧ fld (u.rd mbP 0x144) 0 4 = 3 ∧ bit (u.rd (mbxwPage 9 0) 0x010) 0 = true ∧
      bit (u.rd mbP 0x144) 30 = false ∧ bit ((run (.send 0x2912 mbP 0x100 3) u).rd mbP 0x144) 30 = true ∧
      bit ((run (.msgWrite 0x2912 mbP 0x100 0 1) u).rd mbP 0x144) 30 = true ∧
      (let v := run (.take 0x2900 mbP 0x100) u
       v.out.head? = some (.readData 0x2900 (rkey mbP 0x148) 0x80000003) ∧ v.halfFull mbP 0x100 = false ∧
       bit (v.rd mbP 0x010) 1 = true ∧
       run (.take 0x2900 mbP 0x100) v = v.emit (.readData 0x2900 (rkey mbP 0x148) 0)))) ∧
    (run (.msgWrite 0x2900 mbP 0x100 0 1) (insS 2 0)).rd mbP 0x100 = 0 := by decide +kernel

/-- Both halves of the mailbox became FULL at 100 ns; the clock is at `t`. -/
def crossS (t : Ns) : State :=
  let s := ((insS 2 0).post mbP 0x144 0x80000001).post mbP 0x1A4 0x80000001
  { s with clk := t, bothFull := [(rkey mbP 0x100, 100)] }

theorem test_cross : tabFind (crossS 1101).bothFull (rkey mbP 0x100) = some 100 ∧ run (.cross mbP 0x100) (crossS 1100) = crossS 1100 ∧
    run (.cross mbP 0x160) (insS 2 0) = insS 2 0 ∧
    (let t := run (.cross mbP 0x160) (crossS 1101)
     bit (t.rd mbP 0x144) 29 = true ∧ bit (t.rd mbP 0x1A4) 29 = true ∧ bit (t.rd mbP 0x010) 2 = true ∧
     bit (t.rd (mbxwPage 9 0) 0x010) 2 = true) := by decide +kernel

theorem test_retract : (let s := (crossS 0).post (mbxwPage 9 0) 0x110 0x12
    Admitted s 0x2900 (mbxwPage 9 0) 0x114 ∧ s.pfOf 9 0x12 = 0 ∧
    (let t := run (.mbxwRetract 0x2900 9 0) s
     t.halfFull mbP 0x160 = false ∧ t.halfFull mbP 0x100 = true ∧ t.ctr (mbxwPage 9 0) 0 = 1)) := by decide +kernel

/-- Binding 5, of general channel 5 of PF0 of endpoint 0, is to be written. -/
def bndS : State := withReg s0 bindPage 0x100 5

theorem test_bind : RecordReady bndS 0 bindPage 0x104 ∧ bndS.waiting bindPage = false ∧
    bindOk 5 0x20000005 = true ∧ bindOk 5 0x20010005 = false ∧
    (let s := withReg bndS bindPage 0x108 0x20000005
     (run (.bindWrite 0) s).binds = [(5, 0x20000005)] ∧ (run (.bindWrite 0) s).rd bindPage 0x104 = 0) ∧
    (run (.bindWrite 0) (withReg bndS bindPage 0x108 0x20010005)).rd bindPage 0x104 = 0x100 ∧
    (let s := { bndS.post bindPage 0x028 1 with binds := [(5, 9)] }
     s.isSealed bindPage = true ∧ (run (.bindWrite 0) s).rd bindPage 0x104 = 0x200 ∧
     (run (.bindRead 0) s).rd bindPage 0x108 = 9) := by decide +kernel

/-! ### Rings -/

/-- VF 0x12 of endpoint 9 runs with 8 work rings and 4 completion rings, and completion ring 0x8001 has 1,024 entries. -/
def rgS : State :=
  let s := ((insS 2 0).post (ictlPage 9 0x12) 0x108 0x80004).cfgPut 9 0x12 0x004 4
  { s with crings := [(ringKey 9 0x12 0x8001, { en := true, log2 := 10, base := 0x20000 })] }
/-- Its port 0 holds the record of work ring 3: TX, 512 entries at 0x10000, completing to 0x8001. -/
def rcS : State :=
  let p := instPage 9 0x12 4
  withReg (withReg (withReg rgS p 0x100 3) p 0x110 0x10000) p 0x118 0x80908001

theorem test_ring_write : RecordReady rcS 0x2912 (instPage 9 0x12 4) 0x104 ∧ rcS.grantWr 9 0x12 = 8 ∧
    (rcS.wring (ringKey 9 0x12 3)).idle = true ∧ rcS.bound (ringKey 9 0x12 0x8001) = 0 ∧
    (let t := run (.rcfgWrite 0x2912 9 0x12 0) rcS
     t.wring (ringKey 9 0x12 3) = { base := 0x10000, en := true, idle := false, log2 := 9, cq := 0x8001 } ∧
     t.rd (instPage 9 0x12 4) 0x104 = 0 ∧
     (run (.rcfgRead 0x2912 9 0x12 0) (withReg t (instPage 9 0x12 4) 0x110 0)).fr (instPage 9 0x12 4) 0x110 = 0x10000) ∧
    (run (.rcfgWrite 0x2912 9 0x12 0) (withReg rcS (instPage 9 0x12 4) 0x100 8)).rd (instPage 9 0x12 4) 0x104 = 0x100 ∧
    (run (.rcfgWrite 0x2912 9 0x12 0) (withReg rcS (instPage 9 0x12 4) 0x110 64)).rd (instPage 9 0x12 4) 0x104 = 0x400 ∧
    (run (.rcfgWrite 0x2912 9 0x12 0) (rcS.post (ictlPage 9 0x12) 0x104 3)).rd (instPage 9 0x12 4) 0x104 = 0x600 ∧
    (let s := withReg rcS (instPage 9 0x12 4) 0x100 0x8001
     (run (.rcfgRead 0x2912 9 0x12 0) s).fr (instPage 9 0x12 4) 0x110 = 0x20000) := by decide +kernel

/-- Work ring 3 with indexes as in R335's example (C 0xFF00, P 0x0100, 1,024 entries); completion ring with C 4, P 6. -/
def dbS : State :=
  { rgS with wrings := [(ringKey 9 0x12 3, { en := true, idle := false, log2 := 10, cq := 0x8001, c := 0xFF00, f := 0x0100, p := 0x0100, base := 0x10000 })]
             crings := [(ringKey 9 0x12 0x8001, { en := true, log2 := 10, base := 0x20000, c := 4, p := 6 })] }

theorem test_doorbell : Admitted dbS 0x2912 (instPage 9 0x12 15) 0x100 ∧
    doorbellCase 0xFF00 0x0100 0x0300 0x02FF 1024 = 0 ∧ doorbellCase 0xFF00 0x0100 0x0300 0x00F0 1024 = 1 ∧
    doorbellCase 0xFF00 0x0100 0x0300 0x0301 1024 = 2 ∧
    ((run (.doorbell 0x2912 9 0x12 7 0x3000002FF) dbS).wring (ringKey 9 0x12 3)).p = 0x2FF ∧
    (run (.doorbell 0x2912 9 0x12 7 0x3000000F0) dbS).ctr (instPage 9 0x12 4) 4 = 1 ∧
    (let t := run (.doorbell 0x2912 9 0x12 7 0x300000301) dbS
     t.wrings = dbS.wrings ∧ t.ctr (ictlPage 9 0x12) 4 = 1 ∧ bit (t.rd (ictlPage 9 0x12) 0x010) 2 = true) ∧
    ((run (.doorbell 0x2912 9 0x12 7 0x800100000006) dbS).cring (ringKey 9 0x12 0x8001)).c = 6 ∧
    (run (.doorbell 0x2912 9 0x12 7 0x400000001) dbS).ctr (instPage 9 0x12 4) 3 = 1 ∧
    (run (.doorbell 0x2912 9 0x12 7 0x3000002FF) (dbS.post (ictlPage 9 0x12) 0x104 3)).ctr (ictlPage 9 0x12) 1 = 1 := by
  decide +kernel

/-- Work ring 3 has 5 entries posted. -/
def ftS : State :=
  { rgS with wrings := [(ringKey 9 0x12 3, { en := true, idle := false, log2 := 10, cq := 0x8001, p := 5, base := 0x10000 })] }

theorem test_desc_fetch : ftS.moverRings 4 = [ringKey 9 0x12 3] ∧ ftS.ringLive (ringKey 9 0x12 3) = true ∧
    (ftS.wring (ringKey 9 0x12 3)).wants = 5 ∧ (ftS.cring (ringKey 9 0x12 0x8001)).slots = 1024 ∧
    (let t := run (.descFetch 4) ftS
     (t.wring (ringKey 9 0x12 3)).inFetch = 5 ∧ (t.cring (ringKey 9 0x12 0x8001)).reserved = 5 ∧
     t.hwait.map (fun r => (r.addr, r.len)) = [(0x10000, 320)] ∧ tabGet 0 t.lastRing 4 = ringKey 9 0x12 3 ∧
     (let d := zeros 63 ++ [0x80] ++ zeros 256
      let u := { t with hwait := [], arrived := [{ client := .desc (ringKey 9 0x12 3) 0 5, off := 0, status := 0, data := d }] }
      (u.takeRead (.desc (ringKey 9 0x12 3) 0 5) 320).1 = some (0, d) ∧
      ((run (.descFetch 4) u).wring (ringKey 9 0x12 3)).fetched = [{ idx := 0, bytes := zeros 63 ++ [0x80] }] ∧
      ((run (.descFetch 4) u).wring (ringKey 9 0x12 3)).stallAt = some 90000000)) ∧
    run (.descFetch 5) ftS = ftS := by decide +kernel

theorem test_desc_refetch : (let s (t : Ns) := { ftS with clk := t, wrings := ftS.wrings.map fun w => (w.1, { w.2 with stall := true, stallAt := some 500 }) }
    run (.descRefetch 9 0x12 3) (s 1499) = s 1499 ∧
    ((run (.descRefetch 9 0x12 3) (s 1500)).wring (ringKey 9 0x12 3)).inFetch = 1 ∧
    ((run (.descRefetch 9 0x12 3) ((s 1500).post (ictlPage 9 0x12) 0x104 1)).wring (ringKey 9 0x12 3)).retried = true) ∧
    run (.descRefetch 9 0x12 3) ftS = ftS := by decide +kernel

/-- A completion ring of VF 0x12 with one unsignalled entry since 1,000 ns, moderated by slot 2, 50 × 100 ns. -/
def irqS (t : Ns) : State :=
  let s := (rgS.post (instPage 9 0x12 3) 0x214 50).cfgPut 9 0x12 0x090 0x801F0011
  let s := ((s.post (instPage 9 0x12 30) 0x130 0xFEE00000).post (instPage 9 0x12 30) 0x138 0x41).post (instPage 9 0x12 30) 0x13C 0
  { s with clk := t, crings := [(ringKey 9 0x12 0x8001, { en := true, log2 := 10, armed := true, unsig := 1, oldest := 1000, slot := 2, vector := 3 })] }

theorem test_irq_timer : (irqS 6000).isNvme 9 0x12 = false ∧ run (.irqTimer 9 0x12 0x8001) (irqS 5999) = irqS 5999 ∧
    (let t := run (.irqTimer 9 0x12 0x8001) (irqS 6000)
     (t.cring (ringKey 9 0x12 0x8001)).unsig = 0 ∧ (t.cring (ringKey 9 0x12 0x8001)).armed = false ∧
     .msix 9 0x12 3 0xFEE00000 0x41 ∈ t.out) ∧
    (let c : NvCq := { base := 0, size := 16, ien := true, unsig := 1, oldest := 0, vector := 1 }
     let s := { irqS 1000000 with nvs := [(9 * 256 + 1, { cqs := [(1, c)], feats := [(0x08, 0x0100)] })] }
     s.isNvme 9 1 = true ∧ (s.nv 9 1).coalesce 1 c = (1, 1000) ∧
     tabFind ((run (.irqTimer 9 1 1) s).nv 9 1).cqs 1 = some { c with armed := false, unsig := 0 }) ∧
    (let s := { rgS with wrings := [(ringKey 9 0x12 3, { idle := false })] }
     ((run (.ringIdle 9 0x12 3) s).wring (ringKey 9 0x12 3)).idle = true ∧ run (.ringIdle 9 0x12 3) ftS = ftS) := by
  decide +kernel

/-! ### Descriptors -/

/-- A SEND of 60 bytes at 0x3000 and a receive buffer of 2,048 bytes at 0x4000. -/
def sendB : List Byte := [1, 0, 0, 0, 60, 0, 1, 0, 0, 0, 0, 0, 0, 0, 0, 0] ++ leBytes 8 0x3000 ++ leBytes 4 60 ++ zeros 35 ++ [0x80]
/-- The buffer. -/
def rxB : List Byte := [0x10, 0, 7, 0, 0, 8, 0, 0] ++ leBytes 8 0x4000 ++ zeros 47 ++ [0x80]
/-- A ring of VF 0x12 with one fetched descriptor. -/
def dsS (rx : Bool) (b : List Byte) : State :=
  { rgS with wrings := [(ringKey 9 0x12 3, { en := true, idle := false, rx := rx, log2 := 10, cq := 0x8001, p := 1, f := 1,
                                              heldN := 1, base := 0x10000, fetched := [{ idx := 0, bytes := b }] })] }

theorem test_rx_buf : rxBad ((dsS true rxB).wring (ringKey 9 0x12 3)) rxB = false ∧
    ((run (.rxBuf 9 0x12 3) (dsS true rxB)).wring (ringKey 9 0x12 3)).pref = [{ idx := 0, desc := 7, addr := 0x4000, len := 2048 }] ∧
    rxBad ((dsS true sendB).wring (ringKey 9 0x12 3)) sendB = true ∧ (dsS true sendB).drainMode 9 0x12 ≠ 3 ∧
    (run (.rxBuf 9 0x12 3) (dsS true sendB)).cqes.map (fun c => leAt c.cqe 2 1) = [5] ∧
    run (.sendDesc 9 0x12 3) (dsS true rxB) = dsS true rxB ∧ run (.rxBuf 9 0x12 3) (dsS false sendB) = dsS false sendB ∧
    run (.rxBuf 9 0x12 3) ftS = ftS := by decide +kernel

theorem test_send : (dsS false sendB).sendCheck (ringKey 9 0x12 3) sendB = 0 ∧
    (dsS false rxB).sendCheck (ringKey 9 0x12 3) rxB = 5 ∧
    (run (.sendDesc 9 0x12 3) (dsS false rxB)).cqes.map (fun c => leAt c.cqe 2 1) = [5] ∧
    (let t := run (.sendDesc 9 0x12 3) (dsS false sendB)
     (tabFind t.txs 0).map TxRec.asked = some true ∧ t.txNext = 1 ∧
     t.hwait.map (fun r => (r.addr, r.len)) = [(0x3000, 60)] ∧
     (let u := { t with hwait := [], arrived := [{ client := .payload 0 0, off := 0, status := 0, data := frame60 }] }
      let v := run (.sendDesc 9 0x12 3) u
      (v.fifo (epSource 9)).ord.map (fun x => (x.src, x.tx)) = [(hostSrc 9 0x12, some 0)] ∧ v.bufs.length = 1 ∧
      (v.wring (ringKey 9 0x12 3)).fetched = [])) := by decide +kernel

/-- The SEND of `dsS` has its payload. -/
def paidS : State :=
  let x : TxRec := { ring := ringKey 9 0x12 3, idx := 0, sqe := sendB, want := [(0, 0x3000, 60)], parts := [(0, frame60)], listed := true, asked := true }
  { dsS false sendB with txs := [(0, x)], txNext := 1 }

theorem test_send_paid : paidS.txs.find? (fun t => t.2.ring == ringKey 9 0x12 3 && t.2.idx == 0 && !t.2.sent) = paidS.txs.head? ∧
    (paidS.bufArrive 1 frame60 false none (some 0)).1 = some (2 ^ 32) ∧
    ((run (.sendDesc 9 0x12 3) paidS).fifo (epSource 9)).ord.map Frame.buf = [2 ^ 32] := by decide +kernel

/-- A SEND_TLS of 64 bytes with a 54-byte header and a 5-byte record header; its context 0 is TLS transmit. -/
def tlsB : List Byte := [2, 0, 0, 0, 64, 0, 1, 0, 0, 0, 54, 0, 0, 4, 0, 0] ++ leBytes 8 0x3000 ++ leBytes 4 64 ++ zeros 35 ++ [0x80]
/-- Its payload has arrived. -/
def tlsS : State :=
  let x : TxRec := { ring := ringKey 9 0x12 3, idx := 0, sqe := tlsB, want := [(0, 0x3000, 64)], parts := [(0, zeros 64)], listed := true, asked := true }
  let c : KeyCtx := { st := 1, proto := 3, alg := 1, usage := 0, limit := 100, soft := 90, owner := BitVec.ofNat 32 (0x10000000 + 9 * 65536 + 0x12 * 256) }
  let s := ((dsS false tlsB).post (instPage 9 0x12 2) 0x100 0x440100).post (instPage 9 0x12 2) 0x104 8
  { [4, 5, 6, 7].foldl (fun s r => withReg s (ciphPage r) 0x104 0x80000000) s with
    txs := [(0, x)], txNext := 1, ctxs := [(0x440100, c)] }

theorem test_send_tls : tlsS.sendCheck (ringKey 9 0x12 3) tlsB = 0 ∧ tlsS.eclipsed = false ∧ tlsS.descCtx (ringKey 9 0x12 3) tlsB = 0x440100 ∧
    scopeAdmits (tlsS.ctx 0x440100).owner (hostSrc 9 0x12) none = true ∧
    (match (tlsS.ctxStart 4 0x440100 true).1 with | .inr m => m == 0x440100 | _ => false) = true ∧
    (tlsS.post secPage 0x104 4).eclipsed = true ∧
    (run (.sendTls 9 0x12 3) (tlsS.post secPage 0x104 4)).cqes.map (fun c => leAt c.cqe 2 1) = [0x0F] := by decide +kernel

/-- A completion of the ring's entry 0 is owed. -/
def cqS : State :=
  { dsS false sendB with cqes := [{ ring := ringKey 9 0x12 3, idx := 0, cqe := zeros 32 }]
                         crings := [(ringKey 9 0x12 0x8001, { en := true, log2 := 10, base := 0x20000, reserved := 1 })] }

theorem test_cqe_write : cqS.mayRead 9 0x12 = true ∧
    (let t := run (.cqeWrite 9) cqS
     t.cqes = [] ∧ .hostWrite 9 0x12 0x1003F [0] ∈ t.out ∧ .hostWrite 9 0x12 0x20000 (zeros 32) ∈ t.out ∧
     (t.wring (ringKey 9 0x12 3)).heldN = 0 ∧ (t.cring (ringKey 9 0x12 0x8001)).p = 1 ∧
     (t.cring (ringKey 9 0x12 0x8001)).reserved = 0 ∧ t.ctr (instPage 9 0x12 4) 1 = 1 ∧ run (.cqeWrite 9) t = t) := by
  decide +kernel

/-- A frame for VF 0x12's ring 3 is selected; the ring has one buffer of 2,048 bytes. -/
def dlS : State :=
  let e : Entry := { dest := 0x69120003, bytes := frame60, buf := 0 }
  { rgS with sel := [(256 + 104, e)]
             wrings := [(ringKey 9 0x12 3, { en := true, idle := false, rx := true, log2 := 10, cq := 0x8001, heldN := 1,
                                              pref := [{ idx := 0, desc := 7, addr := 0x4000, len := 2048 }] })] }

theorem test_rx_deliver : epOutlet 9 = (1, 104) ∧ dlS.resolveDest 0x69120003 = some (.host 9 0x12 3) ∧
    dlS.rxRing 9 0x12 3 = some (ringKey 9 0x12 3) ∧
    (let t := run (.rxDeliver 9) dlS
     t.sel = [] ∧ (t.wring (ringKey 9 0x12 3)).pref = [] ∧ .hostWrite 9 0x12 0x4000 frame60 ∈ t.out ∧
     t.cqes.map (fun c => (c.ring, c.idx)) = [(ringKey 9 0x12 3, 0)] ∧ run (.rxDeliver 9) t = t) ∧
    (let s := { dlS with wrings := dlS.wrings.map fun w => (w.1, { w.2 with pref := [] }) }
     (run (.rxDeliver 9) s).ctr (instPage 9 0x12 4) 5 = 1) ∧
    (run (.rxDeliver 9) { dlS with wrings := [] }).ctr (instPage 9 0x12 4) 6 = 1 := by decide +kernel

/-! ### DMA movers -/

/-- Channel 21 of region 6 in message mode (R355's example), bound to channel 3 of cluster 53, with a request. -/
def dmaS (d : List Byte) : State :=
  let s := withReg s0 (dmachPage 6 21) (dmachOff 21) 0x80003F00
  { withReg s (chanPage 53) 0x218 0x40200015 with ureqs := [ureq d] }
/-- A descriptor: operation, length, source and destination addresses, and their target words. -/
def dmaD (op n src dst ws wd : Nat) : List Byte :=
  leBytes 4 op ++ leBytes 4 n ++ leBytes 8 src ++ leBytes 8 dst ++ leBytes 4 ws ++ leBytes 4 wd ++ zeros 32
/-- OMC memory as a target. -/
def omcT : Nat := 0xA0000000
/-- How the transfer of channel 21 of region 6 has ended: status, flags and offset. -/
def ended (t : State) : Option (Bool × Nat × Nat × Nat) :=
  (t.dma 6 21).xfer.map fun x => (x.finished, x.status, x.rflags, x.offset)

theorem test_dma_request : dmaMid 6 21 = 0x6195 ∧
    (let d := dmaD 2 8 0x1122334455667788 0x101 0 omcT
     let s := dmaS d
     s.dmaRing 6 21 = false ∧ DmaReady s 6 ∧ s.dmaNext 6 21 = some (d, some (ureq d)) ∧ (s.dmaCheck 6 21 d (some (ureq d))).1 = 0 ∧
     (let t := run (.dmaFill 6 21) s
      ended t = some (true, 0, 0, 0) ∧ t.bytes (omcMem + 0x100) 10 = [0, 0x77, 0x66, 0x55, 0x44, 0x33, 0x22, 0x11, 0x88, 0] ∧
      (let u := run (.dmaComplete 6 21) t
       (u.dma 6 21).xfer = none ∧ u.ctr (dmaPage 6) 85 = 1 ∧ u.ureps.map (fun q => (q.cluster, q.chan, q.words.length)) = [(53, 3, 8)] ∧
       run (.dmaComplete 6 21) u = u)) ∧
     run (.dmaFill 6 21) { s with fences := [.unit (dmaPage 6)] } = { s with fences := [.unit (dmaPage 6)] }) := by decide +kernel

theorem test_dma_refused : (let d := dmaD 2 0 0 0 0 omcT
    dmaBad d = true ∧ dmaRow 2 d = true ∧ ended (run (.dmaFill 6 21) (dmaS d)) = some (true, 5, 0, 0)) ∧
    (let d := dmaD 2 8 0 0 0 omcT
     let s := withReg (dmaS d) (dmachPage 6 21) (dmachOff 21) 0x80001F00
     s.dmaLease 6 21 (some (ureq d)) = none ∧ ended (run (.dmaFill 6 21) s) = some (true, 7, 0, 0)) ∧
    (let s := { dmaS [] with ureqs := [] }
     s.dmaNext 6 21 = none ∧ run (.dmaCopy 6 21) s = s.work 214) := by decide +kernel

theorem test_dma_copy_compare : (let d := dmaD 1 3 0x100 0x102 omcT omcT
    dmaOverlap d = true) ∧
    (let d := dmaD 1 3 0x102 0x100 omcT omcT
     let s := (dmaS d).setBytes (omcMem + 0x100) [1, 2, 3, 4, 5]
     dmaOverlap d = false ∧ piMode d = 0 ∧ digMode d = 0 ∧ tgtSpace omcT = 5 ∧ tgtWrap omcT = 0 ∧
     (let t := run (.dmaCopy 6 21) s
      ended t = some (true, 0, 0, 0) ∧ t.bytes (omcMem + 0x100) 5 = [3, 4, 5, 4, 5])) ∧
    (let d := dmaD 3 3 0x100 0x103 omcT omcT
     ended (run (.dmaCompare 6 21) ((dmaS d).setBytes (omcMem + 0x100) [1, 2, 3, 1, 2, 3])) = some (true, 0, 0, 3) ∧
     ended (run (.dmaCompare 6 21) ((dmaS d).setBytes (omcMem + 0x100) [1, 2, 3, 1, 9, 3])) = some (true, 0, 1, 1)) := by
  decide +kernel

/-- Channel 21 in ring mode over OMC memory at 0x8000, with 64 entries of which `n` are posted. -/
def dmR (n : Nat) : State :=
  let s := withReg (withReg s0 (dmachPage 6 21) (dmachOff 21) 0x91803F00) (dmachPage 6 21) (dmachOff 21 + 8) 0x8000
  { withReg s (dmachPage 6 21) (dmachOff 21 + 0x10) (BitVec.ofNat 32 omcT) with dmas := [(6 * 64 + 21, { prod := n })], clk := 50 }

theorem test_dma_ring : (dmR 1).dmaRing 6 21 = true ∧ ((dmR 1).dmaNext 6 21).isSome = true ∧
    dmaRow 1 (zeros 64) = true ∧
    ((run (.dmaCopy 6 21) (dmR 1)).dma 6 21) = { prod := 1, stall := true, stallAt := some 50 } ∧
    (let t := run (.dmaCopy 6 21) (dmR 1)
     run (.dmachRefetch 6 21) { t with clk := 1049 } = { t with clk := 1049 } ∧
     (run (.dmachRefetch 6 21) { t with clk := 1050 }).dma 6 21 = { prod := 1, stall := true }) ∧
    run (.dmachRefetch 6 21) (dmR 1) = dmR 1 ∧
    Admitted (dmR 0) 0 (dmachPage 6 21) (dmachOff 21 + 0x14) ∧ (dmR 0).fastReady (dmachPage 6 21) = true ∧
    ((run (.dmachDb 0 6 21 64) (dmR 0)).dma 6 21).prod = 64 ∧
    (run (.dmachDb 0 6 21 65) (dmR 0)).dmas = (dmR 0).dmas ∧
    bit ((run (.dmachDb 0 6 21 65) (dmR 0)).rd (dmachPage 6 21) (dmachOff 21 + 0x18)) 29 = true := by decide +kernel

theorem test_dma_control : Admitted (dmR 1) 0 (dmachPage 6 21) (dmachOff 21) ∧
    (let s := (dmR 1).setDma 6 21 { prod := 1, xfer := some { desc := zeros 64 } }
     let t := run (.dmachAbort 0 6 21) s
     bit (s.rd (dmachPage 6 21) (dmachOff 21)) 28 = true ∧ (t.dma 6 21).xfer = none ∧ (t.dma 6 21).halted = true ∧
     t.rdFld (dmachPage 6 21) (dmachOff 21 + 0x18) 30 2 = 2 ∧ t.rdFld (dmachPage 6 21) (dmachOff 21 + 0x18) 16 8 = 1 ∧
     (let u := run (.dmachResume 0 6 21) t
      (u.dma 6 21).halted = false ∧ u.rdFld (dmachPage 6 21) (dmachOff 21 + 0x18) 30 2 = 0)) ∧
    (let t := run (.dmachEnable 0 6 21 0x11803F00) (dmR 1)
     bit (t.dmaReg 6 21 0) 31 = false ∧ t.rdFld (dmachPage 6 21) (dmachOff 21 + 0x18) 30 2 = 0) ∧
    (run (.dmachEnable 0 6 21 0x91803F00) (dmR 1)).dmas = (dmR 1).dmas := by decide +kernel

/-! ### Holquasol words -/

/-- A slot's 64 bits: opcode, D, S1, S2, I and the bits below I; `slotB` is a 56-bit one. -/
def slotA (op d s1 s2 i low : Nat) : Nat := op * 2 ^ 56 + d * 2 ^ 51 + s1 * 2 ^ 46 + s2 * 2 ^ 41 + i * 2 ^ 40 + low
/-- The second slot. -/
def slotB (op d s1 s2 i low : Nat) : Nat := op * 2 ^ 48 + d * 2 ^ 43 + s1 * 2 ^ 38 + s2 * 2 ^ 33 + i * 2 ^ 32 + low
/-- Thread 1 of core 0 of cluster 53 runs at word 16, which holds two slots; gN holds `gs`. -/
def hqS (a b : Nat) (gs : List Word) : State :=
  let x : Thread := { st := 1, pc := 16, on := true, g := gs ++ List.replicate (32 - gs.length) 0 }
  { (withReg s0 (leasePage 53) 0x100 0x80000000).setBytes (csBase 53 + 256) (leBytes 16 (a * 2 ^ 56 + b)) with
    thrs := [(53 * 64 + 1, x)] }
/-- The thread after a command. -/
def after (c : Instr) (s : State) : Thread := (run c s).thr 53 1
/-- Register D after an ALU word of an opcode with sources `a` and `b`. -/
def aluAt (op : Nat) (c : Instr) (a b : Word) : Word :=
  (after c (hqS (slotA op 5 1 2 0 0) 0 [0, a, b])).reg 5

theorem test_word_layout : hqWord 0x26232880000000004001_39C100000001 =
    { stop := false, bar := false, lv := true, lease := 3, zero := true,
      a := { op := 0x23, d := 5, s1 := 2, s2 := 0, i := false, low := 0x40 },
      b := { op := 1, d := 7, s1 := 7, s2 := 0, i := true, low := 1 } } ∧
    (hqWord 0x26232880000000004001_39C100000001).illegal = false := by decide +kernel

theorem test_hq_ready : HqReady (hqS (slotA 1 5 1 2 0 0) 0 [0, 3, 4]) 53 1 (hqWord (slotA 1 5 1 2 0 0 * 2 ^ 56)) ∧
    (let t := run (.add 53 1) (hqS (slotA 1 5 1 2 0 0) (slotB 0x18 6 0 5 0 0) [0, 3, 4, 0, 0, 9])
     (t.thr 53 1).reg 5 = 7 ∧ (t.thr 53 1).reg 6 = 9 ∧ (t.thr 53 1).pc = 17 ∧ (t.thr 53 1).st = 1) ∧
    run (.sub 53 1) (hqS (slotA 1 5 1 2 0 0) 0 []) = hqS (slotA 1 5 1 2 0 0) 0 [] := by decide +kernel

theorem test_alu : aluAt 1 (.add 53 1) (-1) 2 = 1 ∧ aluAt 2 (.sub 53 1) 0 1 = -1 ∧ aluAt 3 (.and 53 1) 12 10 = 8 ∧
    aluAt 4 (.or 53 1) 12 10 = 14 ∧ aluAt 5 (.xor 53 1) 12 10 = 6 ∧ aluAt 6 (.shl 53 1) 1 65 = 2 ∧
    aluAt 7 (.shr 53 1) (-1) 63 = 1 ∧ aluAt 8 (.sar 53 1) (-4) 1 = -2 ∧ aluAt 9 (.cmpeq 53 1) 4 4 = 1 ∧
    aluAt 0xA (.cmpltu 53 1) (-1) 1 = 0 ∧ aluAt 0xB (.cmplt 53 1) (-1) 1 = 1 := by decide +kernel

theorem test_alu_more : aluAt 0xC (.mul 53 1) (-1) (-1) = 1 ∧ aluAt 0xD (.mulhu 53 1) (-1) (-1) = -2 ∧
    aluAt 0xE (.bswap 53 1) 0x0102030405060708 0 = 0x0807060504030201 ∧ aluAt 0xF (.extr 53 1) 0xABCD (8 * 64 + 7) = 0xAB ∧
    aluAt 0x10 (.popc 53 1) (-1) 0 = 64 ∧ aluAt 0x11 (.clz 53 1) 1 0 = 63 ∧ aluAt 0x11 (.clz 53 1) 0 0 = 64 ∧
    aluAt 0x18 (.mov 53 1) 0 9 = 9 := by decide +kernel

theorem test_moves : (after (.movh 53 1) (hqS (slotA 0x19 5 0 0 1 0xFFFFFFFF) 0 [0, 0, 0, 0, 0, 0x1111111122222222])).reg 5 =
      0xFFFFFFFF22222222 ∧
    (after (.cmov 53 1) (hqS (slotA 0x1A 5 1 2 0 0) 0 [0, 0, 4, 0, 0, 9])).reg 5 = 9 ∧
    (after (.cmov 53 1) (hqS (slotA 0x1A 5 1 2 0 0) 0 [0, 1, 4, 0, 0, 9])).reg 5 = 4 ∧
    (after (.mfs 53 1) (hqS (slotA 0x1B 5 1 0 0 0) 0 [])).reg 5 = 0x4D41 ∧
    (after (.mfs 53 1) (hqS (slotA 0x1B 5 4 0 0 0) 0 [])).reg 5 = -1 ∧
    (after (.hqNop 53 1) (hqS 0 0 [7])).pc = 17 ∧ (after (.hqNop 53 1) (hqS 0 0 [7])).reg 0 = 7 ∧
    (let s := { hqS (slotA 1 5 1 2 0 0) 0 [] with csBad := [53 * 32768 + 16] }
     (s.fetchFault 53 1 16 (hqWord (s.csWord 53 16))).isSome = true ∧ (after (.add 53 1) s).st = 6) ∧
    (let s := { hqS (slotA 1 5 1 2 0 0) 0 [] with thrs := [] }
     s.mayIssue 53 1 = false ∧ run (.add 53 1) s = s) := by decide +kernel

/-- A memory word with gS1 = 0x100 and offset 8, gD = `d` and gS2 = `v`; the 8 bytes there are 1 to 8. -/
def memS (op : Nat) (d v : Word) : State :=
  (hqS (slotA op 5 1 2 0 8) 0 [0, 0x100, v, 0, 0, d]).setBytes (cmemBase 53 + 0x108) [1, 2, 3, 4, 5, 6, 7, 8]
/-- The bytes there after a command. -/
def memAfter (c : Instr) (s : State) : List Byte := (run c s).bytes (cmemBase 53 + 0x107) 10

theorem test_loads : memAddr ((memS 0x20 0 0).thr 53 1) (hqWord (slotA 0x20 5 1 2 0 8 * 2 ^ 56)).a = 0x108 ∧
    (memS 0x20 0 0).memFault 53 1 0x20 0x108 = none ∧
    (after (.ld1 53 1 false) (memS 0x20 0 0)).reg 5 = 1 ∧ (after (.ld2 53 1 false) (memS 0x21 0 0)).reg 5 = 0x201 ∧
    (after (.ld4 53 1 false) (memS 0x22 0 0)).reg 5 = 0x4030201 ∧
    (after (.ld8 53 1 false) (memS 0x23 0 0)).reg 5 = 0x807060504030201 ∧
    (after (.ld8 53 1 true) (memS 0x23 0 0)).st = 6 ∧
    (after (.ld8 53 1 false) (hqS (slotA 0x23 5 1 2 0 8) 0 [0, 0x101])).st = 6 ∧
    (after (.ld1 53 1 false) (hqS (slotA 0x20 5 1 2 0 8) 0 [0, 0xFFFF8])).st = 6 ∧
    (after (.ld1 53 1 false) (hqS (slotA 0x20 5 1 2 0 7) 0 [0, 0xFFFF8])).st = 1 := by decide +kernel

theorem test_stores : memAfter (.st1 53 1) (memS 0x24 0xAABBCCDD 0) = [0, 0xDD, 2, 3, 4, 5, 6, 7, 8, 0] ∧
    memAfter (.st2 53 1) (memS 0x25 0xAABBCCDD 0) = [0, 0xDD, 0xCC, 3, 4, 5, 6, 7, 8, 0] ∧
    memAfter (.st4 53 1) (memS 0x26 0xAABBCCDD 0) = [0, 0xDD, 0xCC, 0xBB, 0xAA, 5, 6, 7, 8, 0] ∧
    memAfter (.st8 53 1) (memS 0x27 0xAABBCCDD 0) = [0, 0xDD, 0xCC, 0xBB, 0xAA, 0, 0, 0, 0, 0] ∧
    memAfter (.cas8 53 1) (memS 0x28 0x807060504030201 9) = [0, 9, 0, 0, 0, 0, 0, 0, 0, 0] ∧
    memAfter (.cas8 53 1) (memS 0x28 1 9) = [0, 1, 2, 3, 4, 5, 6, 7, 8, 0] ∧
    (after (.cas8 53 1) (memS 0x28 1 9)).reg 5 = 0x807060504030201 ∧
    memAfter (.fadd8 53 1) (memS 0x29 0 1) = [0, 2, 2, 3, 4, 5, 6, 7, 8, 0] ∧
    (after (.st8 53 1) (hqS (slotA 0x27 5 1 2 0 9) 0 [0, 0x100])).st = 6 := by decide +kernel

/-- A channel word for channel 3, which is a local outbound one (kind 1) with `room` slots; `st` is staged. -/
def chS (op room : Nat) (st : List Word) (inb : Bool) : State :=
  let s := hqS (slotA op 5 1 0 0 3) 0 [0, 77]
  let s := withReg s (chanPage 53) 0x218 (BitVec.ofNat 32 (2 ^ 28 + room * 2 ^ 16 + (if inb then 2 ^ 26 else 0)))
  { s with thrs := s.thrs.map fun x => (x.1, { x.2 with staged := if st = [] then [] else [(3, st)] }) }

theorem test_chw_chc : (chS 0x30 4 [] true).chanFault 53 1 0x30 3 ((chS 0x30 4 [] true).thr 53 1) = none ∧
    (after (.chw 53 1) (chS 0x30 4 [] true)).stagedFor 3 = [77] ∧
    (let s := chS 0x31 4 [8, 9] true
     s.chanFault 53 1 0x31 3 (s.thr 53 1) = none ∧ s.room 53 3 = 4 ∧ s.chanStopped 53 3 = false ∧
     ((run (.chc 53 1) s).chan 53 3).fifo = [{ words := [8, 9], mid := 0x4D41 }] ∧ (after (.chc 53 1) s).staged = []) ∧
    (let t := run (.chc 53 1) (chS 0x31 0 [8, 9] true)
     (t.thr 53 1).st = 3 ∧ (t.chan 53 3).writers = [1] ∧ (t.thr 53 1).stagedFor 3 = [8, 9]) ∧
    (after (.chc 53 1) (chS 0x31 4 [] true)).pc = 17 ∧
    (after (.chw 53 1) (chS 0x30 4 [] false)).st = 6 := by decide +kernel

theorem test_chr_chp : (let s := { chS 0x32 4 [] true with chans := [(53 * 64 + 3, { fifo := [{ words := [8, 9], mid := 5 }] })] }
    s.chanFault 53 1 0x32 3 (s.thr 53 1) = none ∧
    (let t := run (.chr 53 1) s
     (t.thr 53 1).reg 5 = 8 ∧ (t.thr 53 1).reg 6 = 9 ∧ (t.thr 53 1).chs = chsOf { words := [8, 9], mid := 5 } ∧
     (t.chan 53 3).fifo = [])) ∧
    (let t := run (.chr 53 1) (chS 0x32 4 [] true)
     (t.thr 53 1).st = 2 ∧ (t.chan 53 3).readers = [1]) ∧
    (let s := { chS 0x33 4 [] true with chans := [(53 * 64 + 3, { fifo := [{ words := [8] }, { words := [9] }] })] }
     (after (.chp 53 1) s).reg 5 = 2) := by decide +kernel

/-- A UCALL on channel 3, bound to a table unit, with 8 words staged. -/
def ucS : State := withReg (chS 0x34 4 [1, 0, 0, 0, 0, 0, 0, 0] true) (chanPage 53) 0x218 0x30200000

theorem test_ucall : ucS.chanFault 53 1 0x34 3 (ucS.thr 53 1) = none ∧ ucS.unitRoom 53 3 [1, 0, 0, 0, 0, 0, 0, 0] = true ∧
    ucS.isFenced (ucS.unitOf 53 3) = false ∧
    (let t := run (.ucall 53 1) ucS
     t.ureqs.map (fun q => (q.cluster, q.chan, q.mid, q.lease, q.words.length)) = [(53, 3, 0x4D41, none, 8)] ∧
     (t.thr 53 1).st = 2 ∧ (t.chan 53 3).readers = [1] ∧ (t.thr 53 1).staged = []) := by decide +kernel

/-- A page word whose gS1 is the address `a`. -/
def lpS (op a : Nat) : State := hqS (slotA op 5 1 0 0 0) 0 [0, BitVec.ofNat 64 a, 0, 0, 0, 0x55]

theorem test_ldp_stp : (lpS 0x38 (chkPage 53 * 4096 + 0x100)).lanternFault 53 1 (chkPage 53 * 4096 + 0x100) = false ∧
    (after (.ldp 53 1) (lpS 0x38 (chkPage 53 * 4096 + 0x100))).pc = 17 ∧
    (after (.stp 53 1) (lpS 0x39 (chkPage 53 * 4096 + 0x100))).pc = 17 := by decide +kernel

/-- A branch by −3 with gS1 = `a` and gS2 = `b`. -/
def brS (op : Nat) (a b : Word) : State := hqS (slotA op 0 1 2 0 0xFFFD) 0 [0, a, b]

theorem test_branches : (after (.br 53 1) (brS 0x40 0 0)).pc = 13 ∧ (after (.beq 53 1) (brS 0x41 4 4)).pc = 13 ∧
    (after (.beq 53 1) (brS 0x41 4 5)).pc = 17 ∧ (after (.bne 53 1) (brS 0x42 4 5)).pc = 13 ∧
    (after (.bltu 53 1) (brS 0x43 1 (-1))).pc = 13 ∧ (after (.bgeu 53 1) (brS 0x44 1 (-1))).pc = 17 ∧
    (after (.blt 53 1) (brS 0x45 (-1) 1)).pc = 13 ∧ (after (.bge 53 1) (brS 0x46 (-1) 1)).pc = 17 := by decide +kernel

theorem test_call_trap : (after (.call 53 1) (hqS (slotA 0x47 5 0 0 0 0x100) 0 [])).pc = 0x110 ∧
    (after (.call 53 1) (hqS (slotA 0x47 5 0 0 0 0x100) 0 [])).reg 5 = 17 ∧
    (after (.jr 53 1) (hqS (slotA 0x48 0 1 0 0 0) 0 [0, 0x8123])).pc = 0x123 ∧
    (after (.trap 53 1) (hqS (slotA 0x49 0 0 0 0 7) 0 [])).st = 6 ∧
    (run (.trap 53 1) (hqS (slotA 0x49 0 0 0 0 7) 0 [])).ctr (fcorePage 53 1) 7 = 1 := by decide +kernel

theorem test_barrier_word : (let s := hqS (2 ^ 70) 0 []
    (after (.hqNop 53 1) s).st = 4 ∧ (after (.hqNop 53 1) s).wait = .barrier ∧ (after (.hqNop 53 1) s).next = 17 ∧
    (let t := run (.hqNop 53 1) s
     0x4D41 ∈ t.barriers ∧ (after (.barrierWordDone 53 1) t).st = 1 ∧ (after (.barrierWordDone 53 1) t).pc = 17 ∧
     (let u := { t with ferry := [{ page := macP, off := 0x104, vals := [0], raw := [0], mid := 0x4D41, seq := 1 }] }
      run (.barrierWordDone 53 1) u = u)) ∧ run (.barrierWordDone 53 1) s = s) := by decide +kernel

theorem test_thread_enable : (let s := withReg s0 (leasePage 53) 0x100 0x80000000
    Admitted s 0 (fcorePage 53 1) 0x104 ∧ s.fastReady (fcorePage 53 1) = true ∧ s.thrExists 1 = true ∧ s.thrLease 53 1 = none ∧
    (let t := run (.threadEnable 0 53 1 0x80000010) s
     (t.thr 53 1).st = 1 ∧ (t.thr 53 1).pc = 16 ∧ (t.thr 53 1).on = true ∧
     (after (.threadEnable 0 53 1 0) t).st = 0 ∧ (after (.threadEnable 0 53 1 0) t).on = false)) ∧
    bit (s0.rd (leasePage 53) 0x100) 31 = false ∧ (after (.threadEnable 0 53 1 0x80000010) s0).on = false ∧
    run (.budget 53 1) (hqS 0 0 []) = hqS 0 0 [] := by decide +kernel

/-! ### Units behind channels, the debugger, leases -/

/-- Channel 3 of cluster 53 has this binding, and the units hold this request of it. -/
def unS (kind : Reg) (ws : List Word) : State :=
  { withReg s0 (chanPage 53) 0x218 kind with ureqs := [{ cluster := 53, chan := 3, mid := 0x4D41, lease := none, words := ws }] }
/-- The request. -/
def unQ (ws : List Word) : Ureq := { cluster := 53, chan := 3, mid := 0x4D41, lease := none, words := ws }
/-- The words of the first reply that waits. -/
def said (s : State) : List Word := ((s.ureps.map Ureply.words).head?).getD []

theorem test_unit_reply : (let s := { withReg s0 (chanPage 53) 0x218 0x60040000 with
      ureps := [{ cluster := 53, chan := 3, words := [7, 8] }], chans := [(53 * 64 + 3, { owed := 1 })] }
    (s.chan 53 3).readers = [] ∧ (s.chan 53 3).writers = [] ∧
    ((run (.unitReply 53 3) s).chan 53 3).fifo = [{ words := [7, 8], src := 3 }] ∧ (run (.unitReply 53 3) s).ureps = [] ∧
    run (.unitReply 53 4) s = s ∧
    (let d := { s with ureps := s.ureps.map fun (r : Ureply) => { r with dead := true } }
     (run (.unitReply 53 3) d).ctr (chanPage 53) 15 = 1 ∧ ((run (.unitReply 53 3) d).chan 53 3).owed = 0)) := by decide +kernel

/-- Thread 1 of cluster 53 waits to commit one word to channel 3, a remote channel whose target is channel 5 of cluster 2. -/
def remS (b2 : Reg) : State :=
  let s := withReg (withReg s0 (chanPage 53) 0x218 0x80010085) (chanPage 2) 0x228 0x10840000
  let s := withReg s (chanPage 2) 0x22C b2
  { s with thrs := [(53 * 64 + 1, { st := 3, pc := 16, next := 17, on := true, wait := .commit 3 none, staged := [(3, [77])] })] }

theorem test_remote_commit : (let s := remS 0x80000000
    let x := s.thr 53 1
    x.st = 3 ∧ x.wait = .commit 3 none ∧ s.kind 53 3 = 8 ∧ natField (fld (s.bind 53 3) 0 16) 6 7 = 2 ∧
    natField (fld (s.bind 53 3) 0 16) 0 6 = 5 ∧ s.inReset (cluPage 2 0) = false ∧ s.admitsRemote 2 5 53 = true ∧
    s.isFenced (cluPage 2 0) = false ∧ s.chanStopped 2 5 = false ∧ s.inQueue 0 = [] ∧ s.litDom 2 = true ∧ s.room 2 5 = 4 ∧
    (let t := run (.remoteCommitDeliver 53 1) s
     (t.chan 2 5).fifo = [{ words := [77], mid := 0x4D41, src := 3 }] ∧ (t.thr 53 1).pc = 17 ∧ (t.thr 53 1).staged = [])) ∧
    (remS 0).admitsRemote 2 5 53 = false ∧ run (.remoteCommitDeliver 53 1) (remS 0) = remS 0 ∧
    run (.remoteCommitDeliver 53 2) (remS 0) = remS 0 := by decide +kernel

theorem test_inbound : (let y : InMsg := { cluster := 53, chan := 3, msg := { words := [9], src := 1 } }
    let s := { withReg s0 (chanPage 53) 0x218 0x10010000 with inq := [(6, [y])] }
    (s.inQueue 6).find? (fun x => x.cluster == 53 && x.chan == 3) = some y ∧ s.cluReady 53 = true ∧ s.kind 53 3 = 1 ∧
    s.isFenced (cluPage 53 0) = false ∧ s.chanStopped 53 3 = false ∧ s.room 53 3 = 1 ∧
    (let t := run (.inboundDeliver 53 3) s
     (t.chan 53 3).fifo = [y.msg] ∧ t.inQueue 6 = [] ∧ t.ctr (chanPage 53) 12 = 1 ∧
     (let u := { t with inq := s.inq }
      u.room 53 3 = 0 ∧ run (.inboundDeliver 53 3) u = u)) ∧
    run (.inboundDeliver 53 4) s = s) := by decide +kernel

theorem test_memport : (let ws : List Word := [0x01040000_00050000, 0x102]
    let s := (unS 0x60010000 ws).setBytes (cmemBase 53 + 0x102) [1, 2, 3, 4]
    s.request 53 3 = some (unQ ws) ∧ memReq ws = (1, 4, 0x50000, 0x102) ∧ s.memAsked 53 3 = false ∧
    (s.memCheck 6 (unQ ws)).1 = 0 ∧ tgtLocal 0x50000 = true ∧ s.kind 53 3 = 6 ∧
    said (run (.memportRead 53 3) s) = [0x04030201] ∧ (run (.memportRead 53 3) s).ureqs = []) ∧
    (let ws : List Word := [0x02020000_00050000, 0x102, 0xAABB]
     let s := unS 0x60010000 ws
     (s.memCheck 6 (unQ ws)).1 = 0 ∧ (run (.memportWrite 53 3) s).bytes (cmemBase 53 + 0x101) 4 = [0, 0xBB, 0xAA, 0] ∧
     said (run (.memportWrite 53 3) s) = [0]) ∧
    (let ws : List Word := [0x02000000_00050000, 0x102]
     memReqOk ws = false ∧ said (run (.memportWrite 53 3) (unS 0x60010000 ws)) = [0x0500000000000000]) ∧
    (let ws : List Word := [0x01410000_00050000, 0x102]
     memReqOk ws = false ∧ ((run (.memportRead 53 3) (unS 0x60010000 ws)).ureps.map Ureply.err) = [true]) := by decide +kernel

/-- A packet port request of cluster 53, with a buffer of 100 bytes of its own at handle 0x1000 of die 1. -/
def pkS (ws : List Word) : State :=
  { unS 0x70010000 ws with bufs := [(bufKey 1 0x1000, { bytes := zeros 100, size := 100, express := false, refs := 1, owner := some 53 })] }

theorem test_packet_port : (let ws : List Word := [0x01000000_00001000]
    (pkS ws).request 53 3 = some (unQ ws) ∧ (pkS ws).kind 53 3 = 7 ∧ bufKey 1 (natField (ws.getD 0 0).toNat 0 32) = bufKey 1 0x1000 ∧
    (run (.free 53 3) (pkS ws)).bufs = [] ∧ said (run (.free 53 3) (pkS ws)) = [0] ∧
    said (run (.free 53 3) (unS 0x70010000 ws)) = [0x0700000000000000]) ∧
    (let ws : List Word := [0x02000000_00000040]
     ((pkS ws).poolFor 1 64 false).isSome = true ∧ (run (.alloc 53 3) (pkS ws)).bufs.length = 2 ∧
     ((run (.alloc 53 3) (pkS ws)).bufs.all fun b => b.2.owner == some 53) = true ∧
     said (run (.alloc 53 3) (pkS [0x02000000_0000003F])) = [0x0500000000000000]) ∧
    (let ws : List Word := [0x03000000_00001000, 14, 0, 0, 0]
     let t := run (.inject 53 3) (pkS ws)
     said t = [0] ∧ (t.hdrs.map fun h => (h.pipe, h.frame.buf, h.frame.src)) = [(25, bufKey 1 0x1000, 0xC035)] ∧
     ((t.buf (bufKey 1 0x1000)).map fun b => (b.owner, b.bytes.length)) = some (none, 14)) ∧
    (let s := { pkS [0x02000000_00000040] with bufs := [(bufKey 1 0, { bytes := [], size := 62 * 2 ^ 20, express := false, refs := 1 })] }
     s.poolFor 1 64 false = none ∧ said (run (.alloc 53 3) s) = [0x0600000000000000]) := by decide +kernel

/-- An XTS encryption of 4,096 bytes of cluster memory in place with context 0x400005, which is of PROTOCOL 5. -/
def xtS : State := { unS 0x50010000 [0x03000000_00000000 + 0x400005 * 0x1000000 + 4096, 0x1000, 0x1000, 9, 0] with
    ctxs := [(0x400005, { st := 1, proto := 5 })] }

theorem test_cipher_lane : (let q := unQ [0x03000000_00000000 + 0x400005 * 0x1000000 + 4096, 0x1000, 0x1000, 9, 0]
    xtS.request 53 3 = some q ∧ xtS.kind 53 3 = 5 ∧ natField (q.words.getD 0 0).toNat 24 24 = 0x400005 ∧
    cipherTgt 53 0x1000 = some (0x50000, 0x1000) ∧ (xtS.cipherReach 6 q 0x50000 0x1000 4096) = true ∧
    (xtS.ctx 0x400005).proto = 5) ∧
    said (run (.cipherRequest 53 3) (unS 0x50010000 [0x05000000_00001000, 0, 0, 0, 0])) = [0x0500000000000000, 0] ∧
    run (.cipherRequest 53 4) xtS = xtS := by decide +kernel

/-- Check channel 2 of cluster 53 with CRC-32C, and a request for it. -/
def ckS (ws : List Word) : State := withReg (unS 0x20010002 ws) (chkPage 53) (chkOff 2) 0x90000000
/-- The same check channel is open and holds a CRC's first value. -/
def ckO (ws : List Word) : State :=
  { (ckS ws).post (chkPage 53) (chkOff 2 + 4) 0x80000000 with checks := [(53 * 16 + 2, { cfg := 0x90000000, fresh := true, reg := 0xFFFFFFFF })] }

/-- R406: the CRC-32C of "123456789" is 0xE306_9283. -/
theorem test_checks : (ckS [0x01000000_00000000]).request 53 3 = some (unQ [0x01000000_00000000]) ∧
    (run (.openChk 53 3) (ckS [0x01000000_00000000])).checks = (ckO []).checks ∧
    bit ((run (.openChk 53 3) (ckS [0x01000000_00000000])).rd (chkPage 53) (chkOff 2 + 4)) 31 = true ∧
    (let t := run (.feed 53 3) (ckO [0x02030000_00000001, 0x3837363534333231])
     let t := run (.feed 53 3) { t with ureqs := [unQ [0x02000000_00000001, 0x39]] }
     t.rdFld (chkPage 53) (chkOff 2 + 4) 0 24 = 9 ∧
     (let u := run (.closeChk 53 3) { t with ureqs := [unQ [0x04000000_00000000]] }
      said u = [0, 0xE3069283] ∧ (u.check 53 2) = {} ∧ u.rd64 (chkPage 53) (chkOff 2 + 8) = 0xE3069283) ∧
     (let u := run (.closeChk 53 3) { t with ureqs := [unQ [0x04010000_00000000, 0xE3069284]] }
      said u = [0x0080000000000000, 0xE3069283] ∧ bit (u.rd (chkPage 53) 0x010) 2 = true)) ∧
    (let s := (ckO [0x03000000_00000100, 9]).setBytes (cmemBase 53 + 0x100) [0x31, 0x32, 0x33, 0x34, 0x35, 0x36, 0x37, 0x38, 0x39]
     ((run (.feedMem 53 3) s).check 53 2).reg = 0x1CF96D7C) := by decide +kernel

theorem test_check_closed : (let s := unS 0x20010002 [0x01000000_00000000]
    bit (s.fr (chkPage 53) (chkOff 2)) 31 = false ∧ (run (.openChk 53 3) s).ctr (chkPage 53) 0x40 = 1) ∧
    (let s := ckS [0x02000000_00000001, 0x39]
     bit (s.rd (chkPage 53) (chkOff 2 + 4)) 31 = false ∧ (run (.feed 53 3) s).checks = [] ∧
     (run (.feed 53 3) s).ctr (chkPage 53) 0x40 = 1) ∧
    run (.feed 53 3) (ckS [0x01000000_00000000]) = ckS [0x01000000_00000000] := by decide +kernel

/-- Thread 1 of cluster 53 has been blocked reading channel 3, an internal one, since 0 ns. -/
def stS : State :=
  { withReg s0 (chanPage 53) 0x218 0x1C010000 with
    clk := 2048, still := [(53, (0, false))], thrs := [(53 * 64 + 1, { st := 2, on := true, wait := .read 3 0 })] }

theorem test_still_water : tabFind stS.still 53 = some (0, false) ∧ stS.stillCount 53 = 4096 ∧
    bit (stS.rd (chanPage 53) 0x100) 31 = false ∧
    (let t := run (.stillWater 53) stS
     bit (t.rd (chanPage 53) 0x100) 31 = true ∧ bit (t.rd (chanPage 53) 0x010) 0 = true ∧
     tabFind t.still 53 = some (0, true) ∧ run (.stillWater 53) t = t) ∧
    run (.stillWater 53) { stS with clk := 2047 } = { stS with clk := 2047 } := by decide +kernel

theorem test_chan_bind : Admitted s0 0 (chanPage 53) 0x218 ∧ s0.fastReady (chanPage 53) = true ∧
    s0.isSealed (chanPage 53) = false ∧ fld (s0.rd (chanPage 53) 0x218) 28 4 = 0 ∧
    s0.bindRefused 53 3 0x14040000 0 = false ∧ s0.bindRefused 53 3 0x14000000 0 = true ∧
    (let t := run (.chanBindWrite 0 53 3 0x14040000 none) s0
     t.rd (chanPage 53) 0x218 = 0x1C040000 ∧ t.bind 53 3 = 0x14040000 ∧
     fld (t.rd (chanPage 53) 0x104) 0 10 = 4 ∧
     (run (.chanBindWrite 0 53 3 0x14050000 none) t).rd (chanPage 53) 0x218 = 0x1C040000 ∧
     (let u := run (.chanBindWrite 0 53 3 0 none) { t with chans := [(53 * 64 + 3, { fifo := [{ words := [1] }] })] }
      u.kind 53 3 = 0 ∧ (u.chan 53 3).fifo = [] ∧ u.ctr (chanPage 53) 15 = 1)) ∧
    (let t := run (.chanBindWrite 0 53 3 0x14000000 none) s0
     t.rd (chanPage 53) 0x218 = 0 ∧ bit (t.rd (chanPage 53) 0x104) 31 = true ∧ bit (t.rd (chanPage 53) 0x010) 1 = true) := by
  decide +kernel

/-- Channel 3 of cluster 53 admits firmware, and the send registers hold a word. -/
def osS (b : Reg) : State := withReg (withReg s0 (chanPage 53) 0x218 b) (chanPage 53) 0x110 0x55

theorem test_omc_send : (let s := osS 0x11010000
    Admitted s 0 (chanPage 53) 0x108 ∧ s.kind 53 3 = 1 ∧ bit (s.bind 53 3) 24 = true ∧ s.isFenced (cluPage 53 0) = false ∧
    s.chanStopped 53 3 = false ∧ s.inQueue 6 = [] ∧ s.cluReady 53 = true ∧ 0 < s.room 53 3 ∧
    ((run (.chanOmcSend 0 53 3 0) s).chan 53 3).fifo = [{ words := [0x55], mid := 0, src := 2 }]) ∧
    (let t := run (.chanOmcSend 0 53 3 0) (osS 0x12010000)
     bit (t.rd (chanPage 53) 0x108) 30 = true ∧ t.chans = []) := by decide +kernel

/-- A debugger has selected thread 1 of cluster 53, which stands at word 16 in state `n`. -/
def dgS (n : Nat) : State :=
  let s := hqS (slotA 1 5 1 2 0 0) 0 [0, 3, 4]
  { withReg s (cdbgPage 53) 0x104 0x00050001 with
    thrs := s.thrs.map fun x => (x.1, { x.2 with st := n, held := n == 5, staged := [(3, [77])] }) }

theorem test_debug_thread : (dgS 1).selThread 53 = 1 ∧ Admitted (dgS 1) 0 (cdbgPage 53) 0x108 ∧ (dgS 1).fastReady (cdbgPage 53) = true ∧
    (after (.halt 0 53) (dgS 1)).st = 5 ∧ (after (.halt 0 53) (dgS 1)).held = true ∧ (after (.resume 0 53) (dgS 5)).st = 1 ∧
    (run (.step 0 53) (dgS 0)).rdFld (cdbgPage 53) 0x108 8 8 = 1 ∧
    ((dgS 5).setThr 53 1 { (dgS 5).thr 53 1 with st := 1, step := true }).mayIssue 53 1 = true ∧
    (after (.step 0 53) (dgS 5)).st = 5 ∧ (after (.step 0 53) (dgS 5)).pc = 17 ∧ (after (.step 0 53) (dgS 5)).reg 5 = 7 := by
  decide +kernel

theorem test_debug_staging : (dgS 5).selSlot 53 = some (3, [77]) ∧
    (after (.discard 0 53) (dgS 5)).staged = [] ∧ (run (.discard 0 53) (dgS 5)).ctr (chanPage 53) 15 = 1 ∧
    (let s := withReg (dgS 5) (chanPage 53) 0x218 0x14010000
     s.thrLease 53 1 = none ∧ s.kind 53 3 = 1 ∧ s.chanStopped 53 3 = false ∧ s.room 53 3 = 1 ∧
     (let t := run (.commit 0 53) s
      (t.chan 53 3).fifo = [{ words := [77], mid := 0x4D41 }] ∧ (t.thr 53 1).st = 5 ∧ (t.thr 53 1).staged = [] ∧
      (let u := { t with thrs := s.thrs }
       u.room 53 3 = 0 ∧ (run (.commit 0 53) u).rdFld (cdbgPage 53) 0x108 8 8 = 2))) ∧
    (let s := { dgS 5 with thrs := (hqS 0 0 []).thrs.map fun x => (x.1, { x.2 with st := 5 }) }
     s.selSlot 53 = none ∧ (run (.commit 0 53) s).rdFld (cdbgPage 53) 0x108 8 8 = 1) := by decide +kernel

theorem test_attach_regs : Admitted (dgS 5) 0 (cdbgPage 53) 0x100 ∧
    (let t := run (.attach 0 53 true) (dgS 5)
     tabGet {} t.dbgs 53 = { holder := 0, attached := true } ∧ tabGet {} (run (.attach 0 53 false) t).dbgs 53 = {}) ∧
    Admitted (dgS 5) 0 (cdbgPage 53) 0x114 ∧ (dgS 5).frFld (cdbgPage 53) 0x104 16 6 = 5 ∧
    (after (.cdbgRegWrite 0 53 true 0x12) (dgS 5)).reg 5 = 0x1200000000 ∧
    (after (.cdbgRegWrite 0 53 true 0x12) (dgS 1)).reg 5 = 0 ∧
    (after (.cdbgRegWrite 0 53 false 0x8012) (withReg (dgS 5) (cdbgPage 53) 0x104 0x00200001)).pc = 0x12 ∧
    (after (.cdbgRegWrite 0 53 false 0x12) (withReg (dgS 5) (cdbgPage 53) 0x104 0x00210001)).chs = 0x12 := by decide +kernel

theorem test_cmem_window : s0.windowAdmits 0 = true ∧
    (run (.cmemWindowAccess 0 53 0x104 false (some 0x1122334455)) s0).bytes (cmemBase 53 + 0x103) 6 = [0, 0x55, 0x44, 0x33, 0x22, 0] ∧
    (run (.cmemWindowAccess 0 53 0x108 true none) (s0.setByte (cmemBase 53 + 0x10F) 7)).out.head? =
      some (.readData 0 (0x80000000 + 53 * 2 ^ 21 + 0x108) 0x0700000000000000) ∧
    (run (.cmemWindowAccess 0 53 0x104 true (some 1)) s0).mem = [] := by decide +kernel

/-- Lease 4 of cluster 53 owns threads 8 to 15 and is in state `st`; the partition is locked. -/
def lsS (st : Nat) : State :=
  let o := leaseOff 4
  let v : Reg := if st = 0 then 0 else BitVec.ofNat 32 (2 ^ 31 + st * 2 ^ 26)
  let s := withReg (withReg (withReg s0 (leasePage 53) 0x100 0x80000000) (leasePage 53) (o + 8) 0xFF00) (leasePage 53) (o + 0x14) 1
  { withReg s (leasePage 53) o v with
    thrs := [(53 * 64 + 8, { st := if st = 3 then 6 else if st = 0 then 0 else 1, on := st != 0, staged := if st = 3 then [] else [(3, [7])] })] }

theorem test_lease_enable : Admitted (lsS 0) 0 (leasePage 53) (leaseOff 4) ∧ (lsS 0).fastReady (leasePage 53) = true ∧
    (lsS 0).lseSt 53 4 = 0 ∧ (lsS 0).leaseRefused 53 4 = false ∧
    (let t := run (.leaseEnable 0 53 4 2) (lsS 0)
     t.lseSt 53 4 = 1 ∧ t.lseEn 53 4 = true ∧ t.rdFld (leasePage 53) (leaseOff 4) 24 2 = 2) ∧
    (let s := withReg (lsS 0) (leasePage 53) 0x100 0
     s.leaseRefused 53 4 = true ∧
     (let t := run (.leaseEnable 0 53 4 2) s
      t.lseSt 53 4 = 0 ∧ t.lseEn 53 4 = false ∧ bit (t.rd (leasePage 53) (leaseOff 4)) 30 = true)) := by decide +kernel

theorem test_lease_ends : (lsS 2).lseSt 53 4 = 2 ∧ (lsS 2).leaseThreads 53 4 = [8, 9, 10, 11, 12, 13, 14, 15] ∧
    (let t := run (.leaseStop 0 53 4 0) (lsS 2)
     t.lseSt 53 4 = 3 ∧ t.rdFld (leasePage 53) (leaseOff 4) 20 4 = 9 ∧ (t.thr 53 8).st = 6 ∧ (t.thr 53 8).staged = [] ∧
     bit (t.rd (leasePage 53) 0x010) 1 = true) ∧
    (let t := run (.leaseRevoke 0 53 4 0) (lsS 2)
     t.lseSt 53 4 = 0 ∧ t.lseEn 53 4 = false ∧ (t.thr 53 8).st = 0) ∧
    (lsS 3).lseSt 53 4 = 3 ∧
    (let t := run (.leaseRestart 0 53 4 0) (withReg (lsS 3) (chanPage 53) 0x21C 0x00480000)
     t.lseSt 53 4 = 1 ∧ (t.thr 53 8).st = 0 ∧ (t.thr 53 8).on = true) ∧
    ((withReg (lsS 3) (chanPage 53) 0x21C 0x00480000).chanLease 53 3) = some 4 := by decide +kernel

/-- R438: a thread of a restarted lease whose EN stayed 1 does not start before EN has been written 0. -/
theorem test_lease_thread : (let s := withReg { lsS 1 with thrs := [(53 * 64 + 8, { on := true })] } (fcorePage 53 8) 0x100 0x80004000
    Admitted s 0 (fcorePage 53 8) 0x100 ∧ s.thrLease 53 8 = some 4 ∧ s.lseSt 53 4 = 1 ∧ s.thrExists 8 = true ∧
    s.fastReady (fcorePage 53 8) = true ∧ (s.thr 53 8).on = true ∧ bit (s.rd (fcorePage 53 8) 0x100) 31 = true ∧
    (run (.threadEnable 0 53 8 0x80004000) s).thrs = s.thrs ∧
    (let t := run (.threadEnable 0 53 8 0x4000) s
     (t.thr 53 8).on = false ∧ bit (t.rd (fcorePage 53 8) 0x100) 31 = false ∧
     (let u := run (.threadEnable 0 53 8 0x80004000) t
      (u.thr 53 8).st = 1 ∧ (u.thr 53 8).pc = 0x4000))) := by decide +kernel

theorem test_cs_window : Admitted s0 0 (leasePage 53) 0x100 ∧ (run (.vlock 0 53 0x10) s0).vlock 53 = true ∧ s0.csOpen 53 5 = true ∧
    (let t := run (.csWindowWrite 0 53 5 0 true 0x1122334455667788) s0
     t.mem = [] ∧ (t.csStaged 53).take 3 = [0x88, 0x77, 0x66] ∧
     (let u := run (.csWindowWrite 0 53 5 2 true 0xAA00000000000000) t
      u.bytes (csBase 53 + 80) 2 = [0x88, 0x77] ∧ u.byte (csBase 53 + 95) = 0xAA ∧ u.mem.length = 9)) ∧
    (run (.csWindowWrite 0 53 5 1 true 1) s0).csStage = [] ∧ (lsS 0).csOpen 53 5 = false ∧
    bit ((run (.csWindowWrite 0 53 5 3 false 1) (lsS 0)).rd (leasePage 53) 0x010) 2 = true := by decide +kernel

theorem test_repair_scrub : (let s := { withReg s0 (leasePage 53) 0x110 0x99 with csBad := [53 * 32768 + 5] }
    Admitted s 0 (leasePage 53) 0x120 ∧ s.fastReady (leasePage 53) = true ∧
    (let t := run (.csRepair 0 53 5) s
     t.byte (csBase 53 + 80) = 0x99 ∧ t.csBad = [] ∧ t.ctr (leasePage 53) 0x42 = 1) ∧
    (run (.csRepair 0 53 0x4000) s).csBad = s.csBad) ∧
    (let s := withReg s0 (leasePage 53) 0x100 0x40000000
     s.litDom 53 = true ∧
     (let t := run (.scrubPass 53 [5]) s
      t.csBad = [53 * 32768 + 5] ∧ t.rd (leasePage 53) 0x104 = 0x80000005 ∧ t.ctr (leasePage 53) 0x41 = 1) ∧
     run (.scrubPass 53 []) s = s) ∧ s0.omc.running = false ∧ run .vendorPatchLoad s0 = s0 := by decide +kernel

/-! ### NVMe -/

/-- A submission queue entry: opcode, CID, NSID, PRP1 and command dwords 10 to 15. -/
def sqe (op cid nsid prp : Nat) (ds : List Nat) : List Byte :=
  padTo (leBytes 4 (op + cid * 65536) ++ leBytes 4 nsid ++ zeros 16 ++ leBytes 8 prp ++ zeros 8 ++ ds.flatMap (leBytes 4)) 64

/-- PF1 of endpoint 0 is ready; its instance is in state `st` and steers to channel 5 of cluster 3, with 4 command slots
from 0x1000; the admin queues have 16 entries. -/
def nvS (st : Nat) : State :=
  let p := ictlPage 0 1
  let s := (((withReg s0 (epP 0) 0x008 1).post (epP 0) 0x104 0x60000000).cfgPut 0 1 0x004 6).post p 0x104 (BitVec.ofNat 32 st)
  let s := ((s.post p 0x180 0x83050200).post p 0x184 1).post p 0x224 0x000F000F
  let s := (s.post p 0x228 0x100000).post p 0x230 0x200000
  withReg s (chanPage 3) 0x228 0x12040000
/-- The controller is enabled. -/
def nvE (x : NvCtl) : State := { ((nvS 2).post (ictlPage 0 1) 0x214 1).post (ictlPage 0 1) 0x21C 1 with nvs := [(1, x)] }
/-- Its admin queues, and I/O queues 1 bound to each other. -/
def nvX : NvCtl :=
  { sqs := [(0, { base := 0x100000, size := 16, cq := 0, head := 1, tail := 1 }), (1, { base := 0x110000, size := 8, cq := 1, head := 1, tail := 1 })]
    cqs := [(0, { base := 0x200000, size := 16, reserved := 1 }), (1, { base := 0x210000, size := 8, tail := 7, head := 7, reserved := 1 })]
    nss := [(5, { session := 7, remote := 1, lbas := 100, format := 0, xts := 0 })] }
/-- A command of queue `q` is in slot 2, sent to its backend or not. -/
def nvC (q : Nat) (b : List Byte) (sent : Bool) : State :=
  { nvE { nvX with slots := [(2, { sq := q, cid := leAt b 2 2, sqe := b, sent := sent })] } with
    omc := { s0.omc with running := true, sessions := [(7, { transport := 1, queues := 2, flags := 0, timeout := 10, entries := 2, die := 0, params := [] })] } }
/-- The slots that hold commands. -/
def nvLeft (s : State) : List Nat := (s.nv 0 1).slots.map fun c => c.1
/-- The last completion written to admin completion queue entry 0, which lies at 0x200000. -/
def admDone (s : State) (d cid st : Nat) : Bool :=
  decide (Output.hostWrite 0 1 0x200000 (nvCqe d 1 0 cid st true) ∈ s.out) && !(nvLeft s).contains 2
/-- The same for I/O completion queue entry 7, which lies at 0x210070. -/
def ioDone (s : State) (d cid st : Nat) : Bool :=
  decide (Output.hostWrite 0 1 0x210070 (nvCqe d 1 1 cid st true) ∈ s.out) && !(nvLeft s).contains 2

theorem test_nvme_enable : s0.isNvme 0 1 = true ∧ Admitted (nvS 1) 0x2001 (ictlPage 0 1) 0x214 ∧
    (nvS 1).managerStopped 0x2001 0 1 = false ∧ (nvS 1).instSt 0 1 = 1 ∧ bit ((nvS 1).rd (ictlPage 0 1) 0x214) 0 = false ∧
    (let t := run (.nvmeCcEnable 0x2001 0 1 true) (nvS 1)
     t.instSt 0 1 = 2 ∧ t.rd (ictlPage 0 1) 0x214 = 1 ∧ t.rd (ictlPage 0 1) 0x21C = 1 ∧
     (t.nv 0 1).sqs = [(0, { base := 0x100000, size := 16, cq := 0 })] ∧
     (t.nv 0 1).cqs = [(0, { base := 0x200000, size := 16, ien := true })] ∧
     (run (.nvmeCcEnable 0x2001 0 1 false) t).instSt 0 1 = 3) ∧
    (run (.nvmeCcEnable 0x2001 0 1 true) (nvS 0)).nvs = [] ∧
    fld ((nvE {}).rd (ictlPage 0 1) 0x214) 14 2 = 0 ∧
    (let t := run (.nvmeShutdown 0x2001 0 1 false) (nvE {})
     t.instSt 0 1 = 3 ∧ t.rdFld (ictlPage 0 1) 0x21C 2 2 = 1 ∧ (t.nv 0 1).shn = true) ∧
    (run (.nvmeShutdown 0x2001 0 1 true) (nvS 1)).rdFld (ictlPage 0 1) 0x21C 2 2 = 2 := by decide +kernel

theorem test_nvme_doorbells : Admitted (nvE nvX) 0x2001 (instPage 0 1 1) 0x208 ∧ Admitted (nvE nvX) 0x2001 (instPage 0 1 1) 0x20C ∧
    (((run (.nvmeSqDoorbell 0x2001 0 1 1 7) (nvE nvX)).nv 0 1).sqs.map fun q => q.2.tail) = [1, 7] ∧
    (let t := run (.nvmeSqDoorbell 0x2001 0 1 1 8) (nvE nvX)
     (t.nv 0 1).sqs = nvX.sqs ∧ t.ctr (ictlPage 0 1) 4 = 1 ∧ bit (t.rd (ictlPage 0 1) 0x010) 2 = true ∧
     (t.nv 0 1).events = [(0, 1, 1)]) ∧
    (let x := { nvX with cqs := [(1, { base := 0x210000, size := 8, tail := 3, head := 1 })] }
     (((run (.nvmeCqDoorbell 0x2001 0 1 1 3) (nvE x)).nv 0 1).cqs.map fun q => q.2.head) = [3] ∧
     ((run (.nvmeCqDoorbell 0x2001 0 1 1 4) (nvE x)).nv 0 1).cqs = x.cqs ∧
     ((run (.nvmeCqDoorbell 0x2001 0 1 1 8) (nvE x)).nv 0 1).events = [(0, 1, 1)]) := by decide +kernel

/-- I/O submission queue 1 holds an entry at 0x110040, and completion queue 1 has room. -/
def ftcS : State :=
  nvE { nvX with sqs := [(1, { base := 0x110000, size := 8, cq := 1, head := 1, tail := 2 })]
                 cqs := [(1, { base := 0x210000, size := 8 })], slots := [(0, { sq := 1, cid := 0, sqe := [] })] }

theorem test_nvme_fetch : ftcS.mayRead 0 1 = true ∧ ftcS.instSt 0 1 = 2 ∧ (ftcS.nv 0 1).nextSq = some 1 ∧ ftcS.nvSlots 0 1 = 4 ∧
    (ftcS.nv 0 1).fetching = none ∧ run (.nvmeFetch 0 1) (nvE nvX) = nvE nvX ∧ (nvX).nextSq = none ∧
    (let t := run (.nvmeFetch 0 1) ftcS
     (t.nv 0 1).fetching = some (1, 1) ∧ (t.hwait.map fun r => (r.addr, r.len)) = [(0x110040, 64)] ∧
     ((t.nv 0 1).cqs.map fun q => q.2.reserved) = [1] ∧
     (let b := sqe 2 0x77 5 0x3000 []
      let u := { t with hwait := [], arrived := [{ client := .nvme 1 1, off := 0, status := 0, data := b }] }
      (u.takeRead (.nvme 1 1) 64).1 = some (0, b) ∧ u.kind 3 5 = 1 ∧ bit (u.bind 3 5) 25 = true ∧ u.cluReady 3 = true ∧
      u.room 3 5 = 4 ∧ u.nvCluster 0 1 = 3 ∧ u.nvChannel 0 1 = 5 ∧ u.isFenced (cluPage 3 0) = false ∧
      (let v := run (.nvmeFetch 0 1) u
       (v.chan 3 5).fifo = [{ words := [0x2001000100770002, 0x1040, 0], src := 1 }] ∧ (v.nv 0 1).fetching = none ∧
       v.bytes (cmemBase 3 + 0x1040) 4 = [2, 0, 0x77, 0] ∧ ((v.nv 0 1).sqs.map fun q => q.2.head) = [2]))) := by decide +kernel

/-- The controller completes its command in slot 2, whose memory is at 0x1080, by MEMPORT_CPL. -/
def mcpS (a : Nat) : State :=
  let s := nvC 1 (sqe 2 0x77 5 0x3000 []) true
  { withReg s (chanPage 3) 0x218 0x60010000 with
    ureqs := [{ cluster := 3, chan := 3, mid := 0x40C1, lease := none, words := [BitVec.ofNat 64 (3 * 2 ^ 56 + a), 9, 0x4002] }] }

theorem test_memport_cpl : (mcpS 0x1080).nvSlotOf 3 0x1080 = some (0, 1, 2) ∧ (mcpS 0x10C0).nvSlotOf 3 0x10C0 = none ∧
    (∀ c q y, tabFind nvX.sqs 1 = some q → tabFind nvX.cqs 1 = some y → tabFind ((mcpS 0x1080).nv 0 1).slots 2 = some c →
      NvReady (mcpS 0x1080) 0 1 2 false 2 c q y) ∧
    (let t := run (.memportCpl 3 3) (mcpS 0x1080)
     ioDone t 9 0x77 0x4002 = true ∧ said t = [0] ∧
     ((t.nv 0 1).cqs.map fun q => (q.2.tail, q.2.phase, q.2.reserved)) = [(0, true, 1), (0, false, 0)]) ∧
    said (run (.memportCpl 3 3) (mcpS 0x10C0)) = [0x0500000000000000] := by
  refine ⟨by decide +kernel, by decide +kernel, ?_, by decide +kernel, by decide +kernel⟩
  rintro c q y hq hy hc
  cases hq; cases hy; cases hc; decide +kernel

theorem test_create_queues : (let b := sqe 5 0x31 0 0x220000 [0x00070002, 0x00040003]
    NvReady (nvC 0 b false) 0 1 2 true 5 { sq := 0, cid := 0x31, sqe := b } { base := 0x100000, size := 16, cq := 0, head := 1, tail := 1 }
      { base := 0x200000, size := 16, reserved := 1 } ∧
    (let t := run (.createIoCq 0 1 2) (nvC 0 b false)
     tabFind (t.nv 0 1).cqs 2 = some { base := 0x220000, size := 8, vector := 4, ien := true } ∧ admDone t 0 0x31 0 = true)) ∧
    (let b := sqe 5 0x31 0 0x220000 [0x00070001, 0x00040003]
     admDone (run (.createIoCq 0 1 2) (nvC 0 b false)) 0 0x31 0x4101 = true) ∧
    (let b := sqe 1 0x31 0 0x220000 [0x00030002, 0x00020001]
     let s := (nvC 0 b false)
     let s := s.setNv 0 1 ((s.nv 0 1).putCq 2 { base := 0x230000, size := 4 })
     (let t := run (.createIoSq 0 1 2) s
      tabFind (t.nv 0 1).sqs 2 = some { base := 0x220000, size := 4, cq := 2 } ∧ admDone t 0 0x31 0 = true) ∧
     (let u := s.setNv 0 1 ((s.nv 0 1).putSq 3 { base := 0x240000, size := 2, cq := 2 })
      admDone (run (.createIoSq 0 1 2) u) 0 0x31 0x4102 = true ∧ (((run (.createIoSq 0 1 2) u).nv 0 1).sqs.length = 3))) := by
  decide +kernel

/-- R454: 1,024 entries hold submission queues of 512, 512 and 2, and no fourth one. -/
theorem test_queue_room : (let b := sqe 1 0x31 0 0x220000 [0x00010005, 0x00020001]
    let s := nvC 0 b false
    let put := fun (x : NvCtl) (k n : Nat) => x.putSq k { base := 0x240000, size := n, cq := 2 }
    let x := (s.nv 0 1).putCq 2 { base := 0x230000, size := 1024 }
    tabFind ((run (.createIoSq 0 1 2) (s.setNv 0 1 (put (put x 3 512) 4 512))).nv 0 1).sqs 5 ≠ none ∧
    tabFind ((run (.createIoSq 0 1 2) (s.setNv 0 1 (put (put (put x 3 512) 4 512) 6 2))).nv 0 1).sqs 5 = none) := by
  decide +kernel

theorem test_delete_queues : (let b := sqe 0 0x31 0 0 [1]
    let s := nvC 0 b false
    (tabFind ((run (.deleteIoSq 0 1 2) s).nv 0 1).sqs 1 = none) ∧ admDone (run (.deleteIoSq 0 1 2) s) 0 0x31 0 = true ∧
    (let x := { s.nv 0 1 with slots := (s.nv 0 1).slots ++ [(3, { sq := 1, cid := 9, sqe := sqe 2 9 5 0 [], sent := true })] }
     let t := run (.deleteIoSq 0 1 2) (s.setNv 0 1 x)
     (tabFind (t.nv 0 1).slots 2).map NvCmd.waits = some true ∧ t.out = [])) ∧
    (let b := sqe 4 0x31 0 0 [1]
     let s := nvC 0 b false
     admDone (run (.deleteIoCq 0 1 2) s) 0 0x31 0x410C = true ∧
     (let t := run (.deleteIoCq 0 1 2) (s.setNv 0 1 { s.nv 0 1 with sqs := (s.nv 0 1).sqs.take 1 })
      tabFind (t.nv 0 1).cqs 1 = none ∧ admDone t 0 0x31 0 = true)) := by decide +kernel

theorem test_admin : (let s := nvC 0 (sqe 8 0x31 0 0 [0x00090001]) false
    admDone (run (.abort 0 1 2) s) 1 0x31 0 = true ∧
    (let x := { s.nv 0 1 with slots := (s.nv 0 1).slots ++ [(3, { sq := 1, cid := 9, sqe := sqe 2 9 5 0 [] })] }
     nvLeft (run (.abort 0 1 2) (s.setNv 0 1 x)) = [])) ∧
    (let t := run (.setFeatures 0 1 2) (nvC 0 (sqe 9 0x31 0 0 [0x0B, 0x123]) false)
     admDone t 0 0x31 0 = true ∧ (t.nv 0 1).feats = [(0x0B, 0x123)]) ∧
    admDone (run (.setFeatures 0 1 2) (nvC 0 (sqe 9 0x31 0 0 [7, 5]) false)) 0x3F003F 0x31 0 = true ∧
    admDone (run (.getFeatures 0 1 2) (nvC 0 (sqe 10 0x31 0 0 [0x0B]) false)) 0 0x31 0 = true ∧
    admDone (run (.getFeatures 0 1 2) (nvC 0 (sqe 10 0x31 0 0 [0x04]) false)) 0 0x31 0x4002 = true ∧
    (let s := nvC 0 (sqe 12 0x31 0 0 []) false
     ((tabFind ((run (.asyncEventRequest 0 1 2) s).nv 0 1).slots 2).map NvCmd.waits = some true) ∧
     admDone (run (.asyncEventRequest 0 1 2) (s.setNv 0 1 { s.nv 0 1 with events := [(2, 0, 4)] })) 0x40002 0x31 0 = true) := by
  decide +kernel

theorem test_log_page : (let s := nvC 0 (sqe 2 0x31 0 0x300000 [0x03FF0004, 0, 0, 0]) false
    let s := s.setNv 0 1 { s.nv 0 1 with changed := [5] }
    let t := run (.getLogPage 0 1 2 []) s
    admDone t 0 0x31 0 = true ∧ (t.nv 0 1).changed = []) ∧
    admDone (run (.getLogPage 0 1 2 []) (nvC 0 (sqe 2 0x31 0 0x300000 [0x03FF0009]) false)) 0 0x31 0x4109 = true ∧
    (let b := sqe 6 0x31 5 0x300000 [0]
     nvLeft (nvC 0 b false) = [2] ∧ leAt b 24 8 % 4096 = 0 ∧
     NvReady (nvC 0 b false) 0 1 2 true 6 { sq := 0, cid := 0x31, sqe := b } { base := 0x100000, size := 16, cq := 0, head := 1, tail := 1 }
      { base := 0x200000, size := 16, reserved := 1 } ∧
     tabFind ((nvC 0 b false).nv 0 1).nss (nvNsid { sq := 0, cid := 0x31, sqe := b }) =
      some { session := 7, remote := 1, lbas := 100, format := 0, xts := 0 }) := by decide +kernel

theorem test_io_send : (let b := sqe 2 0x31 5 0x300000 [0, 0, 0]
    (run (.nvmeRead 0 1 2 [] .send) (nvC 1 b false)).out = [.backend 7 1 b []] ∧
    ioDone (run (.nvmeRead 0 1 2 [] .down) (nvC 1 b false)) 0 0x31 0x300 = true ∧
    (let d := (List.range 512).map (BitVec.ofNat 8)
     let t := run (.nvmeRead 0 1 2 [] (.reply 0 d)) (nvC 1 b true)
     decide (Output.hostWrite 0 1 0x300000 d ∈ t.out) = true ∧ ioDone t 0 0x31 0 = true) ∧
    ioDone (run (.nvmeRead 0 1 2 [] (.reply 0x4281 [])) (nvC 1 b true)) 0 0x31 0x4281 = true ∧
    run (.nvmeRead 0 1 2 [] (.reply 0 [])) (nvC 1 b false) = nvC 1 b false) ∧
    (let b := sqe 2 0x31 5 0x300000 [100, 0, 0]
     ioDone (run (.nvmeRead 0 1 2 [] .send) (nvC 1 b false)) 0 0x31 0x4080 = true) ∧
    (let b := sqe 1 0x31 5 0x300000 [99, 0, 0]
     let d := List.replicate 512 0x5A
     let c : NvCmd := { sq := 1, cid := 0x31, sqe := b }
     let n : NvNs := { session := 7, remote := 1, lbas := 100, format := 0, xts := 0 }
     NvIn (nvC 1 b false) 0 1 c n true ∧ nsPi n = 0 ∧ d.length = nvNlb c * nsBlock n ∧
     (run (.nvmeWrite 0 1 2 [] (some d) .send) (nvC 1 b false)).out = [.backend 7 1 b d] ∧
     ioDone (run (.nvmeWrite 0 1 2 [] none .send) (nvC 1 b false)) 0 0x31 4 = true) := by decide +kernel

theorem test_io_more : (let b := sqe 0 0x31 5 0 []
    (run (.flush 0 1 2 .send) (nvC 1 b false)).out = [.backend 7 1 b []] ∧
    ioDone (run (.flush 0 1 2 (.reply 0 [])) (nvC 1 b true)) 0 0x31 0 = true) ∧
    (let b := sqe 8 0x31 5 0 [0, 0, 99]
     (run (.writeZeroes 0 1 2 .send) (nvC 1 b false)).out = [.backend 7 1 b []] ∧
     ioDone (run (.writeZeroes 0 1 2 .send) (nvC 1 (sqe 8 0x31 5 0 [1, 0, 99]) false)) 0 0x31 0x4080 = true) ∧
    (let b := sqe 9 0x31 5 0 [0, 4]
     let d := leBytes 4 0 ++ leBytes 4 10 ++ leBytes 8 90
     (run (.datasetManagement 0 1 2 (some d) .send) (nvC 1 b false)).out = [.backend 7 1 b d] ∧
     ioDone (run (.datasetManagement 0 1 2 (some d) .send) (nvC 1 (sqe 9 0x31 5 0 [0, 0]) false)) 0 0x31 0 = true) := by decide +kernel

/-- The manager asks on general channel 0 of PF1. -/
def nsS (ms : List Nat) : State :=
  let h := nvHalf 0 0 true
  let s := { nvC 1 [] false with binds := [(64, 0x20010000)] }
  let s := s.setNv 0 1 { s.nv 0 1 with slots := [] }
  ((List.range ms.length).foldl (fun s i => s.post h.1 (h.2 + 4 * i) (BitVec.ofNat 32 (ms.getD i 0))) s).post h.1 (h.2 + 0x44) 0x80000000
/-- The answer. -/
def nsSaid (s : State) : Nat × Bool := ((s.rd (nvHalf 0 0 false).1 (nvHalf 0 0 false).2).toNat, s.halfFull (nvHalf 0 0 false).1 (nvHalf 0 0 false).2)

theorem test_namespaces : (let s := nsS [0x00010001, 6, 7, 1, 1000, 0, 0, 0]
    NsAsked s 0 0 1 (fun i => (s.rd (nvHalf 0 0 true).1 ((nvHalf 0 0 true).2 + 4 * i)).toNat) ∧
    s.nvTarget 0 (fun i => (s.rd (nvHalf 0 0 true).1 ((nvHalf 0 0 true).2 + 4 * i)).toNat) = some 1 ∧
    nsSaid s = (0, false) ∧
    (let t := run (.nsAttach 0 0) s
     nsSaid t = (0, true) ∧ tabFind (t.nv 0 1).nss 6 = some { session := 7, remote := 1, lbas := 1000, format := 0, xts := 0 } ∧
     (t.nv 0 1).events = [(2, 0, 4)] ∧ t.halfFull (nvHalf 0 0 true).1 (nvHalf 0 0 true).2 = false)) ∧
    nsSaid (run (.nsAttach 0 0) (nsS [0x00010001, 5, 7, 1, 1000, 0, 0, 0])) = (2, true) ∧
    (let t := run (.nsDetach 0 0) (nsS [0x00010002, 5])
     nsSaid t = (0, true) ∧ tabFind (t.nv 0 1).nss 5 = none) ∧
    nsSaid (run (.nsDetach 0 0) (nsS [0x00010002, 6])) = (6, true) ∧
    nsSaid (run (.nsQuery 0 0) (nsS [0x00010003, 5])) = (0, true) ∧
    nsSaid (run (.nsQuery 0 0) (nsS [0x00010003, 6])) = (6, true) := by
  refine ⟨⟨⟨by decide +kernel, by decide +kernel, by decide +kernel, by decide +kernel, by decide +kernel, fun _ => rfl⟩, ?_⟩, ?_⟩ <;>
    decide +kernel

theorem test_backend_failures : (let b := sqe 2 0x31 5 0x300000 [0, 0, 0]
    let s := nvC 1 b true
    (s.nvWaiting 7 1).map (fun w => (w.1, w.2.1)) = [(1, 2)] ∧ s.nvWaiting 7 0 = [] ∧ run (.backendDigestFail 7 0) s = s ∧
    (let t := run (.backendDigestFail 7 1) s
     t.out = [.backend 7 1 b []] ∧ (tabFind (t.nv 0 1).slots 2).map NvCmd.again = some true ∧
     ioDone (run (.backendDigestFail 7 1) t) 0 0x31 0x22 = true) ∧
    run (.sessionTimeout 0 1 2) { s with clk := 9999999999 } = { s with clk := 9999999999 } ∧
    ioDone (run (.sessionTimeout 0 1 2) { s with clk := 10000000000 }) 0 0x31 0x22 = true) := by decide +kernel

/-! ### Faults and logs -/

/-- The unit path of cluster 53. -/
def clu53 : UnitPath := unitPath (cluPage 53 0)
/-- Cluster 53 holds a report of class `cls` about itself. -/
def repS (cls : Byte) : State :=
  { s0 with clk := 7, reports := [{ accused := clu53, reporter := clu53, code := 0x55, cls := cls, detail := 9 }] }
/-- The collector of region 6. -/
def colP : PageKey := regPage 6 13
/-- The same with an entry of the unit in place 0, whose count is `n`, of which `sent` have been forwarded. -/
def entS (n sent : Nat) : State :=
  { repS 2 with colls := [(colP, { ents := [(0, { unit := clu53, code := 0x55, cls := 2, count := n, sent := sent, last := 0 })] })] }

theorem test_report : collectorOf clu53 = colP ∧ pathPage clu53 = cluPage 53 0 ∧ (pageType (cluPage 53 0)).isSome = true ∧
    ((repS 2).coll colP).free 64 = some 0 ∧
    (let t := run (.faultReport clu53 none) (repS 2)
     t.reports = [] ∧ t.rdFld (cluPage 53 0) 0x024 0 16 = 1 ∧ t.rd (cluPage 53 0) 0x020 = 0x55021940 ∧
     bit (t.rd (cluPage 53 0) 0x010) 31 = true ∧ t.rd colP 0x200 = 0x19405502 ∧ t.rd colP 0x204 = 1 ∧ t.ctr colP 1 = 1 ∧
     t.log.staged.length = 1 ∧ t.fences = [] ∧ run (.faultReport clu53 none) t = t) ∧
    (let t := run (.faultReport clu53 none) (entS 3 3)
     (t.coll colP).ents.map (fun e => (e.2.count, e.2.sent, e.2.last)) = [(4, 3, 7)] ∧ t.log.staged = [] ∧ t.rd colP 0x204 = 4) := by
  decide +kernel

/-- A full table of region 6. -/
def fulS : State :=
  { repS 3 with colls := [(colP, { ents := (List.range 64).map fun i =>
      (i, { unit := BitVec.ofNat 16 i, code := 1, cls := 1, count := 1, sent := 1, last := 0 }) })] }

theorem test_report_full : ((fulS.coll colP).ents.find? fun e => e.2.unit == clu53) = none ∧ (fulS.coll colP).free 64 = none ∧
    (let t := run (.faultReport clu53 none) fulS
     (t.coll colP).ovf = 1 ∧ (t.coll colP).ovfUnit = clu53 ∧ (t.coll colP).ents.length = 64 ∧ t.log.staged = []) ∧
    (let t := run (.faultReport clu53 none) (repS 9)
     t.fences = [.cluster 53] ∧ (repS 9).inReset (cluPage 53 0) = false ∧ bit (t.rd omcPage 0x108) 31 = true) := by decide +kernel

theorem test_unit_fault : (let t := run (.faultReport 5 (some (.unit clu53 0x20 9))) s0
    (pageType (pathPage clu53)).isSome = true ∧ s0.inReset (pathPage clu53) = false ∧ t.fences = [.unit (cluPage 53 0)] ∧
    (run (.faultReport clu53 none) (repS 8)).fences = [.unit (cluPage 53 0)] ∧
    (run (.faultReport (unitPath (cluPage 53 1)) (some (.unit clu53 0x20 9))) s0).fences = [.unit (cluPage 53 0)]) := by
  decide +kernel

theorem test_storm : (let s := { entS 2401 1 with ptime := 10000 }
    pageType colP = some .rflt ∧ (s.coll colP).per ≠ s.ptime.toNat / 10000 ∧
    (let t := run (.stormSummary colP) s
     ((t.coll colP).ents.map fun e => e.2.sent) = [2401] ∧ t.ctr colP 2 = 1 ∧ (t.log.staged.map LogRec.count) = [2400] ∧
     run (.stormSummary colP) t = t) ∧
    run (.stormSummary colP) (entS 2 1) = entS 2 1) ∧
    (let s := withReg (entS 1 1) colP 0x100 5
     run (.entryIdleFree colP 0) { s with clk := 4999999 } = { s with clk := 4999999 } ∧
     ((run (.entryIdleFree colP 0) { s with clk := 5000000 }).coll colP).ents = []) := by decide +kernel

theorem test_flt_commands : Admitted (entS 1 1) 0 colP 0x10C ∧ Admitted s0 0 colP 0x108 ∧ midIsOmc 0 = true ∧ midIsOmc 0x2900 = false ∧
    ((run (.fltClr 0 colP true 0) (entS 1 1)).coll colP).ents = [] ∧
    ((run (.fltClr 0 colP false clu53) (entS 1 1)).coll colP).ents = [] ∧
    ((run (.fltClr 0 colP false 5) (entS 1 1)).coll colP).ents.length = 1 ∧
    (let t := run (.fltFence 0 colP 9 clu53) s0
     t.fences = [.cluster 53] ∧ bit (t.rd colP 0x010) 2 = true) ∧
    (run (.fltFence 0x2900 colP 9 clu53) s0).fences = [] := by decide +kernel

theorem test_fabric : linked 1 5 = true ∧ linked 0 5 = false ∧ hopDie 1 5 = 5 ∧ s0.inReset (diePage 5 0) = false ∧
    (let t := run (.fabReplay 5 1 8 7) s0
     t.out = [.replay 8] ∧ t.reports.map (fun r => (r.accused, r.code, r.cls)) = [(unitPath (diePage 1 0), 2, 2)]) ∧
    (run (.fabReplay 5 1 8 8) s0).fences = [.die 5] ∧ run (.fabReplay 0 5 8 3) s0 = s0 := by decide +kernel

theorem test_ecc : (let s := { s0 with ctxs := [(0x400005, { st := 1, holder := some 6 })] }
    s.litPage (ciphPage 6) = true ∧ (s.ctx 0x400005).holder = some 6 ∧
    (let t := run (.eccScrub [(.ctx 0x400005, false)]) s
     (t.reports.map fun r => (r.accused, r.code, r.cls, r.detail)) = [(unitPath (ciphPage 6), 1, 1, 5)] ∧ t.ctxs = s.ctxs) ∧
    (let t := run (.eccScrub [(.ctx 0x400005, true)]) s
     (t.ctx 0x400005).st = 3 ∧ (t.reports.map fun r => (r.code, r.cls)) = [(0x12, 3)]) ∧
    (let d := s.setDom ((domainOf (ciphPage 6)).getD 0) { st := .dark }
     d.litPage (ciphPage 6) = false ∧ run (.eccScrub [(.ctx 0x400005, true)]) d = d)) := by decide +kernel

/-- The log ring has 4 entries from 0x1000. -/
def logS : State := withReg (withReg s0 logPage 0x100 0x1000) logPage 0x108 0x80000002

theorem test_log_post : (let t := run (.logRecordPost 9 1 5 0x447 1 [7]) logS
    t.log.staged = [{ time := 0, source := 9, severity := 1, family := 5, code := 0x447, count := 1, data := 7 :: zeros 39 }] ∧
    (let u := run (.logRecordPost 9 1 5 0x447 2 [8]) t
     (u.log.staged.map fun r => (r.count, r.coalesced)) = [(3, true)]) ∧
    (run (.logRecordPost 8 1 5 0x447 2 [8]) t).log.staged.length = 2 ∧
    bit (logS.fr logPage 0x108) 31 = true ∧ logS.logRoom = 4 ∧
    (let u := run .logWrite t
     u.log.staged = [] ∧ u.log.seq = 1 ∧ u.rdFld logPage 0x10C 0 16 = 1 ∧ u.bytes (omcMem + 0x1008) 6 = [9, 0, 1, 5, 0x47, 4] ∧
     u.byte (omcMem + 0x1018) = 7 ∧ bit (u.rd logPage 0x010) 0 = true ∧ run .logWrite u = u)) ∧
    (let r : LogRec := { time := 0, source := 9, severity := 1, family := 5, code := 1, count := 1, data := [] }
     let s := { logS with log := { logS.log with staged := List.replicate 224 r } }
     let t := run (.logRecordPost 9 1 6 0x447 1 [7]) s
     t.log.drops = [0, 1, 0, 0] ∧ t.ctr logPage 1 = 1 ∧ t.log.staged.length = 224) := by decide +kernel

theorem test_log_go : (let s := (logS.post logPage 0x148 0x05010009).post logPage 0x14C 0x447
    Admitted s 0 logPage 0x138 ∧
    (let t := run (.logPost 0 false) s
     (t.log.staged.map fun r => (r.source, r.severity, r.family, r.code)) = [(9, 1, 5, 0x447)]) ∧
    run (.logPost 0 true) s = { run (.logPost 0 true) s with log := s.log } ∧
    (let s := withReg (withReg { s with ptime := 3 } logPage 0x120 0x2000) logPage 0x128 0x80000002
     idxDiff (s.rdFld logPage 0x12C 0 16) (s.rdFld logPage 0x12C 16 16) < 2 ^ s.frFld logPage 0x128 0 4 ∧
     (let t := run (.logPost 0 true) s
      t.rdFld logPage 0x12C 0 16 = 1 ∧ t.bytes (omcMem + 0x2000) 13 = leBytes 8 3 ++ [0, 0, 0, 0, 0]))) := by decide +kernel

/-! ### Security, alarms, TAPs -/

/-- The lifecycle is `lc`; slot 1 is enrolled and live, and SEC_CMD_DATA holds `d`. -/
def secS (lc : Nat) (d : Reg) : State :=
  let s := s0.post secPage 0x140 d
  { s with sec := { s.sec with lcKnown := true, lc := lc }
           fuses := { s.fuses with enrolled := 2, vendorHash := 5, lc := if lc = 0 then 0 else if lc = 1 then 3 else 15, fwSvn := 4, patchSvn := 2 } }
/-- The result of a SEC_CMD. -/
def secRes (c : Instr) (s : State) : Nat := ((run c s).rd secPage 0x10C).toNat - 0x40000000

theorem test_advance : SecReady (secS 0 0) 0 0x108 ∧ bit ((secS 0 0).rd secPage 0x10C) 31 = false ∧ (secS 0 0).alarmLevel = 0 ∧
    (secS 0 0).advanceOk 1 = true ∧ (secS 0 0).advanceOk 2 = false ∧ (secS 1 0).advanceOk 2 = true ∧
    secRes (.advanceLc 0 2 3) (secS 0 0) = 1 ∧
    (let t := run (.advanceLc 0 2 3) (secS 1 0)
     SecDone t 0 ∧ t.fuses.lc = 15 ∧ t.sec.lc = 1) ∧
    lcPair (secS 1 0).fuses.lc 1 = false ∧ secRes (.advanceLc 0 2 0) (secS 1 0) = 4 ∧
    (run (.advanceLc 0 2 0) (secS 1 0)).fuses.lc = 3 ∧ (run (.advanceLc 0 2 1) (secS 1 0)).fuses.lc ≠ 3 ∧
    secRes (.advanceLc 0 2 3) (a2 (secS 1 0)) = 2 := by decide +kernel

theorem test_slots : (let t := run (.enrol 0 2 true true) (secS 1 0xABC)
    SecDone t 0 ∧ t.fuses.enrolled = 6 ∧ t.fuses.dbgSlots = 4 ∧ t.fuses.slotHash.getD 2 0 = 0xABC) ∧
    secRes (.enrol 0 1 false true) (secS 1 0) = 3 ∧ secRes (.enrol 0 4 false true) (secS 1 0) = 3 ∧
    secRes (.enrol 0 2 false false) (secS 1 0) = 4 ∧ secRes (.enrol 0 2 false true) (secS 0 0) = 1 ∧
    secRes (.revoke 0 1 true) (secS 2 0) = 5 ∧ (secS 2 0).fuses.live = 2 ∧
    (let t := run (.revoke 0 1 true) (secS 1 0)
     SecDone t 0 ∧ t.fuses.revoked = 2 ∧ t.fuses.enrolled = 2) ∧
    secRes (.revoke 0 1 false) (secS 1 0) = 4 ∧ secRes (.revoke 0 2 true) (secS 1 0) = 3 ∧
    secRes (.revoke 0 1 true) (secS 3 0) = 1 := by decide +kernel

theorem test_svn : (let t := run (.burnFwSvn 0 true) (secS 2 64)
    SecDone t 0 ∧ t.fuses.fwSvn = 64 ∧ t.fuses.patchSvn = 2) ∧
    secRes (.burnFwSvn 0 true) (secS 2 3) = 3 ∧ secRes (.burnFwSvn 0 true) (secS 2 65) = 3 ∧
    secRes (.burnFwSvn 0 false) (secS 2 4) = 0 ∧ secRes (.burnFwSvn 0 false) (secS 2 5) = 4 ∧
    (run (.burnPatchSvn 0 true) (secS 2 3)).fuses.patchSvn = 3 ∧ secRes (.burnPatchSvn 0 true) (secS 3 3) = 1 := by decide +kernel

theorem test_unlock : SecReady s0 0 0x200 ∧ SecReady s0 0 0x208 ∧ SecReady s0 0 0x118 ∧
    ((run (.dbgFifoWrite 0 0x54474244) s0).sec.fifo = [0x44, 0x42, 0x47, 0x54]) ∧
    (run (.dbgNonce 0) s0).fresh = 1 ∧
    (let s := { secS 1 0 with sec := { (secS 1 0).sec with nonce := some 7, scope := 2 } }
     s.tokenCheck = some 1 ∧
     (let t := run (.dbgGo 0) s
      t.sec.nonce = none ∧ t.rd secPage 0x204 = 0x40000001 ∧ t.rdFld secPage 0x11C 0 8 = 1 ∧ t.sec.scope = 2 ∧
      (let u := run (.dbgGo 0) (run (.dbgGo 0) t)
       bit (u.rd almapPage 0x108) 6 = true ∧ u.rdFld secPage 0x11C 0 8 = 3)) ∧
     (a2 s).tokenCheck = some 5 ∧ (run (.dbgGo 0) (a2 s)).rdFld secPage 0x11C 0 8 = 0) ∧
    (let s := { secS 2 0 with sec := { (secS 2 0).sec with scope := 3 }, dbgs := [(53, { holder := 0xA000, attached := true })]
                              jtag := { s0.jtag with taps := List.replicate 9 { ir := 3 } } }
     midIsDebug 0xA000 = true ∧ s.irAdmits 3 = true ∧
     (let t := run (.relock 0) s
      t.sec.scope = 0 ∧ (tabGet {} t.dbgs 53).attached = false ∧ (t.tap 4).ir = 0xFF)) := by decide +kernel

theorem test_fuse_compare : bit ((run (.fuseCompare true) s0).rd fusePage 0x100) 30 = true ∧ OnlyRegs s0 (run (.fuseCompare true) s0) ∧
    (let t := run (.fuseCompare false) s0
     bit (t.rd fusePage 0x100) 30 = false ∧ bit (t.rd almapPage 0x108) 5 = true) := by decide +kernel

/-- Alarm source 9 has the level `lvl`. -/
def almS (lvl : Nat) : State :=
  { s0.post almapPage 0x100 (BitVec.ofNat 32 (lvl * 2 ^ 18)) with
    clk := 50, sec := { s0.sec with kek := some 5, scope := 1 }, ctxs := [(0x400005, { st := 1, key := [1], holder := some 6 })] }

theorem test_alarm : (almS 1).rdFld almapPage 0x100 18 2 = 1 ∧ bit ((almS 1).rd almapPage 0x108) 9 = false ∧
    run (.alarmFire 11) s0 = s0 ∧
    (let t := run (.alarmFire 9) (almS 1)
     t.alarmLevel = 1 ∧ t.pins.alarmN = false ∧ t.sec.pulseEnd = some 1050 ∧ t.sec.scope = 1 ∧
     (run (.alarmFire 9) t).rdFld almapPage 0x164 0 16 = 1 ∧
     run .alarmPulseEnd { t with clk := 1049 } = { t with clk := 1049 } ∧
     (run .alarmPulseEnd { t with clk := 1050 }).pins.alarmN = true ∧
     Admitted t 0 almapPage 0x108 ∧
     (let u := run (.almapLatchClear 0 0x200) t
      u.rd almapPage 0x108 = 0 ∧ u.alarmLevel = 1)) ∧
    (let t := run (.alarmFire 9) (almS 2)
     t.alarmLevel = 2 ∧ t.sec.scope = 0 ∧ t.pins.alarmN = false ∧ t.sec.kek = some 5 ∧
     bit ((run (.almapLatchClear 0 0x200) t).rd almapPage 0x108) 9 = true) := by decide +kernel

theorem test_alarm_zeroizes : (let t := run (.alarmFire 9) (almS 3)
    t.alarmLevel = 3 ∧ t.sec.kek = none ∧ (t.ctxs.map fun c => c.2.key) = [[]] ∧ bit (t.rd secPage 0x104) 2 = true) := by
  decide +kernel

theorem test_isolation_window : (let s := { s0.post secPage 0x110 0x000A0000 with ptime := 10000000 }
    s.ptime.toNat / (s.rdFld secPage 0x110 16 16 * 1000000) = 1 ∧
    (let t := run .isoWindowStart { s with sec := { s.sec with isoFired := true } }
     t.sec.isoWin = 1 ∧ t.sec.isoFired = false ∧ t.rd secPage 0x114 = 0 ∧ run .isoWindowStart t = t)) := by decide +kernel

/-- R552: the dies' IDCODEs; R550: Capture-IR loads 0x01, with bit 7 after a refused Update-IR. -/
theorem test_taps : idcode 0 = 0x1641076B ∧ idcode 2 = 0x1642176B ∧ idcode 8 = 0x1643376B ∧
    (let t := run .tapReset (run (.updateIr 3 0x81) (secS 2 0))
     (t.tap 3).ir = 1) ∧
    (secS 2 0).irAdmits 0x81 = false ∧
    (let t := run (.updateIr 3 0x81) (secS 2 0)
     (t.tap 3).ir = 0xFF ∧ (t.tap 3).refused = true ∧
     (run .captureIr t).jtag.irCapture = [1, 1, 1, 0x81, 1, 1, 1, 1, 1]) ∧
    ((run (.updateIr 3 2) (secS 2 0)).tap 3).ir = 2 ∧ ((run (.updateIr 3 9) (secS 2 0)).tap 3).ir = 0xFF ∧
    ((run (.updateIr 3 0x20) (secS 2 0)).tap 3).ir = 0xFF ∧ ((run (.updateIr 0 0x20) (secS 2 0)).tap 0).ir = 0x20 := by
  decide +kernel

theorem test_extest : (secS 1 0).irAdmits 3 = true ∧ (secS 2 0).irAdmits 3 = false ∧
    (let t := run (.extest 6) (secS 1 0)
     (t.tap 6).ir = 3 ∧ tapSite 6 = 5 ∧ t.jtag.tested = [5]) ∧
    ((run (.extest 6) (secS 2 0)).tap 6).refused = true ∧
    (let t := run (.captureDr 2 []) { s0 with jtag := { s0.jtag with taps := List.replicate 9 { ir := 1 } } }
     leNat [0] = 0 ∧ t.jtag.drCapture[2]? = some (bitsOf 0x1642176B 32) ∧ t.jtag.drCapture[1]? = some []) ∧
    (let t := run (.captureDr 2 []) { s0 with jtag := { s0.jtag with taps := List.replicate 9 { ir := 0xFF } } }
     t.jtag.drCapture[2]? = some [false]) := by decide +kernel

/-- The debug port of the master TAP is selected. -/
def dapS (scope : BitVec 3) : State :=
  { s0.setByte (cmemBase 53 + 0x105) 7 with
    sec := { s0.sec with lcKnown := true, lc := 2, scope := scope }, jtag := { s0.jtag with taps := List.replicate 9 { ir := 0x20 } } }

theorem test_dbg_access : (let a : BitVec 32 := BitVec.ofNat 32 (0x80000000 + 53 * 2 ^ 21 + 0x104)
    (dapS 4).spot jtagMid (.internal a) = .cmem 53 0x104 ∧ (dapS 4).windowAdmits jtagMid = true ∧
    (let t := run (.dbgAccess false a 0) (dapS 4)
     t.jtag.dbgDone = true ∧ t.jtag.dbgRefused = false ∧ t.jtag.dbgData = 0x700 ∧ t.jtag.dbgAddr = a) ∧
    (run (.dbgAccess false a 0) (dapS 0)).jtag.dbgRefused = true ∧
    (run (.dbgAccess true (a + 1) 0) (dapS 4)).rdFld lbusPage 0x104 0 32 = 1) ∧
    (let b : BitVec 32 := BitVec.ofNat 32 (secPage * 4096 + 0x140)
     (dapS 0).spot jtagMid (.internal b) = .page secPage 0x140 ∧ (dapS 0).classAdmits jtagMid secPage 0x140 = false ∧
     (run (.dbgAccess false b 0) (dapS 0)).jtag.dbgRefused = true) ∧
    run (.dbgAccess false 0 0) s0 = s0 := by decide +kernel

/-! ### Boot, management, the BMC -/

/-- Firmware runs from bank 0, which is GOOD, with endpoints released at 5 ns; the watchdog, of 2 ms, is enabled. -/
def runS : State :=
  let s := withReg ((s0.setByte (bankHdr 0 + 8) 0x3F).post bootPage 0x100 0x10000000) omcPage 0x100 0x80000002
  { s with omc := { s.omc with running := true, released := true, releasedAt := 5, fwSvn := 4, patchSvn := 2
                               bootCfg := some (overlay (zeros 256) 9 ([1] ++ zeros 6 ++ List.replicate 16 0xFF)) } }

/-- R536: a read-block answers BOOT_STS, SEC_ALARM and SEC_LC, though firmware does not run. -/
theorem test_status_read : runS.runBank = 0 ∧ runS.rdFld mgmtPageKey 0x100 0 7 = 0x4E ∧
    (let s := { runS.post secPage 0x104 0x12345678 with omc := { runS.omc with running := false } }
     run (.statusReadBlock 0x4E) s = s.emit (.reply "smbus" ([0, 0, 0, 0x10, 0x78, 0x56, 0x34, 0x12] ++ zeros 4))) ∧
    run (.statusReadBlock 0x4F) runS = runS := by decide +kernel

theorem test_release_kick : Admitted s0 0 bootPage 0x108 ∧ Admitted runS 0 omcPage 0x100 ∧ runS.fastReady omcPage = true ∧
    (let t := run (.bootEpRelease 0) { s0 with clk := 7000 }
     t.omc.released = true ∧ t.omc.releasedAt = 7000 ∧ t.rd bootPage 0x11C = 7 ∧
     (run (.bootEpRelease 0) { t with clk := 9000 }).omc.releasedAt = 7000) ∧
    (run (.kick 0) { runS with clk := 9 }).omc.kickAt = 9 ∧ runS.wdtNs = 2000000 ∧
    bit ((run .wdtWarn { runS with clk := 1000000 }).rd omcPage 0x010) 1 = true ∧
    run .wdtWarn { runS with clk := 999999 } = { runS with clk := 999999 } := by decide +kernel

/-- R521: a running bank whose image does not verify halts the boot agent. -/
theorem test_restart : runS.bankState 0 = 0x3F ∧ run .omcRestart { runS with clk := 1999999 } = { runS with clk := 1999999 } ∧
    ({ runS with clk := 2000000 } : State).fwVerify (bankImg 0) = none ∧
    (let t := run .omcRestart { runS with clk := 2000000 }
     t.omc.running = false ∧ t.omc.halted = true ∧ t.rd bootPage 0x100 = 0xF0000002 ∧ t.mem = runS.mem) ∧
    (let s := { runS.setByte (bankHdr 0 + 8) 0x7F with clk := 60000000005 }
     (run .bankGood s).bankState 0 = 0x3F ∧ run .bankGood { s with clk := 60000000004 } = { s with clk := 60000000004 }) := by
  decide +kernel

theorem test_sensors : (let s := withReg s0 sensPage 0x108 800
    let t := run (.sensorRefresh [(3, 0x80000348)]) s
    t.sensor 3 = 0x80000348 ∧ bit (t.rd sensPage 0x010) 0 = true ∧ bit (t.rd almapPage 0x108) 4 = false ∧
    bit ((run (.sensorRefresh [(3, 0x80000349)]) s).rd almapPage 0x108) 4 = true ∧
    (run (.sensorRefresh [(3, 0x80000397)]) s).pins.thermTripN = true ∧
    (run (.sensorRefresh [(3, 0x80000398)]) s).pins.thermTripN = false ∧
    (run (.sensorRefresh [(3, 0x00000398)]) s).pins.thermTripN = true) := by decide +kernel

theorem test_flash : Admitted s0 0 bootPage 0x120 ∧
    (let s := ((s0.setBytes (flashBase + 0x300) [1, 2, 3, 4, 5]).post bootPage 0x124 0x300).post bootPage 0x400 0xFF
     (run (.qspiCommand 0 (4 * 4)) s).rd bootPage 0x400 = 0x04030201 ∧ (run (.qspiCommand 0 (4 * 4)) s).rd bootPage 0x404 = 5 ∧
     (run (.qspiCommand 0 (1 + 4)) s).bytes (flashBase + 0x300) 3 = [1, 0, 3] ∧
     (run (.qspiCommand 0 2) s).mem = [] ∧
     (run (.qspiCommand 0 (1 + 4)) (s.post bootPage 0x124 0x3FFFFFF)).mem = s.mem) := by decide +kernel

theorem test_bmc : run (.mctpControl 1 9) s0 = s0 ∧
    (let t := run (.mctpControl 1 9) runS
     t.rd mgmtPageKey 0x104 = 9 ∧ t.out = [.reply "mctp-control" [1, 0, 9]] ∧
     (run (.mctpControl 2 0) t).out.head? = some (.reply "mctp-control" [2, 0, 9])) ∧
    (run (.mctpControl 9 0) runS).out = [.reply "mctp-control" [9, 5]] ∧
    (run (.pldmRequest 2 4 0) runS).omc.eventRecv = true ∧
    (let s := { runS with omc := { runS.omc with sensors := [(7, 0x80000123)] } }
     (run (.pldmRequest 2 0x11 7) s).out = [.reply "pldm" [2, 0x11, 0, 0, 0x23, 1, 0]] ∧
     (run (.pldmRequest 2 0x11 8) s).out = [.reply "pldm" [2, 0x11, 0, 2]]) ∧
    (run (.spdmMctpMessage 0xE4 []) (a2 runS)).out = [.reply "spdm" [0x13, 0x7F]] ∧
    (run (.spdmMctpMessage 0xE4 []) runS).fresh = 1 := by decide +kernel

theorem test_update : (run (.pldmUpdate (some []) none none) (a2 runS)).out = [.reply "pldm-fwup" [0x80]] ∧
    (let t := run (.pldmUpdate (some [1, 2, 3]) none none) runS
     t.out.head? = some (.reply "pldm-fwup" [1]) ∧ t.byte (bankImg 1) = 1 ∧ t.bankState 0 = 0x3F ∧ t.bankState 1 = 0xFF ∧
     bit (t.rd almapPage 0x108) 8 = true) := by decide +kernel

/-- The vendor response: command, tag, completion, result. -/
def vend (s : State) : List Byte :=
  match s.out.head? with
  | some (.reply _ b) => b.take 4
  | _ => []

theorem test_vendor_gate : VendorReady runS 2 [53, 4] ∧ run (.getInfo 9 0 []) s0 = s0 ∧ vend (run (.getInfo 9 1 []) runS) = [1, 9, 2, 0] ∧
    vend (run (.getInfo 9 0 []) runS) = [1, 9, 0, 0] ∧
    (let s := { runS with omc := { runS.omc with released := false } }
     vend (run (.svnCommit 9 0 [] true) s) = [7, 9, 3, 0] ∧ vend (run (.getInfo 9 0 []) s) = [1, 9, 0, 0]) ∧
    vend (run (.svnCommit 9 0 [] true) (runS.setByte (bankHdr 0 + 8) 0x7F)) = [7, 9, 1, 0] ∧
    (let t := run (.svnCommit 9 0 [] true) runS
     vend t = [7, 9, 0, 0] ∧ t.fuses.fwSvn = 4 ∧ t.fuses.patchSvn = 2) := by decide +kernel

theorem test_lease_vendor : runS.leaseCluster 53 = true ∧ runS.lseSt 53 4 = 0 ∧
    (let pl : List Byte := [53, 4, 0, 0] ++ leBytes 4 0x1234 ++ zeros 48
     let t := run (.leaseGrant 9 56 pl) runS
     pl.length = 56 ∧ vend t = [2, 9, 0, 0] ∧ t.rd (leasePage 53) (leaseOff 4 + 4) = 0x1234) ∧
    vend (run (.leaseRevokeCmd 9 2 [53, 4]) runS) = [4, 9, 1, 2] ∧
    (let s := { lsS 2 with omc := runS.omc }
     vend (run (.leaseRevokeCmd 9 2 [53, 4]) s) = [4, 9, 0, 0] ∧ (run (.leaseRevokeCmd 9 2 [53, 4]) s).lseSt 53 4 = 0 ∧
     vend (run (.leaseGrant 9 56 ([53, 4] ++ zeros 54)) s) = [2, 9, 1, 2]) ∧
    (let part := fun (total : Nat) => [53, 4, 0, 0] ++ leBytes 4 total ++ zeros 4 ++ [1, 2, 3]
     vend (run (.leaseLoad 9 15 (part 9000)) (a2 runS)) = [3, 9, 4, 0] ∧
     vend (run (.leaseLoad 9 15 (part 9000)) runS) = [3, 9, 0, 0] ∧
     ((run (.leaseLoad 9 15 (part 9000)) runS).omc.leaseUp.map Upload.bytes) = some [1, 2, 3] ∧
     runS.leaseImage [1, 2, 3] = 1 ∧ vend (run (.leaseLoad 9 15 (part 3)) runS) = [3, 9, 1, 0x11]) := by decide +kernel

theorem test_sessions : (let pl : List Byte := padTo ([1, 2, 4, 0, 0, 0] ++ leBytes 2 1024 ++ [3, 0, 7]) 512
    pl.length = 512 ∧ runS.dieQueues 3 = 0 ∧
    (let t := run (.sessionCreate 9 512 pl true) runS
     vend t = [5, 9, 0, 0] ∧ (t.omc.sessions.map fun x => (x.1, x.2.queues, x.2.timeout, x.2.die)) = [(0, 4, 2, 3)] ∧ t.dieQueues 3 = 5 ∧
     (let u := run (.sessionDestroy 9 4 [2, 0, 0, 0]) t
      vend u = [5, 9, 0, 0] ∧ u.omc.sessions = []) ∧
     (let u := { t with nvs := [(1, { nss := [(5, { session := 0, remote := 1, lbas := 1, format := 0, xts := 0 })] })] }
      vend (run (.sessionDestroy 9 4 [2, 0, 0, 0]) u) = [5, 9, 1, 4])) ∧
    vend (run (.sessionCreate 9 512 pl false) runS) = [5, 9, 1, 6] ∧
    vend (run (.sessionDestroy 9 4 [2, 0, 0, 0]) runS) = [5, 9, 2, 3]) := by decide +kernel

theorem test_vendor_more : (let s := { secS 1 0 with omc := runS.omc }
    vend (run (.secCommandMsg 9 52 (padTo [1, 2] 52) true 3) s) = [6, 9, 0, 0] ∧
    (run (.secCommandMsg 9 52 (padTo [1, 2] 52) true 3) s).fuses.lc = 15 ∧
    vend (run (.secCommandMsg 9 52 (padTo [1, 1] 52) true 3) s) = [6, 9, 5, 1] ∧
    vend (run (.secCommandMsg 9 52 (padTo [1, 2] 52) true 3) (a2 s)) = [6, 9, 4, 0]) ∧
    (let s := { runS.setByte (persistBase + 64) 7 with log := { runS.log with persist := 2 } }
     let t := run (.logRead 9 6 [1, 0, 0, 0, 5, 0]) s
     vend t = [8, 9, 0, 0] ∧ t.out = [.reply "vendor" ([8, 9, 0, 0, 72, 0, 0, 0, 2, 0, 0, 0, 1, 0, 0, 0, 7] ++ List.replicate 63 0xFF)]) ∧
    (let t := run (.setCertificate 9 15 ([0, 0, 0, 0] ++ leBytes 4 100 ++ zeros 4 ++ [1, 2, 3])) runS
     vend t = [9, 9, 0, 0] ∧ t.omc.certUp.map Upload.bytes = some [1, 2, 3] ∧ t.mem = runS.mem) := by decide +kernel

end Sys2Proof.Tests
end

section
/-! SUPPORT. Bits and fields of a register after a store to a field or a bit of it. -/
namespace Sys2Proof.Machine

theorem getLsbD_bitR {i : Nat} (h : i < 32) (j : Nat) : (bitR i).getLsbD j = decide (j = i) := by
  simp only [bitR, BitVec.getLsbD_ofNat, Nat.testBit_two_pow]
  by_cases hj : j = i
  · simp [hj, h]
  · simp [hj, Ne.symm hj]

theorem getLsbD_maskR {lo w : Nat} (h : lo + w ≤ 32) (j : Nat) :
    (maskR lo w).getLsbD j = decide (lo ≤ j ∧ j < lo + w) := by
  simp only [maskR, BitVec.getLsbD_ofNat, Nat.testBit_shiftLeft, Nat.testBit_two_pow_sub_one]
  by_cases h1 : lo ≤ j <;> by_cases h2 : j < lo + w <;> simp [h1, h2] <;> omega

theorem fld_testBit (r : Reg) (lo w i : Nat) : (fld r lo w).testBit i = (decide (i < w) && r.getLsbD (lo + i)) := by
  simp [fld, natField, BitVec.getLsbD]

/-- Registers that agree on the bits of a field agree on the field. -/
theorem fld_congr {a b : Reg} {lo w : Nat} (h : ∀ i < w, a.getLsbD (lo + i) = b.getLsbD (lo + i)) :
    fld a lo w = fld b lo w := by
  refine Nat.eq_of_testBit_eq fun i => ?_
  by_cases hi : i < w
  · simp [fld_testBit, h i hi]
  · simp [fld_testBit, hi]

theorem getLsbD_setFld {lo w : Nat} (h : lo + w ≤ 32) (r : Reg) (v j : Nat) :
    (setFld r lo w v).getLsbD j = if lo ≤ j ∧ j < lo + w then v.testBit (j - lo) else r.getLsbD j := by
  have hout (hj : 32 ≤ j) : r.getLsbD j = false := BitVec.getLsbD_of_ge r j hj
  simp only [setFld, BitVec.getLsbD_or, BitVec.getLsbD_and, BitVec.getLsbD_not, getLsbD_maskR h, BitVec.getLsbD_ofNat,
    Nat.testBit_shiftLeft, Nat.testBit_mod_two_pow]
  by_cases h32 : j < 32
  · by_cases h1 : lo ≤ j
    · by_cases h2 : j < lo + w
      · simp [h1, h2, h32]; omega
      · simp [h1, h2, h32]; omega
    · simp [h1, h32]
  · have : ¬ (lo ≤ j ∧ j < lo + w) := by omega
    simp [h32, hout (by omega), this]

/-- A field reads what was stored in it. -/
theorem fld_setFld_self {lo w : Nat} (h : lo + w ≤ 32) (r : Reg) (v : Nat) : fld (setFld r lo w v) lo w = v % 2 ^ w := by
  refine Nat.eq_of_testBit_eq fun i => ?_
  rw [fld_testBit, getLsbD_setFld h, Nat.testBit_mod_two_pow]
  by_cases hi : i < w <;> simp [hi]

/-- A bit outside a field stays as it is when the field is stored. -/
theorem bit_setFld_of_out {lo w i : Nat} (h : lo + w ≤ 32) (hi : i < lo ∨ lo + w ≤ i) (r : Reg) (v : Nat) :
    bit (setFld r lo w v) i = bit r i := by
  rw [bit, getLsbD_setFld h, if_neg (by omega)]
  rfl

theorem getLsbD_setBit {i : Nat} (h : i < 32) (r : Reg) (b : Bool) (j : Nat) :
    (setBit r i b).getLsbD j = if j = i then b else r.getLsbD j := by
  have hout (hj : 32 ≤ j) : r.getLsbD j = false := BitVec.getLsbD_of_ge r j hj
  cases b
  · simp only [setBit, Bool.false_eq_true, if_false, BitVec.getLsbD_and, BitVec.getLsbD_not, getLsbD_bitR h]
    by_cases h32 : j < 32
    · by_cases hj : j = i <;> simp [hj, h32]
    · simp [h32, hout (by omega)]
  · simp only [setBit, if_true, BitVec.getLsbD_or, getLsbD_bitR h]
    by_cases hj : j = i <;> simp [hj]

@[simp] theorem bit_setBit_self {i : Nat} (h : i < 32) (r : Reg) (b : Bool) : bit (setBit r i b) i = b := by
  simp [bit, getLsbD_setBit h]

theorem bit_setBit_of_ne {i j : Nat} (h : i < 32) (hj : j ≠ i) (r : Reg) (b : Bool) : bit (setBit r i b) j = bit r j := by
  simp [bit, getLsbD_setBit h, hj]

/-- A field whose bits are all cleared reads 0. -/
theorem fld_and_not_maskR {lo w : Nat} (h : lo + w ≤ 32) (r : Reg) : fld (r &&& ~~~maskR lo w) lo w = 0 := by
  refine Nat.eq_of_testBit_eq fun i => ?_
  rw [fld_testBit, BitVec.getLsbD_and, BitVec.getLsbD_not, getLsbD_maskR h]
  by_cases hi : i < w <;> simp [hi]

end Sys2Proof.Machine
end

section
/-! SUPPORT. Frames of the shared operations: which registers they can change, and the operations that change nothing
but waiting writes and power domains. -/
namespace Sys2Proof.Safety
open Sys2Proof.Machine

theorem RegsBut.of_regs_eq {ks : List Nat} {s t : State} (h : t.regs = s.regs) : RegsBut ks s t := fun k _ => by rw [h]

theorem RegsBut.trans {ks : List Nat} {s t u : State} (h : RegsBut ks s t) (g : RegsBut ks t u) : RegsBut ks s u :=
  fun k hk => (g k hk).trans (h k hk)

theorem regsBut_post {ks : List Nat} (s : State) {p : PageKey} {off : Nat} (v : Reg) (h : rkey p off ∈ ks) :
    RegsBut ks s (s.post p off v) :=
  fun _ hk => tabGet_put_of_ne _ _ _ _ _ _ fun e => hk (e ▸ h)

theorem regsBut_applied {ks : List Nat} (s : State) {p : PageKey} (h : rkey p 0x034 ∈ ks) :
    RegsBut ks s (s.applied p) := by
  unfold State.applied
  split
  · exact .of_regs_eq rfl
  · exact regsBut_post s _ h

end Sys2Proof.Safety

namespace Sys2Proof.Machine
open Sys2Proof.Safety

theorem rkey_ne_of_off {p q : PageKey} {o r : Nat} (ho : o < 4096) (hr : r < 4096) (h : o ≠ r) : rkey p o ≠ rkey q r :=
  fun e => h ((rkey_inj ho hr).1 e).2

/-! ### Fields that a frame leaves alone -/

section
variable {s t : State} (h : RegFrame s t)
include h

theorem RegFrame.doms_eq : t.doms = s.doms := by obtain ⟨_, _, _, rfl⟩ := h; rfl
theorem RegFrame.ferry_eq : t.ferry = s.ferry := by obtain ⟨_, _, _, rfl⟩ := h; rfl
theorem RegFrame.resets_eq : t.resets = s.resets := by obtain ⟨_, _, _, rfl⟩ := h; rfl
theorem RegFrame.fences_eq : t.fences = s.fences := by obtain ⟨_, _, _, rfl⟩ := h; rfl
theorem RegFrame.cuEvts_eq : t.cuEvts = s.cuEvts := by obtain ⟨_, _, _, rfl⟩ := h; rfl
theorem RegFrame.mem_eq : t.mem = s.mem := by obtain ⟨_, _, _, rfl⟩ := h; rfl

end

/-- Nothing but the writes that wait for a ferry and the power domains differs. -/
def WaitFrame (s t : State) : Prop := ∃ f x, t = { s with ferry := f, doms := x }

theorem WaitFrame.refl (s : State) : WaitFrame s s := ⟨s.ferry, s.doms, rfl⟩

theorem WaitFrame.trans {s t u : State} (h : WaitFrame s t) (g : WaitFrame t u) : WaitFrame s u := by
  obtain ⟨f, x, rfl⟩ := h
  obtain ⟨f', x', rfl⟩ := g
  exact ⟨f', x', rfl⟩

section
variable {s t : State} (h : WaitFrame s t)
include h

theorem WaitFrame.regs_eq : t.regs = s.regs := by obtain ⟨_, _, rfl⟩ := h; rfl
theorem WaitFrame.fast_eq : t.fast = s.fast := by obtain ⟨_, _, rfl⟩ := h; rfl
theorem WaitFrame.mem_eq : t.mem = s.mem := by obtain ⟨_, _, rfl⟩ := h; rfl
theorem WaitFrame.rd_eq (p : PageKey) (off : Nat) : t.rd p off = s.rd p off := by simp [State.rd, h.regs_eq]
theorem WaitFrame.fr_eq (p : PageKey) (off : Nat) : t.fr p off = s.fr p off := by simp [State.fr, h.fast_eq]

end

theorem waitFrame_wake (s : State) (d : Nat) : WaitFrame s (s.wake d) := by
  obtain ⟨x, h⟩ := wake_frame s d
  exact ⟨s.ferry, x, h⟩

theorem waitFrame_lift (s : State) (d : Nat) : WaitFrame s (s.lift d) := by
  unfold State.lift
  split
  · exact waitFrame_wake s d
  · exact .refl s

/-- A policy in effect may lift the domain that the page governs (R62). -/
theorem waitFrame_applyPolicy (s : State) (p : PageKey) : WaitFrame s (s.applyPolicy p) := by
  unfold State.applyPolicy
  split
  · exact .refl s
  · split
    · exact waitFrame_lift ..
    · exact .refl s

theorem waitFrame_enabledNow (s : State) (p : PageKey) : WaitFrame s (s.enabledNow p) := by
  unfold State.enabledNow
  split
  · exact .refl s
  · exact waitFrame_lift ..

/-- A write that waits is the last to wait, and may wake the domain (R42). -/
theorem waitFrame_pend (s : State) (mid : Mid) (p : PageKey) (off : Nat) (vals raw : List Reg) :
    WaitFrame s (s.pend mid p off vals raw) := by
  unfold State.pend
  dsimp only
  split
  · exact ⟨_, s.doms, rfl⟩
  · split
    · exact .trans ⟨_, s.doms, rfl⟩ (waitFrame_wake ..)
    · exact ⟨_, s.doms, rfl⟩

/-- A wake leaves the writes that wait as they are. -/
theorem wake_ferry (s : State) (d : Nat) : (s.wake d).ferry = s.ferry := by
  obtain ⟨x, h⟩ := wake_frame s d
  rw [h]

theorem pend_ferry (s : State) (mid : Mid) (p : PageKey) (off : Nat) (vals raw : List Reg) :
    (s.pend mid p off vals raw).ferry =
      s.ferry ++ [{ page := p, off := off, vals := vals, raw := raw, mid := mid, seq := s.rd p 0x030 }] := by
  unfold State.pend
  dsimp only
  split
  · rfl
  · split
    · exact wake_ferry ..
    · rfl

/-! ### Whether fast logic takes a write at once (R42, R44) -/

/-- Readiness follows waiting writes, power domains and resets alone. -/
theorem fastReady_congr {s t : State} (hf : t.ferry = s.ferry) (hd : t.doms = s.doms) (hr : t.resets = s.resets)
    (p : PageKey) : t.fastReady p = s.fastReady p := by
  simp only [State.fastReady, State.waiting, State.litPage, State.litDom, State.dom, State.inReset, hf, hd, hr]

theorem RegFrame.fastReady_eq {s t : State} (h : RegFrame s t) (p : PageKey) : t.fastReady p = s.fastReady p :=
  fastReady_congr h.ferry_eq h.doms_eq h.resets_eq p

/-- A wake takes no domain out of lit. -/
theorem litDom_wake {s : State} {k : Nat} (d : Nat) (h : s.litDom k = true) : (s.wake d).litDom k = true := by
  have keep (v : Domain) (hd : (s.dom d).st ≠ .lit) : (s.setDom d v).litDom k = true := by
    have hk : k ≠ d := fun e => hd (by simpa [State.litDom, e] using h)
    simpa [State.litDom, dom_setDom_of_ne s v hk] using h
  unfold State.wake
  dsimp only
  split
  · exact h
  · split
    case h_1 | h_2 | h_3 => exact h
    case h_4 hst | h_5 hst | h_6 hst => exact keep _ (by simp [hst])

theorem litPage_wake {s : State} {p : PageKey} (d : Nat) (h : s.litPage p = true) : (s.wake d).litPage p = true := by
  unfold State.litPage at h ⊢
  split
  · rfl
  · rename_i k hk
    exact litDom_wake d (by simpa [hk] using h)

theorem fastReady_wake {s : State} {p : PageKey} (d : Nat) (h : s.fastReady p = true) : (s.wake d).fastReady p = true := by
  obtain ⟨x, hx⟩ := wake_frame s d
  have hw : (s.wake d).waiting p = s.waiting p := by simp [State.waiting, hx]
  have hr : (s.wake d).inReset p = s.inReset p := by simp [State.inReset, hx]
  simp only [State.fastReady, Bool.or_eq_true, Bool.and_eq_true, hw, hr] at h ⊢
  exact h.imp_right fun ⟨⟨a, b⟩, c⟩ => ⟨⟨a, litPage_wake d b⟩, c⟩

/-- A policy in effect leaves a page that takes writes at once taking them at once. -/
theorem fastReady_applyPolicy {s : State} {p : PageKey} (h : s.fastReady p = true) :
    (s.applyPolicy p).fastReady p = true := by
  unfold State.applyPolicy State.lift
  split
  · exact h
  · split
    · split
      · exact fastReady_wake _ h
      · exact h
    · exact h

theorem litPage_of_domainOf {s : State} {p : PageKey} {d : Nat} (h : domainOf p = some d) : s.litPage p = s.litDom d := by
  simp [State.litPage, h]

/-- A wake request takes a dim domain that is not fenced to waking (R66). -/
theorem dom_wake_of_dim {s : State} {d : Nat} (hst : (s.dom d).st = .dim) (hf : s.domFenced d = false) :
    ((s.wake d).dom d).st = .wakingDim := by
  simp [State.wake, hf, hst]

end Sys2Proof.Machine
end

section
/-! SUPPORT. Interrupts of a page, and accepted writes of the common header. -/
namespace Sys2Proof.Machine
open Sys2Proof.Safety

/-! ### Interrupts (R39, R45, R303, R484) -/

/-- What a state keeps when the rise of a page's output is recorded and when vector 0 of a function is sent, it keeps
when the output rises: the rise does nothing else. -/
theorem irqOut_keeps {C : State → Prop} {s : State} {p : PageKey} (he : C (s.emit (.omcIrq p)))
    (hm : ∀ u e f, C u → C (u.msixSend e f 0)) : C (s.irqOut p) := by
  unfold State.irqOut
  dsimp only
  split
  case h_1 | h_2 | h_3 | h_4 | h_5 | h_6 => exact hm _ _ _ he
  case h_7 | h_8 | h_9 => exact hm _ _ _ (hm _ _ _ he)
  case h_10 | h_11 =>
    split
    · exact hm _ _ _ he
    · exact he
  case h_12 => exact he

/-- Vector 0 sets at most its pending bit, which is no register of a common header (R348). -/
theorem msixSend_rd_hdr (s : State) (e f : Nat) {q : PageKey} {r : Nat} (hr : r < 0x100) :
    (s.msixSend e f 0).rd q r = s.rd q r := by
  unfold State.msixSend
  dsimp only
  split
  · rfl
  · split
    · exact rd_post_of_ne s _ (rkey_ne_of_off (by omega) (by omega) (by omega))
    · rfl

theorem mem_out_msixSend {s : State} {o : Output} (e f v : Nat) (h : o ∈ s.out) : o ∈ (s.msixSend e f v).out := by
  unfold State.msixSend
  dsimp only
  split
  · exact h
  · split
    · exact h
    · exact List.mem_cons_of_mem _ h

theorem irqOut_rd_hdr (s : State) (p : PageKey) {q : PageKey} {r : Nat} (hr : r < 0x100) :
    (s.irqOut p).rd q r = s.rd q r :=
  irqOut_keeps (C := fun u => u.rd q r = s.rd q r) rfl fun u e f h => (msixSend_rd_hdr u e f hr).trans h

theorem omcIrq_mem_irqOut (s : State) (p : PageKey) : .omcIrq p ∈ (s.irqOut p).out :=
  irqOut_keeps (C := fun u => .omcIrq p ∈ u.out) (List.mem_cons_self ..) fun _ e f h => mem_out_msixSend e f 0 h

/-- Raised bits join INT_RAW. -/
theorem rd_raiseInt_raw (s : State) (p : PageKey) (bits : Reg) :
    (s.raiseInt p bits).rd p 0x010 = s.rd p 0x010 ||| bits := by
  unfold State.raiseInt
  dsimp only
  split
  · rw [irqOut_rd_hdr _ _ (by omega), rd_post_self]
  · rw [rd_post_self]

/-- Raised bits leave the rest of the header as it is. -/
theorem rd_raiseInt_hdr (s : State) (p : PageKey) (bits : Reg) {r : Nat} (hr : r < 0x100) (hne : r ≠ 0x010) :
    (s.raiseInt p bits).rd p r = s.rd p r := by
  have hp (v : Reg) : (s.post p 0x010 v).rd p r = s.rd p r :=
    rd_post_of_ne s v (rkey_ne_of_off (by omega) (by omega) hne)
  unfold State.raiseInt
  dsimp only
  split
  · rw [irqOut_rd_hdr _ _ hr, hp]
  · exact hp _

/-- The output rises when INT_PEND leaves 0. -/
theorem omcIrq_mem_raiseInt {s : State} {p : PageKey} {bits : Reg} (h0 : s.rd p 0x010 &&& s.rd p 0x014 = 0)
    (h1 : (s.rd p 0x010 ||| bits) &&& s.rd p 0x014 ≠ 0) : .omcIrq p ∈ (s.raiseInt p bits).out := by
  simp only [State.raiseInt, h0, h1, ne_eq, not_false_eq_true, and_self, if_true]
  exact omcIrq_mem_irqOut ..

/-- Where the output does not rise, INT_RAW alone changes. -/
theorem raiseInt_quiet {s : State} {p : PageKey} {bits : Reg}
    (h : s.rd p 0x010 &&& s.rd p 0x014 = 0 → (s.rd p 0x010 ||| bits) &&& s.rd p 0x014 = 0) :
    s.raiseInt p bits = s.post p 0x010 (s.rd p 0x010 ||| bits) := by
  unfold State.raiseInt
  exact if_neg fun ⟨h0, h1⟩ => h1 (h h0)

/-! ### The header's registers (R39, R40) -/

/-- A register of the header of a page is the one that the header's table lists, outside the deferred-read window. -/
theorem regDesc_hdr {p : PageKey} {off : Nat} (hp : (pageType p).isSome = true) (ho : off < 0xE0) :
    regDesc p off = hdrRegs.find? fun d => d.covers off := by
  obtain ⟨t, ht⟩ := Option.isSome_iff_exists.1 hp
  simp [regDesc, ht, show off < 0x100 by omega, show ¬ 0xE0 ≤ off by omega]

/-- No reserved encoding of `specialKeep` lies in the header. -/
theorem specialKeep_hdr (p : PageKey) {off : Nat} (ho : off < 0x100) (h40 : off % 0x40 ≠ 0) (old v : Reg) :
    specialKeep p off old v = v := by
  unfold specialKeep
  split
  case h_1 | h_2 => simp [show off ≠ 0x104 by omega]
  case h_3 => simp [show off ≠ 0x10C by omega]
  case h_4 => simp [show off ≠ 0x10C by omega]
  case h_5 => simp [show ¬ 0x200 ≤ off by omega]
  case h_6 => simp [show off ≠ 0x100 by omega, show ¬ 0x200 ≤ off by omega]
  case h_7 => simp [show ¬ 0x200 ≤ off by omega]
  case h_8 => simp [h40]
  case h_9 => simp [show off ≠ 0x140 by omega]
  case h_10 => rfl

/-- The seal has no say over a register without RWL fields (R48). -/
theorem mergeWrite_seal {d : RegDesc} (h : d.rwl = 0) (b c : Bool) (old v : Reg) :
    mergeWrite d b old v = mergeWrite d c old v := by
  simp [mergeWrite, h]

/-- A write of a register without RWL fields lands as one posted value, and raises nothing. -/
theorem land_eq_post {s : State} {p : PageKey} {off : Nat} {d : RegDesc} (hd : regDesc p off = some d) (hl : d.rwl = 0)
    (v : Reg) : s.land p off v = s.post p off (s.written p off v) := by
  simp [State.land, hd, hl]

theorem rd_stamp_of_ne (s : State) (p : PageKey) {off : Nat} (ho : off < 4096) (hne : off ≠ 0x030) :
    (s.stamp p).rd p off = s.rd p off := rd_post_of_ne s _ (rkey_ne_of_off ho (by omega) hne)

@[simp] theorem rd_stamp_seq (s : State) (p : PageKey) : (s.stamp p).rd p 0x030 = s.rd p 0x030 + 1 := rd_post_self ..

/-- That everything accepted is in effect shows in FERRY_STS alone (R43). -/
theorem rd_applied_of_ne (s : State) (p : PageKey) {off : Nat} (ho : off < 4096) (hne : off ≠ 0x034) :
    (s.applied p).rd p off = s.rd p off := by
  unfold State.applied
  split
  · rfl
  · exact rd_post_of_ne s _ (rkey_ne_of_off ho (by omega) hne)

theorem applied_fast (s : State) (p : PageKey) : (s.applied p).fast = s.fast := by
  unfold State.applied
  split <;> rfl

theorem applied_out (s : State) (p : PageKey) : (s.applied p).out = s.out := by
  unfold State.applied
  split <;> rfl

/-- The state in which an accepted write acts: PAGE_SEQ has advanced, and the register reads `w`. -/
def State.wrote (s : State) (p : PageKey) (off : Nat) (w : Reg) : State := (s.stamp p).post p off w

section
variable (s : State) (p : PageKey) (off : Nat) (w : Reg)

@[simp] theorem wrote_rd_self : (s.wrote p off w).rd p off = w := rd_post_self ..

theorem wrote_rd_seq (ho : off < 4096) (hne : off ≠ 0x030) : (s.wrote p off w).rd p 0x030 = s.rd p 0x030 + 1 :=
  (rd_post_of_ne _ w (rkey_ne_of_off (by omega) ho hne.symm)).trans (rd_stamp_seq s p)

theorem wrote_rd_of_ne {r : Nat} (ho : off < 4096) (hr : r < 4096) (hne : r ≠ off) (hseq : r ≠ 0x030) :
    (s.wrote p off w).rd p r = s.rd p r :=
  (rd_post_of_ne _ w (rkey_ne_of_off hr ho hne)).trans (rd_stamp_of_ne s p hr hseq)

@[simp] theorem wrote_fast : (s.wrote p off w).fast = s.fast := rfl

theorem regFrame_wrote : RegFrame s (s.wrote p off w) := (regFrame_stamp s p).trans (regFrame_post ..)

theorem regsBut_wrote {ks : List Nat} (h : rkey p off ∈ ks) (hseq : rkey p 0x030 ∈ ks) :
    RegsBut ks s (s.wrote p off w) :=
  (regsBut_post s _ hseq).trans (regsBut_post _ w h)

end

/-- What a header register without RWL fields holds after a write of `v`. -/
def hdrWritten (d : RegDesc) (old v : Reg) : Reg := keepReserved old (mergeWrite d false old v) d.legal

/-- A write of a header register without RWL fields, as it lands. -/
theorem land_stamp_hdr {s : State} {p : PageKey} {off : Nat} {d : RegDesc} (hd : regDesc p off = some d)
    (hl : d.rwl = 0) (ho : off < 0x100) (h40 : off % 0x40 ≠ 0) (hne : off ≠ 0x030) (v : Reg) :
    (s.stamp p).land p off v = s.wrote p off (hdrWritten d (s.rd p off) v) := by
  rw [land_eq_post hd hl, State.wrote, hdrWritten, State.written, hd]
  simp only [specialKeep_hdr p ho h40, rd_stamp_of_ne s p (by omega : off < 4096) hne, mergeWrite_seal hl _ false]

/-- An admitted write of a header register without RWL fields takes effect at acceptance (R39, R43). -/
theorem nowWrite_hdr {s : State} {mid : Mid} {p : PageKey} {off : Nat} {d : RegDesc} (h : Admitted s mid p off)
    (hd : regDesc p off = some d) (hl : d.rwl = 0) (ho : off < 0x100) (h40 : off % 0x40 ≠ 0) (hne : off ≠ 0x030)
    (v : Reg) (act : State → State) {w : Reg} (hw : hdrWritten d (s.rd p off) v = w) :
    s.nowWrite mid p off v act = (act ((s.wrote p off w).setFast p off w)).applied p := by
  rw [nowWrite_admitted h, State.lanternWrite, land_stamp_hdr hd hl ho h40 hne, hw, wrote_rd_self]

end Sys2Proof.Machine
end

section
/-! SUPPORT. Interrupt registers and counters that clear on a read. -/
namespace Sys2Proof.Machine
open Sys2Proof.Safety

/-! ### Reads that clear (R4, R40, R45, R49) -/

/-- A read of a register that shows what it stores returns the value before it and clears its RC fields. -/
theorem rcRead_eq (s : State) {p : PageKey} {off : Nat} {d : RegDesc} (hd : regDesc p off = some d) (hwo : d.wo = 0)
    (ho : off ∉ [0x000, 0x004, 0x00C, 0x018, 0x01C, 0x034]) :
    s.rcRead p off = (s.rd p off, s.post p off (s.rd p off &&& ~~~d.rc)) := by
  simp only [List.mem_cons, List.not_mem_nil, or_false, not_or] at ho
  simp [State.rcRead, State.peek, hd, hwo, ho]
  exact BitVec.and_allOnes

/-- What an admitted read of a 16-bit count returns and clears. -/
theorem rcCount_read {s : State} {mid : Mid} {p : PageKey} {off : Nat} {d : RegDesc} (h : Admitted s mid p off)
    (hd : regDesc p off = some d) (hrc : d.rc = maskR 0 16) (hwo : d.wo = 0)
    (ho : off ∉ [0x000, 0x004, 0x00C, 0x018, 0x01C, 0x034]) {t : State}
    (ht : t = s.accessRead mid p off fun s => s.rcRead p off) :
    t.out = .readData mid (rkey p off) ((s.rd p off).setWidth 64) :: s.out ∧ fld (t.rd p off) 0 16 = 0 ∧
      RegsBut [rkey p off] s t ∧ OnlyRegs s t := by
  rw [accessRead_admitted h, rcRead_eq s hd hwo ho] at ht
  subst ht
  refine ⟨rfl, ?_, (regsBut_post s _ (by simp)).trans (.of_regs_eq rfl),
    ((regFrame_post ..).trans (regFrame_emit ..)).onlyRegs⟩
  rw [rd_emit, rd_post_self, hrc]
  exact fld_and_not_maskR (by omega) _

theorem regDesc_faultCount {p : PageKey} (hp : (pageType p).isSome = true) :
    regDesc p 0x024 = some { name := "FAULT_COUNT", off := 0x24, rc := 0x0000FFFF } :=
  regDesc_hdr hp (by omega)

/-- The page types with a lock (R49). -/
theorem pageType_of_hasLock {p : PageKey} (h : hasLock p = true) :
    pageType p = some .tbl ∨ pageType p = some .iadm ∨ pageType p = some .mbxw := by
  unfold hasLock at h
  cases ht : pageType p with
  | none => simp [ht] at h
  | some t => cases t <;> simp_all [lockCount]

theorem lockOff_of_hasLock {p : PageKey} (h : hasLock p = true) : lockOff p = some 0x100 := by
  rcases pageType_of_hasLock h with ht | ht | ht <;> simp [lockOff, ht, lockCount]

theorem lockOff_lt {p : PageKey} {off : Nat} (ho : off < 0x100) : lockOff p ≠ some off := by
  unfold lockOff
  split
  · split
    · simp
    · simp; omega
  · simp

/-- LOCK_BADREL of each page with a lock holds one count (R49). -/
theorem regDesc_lockBadrel {p : PageKey} (h : hasLock p = true) :
    ∃ d, regDesc p 0x108 = some d ∧ d.rc = maskR 0 16 ∧ d.wo = 0 := by
  rcases pageType_of_hasLock h with ht | ht | ht
  · exact ⟨{ name := "TBL_LOCK_BADREL", off := 0x108, rc := 0x0000FFFF }, by simp only [regDesc, ht]; rfl, rfl, rfl⟩
  · exact ⟨{ name := "IADM_LOCK_BADREL", off := 0x108, rc := 0x0000FFFF }, by simp only [regDesc, ht]; rfl, rfl, rfl⟩
  · exact ⟨{ name := "MBXW_LOCK_BADREL", off := 0x108, rc := 0x0000FFFF }, by simp only [regDesc, ht]; rfl, rfl, rfl⟩

/-- No register of the header shows the block as it is. -/
theorem live_hdr (s : State) (p : PageKey) {off : Nat} (ho : off < 0x100) : s.live p off = none := by
  have hne (n : Nat) (hn : 0x100 ≤ n) : off ≠ n := by omega
  have hlt (n : Nat) (hn : 0x100 ≤ n) : ¬ n ≤ off := by omega
  unfold State.live
  dsimp only
  split
  case h_4 => split <;> simp [hne]
  case h_12 => simp [State.cdbgLive, hne, hlt]
  case h_14 => rfl
  all_goals simp [hne, hlt]

/-- A plain read of a header register with RC fields clears them. -/
theorem plainRead_hdr_rc {s : State} {mid : Mid} {p : PageKey} {off : Nat} {d : RegDesc} (ho : off < 0x100)
    (hd : regDesc p off = some d) (hrc : d.rc ≠ 0) : s.plainRead mid p off = s.rcRead p off := by
  simp only [State.plainRead, lockOff_lt ho, hd, hrc, if_false]

/-- A page has no read of its own in the header. -/
theorem pageRead_hdr (s : State) (mid : Mid) (p : PageKey) {off : Nat} (ho : off < 0x100) :
    s.pageRead mid p off = s.plainRead mid p off := by
  unfold State.pageRead
  dsimp only
  split
  case h_1 | h_2 => exact if_neg (by omega)
  case h_3 => exact if_neg (by omega)
  case h_4 | h_5 => exact if_neg (by omega)
  case h_6 => simp [live_hdr s p ho, show off ≠ 0x114 by omega]
  case h_7 => simp [live_hdr s p ho]

/-- FAULT_COUNT_READ and RC_COUNTER_READ of FAULT_COUNT are one read. -/
theorem exec_faultCount_reads {s : State} {mid : Mid} {p : PageKey} (hp : (pageType p).isSome = true) {c : Instr}
    (hc : c ∈ [Instr.faultCountRead mid p, .rcCounterRead mid p 0x024]) :
    exec c s = .next (s.accessRead mid p 0x024 fun s => s.rcRead p 0x024) := by
  have hd := regDesc_faultCount hp
  simp only [List.mem_cons, List.not_mem_nil, or_false] at hc
  rcases hc with rfl | rfl
  · rfl
  · show execRcCounterRead mid p 0x024 s = _
    have hrd : (fun u : State => u.pageRead mid p 0x024) = fun u => u.rcRead p 0x024 :=
      funext fun u => (pageRead_hdr u mid p (by omega)).trans (plainRead_hdr_rc (by omega) hd (by decide))
    simp [execRcCounterRead, hd, hrd]

theorem exec_lockBadrelRead {s : State} {mid : Mid} {p : PageKey} (hl : hasLock p = true) :
    exec (.lockBadrelRead mid p) s = .next (s.accessRead mid p 0x108 fun s => s.rcRead p 0x108) := by
  show execLockBadrelRead mid p s = _
  simp [execLockBadrelRead, lockOff_of_hasLock hl]

/-! ### Interrupt registers (R39, R45) -/

/-- Bits that are raised and in effect: they join INT_RAW, PAGE_SEQ stays, and the output rises when INT_PEND leaves
0 and is silent where INT_PEND stays 0. -/
theorem raiseInt_applied_row {u : State} {p : PageKey} {raw en : Reg} (hraw : u.rd p 0x010 = raw) (hen : u.rd p 0x014 = en)
    (bits : Reg) {t : State} (ht : t = (u.raiseInt p bits).applied p) :
    t.rd p 0x010 = raw ||| bits ∧ t.rd p 0x030 = u.rd p 0x030 ∧ RegFrame u t ∧
    (raw &&& en = 0 → (raw ||| bits) &&& en ≠ 0 → .omcIrq p ∈ t.out) ∧
    ((raw &&& en = 0 → (raw ||| bits) &&& en = 0) →
      t.out = u.out ∧ RegsBut [rkey p 0x010, rkey p 0x030, rkey p 0x034] u t) := by
  subst ht hraw hen
  refine ⟨?_, ?_, (regFrame_raiseInt ..).trans (regFrame_applied ..), fun h0 h1 => ?_, fun hq => ?_⟩
  · rw [rd_applied_of_ne _ _ (by omega) (by omega), rd_raiseInt_raw]
  · rw [rd_applied_of_ne _ _ (by omega) (by omega), rd_raiseInt_hdr _ _ _ (by omega) (by omega)]
  · rw [applied_out]
    exact omcIrq_mem_raiseInt h0 h1
  · rw [applied_out, raiseInt_quiet hq]
    exact ⟨rfl, (regsBut_post _ _ (by simp)).trans (regsBut_applied _ (by simp))⟩

/-- INT_SET on an admitted page. -/
theorem exec_intSet {s : State} {mid : Mid} {p : PageKey} (h : Admitted s mid p 0x01C) (v : Reg) :
    exec (.intSet mid p v) s = .next (((s.stamp p).raiseInt p v).applied p) := by
  show execIntSet mid p v s = _
  rw [execIntSet, accessWrite_admitted h]

theorem regDesc_intRaw {p : PageKey} (hp : (pageType p).isSome = true) :
    regDesc p 0x010 = some { name := "INT_RAW", off := 0x10, w1c := 0xFFFFFFFF } :=
  regDesc_hdr hp (by omega)

/-- A write of ones clears W1C bits. -/
theorem hdrWritten_intRaw (old v : Reg) :
    hdrWritten { name := "INT_RAW", off := 0x10, w1c := 0xFFFFFFFF } old v = old &&& ~~~v := by
  have hw : hdrWritten { name := "INT_RAW", off := 0x10, w1c := 0xFFFFFFFF } old v =
      (old &&& ~~~0 ||| v &&& 0) &&& ~~~(v &&& BitVec.allOnes 32) ||| v &&& 0 := rfl
  have h1 : old &&& ~~~0 = old := BitVec.and_allOnes
  rw [hw, BitVec.and_allOnes, h1]
  simp

/-- Bits that are set at once need no exception from what clears. -/
theorem clear_or_set (old v hw : Reg) : (old &&& ~~~(v &&& ~~~hw)) ||| hw = (old &&& ~~~v) ||| hw := by
  ext i hi
  cases h : hw[i] <;> simp [h]

/-- INT_RAW_CLEAR on an admitted page that no cipher event holds: the ones clear, and what fast logic sets in the same
cycle is raised. -/
theorem exec_intRawClear {s : State} {mid : Mid} {p : PageKey} (h : Admitted s mid p 0x010)
    (hev : tabFind s.cuEvts p = none) (v hw : Reg) {w : Reg} (hwv : s.rd p 0x010 &&& ~~~(v &&& ~~~hw) = w) :
    exec (.intRawClear mid p v hw) s = .next ((((s.wrote p 0x010 w).setFast p 0x010 w).raiseInt p hw).applied p) := by
  show execIntRawClear mid p v hw s = _
  have hlev : (((s.wrote p 0x010 w).setFast p 0x010 w).levelBits p) = 0 := by
    simp [State.levelBits, (regFrame_wrote s p 0x010 w).cuEvts_eq, hev]
  rw [execIntRawClear, nowWrite_hdr h (regDesc_intRaw h.1) rfl (by omega) (by omega) (by omega) _ _
    ((hdrWritten_intRaw ..).trans hwv), hlev]
  exact congrArg (fun b => Host.Outcome.next ((State.raiseInt _ p b).applied p)) BitVec.or_zero

end Sys2Proof.Machine
end

section
open Sys2Proof.Machine Sys2Proof.Safety
/-- Settles O7: a read that clears is one post of the register, and a raise of interrupts changes nothing else that the
statement names, since the vectors it sends set no register of a header. -/
theorem interruptRows : Obligations.InterruptRows := by
  unfold Obligations.InterruptRows
  intro s mid p
  refine ⟨fun h c hc => ?_, fun hl h => ?_, fun v h => ?_, fun v hw h hev => ?_⟩
  · exact ⟨_, exec_faultCount_reads h.1 hc, rcCount_read h (regDesc_faultCount h.1) rfl rfl (by decide) rfl⟩
  · obtain ⟨d, hd, hrc, hwo⟩ := regDesc_lockBadrel hl
    exact ⟨_, exec_lockBadrelRead hl, rcCount_read h hd hrc hwo (by decide) rfl⟩
  · obtain ⟨hraw, hseq, hfr, hrise, hquiet⟩ := raiseInt_applied_row (rd_stamp_of_ne s p (by omega) (by omega))
      (rd_stamp_of_ne s p (by omega) (by omega)) v rfl
    refine ⟨_, exec_intSet h v, hraw, hseq.trans (rd_stamp_seq s p), ((regFrame_stamp s p).trans hfr).onlyRegs, hrise,
      fun hp => ?_⟩
    obtain ⟨hout, hregs⟩ := hquiet fun _ => hp
    exact ⟨hout, (regsBut_post s _ (by simp)).trans hregs⟩
  · obtain ⟨w, hcl⟩ : ∃ w, s.rd p 0x010 &&& ~~~(v &&& ~~~hw) = w := ⟨_, rfl⟩
    obtain ⟨hraw, hseq, hfr, -, hquiet⟩ := raiseInt_applied_row (u := (s.wrote p 0x010 w).setFast p 0x010 w)
      ((rd_setFast ..).trans (wrote_rd_self ..))
      ((rd_setFast ..).trans (wrote_rd_of_ne s p _ _ (by omega) (by omega) (by omega) (by omega))) hw rfl
    refine ⟨_, exec_intRawClear h hev v hw hcl, hraw.trans ?_, hseq.trans (wrote_rd_seq s p _ _ (by omega) (by omega)),
      (((regFrame_wrote ..).trans (regFrame_setFast ..)).trans hfr).onlyRegs, fun h0 => ?_⟩
    · rw [← hcl, clear_or_set]
    · obtain ⟨hout, hregs⟩ := hquiet fun hq => by simpa [h0] using hq
      have hwrote : RegsBut [rkey p 0x010, rkey p 0x030, rkey p 0x034] s (s.wrote p 0x010 w) :=
        regsBut_wrote s p 0x010 w (by simp) (by simp)
      exact ⟨hout, (hwrote.trans (.of_regs_eq (State.setFast_regs ..))).trans hregs⟩
end

section
/-! SUPPORT. The control registers of the common header: seal, power policy, enable and wake. -/
namespace Sys2Proof.Machine
open Sys2Proof.Safety

/-- What a header write leaves where its action changes waiting writes and power domains alone. -/
theorem wrote_applied_row {s u t : State} {p : PageKey} {off : Nat} {w : Reg} (ho : off < 4096) (hne : off ≠ 0x034)
    (hu : WaitFrame ((s.wrote p off w).setFast p off w) u) (ht : t = u.applied p) :
    t.rd p off = w ∧ t.fr p off = w ∧ t.mem = s.mem ∧ RegsBut [rkey p off, rkey p 0x030, rkey p 0x034] s t := by
  subst ht
  refine ⟨?_, ?_, ?_, ?_⟩
  · rw [rd_applied_of_ne _ _ ho hne, hu.rd_eq, rd_setFast, wrote_rd_self]
  · rw [State.fr, applied_fast, ← State.fr, hu.fr_eq, fr_setFast_self]
  · rw [(regFrame_applied ..).mem_eq, hu.mem_eq, State.setFast_mem, (regFrame_wrote ..).mem_eq]
  · have hw : RegsBut [rkey p off, rkey p 0x030, rkey p 0x034] s (s.wrote p off w) :=
      regsBut_wrote s p off w (by simp) (by simp)
    exact (hw.trans (.of_regs_eq hu.regs_eq)).trans (regsBut_applied u (by simp))

/-! ### CFG_SEAL (R48) -/

/-- CFG_SEAL of every page: SEAL is W1S. -/
def cfgSealDesc : RegDesc := { name := "CFG_SEAL", off := 0x28, w1s := 0x00000001 }

theorem regDesc_cfgSeal {p : PageKey} (hp : (pageType p).isSome = true) : regDesc p 0x028 = some cfgSealDesc :=
  regDesc_hdr hp (by omega)

/-- A write of 1 leaves SEAL set, whatever it was. -/
theorem bit_hdrWritten_cfgSeal (old : Reg) : bit (hdrWritten cfgSealDesc old 1) 0 = true := by
  simp [hdrWritten, keepReserved, mergeWrite, bit, cfgSealDesc]

theorem exec_cfgSeal {s : State} {mid : Mid} {p : PageKey} (h : Admitted s mid p 0x028) {w : Reg}
    (hw : hdrWritten cfgSealDesc (s.rd p 0x028) 1 = w) :
    exec (.cfgSeal mid p) s = .next (((s.wrote p 0x028 w).setFast p 0x028 w).applied p) := by
  show execCfgSeal mid p s = _
  rw [execCfgSeal, nowWrite_hdr h (regDesc_cfgSeal h.1) rfl (by omega) (by omega) (by omega) _ _ hw]
  rfl

/-! ### WAKE_CTL (R66) -/

/-- WAKE_CTL of every page: both wake enables are RW, WAKE_NOW is W1S. -/
def wakeCtlDesc : RegDesc :=
  { name := "WAKE_CTL", off := 0x2C, reset := 0x00000003, rw := 0x00000003, w1s := 0x00000100 }

theorem regDesc_wakeCtl {p : PageKey} (hp : (pageType p).isSome = true) : regDesc p 0x02C = some wakeCtlDesc :=
  regDesc_hdr hp (by omega)

theorem bit_hdrWritten_wakeNow (old : Reg) :
    bit (hdrWritten wakeCtlDesc old ((old &&& 0x3) ||| 0x100)) 8 = true := by
  simp [hdrWritten, keepReserved, mergeWrite, bit, wakeCtlDesc]

theorem exec_wakeNow {s : State} {mid : Mid} {p : PageKey} (h : Admitted s mid p 0x02C) {w : Reg}
    (hw : hdrWritten wakeCtlDesc (s.rd p 0x02C) ((s.rd p 0x02C &&& 0x3) ||| 0x100) = w) :
    exec (.wakeNow mid p) s = .next ((((s.wrote p 0x02C w).setFast p 0x02C w).applyWakeNow p).applied p) := by
  show execWakeNow mid p s = _
  rw [execWakeNow, nowWrite_hdr h (regDesc_wakeCtl h.1) rfl (by omega) (by omega) (by omega) _ _ hw]

/-- WAKE_NOW of a block that is lit clears at once (R39). -/
theorem applyWakeNow_of_lit {s : State} {p : PageKey} (h : s.litPage p = true) :
    s.applyWakeNow p = s.postBit p 0x02C 8 false := by
  simp [State.applyWakeNow, h]

/-- WAKE_NOW of a block that is not lit asks for its domain's wake (R66). -/
theorem applyWakeNow_of_dark {s : State} {p : PageKey} {d : Nat} (h : s.litPage p = false) (hd : domainOf p = some d) :
    s.applyWakeNow p = s.wake d := by
  simp [State.applyWakeNow, h, hd]

theorem RegFrame.dom_eq {s t : State} (h : RegFrame s t) (d : Nat) : t.dom d = s.dom d := by
  rw [State.dom, h.doms_eq, State.dom]

theorem RegFrame.litDom_eq {s t : State} (h : RegFrame s t) (d : Nat) : t.litDom d = s.litDom d := by
  rw [State.litDom, h.dom_eq, State.litDom]

theorem RegFrame.domFenced_eq {s t : State} (h : RegFrame s t) (d : Nat) : t.domFenced d = s.domFenced d := by
  simp [State.domFenced, State.isFenced, h.fences_eq]

/-- WAKE_NOW in a page whose domain is lit. -/
theorem wakeNow_lit_row {u : State} {p : PageKey} (h : u.litPage p = true) {t : State}
    (ht : t = (u.applyWakeNow p).applied p) :
    bit (t.rd p 0x02C) 8 = false ∧ t.doms = u.doms ∧ RegsBut [rkey p 0x02C, rkey p 0x030, rkey p 0x034] u t := by
  rw [applyWakeNow_of_lit h] at ht
  subst ht
  refine ⟨?_, ((regFrame_postBit ..).trans (regFrame_applied ..)).doms_eq,
    (regsBut_post u _ (by simp)).trans (regsBut_applied _ (by simp))⟩
  rw [rd_applied_of_ne _ _ (by omega) (by omega), State.postBit, rd_post_self, bit_setBit_self (by omega)]

/-! ### PAGE_CTL (R5, R39, R43, R62) -/

/-- PAGE_CTL of every page: ENABLE and PWR_POLICY are RW, SOFT_RESET is W1S, and policy 3 is reserved. -/
def pageCtlDesc : RegDesc :=
  { name := "PAGE_CTL", off := 0x8, rw := 0x00000031, w1s := 0x00000002, legal := [(4, 2, [(0, 2)])] }

theorem regDesc_pageCtl {p : PageKey} (hp : (pageType p).isSome = true) : regDesc p 0x008 = some pageCtlDesc :=
  regDesc_hdr hp (by omega)

/-- A written PAGE_CTL takes the RW bits of the write, before the check for a reserved policy. -/
theorem mergeWrite_pageCtl_rw {i : Nat} (hi : i ∈ [0, 4, 5]) (b : Bool) (old v : Reg) :
    (mergeWrite pageCtlDesc b old v).getLsbD i = v.getLsbD i := by
  simp only [List.mem_cons, List.not_mem_nil, or_false] at hi
  rcases hi with rfl | rfl | rfl <;> simp [mergeWrite, pageCtlDesc]

theorem fld_mergeWrite_policy (b : Bool) (old v : Reg) : fld (mergeWrite pageCtlDesc b old v) 4 2 = fld v 4 2 :=
  fld_congr fun i hi => mergeWrite_pageCtl_rw (by simp; omega) b old v

theorem fld_lt (r : Reg) (lo w : Nat) : fld r lo w < 2 ^ w := Nat.mod_lt _ (Nat.two_pow_pos w)

/-- The reserved policy is put back to the one before (R5). -/
theorem hdrWritten_pageCtl (old v : Reg) : hdrWritten pageCtlDesc old v =
    if fld v 4 2 = 3 then setFld (mergeWrite pageCtlDesc false old v) 4 2 (fld old 4 2)
    else mergeWrite pageCtlDesc false old v := by
  have hl : hdrWritten pageCtlDesc old v =
      keepReserved old (mergeWrite pageCtlDesc false old v) [(4, 2, [(0, 2)])] := rfl
  have h4 := fld_lt v 4 2
  rw [hl, keepReserved, keepReserved, fld_mergeWrite_policy]
  by_cases h3 : fld v 4 2 = 3
  · simp [h3, legalIn]
  · simp [h3, legalIn, show fld v 4 2 ≤ 2 by omega]

/-- ENABLE takes the written bit. -/
theorem bit_hdrWritten_enable (old v : Reg) : bit (hdrWritten pageCtlDesc old v) 0 = bit v 0 := by
  have hm : bit (mergeWrite pageCtlDesc false old v) 0 = bit v 0 := mergeWrite_pageCtl_rw (by simp) false old v
  rw [hdrWritten_pageCtl]
  split
  · rw [bit_setFld_of_out (by omega) (by omega), hm]
  · exact hm

/-- PWR_POLICY takes the written field, but for the reserved encoding, which leaves it (R5). -/
theorem fld_hdrWritten_policy (old v : Reg) :
    fld (hdrWritten pageCtlDesc old v) 4 2 = if fld v 4 2 = 3 then fld old 4 2 else fld v 4 2 := by
  rw [hdrWritten_pageCtl]
  split
  · rw [fld_setFld_self (by omega), Nat.mod_eq_of_lt (fld_lt old 4 2)]
  · exact fld_mergeWrite_policy false old v

theorem bit_and_not_bitR {i j : Nat} (hj : j < 32) (hne : i ≠ j) (r : Reg) : bit (r &&& ~~~bitR j) i = bit r i :=
  bit_setBit_of_ne hj hne r false

theorem exec_pwrPolicy {s : State} {mid : Mid} {p : PageKey} (h : Admitted s mid p 0x008) (pol : BitVec 2) {w : Reg}
    (hw : hdrWritten pageCtlDesc (s.rd p 0x008) (setFld (s.rd p 0x008 &&& ~~~(bitR 1)) 4 2 pol.toNat) = w) :
    exec (.pwrPolicy mid p pol) s = .next ((((s.wrote p 0x008 w).setFast p 0x008 w).applyPolicy p).applied p) := by
  show execPwrPolicy mid p pol s = _
  rw [execPwrPolicy, nowWrite_hdr h (regDesc_pageCtl h.1) rfl (by omega) (by omega) (by omega) _ _ hw]

/-- Fast logic of a block that the write enables, or of one without ports, does no more than lift the domain's floor
where the write asks for no reset (R39, R63). -/
theorem waitFrame_pageCtlApply {u : State} {p : PageKey} {v : Reg} (hr : bit v 1 = false)
    (ht : u.enabled p = true ∨ (pageType p ≠ some .mac ∧ pageType p ≠ some .npg ∧ pageType p ≠ some .peer)) :
    WaitFrame u (u.pageCtlApply p v) := by
  have hen : (u.enabledNow p).enabled p = u.enabled p := by
    rw [State.enabled, (waitFrame_enabledNow u p).fr_eq, State.enabled]
  unfold State.pageCtlApply
  simp only [hen, hr, Bool.false_eq_true, if_false]
  split
  · exact waitFrame_enabledNow u p
  · rename_i hoff
    obtain ⟨hmac, hnpg, hpeer⟩ := ht.resolve_left hoff
    split
    case h_1 hty => exact absurd hty hmac
    case h_2 hty => exact absurd hty hnpg
    case h_3 hty => exact absurd hty hpeer
    case h_4 => exact waitFrame_enabledNow u p

/-- A write of PAGE_CTL leaves the value visible, and fast logic with it or waiting for it: only waiting writes and
power domains differ otherwise. -/
theorem pageCtlWrite_cases {s : State} {mid : Mid} {p : PageKey} (h : Admitted s mid p 0x008) {v w : Reg}
    (hw : hdrWritten pageCtlDesc (s.rd p 0x008) v = w) (hr : bit v 1 = false)
    (ht : bit v 0 = true ∨ (pageType p ≠ some .mac ∧ pageType p ≠ some .npg ∧ pageType p ≠ some .peer)) :
    (∃ u, WaitFrame ((s.wrote p 0x008 w).setFast p 0x008 w) u ∧ s.pageCtlWrite mid p v = u.applied p) ∨
    (s.fastReady p = false ∧ WaitFrame (s.wrote p 0x008 w) (s.pageCtlWrite mid p v)) := by
  have hpol := waitFrame_applyPolicy (s.wrote p 0x008 w) p
  have hrd : ((s.wrote p 0x008 w).applyPolicy p).rd p 0x008 = w := (hpol.rd_eq ..).trans (wrote_rd_self ..)
  have hfast : WaitFrame ((s.wrote p 0x008 w).setFast p 0x008 w)
      (((s.wrote p 0x008 w).applyPolicy p).setFast p 0x008 w) := by
    obtain ⟨f, x, hx⟩ := hpol
    exact ⟨f, x, by rw [hx]; rfl⟩
  rw [State.pageCtlWrite, accessWrite_admitted h]
  simp only [land_stamp_hdr (regDesc_pageCtl h.1) rfl (by omega : 8 < 0x100) (by omega) (by omega), hw, hrd, hr]
  split
  · exact .inl ⟨_, hfast, rfl⟩
  · split
    · refine .inl ⟨_, hfast.trans (waitFrame_pageCtlApply hr (ht.imp_left fun hon => ?_)), rfl⟩
      rw [State.enabled, fr_setFast_self, ← hw, bit_hdrWritten_enable, hon]
    · rename_i hbusy
      refine .inr ⟨Bool.eq_false_iff.2 fun hready => hbusy (fastReady_applyPolicy ?_), hpol.trans (waitFrame_pend ..)⟩
      rw [(regFrame_wrote ..).fastReady_eq, hready]

end Sys2Proof.Machine
end

section
open Sys2Proof.Machine Sys2Proof.Safety

/-- Settles O8: each clause is one accepted header write (`wrote_applied_row`) whose action changes power domains and
waiting writes alone. -/
theorem headerRows : Obligations.HeaderRows := by
  unfold Obligations.HeaderRows
  intro s mid p
  refine ⟨fun h => ?_, fun pol h => ?_, fun on h hty => ?_, fun d h hdom => ?_⟩
  · obtain ⟨hrd, -, -, hregs⟩ := wrote_applied_row (off := 0x028) (by omega) (by omega) (.refl _) rfl
    refine ⟨_, exec_cfgSeal h rfl, ?_, hregs,
      (((regFrame_wrote ..).trans (regFrame_setFast ..)).trans (regFrame_applied ..)).onlyRegs⟩
    rw [State.isSealed, hrd, bit_hdrWritten_cfgSeal]
  · obtain ⟨hrd, -, -, hregs⟩ := wrote_applied_row (off := 0x008) (by omega) (by omega) (waitFrame_applyPolicy _ p) rfl
    refine ⟨_, exec_pwrPolicy h pol rfl, ?_, ?_, hregs⟩
    · have hpol : fld (setFld (s.rd p 0x008 &&& ~~~(bitR 1)) 4 2 pol.toNat) 4 2 = pol.toNat := by
        rw [fld_setFld_self (by omega), Nat.mod_eq_of_lt pol.isLt]
      have h3 : pol.toNat = 3 ↔ pol = 3 := (BitVec.toNat_inj (y := 3#2))
      rw [hrd, fld_hdrWritten_policy, hpol]
      simp only [h3]
    · rw [hrd, bit_hdrWritten_enable, bit_setFld_of_out (by omega) (by omega), bit_and_not_bitR (by omega) (by omega)]
  · have hv0 : bit (setBit (s.rd p 0x008 &&& ~~~(bitR 1)) 0 on) 0 = on := bit_setBit_self (by omega) ..
    have hv1 : bit (setBit (s.rd p 0x008 &&& ~~~(bitR 1)) 0 on) 1 = false := by
      rw [bit_setBit_of_ne (by omega) (by omega)]
      exact bit_setBit_self (by omega) _ false
    have hw := bit_hdrWritten_enable (s.rd p 0x008) (setBit (s.rd p 0x008 &&& ~~~(bitR 1)) 0 on)
    rcases pageCtlWrite_cases h rfl hv1 (by rwa [hv0]) with ⟨u, hu, hex⟩ | ⟨hbusy, hwait⟩
    · obtain ⟨hrd, hfr, hmem, hregs⟩ := wrote_applied_row (by omega) (by omega) hu hex
      exact ⟨_, rfl, by rw [hrd, hw, hv0], hmem, fun _ => by rw [hfr, hw, hv0], hregs⟩
    · refine ⟨_, rfl, ?_, ?_, fun hready => ?_, ?_⟩
      · rw [hwait.rd_eq, wrote_rd_self, hw, hv0]
      · rw [hwait.mem_eq, (regFrame_wrote ..).mem_eq]
      · simp [hbusy] at hready
      · exact (regsBut_wrote s p 0x008 _ (by simp) (by simp)).trans (.of_regs_eq hwait.regs_eq)
  · obtain ⟨w, hw⟩ : ∃ w, hdrWritten wakeCtlDesc (s.rd p 0x02C) ((s.rd p 0x02C &&& 0x3) ||| 0x100) = w := ⟨_, rfl⟩
    have hfr : RegFrame s ((s.wrote p 0x02C w).setFast p 0x02C w) := (regFrame_wrote ..).trans (regFrame_setFast ..)
    have hpage : ((s.wrote p 0x02C w).setFast p 0x02C w).litPage p = s.litDom d :=
      (litPage_of_domainOf hdom).trans (hfr.litDom_eq d)
    refine ⟨_, exec_wakeNow h hw, ?_⟩
    cases hlit : s.litDom d with
    | true =>
      obtain ⟨hbit, hdoms, hregs⟩ := wakeNow_lit_row (hpage.trans hlit) rfl
      refine ⟨fun _ => ⟨hbit, hdoms.trans hfr.doms_eq⟩, by simp, fun hdim => ?_,
        ((regsBut_wrote s p 0x02C w (by simp) (by simp)).trans (.of_regs_eq (State.setFast_regs ..))).trans hregs⟩
      simp [State.litDom, hdim] at hlit
    | false =>
      rw [applyWakeNow_of_dark (hpage.trans hlit) hdom]
      obtain ⟨hrd, -, -, hregs⟩ := wrote_applied_row (s := s) (off := 0x02C) (w := w) (by omega) (by omega)
        (waitFrame_wake _ d) rfl
      refine ⟨by simp, fun _ => ?_, fun hdim hfenced => ?_, hregs⟩
      · rw [hrd, ← hw, bit_hdrWritten_wakeNow]
      · rw [(regFrame_applied ..).dom_eq]
        exact dom_wake_of_dim (by rw [hfr.dom_eq, hdim]) (by rw [hfr.domFenced_eq, hfenced])
end

section
/-! SUPPORT. A register write on a port's page, and the ferry's batch. -/
namespace Sys2Proof.Machine
open Sys2Proof.Safety

/-! ### Little-endian bytes (R3) -/

theorem length_leBytes (n v : Nat) : (leBytes n v).length = n := by
  induction n generalizing v with
  | zero => rfl
  | succ n ih => simp [leBytes, ih]

theorem leNat_leBytes (n v : Nat) : leNat (leBytes n v) = v % 256 ^ n := by
  induction n generalizing v with
  | zero => simp [leBytes, leNat, Nat.mod_one]
  | succ n ih =>
    rw [leBytes, leNat, ih, BitVec.toNat_ofNat, show 256 ^ (n + 1) = 256 * 256 ^ n from Nat.pow_succ', Nat.mod_mul]

/-- The bytes of a register hold its value. -/
theorem ofNat_leNat_leBytes (v : Reg) : BitVec.ofNat 32 (leNat (leBytes 4 v.toNat)) = v := by
  have hv := v.isLt
  rw [leNat_leBytes, Nat.mod_eq_of_lt (by omega), BitVec.ofNat_toNat, BitVec.setWidth_eq]

/-! ### Where a MAC page lies (R30, R54) -/

theorem ite_ne_of {α : Type} {c : Prop} [Decidable c] {a b x : α} (ha : a ≠ x) (hb : b ≠ x) :
    (if c then a else b) ≠ x := by
  split
  · exact ha
  · exact hb

theorem instPageType_ne_mac (f n : Nat) : instPageType f n ≠ some .mac := by
  unfold instPageType
  repeat' refine ite_ne_of ?_ ?_
  all_goals simp

theorem corePage_ne_mac (r g n : Nat) : corePage r g n ≠ some .mac := by
  unfold corePage
  repeat' refine ite_ne_of ?_ ?_
  all_goals simp

theorem hostPage_ne_mac (r g n : Nat) : hostPage r g n ≠ some .mac := by
  unfold hostPage
  repeat' refine ite_ne_of ?_ ?_
  all_goals simp

theorem mgmtPage_ne_mac (n : Nat) : mgmtPage n ≠ some .mac := by
  unfold mgmtPage
  split <;> simp

theorem globalPage_ne_mac (n : Nat) : globalPage n ≠ some .mac := by
  unfold globalPage
  split <;> simp

/-- A MAC page is an internal page of a line die. -/
theorem mac_place {p : PageKey} (h : pageType p = some .mac) :
    isInst p = false ∧ p / 65536 = 4 ∧ isLine (pgSite p) = true := by
  unfold pageType at h
  dsimp only at h
  split at h
  · exact absurd h (instPageType_ne_mac _ _)
  · rename_i hinst
    split at h
    · cases h
    · rename_i hspace
      split at h
      · exact absurd h (corePage_ne_mac _ _ _)
      · split at h
        · rename_i hline
          exact ⟨by simpa using hinst, Decidable.not_not.1 hspace, hline⟩
        · split at h
          · exact absurd h (hostPage_ne_mac _ _ _)
          · split at h
            · cases h
            · split at h
              · exact absurd h (mgmtPage_ne_mac _)
              · split at h
                · exact absurd h (globalPage_ne_mac _)
                · cases h

/-- A port's block is in a switched domain. -/
theorem switched_mac {p : PageKey} (h : pageType p = some .mac) : switched p = true := by
  simp only [switched, domainOf, h]
  split
  · rfl
  · split
    · rfl
    · rfl

/-- The address of an offset of an internal page names the page and the offset (R30). -/
theorem internal_addr {n off : Nat} (h4 : n / 65536 = 4) (ho : off < 4096) :
    (BitVec.ofNat 32 (n * 4096 + off)).toNat = n * 4096 + off ∧ natField (n * 4096 + off) 28 4 = 4 ∧
      (n * 4096 + off) / 4096 % 2 ^ 20 = n ∧ (n * 4096 + off) % 4096 = off := by
  rw [BitVec.toNat_ofNat, natField, Nat.shiftRight_eq_div_pow]
  omega

/-- An address of a MAC page leads there for every master but a host. -/
theorem spot_mac (s : State) {mid : Mid} {p : PageKey} {off : Nat} (hm : midIsHost mid = false)
    (hp : pageType p = some .mac) (ho : off < 4096) :
    s.spot mid (.internal (BitVec.ofNat 32 (p * 4096 + off))) = .page p off := by
  obtain ⟨hn, hspace, hpage, hoff⟩ := internal_addr (mac_place hp).2.1 ho
  simp only [State.spot, hm, hn, hspace, hpage, hoff, Bool.false_eq_true, if_false]

/-! ### A write of the OMC on a MAC page (R5, R34, R41, R48) -/

theorem midIsHost_of_omc {mid : Mid} (h : midIsOmc mid = true) : midIsHost mid = false := by
  simp_all [midIsOmc, midIsHost]

/-- No rule turns a write of the OMC away from a register that exists (R35). -/
theorem admitted_omc {s : State} {mid : Mid} {p : PageKey} {off : Nat} (hm : midIsOmc mid = true)
    (hp : (pageType p).isSome = true) (hd : (regDesc p off).isSome = true) : Admitted s mid p off := by
  obtain ⟨t, ht⟩ := Option.isSome_iff_exists.1 hp
  refine ⟨hp, by simp [State.hostGate, midIsHost_of_omc hm], ?_, hd⟩
  have hdbg : midIsDebug mid = false := by simp_all [midIsOmc, midIsDebug]
  simp [State.classAdmits, ht, hdbg, hm]

/-- A 32-bit write of the OMC reaches the page that the address names. -/
theorem exec_registerWrite_omc {s : State} {mid : Mid} {p : PageKey} {off : Nat} (hm : midIsOmc mid = true)
    (hp : pageType p = some .mac) (ho : off < 4096) (h4 : off % 4 = 0) (v : Reg) :
    exec (.registerWrite mid false (.internal (BitVec.ofNat 32 (p * 4096 + off))) (leBytes 4 v.toNat)) s =
      .next (s.regWrite mid p off v) := by
  have hhost := midIsHost_of_omc hm
  have halign : addrLow (.internal (BitVec.ofNat 32 (p * 4096 + off))) % 4 = 0 := by
    rw [addrLow, BitVec.toNat_ofNat]; omega
  have hgate : s.hostGate mid p false = none := by simp [State.hostGate, hhost]
  show execRegisterWrite mid false _ _ s = _
  simp [execRegisterWrite, State.busPiece, length_leBytes, hhost, halign, spot_mac s hhost hp ho, hgate,
    ofNat_leNat_leBytes]

/-- A MAC page has no lock. -/
theorem lockOff_mac {p : PageKey} (hp : pageType p = some .mac) : lockOff p = none := by
  simp [lockOff, hp, lockCount]

/-- A block register of a MAC page is written as any register that fast logic applies. -/
theorem regWrite_mac {s : State} {mid : Mid} {p : PageKey} {off : Nat} (hp : pageType p = some .mac) (ho : 0x100 ≤ off)
    (v : Reg) : s.regWrite mid p off v = s.ownWrite mid p off v (State.late p off v mid) := by
  obtain ⟨hinst, -, hline⟩ := mac_place hp
  simp only [isLine, Bool.and_eq_true, decide_eq_true_eq] at hline
  have hlan : lanternReg p off = false := by
    simp [lanternReg, hp, switched_mac hp, show ¬ off < 0x100 by omega]
  simp [State.regWrite, State.pageWrite, State.writeEdge, State.genericWrite, hp, hinst, hlan, lockOff_mac hp,
    show off ≠ 0x008 by omega, show ¬ off < 0x100 by omega, show ¬ pgSite p < 4 by omega,
    show ¬ 12 ≤ pgSite p by omega]

/-- Fast logic of a port holds the value and does no more, but for MAC_CTL and MAC_PREEMPT. -/
theorem late_mac {p : PageKey} {off : Nat} (hp : pageType p = some .mac) (ho : 0x100 < off) (h110 : off ≠ 0x110)
    (v : Reg) (mid : Mid) (s : State) : State.late p off v mid s = s := by
  simp [State.late, hp, State.lateCore, State.lateCluster, State.lateEdge, h110, show off ≠ 0x008 by omega,
    show ¬ off < 0x100 by omega, show off ≠ 0x100 by omega]

/-- The RWL fields of a MAC page lie in registers with reserved encodings. -/
theorem mac_rwl {p : PageKey} {off : Nat} {d : RegDesc} (hp : pageType p = some .mac) (ho : 0x100 ≤ off)
    (hd : regDesc p off = some d) (hl : d.legal = []) : d.rwl = 0 := by
  have hall : ∀ d ∈ macRegs, d.legal = [] → d.rwl = 0 := by decide
  have hf : macRegs.find? (fun d => d.covers off) = some d := by
    simpa [regDesc, hp, show ¬ off < 0x100 by omega, blockRegs] using hd
  exact hall d (List.mem_of_find?_eq_some hf) hl

/-- The visible value after a write of a MAC register without reserved encodings follows the access types alone. -/
theorem land_stamp_mac {s : State} {p : PageKey} {off : Nat} {d : RegDesc} (hp : pageType p = some .mac)
    (ho : 0x100 ≤ off) (ho' : off < 4096) (hd : regDesc p off = some d) (hl : d.legal = []) (v : Reg) :
    (s.stamp p).land p off v = s.wrote p off (mergeWrite d (s.isSealed p) (s.rd p off) v) := by
  have hseal : (s.stamp p).isSealed p = s.isSealed p := by
    rw [State.isSealed, rd_stamp_of_ne s p (by omega) (by omega), State.isSealed]
  rw [land_eq_post hd (mac_rwl hp ho hd hl), State.wrote, State.written, hd]
  simp only [specialKeep, hp, hl, keepReserved, hseal, rd_stamp_of_ne s p ho' (show off ≠ 0x030 by omega)]

/-- A register write of the OMC on a MAC page: the value is visible, and fast logic holds it or it is the last that
waits. -/
theorem registerWrite_mac_row {s t : State} {mid : Mid} {p : PageKey} {off : Nat} {d : RegDesc} {v : Reg}
    (hm : midIsOmc mid = true) (hp : pageType p = some .mac) (ho : 0x100 < off) (ho' : off < 4096) (h110 : off ≠ 0x110)
    (hd : regDesc p off = some d) (hl : d.legal = []) (ht : t = s.regWrite mid p off v) :
    t.rd p off = mergeWrite d (s.isSealed p) (s.rd p off) v ∧ t.rd p 0x030 = s.rd p 0x030 + 1 ∧
    (s.fastReady p = true → t.fr p off = t.rd p off ∧ t.ferry = s.ferry) ∧
    (s.fastReady p = false → ∃ w : FerryWrite, t.ferry = s.ferry ++ [w] ∧ w.page = p ∧ w.off = off ∧
      w.vals = [t.rd p off] ∧ t.fast = s.fast) ∧
    t.mem = s.mem := by
  have hadm : Admitted s mid p off := admitted_omc hm (by simp [hp]) (by simp [hd])
  obtain ⟨m, hmerge⟩ : ∃ m, mergeWrite d (s.isSealed p) (s.rd p off) v = m := ⟨_, rfl⟩
  have hland := land_stamp_mac (s := s) hp (Nat.le_of_lt ho) ho' hd hl v
  rw [hmerge] at hland ⊢
  have hready : (s.wrote p off m).fastReady p = s.fastReady p := (regFrame_wrote ..).fastReady_eq p
  rw [regWrite_mac hp (Nat.le_of_lt ho), State.ownWrite, accessWrite_admitted hadm, State.ferryWrite] at ht
  simp only [hland, hready, wrote_rd_self, late_mac hp ho h110] at ht
  cases hf : s.fastReady p with
  | true =>
    simp only [hf, if_true] at ht
    obtain ⟨hrd, hfr, hmem, -⟩ := wrote_applied_row ho' (by omega) (.refl _) ht
    refine ⟨hrd, ?_, fun _ => ⟨hfr.trans hrd.symm, ?_⟩, by simp, hmem⟩
    · rw [ht, rd_applied_of_ne _ _ (by omega) (by omega), rd_setFast, wrote_rd_seq s p off m ho' (by omega)]
    · rw [ht, (regFrame_applied ..).ferry_eq, State.setFast_ferry, (regFrame_wrote ..).ferry_eq]
  | false =>
    simp only [hf, Bool.false_eq_true, if_false] at ht
    have hw : WaitFrame (s.wrote p off m) t := ht ▸ waitFrame_pend ..
    have hrd : t.rd p off = m := (hw.rd_eq ..).trans (wrote_rd_self ..)
    refine ⟨hrd, ?_, by simp, fun _ => ⟨_, ht ▸ pend_ferry .., rfl, rfl, ?_, ?_⟩, ?_⟩
    · rw [hw.rd_eq, wrote_rd_seq s p off m ho' (by omega)]
    · rw [hrd]
    · rw [hw.fast_eq, wrote_fast]
    · rw [hw.mem_eq, (regFrame_wrote ..).mem_eq]

/-! ### The ferry's batch (R41, R42, R43) -/

/-- A waiting write of one MAC register, as the batch applies it. -/
theorem applyOne_mac {s : State} {p : PageKey} {off : Nat} (hp : pageType p = some .mac) (ho : 0x100 < off)
    (h110 : off ≠ 0x110) {w : FerryWrite} {v r : Reg} (hpage : w.page = p) (hoff : w.off = off) (hv : w.vals = [v])
    (hr : w.raw = [r]) :
    State.applyOne State.late s w = (s.setFast p off v).postFld p 0x034 16 16 (w.seq.toNat % 65536) := by
  simp [State.applyOne, hpage, hoff, hv, hr, late_mac hp ho h110]

theorem exec_ferryBatch {s : State} {p : PageKey} (hl : s.litPage p = true) (hr : s.inReset p = false) :
    exec (.ferryBatch p) s = .next ((s.ferry.filter fun w => w.page == p).foldl (State.applyOne State.late)
      { s with ferry := s.ferry.filter fun w => !(w.page == p) }) := by
  show execFerryBatch p s = _
  simp [execFerryBatch, State.batch, hl, hr]

/-- What the last write of a batch leaves. -/
theorem lastApplied_row {u t : State} {p : PageKey} {off n : Nat} {v : Reg}
    (ht : t = (u.setFast p off v).postFld p 0x034 16 16 (n % 65536)) :
    t.fr p off = v ∧ fld (t.rd p 0x034) 16 16 = n % 65536 ∧ t.ferry = u.ferry ∧ RegsBut [rkey p 0x034] u t := by
  subst ht
  refine ⟨fr_setFast_self u p off v, ?_, rfl,
    (RegsBut.of_regs_eq (State.setFast_regs ..)).trans (regsBut_post _ _ (by simp))⟩
  rw [State.postFld, rd_post_self, fld_setFld_self (by omega)]
  exact Nat.mod_mod ..

/-- Nothing of the page waits once its writes have left. -/
theorem waiting_of_ferry_eq {s t : State} {p : PageKey} (h : t.ferry = s.ferry.filter fun w => !(w.page == p)) :
    t.waiting p = false := by
  simp [State.waiting, h]

end Sys2Proof.Machine
end

section
open Sys2Proof.Machine Sys2Proof.Safety

/-- Settles O9: a port's page gives a write no action of its own (`late_mac`), so that fast logic takes the visible value at
once or the value waits, and a batch gives fast logic each value in turn (`applyOne_mac`). -/
theorem registerWriteAndFerry : Obligations.RegisterWriteAndFerry := by
  unfold Obligations.RegisterWriteAndFerry
  intro s mid p off d hp ho ho' h4 h110 hd hl
  refine ⟨fun v hm => ⟨_, exec_registerWrite_omc hm hp ho' h4 v, registerWrite_mac_row hm hp ho ho' h110 hd hl rfl⟩,
    fun w v r hlit hres hws hpage hoff hv hr => ⟨_, exec_ferryBatch hlit hres, ?_⟩,
    fun w x v u r q hlit hres hws hwp hxp hwo hxo hv hr hu hq => ⟨_, exec_ferryBatch hlit hres, ?_⟩⟩
  · rw [hws, List.foldl_cons, List.foldl_nil, applyOne_mac hp ho h110 hpage hoff hv hr]
    obtain ⟨hfr, hseq, hferry, hregs⟩ := lastApplied_row rfl
    exact ⟨hfr, hseq, hferry, waiting_of_ferry_eq hferry, (RegsBut.of_regs_eq rfl).trans hregs⟩
  · rw [hws, List.foldl_cons, List.foldl_cons, List.foldl_nil, applyOne_mac hp ho h110 hwp hwo hv hr,
      applyOne_mac hp ho h110 hxp hxo hu hq]
    obtain ⟨hfr, hseq, hferry, -⟩ := lastApplied_row rfl
    exact ⟨hfr, hseq, waiting_of_ferry_eq hferry⟩
end

section
/-! SUPPORT. Soft reset of a unit, and the deferred-read window. -/
namespace Sys2Proof.Machine
open Sys2Proof.Safety

section
variable (s : State) (p : PageKey) (off : Nat) {i j : Nat} (b : Bool)

theorem bit_rd_postBit_self (hi : i < 32) : bit ((s.postBit p off i b).rd p off) i = b := by
  rw [State.postBit, rd_post_self, bit_setBit_self hi]

theorem bit_rd_postBit_of_ne (hi : i < 32) (hj : j ≠ i) :
    bit ((s.postBit p off i b).rd p off) j = bit (s.rd p off) j := by
  rw [State.postBit, rd_post_self, bit_setBit_of_ne hi hj]

end

/-! ### SOFT_RESET (R18, R39) -/

theorem RegFrame.clk_eq {s t : State} (h : RegFrame s t) : t.clk = s.clk := by obtain ⟨_, _, _, rfl⟩ := h; rfl
theorem RegFrame.drw_eq {s t : State} (h : RegFrame s t) : t.drw = s.drw := by obtain ⟨_, _, _, rfl⟩ := h; rfl
theorem RegFrame.ctr_eq {s t : State} (h : RegFrame s t) (p : PageKey) (i : Nat) : t.ctr p i = s.ctr p i := by
  obtain ⟨_, _, _, rfl⟩ := h; rfl
theorem WaitFrame.clk_eq {s t : State} (h : WaitFrame s t) : t.clk = s.clk := by obtain ⟨_, _, rfl⟩ := h; rfl
theorem WaitFrame.resets_eq {s t : State} (h : WaitFrame s t) : t.resets = s.resets := by
  obtain ⟨_, _, rfl⟩ := h; rfl

theorem sameUnit_self (p : PageKey) : sameUnit p p = true := by simp [sameUnit]

/-- A unit that is in no reset has none of its own under way. -/
theorem no_unit_reset {s : State} {p : PageKey} (h : s.inReset p = false) :
    (s.resets.any fun r => r.1 == .unit p) = false := by
  simp only [State.inReset, List.any_eq_false] at h ⊢
  intro r hr hp
  refine h r hr ?_
  rw [beq_iff_eq.1 hp, resetCovers, fenceCovers, sameUnit_self]

/-- The start of a unit's reset: the reset joins those under way, and the domain may wake (R18, R66). -/
theorem startSoftReset_waitFrame {s : State} {p : PageKey} (h : (s.resets.any fun r => r.1 == .unit p) = false) :
    WaitFrame { s with resets := s.resets ++ [(.unit p, s.clk)] } (s.startSoftReset p) := by
  rw [State.startSoftReset, h]
  cases domainOf p with
  | none => exact .refl _
  | some d => exact waitFrame_wake ..

/-- SOFT_RESET reads 1 after a write of 1, whatever it was. -/
theorem bit_hdrWritten_softReset (old : Reg) {v : Reg} (h : bit v 1 = true) :
    bit (hdrWritten pageCtlDesc old v) 1 = true := by
  have hm : bit (mergeWrite pageCtlDesc false old v) 1 = true := by
    have hv : v.getLsbD 1 = true := h
    simp [bit, mergeWrite, pageCtlDesc, hv]
  rw [hdrWritten_pageCtl]
  split
  · rw [bit_setFld_of_out (by omega) (by omega), hm]
  · exact hm

theorem bit_or_bitR_of_ne (r : Reg) {i j : Nat} (hi : i < 32) (hne : j ≠ i) : bit (r ||| bitR i) j = bit r j :=
  bit_setBit_of_ne hi hne r true

/-- SOFT_RESET of a block that takes writes at once. -/
theorem exec_softReset {s : State} {mid : Mid} {p : PageKey} (h : Admitted s mid p 0x008)
    (hready : s.fastReady p = true) {w : Reg}
    (hw : hdrWritten pageCtlDesc (s.rd p 0x008) (s.rd p 0x008 ||| bitR 1) = w) :
    exec (.softReset mid p) s =
      .next (((((s.wrote p 0x008 w).applyPolicy p).setFast p 0x008 w).startSoftReset p).applied p) := by
  show execSoftReset mid p s = _
  have hreset : bit (s.rd p 0x008 ||| bitR 1) 1 = true := bit_setBit_self (by omega) _ true
  have hen : bit (s.rd p 0x008 ||| bitR 1) 0 = bit (s.rd p 0x008) 0 := bit_or_bitR_of_ne _ (by omega) (by omega)
  have hnow : ((s.wrote p 0x008 w).applyPolicy p).fastReady p = true :=
    fastReady_applyPolicy (by rw [(regFrame_wrote ..).fastReady_eq, hready])
  rw [execSoftReset, State.pageCtl, accessWrite_admitted h]
  simp only [land_stamp_hdr (regDesc_pageCtl h.1) rfl (by omega : 8 < 0x100) (by omega) (by omega), hw, hreset, hen,
    hnow, (waitFrame_applyPolicy _ p).rd_eq, wrote_rd_self]
  simp

/-- A soft reset that fast logic takes at once. -/
theorem softReset_row {s t : State} {p : PageKey} {w : Reg} (h : s.inReset p = false)
    (ht : t = ((((s.wrote p 0x008 w).applyPolicy p).setFast p 0x008 w).startSoftReset p).applied p) :
    t.rd p 0x008 = w ∧ t.resets = s.resets ++ [(.unit p, s.clk)] ∧ t.mem = s.mem := by
  have hwrote := regFrame_wrote s p 0x008 w
  have hpol := waitFrame_applyPolicy (s.wrote p 0x008 w) p
  generalize (s.wrote p 0x008 w).applyPolicy p = u at hpol ht
  have hres : (u.setFast p 0x008 w).resets = s.resets := hpol.resets_eq.trans hwrote.resets_eq
  have hclk : (u.setFast p 0x008 w).clk = s.clk := hpol.clk_eq.trans hwrote.clk_eq
  have hstart := startSoftReset_waitFrame (s := u.setFast p 0x008 w) (p := p) (by rw [hres, no_unit_reset h])
  rw [hres, hclk] at hstart
  subst ht
  refine ⟨?_, ?_, ?_⟩
  · rw [rd_applied_of_ne _ _ (by omega) (by omega), hstart.rd_eq]
    exact (hpol.rd_eq ..).trans (wrote_rd_self ..)
  · exact (regFrame_applied ..).resets_eq.trans hstart.resets_eq
  · exact (((regFrame_applied ..).mem_eq.trans hstart.mem_eq).trans hpol.mem_eq).trans hwrote.mem_eq

/-- The end of a unit's reset, in a page of no core: the last that it does is to clear SOFT_RESET (R39). -/
theorem exec_softResetDone {s : State} {p : PageKey} (h : (s.resets.any fun r => r.1 == .unit p) = true)
    (hlit : s.litPage p = true) (hty : pageType p ≠ some .fcore) :
    ∃ u : State, (u.resets.any fun r => r.1 == .unit p) = false ∧
      exec (.softResetDone p) s =
        .next ((u.postBit p 0x008 1 false).setFast p 0x008 ((u.postBit p 0x008 1 false).rd p 0x008)) := by
  have hdue : ¬ ((!s.resets.any fun r => r.1 == .unit p) = true ∨ (!s.litPage p) = true) := by simp [h, hlit]
  obtain ⟨u, hu⟩ : ∃ u, (((s.unitReset p).accusedClear (.unit p)).fencesLift (.unit p)).intsClear (.unit p) = u :=
    ⟨_, rfl⟩
  refine ⟨{ u with resets := u.resets.filter fun r => !(r.1 == Scope.unit p) }, by simp, ?_⟩
  show execSoftResetDone p s = _
  rw [execSoftResetDone, if_neg hdue]
  subst hu
  exact congrArg Host.Outcome.next (if_neg hty)

/-! ### The deferred-read window (R46) -/

/-- A register of a page stays when another of the page is posted. -/
theorem rd_post_off (s : State) (p : PageKey) {o r : Nat} (v : Reg) (ho : o < 4096) (hr : r < 4096) (h : r ≠ o) :
    (s.post p o v).rd p r = s.rd p r := rd_post_of_ne s v (rkey_ne_of_off hr ho h)

/-- DRW_REQ of a page with a deferred-read window. -/
def drwReqDesc : RegDesc := { name := "DRW_REQ", off := 0xE0, rw := 0x40FFFFFF, w1s := 0x80000000 }

theorem regDesc_drwReq {p : PageKey} (h : (regDesc p 0x0E0).isSome = true) : regDesc p 0x0E0 = some drwReqDesc := by
  cases hp : pageType p with
  | none => simp [regDesc, hp] at h
  | some t =>
    cases hw : hasDrw p with
    | false => simp [regDesc, hp, hw] at h
    | true =>
      have hf : hdrRegs.find? (fun d => d.covers 0x0E0) = some drwReqDesc := rfl
      simp [regDesc, hp, hw, hf]

theorem exec_drwGo {s : State} {mid : Mid} {p : PageKey} (h : Admitted s mid p 0x0E0) {v w : Reg}
    (hw : hdrWritten drwReqDesc (s.rd p 0x0E0) (v ||| 0x80000000) = w) :
    exec (.drwGo mid p v) s = .next ((((s.wrote p 0x0E0 w).setFast p 0x0E0 w).drwStart mid p v).applied p) := by
  obtain ⟨-, -, -, hreg⟩ := id h
  show execDrwGo mid p v s = _
  rw [execDrwGo, nowWrite_hdr h (regDesc_drwReq hreg) rfl (by omega) (by omega) (by omega) _ _ hw]

/-- DRW_STS of a read in progress: BUSY beside the MID. -/
theorem busyWord_eq (mid : Mid) : BitVec.ofNat 32 (0x40000000 + mid.toNat) = 0x40000000 ||| mid.setWidth 32 := by
  have hadd : 0x40000000 + mid.toNat = 0x40000000 ||| mid.toNat := Nat.two_pow_add_eq_or_of_lt (i := 30) (by omega) 1
  refine BitVec.eq_of_toNat_eq ?_
  rw [BitVec.toNat_ofNat, Nat.mod_eq_of_lt (by omega), BitVec.toNat_or, BitVec.toNat_setWidth,
    Nat.mod_eq_of_lt (a := mid.toNat) (by omega)]
  exact hadd

/-- A GO while BUSY is 0 records the MID and starts a read; while BUSY is 1 it is refused. -/
theorem drwStart_row {ks : List Nat} {s t : State} {mid : Mid} {p : PageKey} {v : Reg} (hreq : rkey p 0x0E0 ∈ ks)
    (hsts : rkey p 0x0E4 ∈ ks) (ht : t = s.drwStart mid p v) :
    (bit (s.rd p 0x0E4) 30 = false → t.rd p 0x0E4 = 0x40000000 ||| mid.setWidth 32 ∧
      t.drw = s.drw ++ [{ page := p, index := fld v 0 24, clear := bit v 30, start := s.clk }]) ∧
    (bit (s.rd p 0x0E4) 30 = true → bit (t.rd p 0x0E4) 29 = true ∧ t.drw = s.drw) ∧
    RegsBut ks s t := by
  have hrd : (s.postBit p 0x0E0 31 false).rd p 0x0E4 = s.rd p 0x0E4 :=
    rd_post_off s p _ (by omega) (by omega) (by omega)
  have hgo : RegsBut ks s (s.postBit p 0x0E0 31 false) := regsBut_post s _ hreq
  rw [State.drwStart, hrd, busyWord_eq] at ht
  cases hbusy : bit (s.rd p 0x0E4) 30 with
  | false =>
    rw [hbusy, if_neg Bool.false_ne_true] at ht
    subst ht
    have hpost := regsBut_post (s.postBit p 0x0E0 31 false) (0x40000000 ||| mid.setWidth 32) hsts
    exact ⟨fun _ => ⟨rd_post_self (s.postBit p 0x0E0 31 false) .., rfl⟩, by simp,
      hgo.trans (hpost.trans (.of_regs_eq rfl))⟩
  | true =>
    rw [hbusy, if_pos rfl] at ht
    subst ht
    exact ⟨by simp, fun _ => ⟨bit_rd_postBit_self _ _ _ _ (by omega), rfl⟩, hgo.trans (regsBut_post _ _ hsts)⟩

/-- A GO on an admitted page. -/
theorem drwGo_row {s t : State} {mid : Mid} {p : PageKey} {v w : Reg}
    (ht : t = (((s.wrote p 0x0E0 w).setFast p 0x0E0 w).drwStart mid p v).applied p) :
    (bit (s.rd p 0x0E4) 30 = false → t.rd p 0x0E4 = 0x40000000 ||| mid.setWidth 32 ∧
      t.drw = s.drw ++ [{ page := p, index := fld v 0 24, clear := bit v 30, start := s.clk }]) ∧
    (bit (s.rd p 0x0E4) 30 = true → bit (t.rd p 0x0E4) 29 = true ∧ t.drw = s.drw) ∧
    RegsBut [rkey p 0x0E0, rkey p 0x0E4, rkey p 0x030, rkey p 0x034] s t := by
  have hsts : ((s.wrote p 0x0E0 w).setFast p 0x0E0 w).rd p 0x0E4 = s.rd p 0x0E4 :=
    wrote_rd_of_ne s p _ _ (by omega) (by omega) (by omega) (by omega)
  have hregs : RegsBut [rkey p 0x0E0, rkey p 0x0E4, rkey p 0x030, rkey p 0x034] s
      ((s.wrote p 0x0E0 w).setFast p 0x0E0 w) := regsBut_wrote s p _ _ (by simp) (by simp)
  obtain ⟨u, hu⟩ : ∃ u, ((s.wrote p 0x0E0 w).setFast p 0x0E0 w).drwStart mid p v = u := ⟨_, rfl⟩
  obtain ⟨hidle, hbusy, hstart⟩ := drwStart_row (ks := [rkey p 0x0E0, rkey p 0x0E4, rkey p 0x030, rkey p 0x034])
    (by simp) (by simp) hu.symm
  rw [hsts] at hidle hbusy
  rw [ht, hu, rd_applied_of_ne _ _ (by omega) (by omega), (regFrame_applied ..).drw_eq]
  exact ⟨hidle, hbusy, (hregs.trans hstart).trans (regsBut_applied _ (by simp))⟩

theorem exec_drwComplete {s : State} {p : PageKey} {d : DrwRead} (h : s.drw.find? (fun d => d.page == p) = some d) :
    exec (.drwComplete p) s = .next (s.drwDone d) := by
  show execDrwComplete p s = _
  rw [execDrwComplete, h]

/-- The end of a read, as registers show it: the count in the data registers, READY without BUSY, and DRW_READY. -/
def State.drwShow (s : State) (p : PageKey) (v : Nat) : State :=
  ((((s.post64 p 0x0E8 v).postBit p 0x0E4 31 true).postBit p 0x0E4 30 false).postBit p 0x0E4 28 false).raiseBit p 28

theorem regFrame_drwShow (s : State) (p : PageKey) (v : Nat) : RegFrame s (s.drwShow p v) :=
  (((((regFrame_post ..).trans (regFrame_post ..)).trans (regFrame_postBit ..)).trans (regFrame_postBit ..)).trans
    (regFrame_postBit ..)).trans (regFrame_raiseBit ..)

/-- The end of a read before the registers show it: the window is free, and a counter that clears on this read is 0. -/
def State.drwTaken (s : State) (d : DrwRead) : State :=
  { (if d.clear || readClears d.page d.index then s.setCtr d.page d.index 0 else s) with drw := s.drw.erase d }

/-- A read with CLEAR leaves the counter at 0. -/
theorem drwTaken_ctr (s : State) {d : DrwRead} (h : d.clear = true) : (s.drwTaken d).ctr d.page d.index = 0 := by
  simp only [State.drwTaken, h, Bool.true_or, if_true]
  exact ctr_setCtr_self s d.page d.index 0

/-- A read of a counter that exists shows its value. -/
theorem drwDone_of_ctr {s : State} {d : DrwRead} (h : s.ctrExists d.page d.index = true) :
    s.drwDone d = (s.drwTaken d).drwShow d.page (s.ctr d.page d.index).toNat := by
  simp only [State.drwDone, State.drwShow, State.drwTaken, h, Bool.true_and, if_true, Bool.not_true]
  split <;> rfl

theorem drwShow_row {s t : State} {p : PageKey} {v : Nat} (ht : t = s.drwShow p v) :
    bit (t.rd p 0x0E4) 31 = true ∧ bit (t.rd p 0x0E4) 30 = false ∧ bit (t.rd p 0x010) 28 = true ∧
    (t.rd p 0x0E8).toNat = v % 2 ^ 32 := by
  subst ht
  unfold State.drwShow State.raiseBit
  refine ⟨?_, ?_, ?_, ?_⟩
  · rw [rd_raiseInt_hdr _ _ _ (by omega) (by omega), bit_rd_postBit_of_ne _ _ _ _ (by omega) (by omega),
      bit_rd_postBit_of_ne _ _ _ _ (by omega) (by omega), bit_rd_postBit_self _ _ _ _ (by omega)]
  · rw [rd_raiseInt_hdr _ _ _ (by omega) (by omega), bit_rd_postBit_of_ne _ _ _ _ (by omega) (by omega),
      bit_rd_postBit_self _ _ _ _ (by omega)]
  · rw [rd_raiseInt_raw]
    exact bit_setBit_self (by omega) _ true
  · have hlo (u : State) (i : Nat) (b : Bool) : (u.postBit p 0x0E4 i b).rd p 0x0E8 = u.rd p 0x0E8 :=
      rd_post_off u p _ (by omega) (by omega) (by omega)
    rw [rd_raiseInt_hdr _ _ _ (by omega) (by omega), hlo, hlo, hlo, State.post64,
      rd_post_off _ _ _ (by omega) (by omega) (by omega), rd_post_self, BitVec.toNat_ofNat]

end Sys2Proof.Machine
end

section
open Sys2Proof.Machine Sys2Proof.Safety

/-- Settles O10: a write of SOFT_RESET that fast logic takes at once adds the unit's reset to those under way
(`softReset_row`), the end of a reset clears SOFT_RESET last of all, a GO follows BUSY (`drwGo_row`), and a read that
completes posts its four registers after the counter is read (`drwDone_of_ctr`). -/
theorem softResetAndDeferredRead : Obligations.SoftResetAndDeferredRead := by
  unfold Obligations.SoftResetAndDeferredRead
  intro s mid p
  refine ⟨fun h hready hreset => ?_, fun h hlit hty => ?_, fun v h => ?_, fun d hd _ hctr => ?_⟩
  · obtain ⟨hrd, hresets, hmem⟩ := softReset_row hreset rfl
    refine ⟨_, exec_softReset h hready rfl, ?_, hresets, hmem⟩
    rw [hrd]
    exact bit_hdrWritten_softReset _ (bit_setBit_self (by omega) _ true)
  · obtain ⟨u, hu, hexec⟩ := exec_softResetDone h hlit hty
    exact ⟨_, hexec, bit_rd_postBit_self u p 0x008 false (by omega), hu⟩
  · exact ⟨_, exec_drwGo h rfl, drwGo_row rfl⟩
  · obtain rfl : d.page = p := by simpa using List.find?_some hd
    obtain ⟨h31, h30, h28, hdata⟩ := drwShow_row (drwDone_of_ctr hctr)
    have hframe : RegFrame (s.drwTaken d) (s.drwDone d) := drwDone_of_ctr hctr ▸ regFrame_drwShow ..
    exact ⟨_, exec_drwComplete hd, h31, h30, h28, hdata, hframe.drw_eq,
      fun hclear => (hframe.ctr_eq ..).trans (drwTaken_ctr s hclear)⟩
end

section
/-! SUPPORT. A cluster reset in a state whose fault collector lists an entry number that no collector has. -/
namespace Sys2Proof.Machine
open Sys2Proof.Safety

/-- CLUSTER_RESET on an admitted page: the write of CLU_CTL lands, and the reset starts from there (R403). -/
theorem exec_clusterReset {s : State} {mid : Mid} {c : Fin 128} (h : Admitted s mid (cluPage c 0) 0x100) (clear : Bool)
    {u : State} (hu : (s.stamp (cluPage c 0)).land (cluPage c 0) 0x100 (if clear then 3 else 1) = u) :
    exec (.clusterReset mid c clear) s = .next
      (((u.setFast (cluPage c 0) 0x100 (u.rd (cluPage c 0) 0x100)).clusterReset c).applied (cluPage c 0)) := by
  subst hu
  show execClusterReset mid c clear s = _
  rw [execClusterReset, accessWrite_admitted h]

/-- The number (255456) of an entry whose first register, 0x200 + 8 times the number in the RFLT page of region 0, would
lie on CLU_CTL of cluster 8: `postEntry` takes the place of an entry's registers from its number alone. -/
def strayNumber : Nat := (rkey (cluPage 8 0) 0x100 - rkey (regPage 0 13) 0x200) / 8

/-- The state after reset, but that the RFLT page of region 0 lists an entry of that number, which accuses the CLU page
of cluster 8. R475 gives a collector the entries 0 to 63. -/
def strayEntry : State :=
  { State.reset with
    colls := [(regPage 0 13, { ents := [(strayNumber,
      { unit := unitPath (cluPage 8 0), code := 0, cls := 0, count := 1, sent := 1, last := 0 })] })] }

theorem strayEntry_admitted : Admitted strayEntry 0 (cluPage 8 0) 0x100 := by decide +kernel

/-- CLU_CTL of cluster 8 as the write of RESET = 1 leaves it, both in the page and in fast logic. -/
def strayEntryWritten : State :=
  let u := (strayEntry.stamp (cluPage 8 0)).land (cluPage 8 0) 0x100 1
  u.setFast (cluPage 8 0) 0x100 (u.rd (cluPage 8 0) 0x100)

/-- The reset frees the stray entry, and so posts 0 over the RESET bit that the write has set. -/
theorem clusterReset_strayEntry :
    bit (strayEntryWritten.rd (cluPage 8 0) 0x100) 0 = true ∧
    (strayEntryWritten.accusedClear (.cluster 8)).rd (cluPage 8 0) 0x100 = 0 ∧
    bit (((strayEntryWritten.clusterReset 8).applied (cluPage 8 0)).rd (cluPage 8 0) 0x100) 0 = false := by
  decide +kernel

end Sys2Proof.Machine
end

section
open Sys2Proof.Machine Sys2Proof.Safety

/-- Refutes O12: its first clause asks of every state that CLU_CTL.RESET reads 1 after a cluster reset is accepted, and
no hypothesis bounds the entry numbers that a fault collector lists. In `strayEntry` the registers of such an entry fall
on CLU_CTL of the cluster (`strayNumber`), and the reset, which frees the entries that accuse the cluster (R476),
clears them. A collector has 64 entries (R475), so that the state is one that the part does not reach; the clause lacks
a hypothesis that says so. -/
theorem not_resetRows : ¬ Obligations.ResetRows := by
  unfold Obligations.ResetRows
  intro h
  obtain ⟨⟨hcluster, -⟩, -⟩ := h
  obtain ⟨t, ht, -, -, hbit⟩ := hcluster strayEntry 0 8 false strayEntry_admitted rfl
  obtain ⟨-, -, hclear⟩ := clusterReset_strayEntry
  have hexec : exec (.clusterReset 0 8 false) strayEntry =
      .next ((strayEntryWritten.clusterReset 8).applied (cluPage 8 0)) :=
    exec_clusterReset strayEntry_admitted false rfl
  obtain rfl : (strayEntryWritten.clusterReset 8).applied (cluPage 8 0) = t :=
    Host.Outcome.next.inj (hexec.symm.trans ht)
  exact Bool.false_ne_true (hclear.symm.trans hbit)
end

section
/-! SUPPORT. Power domains: what the steps of a domain leave, and the wake that completes. -/
namespace Sys2Proof.Machine
open Sys2Proof.Safety

/-! ### Loops over the state -/

/-- A loop reaches what one of its turns brings about and no turn undoes. -/
theorem foldl_of_mem {α : Type} {P : State → Prop} {f : State → α → State} {l : List α} {a : α} (ha : a ∈ l)
    (hdo : ∀ s, P (f s a)) (hkeep : ∀ s x, P s → P (f s x)) (s : State) : P (l.foldl f s) := by
  obtain ⟨l₁, l₂, rfl⟩ := List.append_of_mem ha
  rw [List.foldl_append, List.foldl_cons]
  exact List.foldlRecOn l₂ f (hdo _) fun t ht x _ => hkeep t x ht

/-- A key that reads other than its default is listed. -/
theorem mem_of_tabGet_ne {α : Type} {d : α} {t : List (Nat × α)} {k : Nat} (h : tabGet d t k ≠ d) :
    ∃ e ∈ t, e.1 = k := by
  refine Classical.byContradiction fun hno => h ?_
  rw [tabGet, tabFind_none_of_forall t k fun e he hk => hno ⟨e, he, hk⟩, Option.getD_none]

/-! ### One domain changes (R60, R70) -/

/-- A command that stores one domain leaves the others and the rest of the state alone. -/
theorem runs_setDom {c : Instr} {s : State} {d : Nat} {v : Domain} (h : exec c s = .next (s.setDom d v)) :
    Runs c s fun t => (t.dom d).st = v.st ∧ (∀ k, k ≠ d → t.dom k = s.dom k) ∧ t = { s with doms := t.doms } :=
  ⟨_, h, by rw [dom_setDom_self], fun _ hk => dom_setDom_of_ne s v hk, rfl⟩

/-- Under the policy that pins a domain lit its limit is lit (R62). -/
theorem depth_of_policy_one {s : State} {d : Nat} (h : s.policy d = 1) : s.depth d = 0 := by
  rw [State.depth, h]
  exact Nat.zero_min _

/-- The two entries into a darker state leave the state alone where their common condition fails: a domain that is fenced,
or whose limit is lit, has none (R62, R65). -/
theorem exec_dimming_of_barred {s : State} {d : Nat} (h : s.policy d = 1 ∨ s.domFenced d = true) :
    exec (.idleToDim d) s = .next s ∧ exec (.dimToDark d) s = .next s := by
  have hbar (n : Nat) (hn : 1 ≤ n) : ¬ ((!s.domFenced d) = true ∧ n ≤ s.depth d) := by
    rintro ⟨hopen, hdepth⟩
    rcases h with hpol | hfence
    · rw [depth_of_policy_one hpol] at hdepth
      omega
    · simp [hfence] at hopen
  constructor
  · show execIdleToDim d s = _
    exact if_neg fun ⟨_, _, _, hopen, hdepth, _⟩ => hbar 1 (by omega) ⟨hopen, hdepth⟩
  · show execDimToDark d s = _
    exact if_neg fun ⟨_, _, _, hopen, hdepth, _⟩ => hbar 2 (by omega) ⟨hopen, hdepth⟩

theorem exec_idleToDim {s : State} {d : Nat} (hd : d < 338) (hst : (s.dom d).st = .lit) (hidle : s.domIdle d = true)
    (hopen : s.domFenced d = false) (hdepth : 1 ≤ s.depth d)
    (hdue : 64 * 1000 ≤ (s.clk - (s.dom d).lastWork) * clockMhz d) :
    exec (.idleToDim d) s = .next (s.setDom d { s.dom d with st := .dim, since := s.clk }) := by
  show execIdleToDim d s = _
  exact if_pos ⟨hd, hst, hidle, by simp [hopen], hdepth, hdue⟩

theorem exec_dimToDark {s : State} {d : Nat} (hd : d < 338) (hst : (s.dom d).st = .dim) (hidle : s.domIdle d = true)
    (hopen : s.domFenced d = false) (hdepth : 2 ≤ s.depth d) (hdue : 20000 ≤ s.clk - (s.dom d).lastWork) :
    exec (.dimToDark d) s = .next (s.setDom d { s.dom d with st := .enteringDark, since := s.clk }) := by
  show execDimToDark d s = _
  exact if_pos ⟨hd, hst, hidle, by simp [hopen], hdepth, hdue⟩

theorem exec_darkEntryDone {s : State} {d : Nat} (hd : d < 338) (hst : (s.dom d).st = .enteringDark)
    (hdue : 240 ≤ s.clk - (s.dom d).since) :
    exec (.darkEntryDone d) s = .next (s.setDom d { s.dom d with st := .dark, since := s.clk }) := by
  show execDarkEntryDone d s = _
  exact if_pos ⟨hd, hst, hdue⟩

/-! ### Wake requests (R65, R66, R70) -/

/-- A wake request leaves a fenced domain as it is (R65). -/
theorem wake_of_fenced {s : State} {d : Nat} (h : s.domFenced d = true) : s.wake d = s := by
  rw [State.wake, if_pos h]

theorem wake_of_lit {s : State} {d : Nat} (h : (s.dom d).st = .lit) : s.wake d = s := by
  simp [State.wake, h]

/-- A wake request takes a domain that is dark, or that enters dark, to waking (R66, R70). -/
theorem dom_wake_of_dark {s : State} {d : Nat} (hst : (s.dom d).st = .dark ∨ (s.dom d).st = .enteringDark)
    (hf : s.domFenced d = false) : ((s.wake d).dom d).st = .wakingDark := by
  rcases hst with hst | hst <;> simp [State.wake, hf, hst]

/-- A wake request touches no other domain. -/
theorem dom_wake_of_ne (s : State) {d k : Nat} (hk : k ≠ d) : (s.wake d).dom k = s.dom k := by
  unfold State.wake
  dsimp only
  split
  · rfl
  · split
    case h_1 | h_2 | h_3 => rfl
    case h_4 | h_5 | h_6 => exact dom_setDom_of_ne s _ hk

theorem wake_eq_doms (s : State) (d : Nat) : s.wake d = { s with doms := (s.wake d).doms } := by
  obtain ⟨x, h⟩ := wake_frame s d
  rw [h]

theorem exec_wakeRequest {s : State} {d : Nat} {src : WakeSource} (hd : d < 338) (h : s.wakeAdmits d src = true) :
    exec (.wakeRequest d src) s = .next (s.wake d) := by
  show execWakeRequest d src s = _
  exact if_pos ⟨hd, h⟩

theorem exec_wakeRequest_of_fenced {s : State} {d : Nat} (src : WakeSource) (h : s.domFenced d = true) :
    exec (.wakeRequest d src) s = .next s := by
  show execWakeRequest d src s = _
  rw [execWakeRequest, wake_of_fenced h, ite_self]

/-! ### The wake that completes (R66, R68) -/

theorem isSome_pageType_of_domainOf {p : PageKey} {d : Nat} (h : domainOf p = some d) : (pageType p).isSome = true := by
  cases hp : pageType p with
  | none => simp [domainOf, hp] at h
  | some _ => rfl

/-- WAKE_NOW of a page of a switched domain reads 0 after reset. -/
theorem bit_regReset_wakeNow {p : PageKey} (hp : (pageType p).isSome = true) :
    bit (regReset (rkey p 0x02C)) 8 = false := by
  have hkey : rkey p 0x02C / 4096 = p ∧ rkey p 0x02C % 4096 = 0x02C := by unfold rkey; omega
  rw [regReset, hkey.1, hkey.2, regDesc_wakeCtl hp]
  simp [wakeCtlDesc, bit]

/-- A bit of one register that is cleared leaves the same bit clear wherever it is clear. -/
theorem bit_rd_postBit_false (s : State) (p q : PageKey) {off i : Nat} (ho : off < 4096) (hi : i < 32)
    (h : bit (s.rd p off) i = false) : bit ((s.postBit q off i false).rd p off) i = false := by
  by_cases hpq : p = q
  · subst hpq
    exact bit_rd_postBit_self s p off false hi
  · rw [State.postBit, rd_post_of_ne s _ fun e => hpq ((rkey_inj ho ho).1 e).1, h]

/-- WAKE_NOW clears in the pages of the listed registers. -/
def State.clearWakeNow (s : State) (ks : List (Nat × Reg)) : State :=
  ks.foldl (fun s e => s.postBit (e.1 / 4096) 0x02C 8 false) s

/-- A wake that completes makes the domain lit and clears WAKE_NOW where the domain's pages list WAKE_CTL (R66, R68). -/
theorem wakeDone_eq (s : State) (d : Nat) : s.wakeDone d =
    (s.setDom d { st := .lit, since := s.clk, lastWork := s.clk }).clearWakeNow
      (s.regs.filter fun e => e.1 % 4096 == 0x02C && domainOf (e.1 / 4096) == some d) := rfl

theorem clearWakeNow_frame (s : State) (ks : List (Nat × Reg)) : ∃ r, s.clearWakeNow ks = { s with regs := r } := by
  induction ks generalizing s with
  | nil => exact ⟨s.regs, rfl⟩
  | cons e ks ih =>
    obtain ⟨r, h⟩ := ih (s.postBit (e.1 / 4096) 0x02C 8 false)
    exact ⟨r, h⟩

theorem clearWakeNow_of_clear {s : State} {p : PageKey} (ks : List (Nat × Reg))
    (h : bit (s.rd p 0x02C) 8 = false) : bit ((s.clearWakeNow ks).rd p 0x02C) 8 = false :=
  List.foldlRecOn (motive := fun t : State => bit (t.rd p 0x02C) 8 = false) ks _ h
    fun t ht e _ => bit_rd_postBit_false t p (e.1 / 4096) (by omega) (by omega) ht

theorem clearWakeNow_of_mem (s : State) {p : PageKey} {ks : List (Nat × Reg)} {e : Nat × Reg} (he : e ∈ ks)
    (hp : e.1 / 4096 = p) : bit ((s.clearWakeNow ks).rd p 0x02C) 8 = false :=
  foldl_of_mem (P := fun t : State => bit (t.rd p 0x02C) 8 = false) he
    (fun t => by rw [hp]; exact bit_rd_postBit_self t p 0x02C false (by omega))
    (fun t x ht => bit_rd_postBit_false t p (x.1 / 4096) (by omega) (by omega) ht) s

/-- WAKE_NOW clears in every page of a domain whose wake completes: a page whose WAKE_CTL is not listed shows it clear
already (R66). -/
theorem wakeDone_wakeNow (s : State) {d : Nat} {p : PageKey} (hp : domainOf p = some d) :
    bit ((s.wakeDone d).rd p 0x02C) 8 = false := by
  rw [wakeDone_eq]
  by_cases hclear : bit (s.rd p 0x02C) 8 = false
  · exact clearWakeNow_of_clear _ (by rw [State.rd, State.setDom_regs, ← State.rd, hclear])
  · have hne : s.rd p 0x02C ≠ regReset (rkey p 0x02C) :=
      fun e => hclear (e ▸ bit_regReset_wakeNow (isSome_pageType_of_domainOf hp))
    obtain ⟨e, he, hkey⟩ := mem_of_tabGet_ne hne
    have hpage : e.1 / 4096 = p ∧ e.1 % 4096 = 0x02C := by rw [hkey]; unfold rkey; omega
    exact clearWakeNow_of_mem _ (List.mem_filter.2 ⟨he, by simp [hpage, hp]⟩) hpage.1

/-- A wake that completes leaves its domain lit, and the others as they are (R68). -/
theorem wakeDone_row {s t : State} {d : Nat} (ht : t = s.wakeDone d) :
    t.litDom d = true ∧ (∀ k, k ≠ d → t.dom k = s.dom k) ∧ t = { s with doms := t.doms, regs := t.regs } := by
  obtain ⟨r, hr⟩ := clearWakeNow_frame (s.setDom d { st := .lit, since := s.clk, lastWork := s.clk })
    (s.regs.filter fun e => e.1 % 4096 == 0x02C && domainOf (e.1 / 4096) == some d)
  rw [wakeDone_eq, hr] at ht
  subst ht
  refine ⟨?_, fun k hk => dom_setDom_of_ne s _ hk, rfl⟩
  simp [State.litDom, State.dom, State.setDom]

theorem exec_wakeComplete {s : State} {d : Nat} (h : (s.dom d).st = .wakingDim ∨ (s.dom d).st = .wakingDark) :
    exec (.wakeComplete d) s = .next (s.wakeDone d) := by
  show execWakeComplete d s = _
  rcases h with h | h <;> rw [execWakeComplete, h]

end Sys2Proof.Machine
end

section
/-! SUPPORT. What the shared operations of counters, interrupts, buffers and rings leave of the pins and of the ports'
links. -/
namespace Sys2Proof.Machine
open Sys2Proof.Safety

/-- The pins, and every port's link, are as they were. -/
def WireFrame (s t : State) : Prop := t.pins = s.pins ∧ ∀ p, t.linkUp p = s.linkUp p

namespace WireFrame

theorem refl (s : State) : WireFrame s s := ⟨rfl, fun _ => rfl⟩

theorem trans {s t u : State} (h : WireFrame s t) (g : WireFrame t u) : WireFrame s u :=
  ⟨g.1.trans h.1, fun p => (g.2 p).trans (h.2 p)⟩

/-- What posts no register and drives no pin. -/
theorem of_regs_eq {s t : State} (hp : t.pins = s.pins) (hr : t.regs = s.regs) : WireFrame s t :=
  ⟨hp, fun p => by rw [State.linkUp, State.rd, hr]; rfl⟩

/-- What comes after an update that posts no register and drives no pin. -/
theorem after {s u t : State} (h : WireFrame u t) (hp : u.pins = s.pins) (hr : u.regs = s.regs) : WireFrame s t :=
  (of_regs_eq hp hr).trans h

/-- An update that posts no register and drives no pin, after others. -/
theorem before {s u t : State} (h : WireFrame s u) (hp : t.pins = u.pins) (hr : t.regs = u.regs) : WireFrame s t :=
  h.trans (of_regs_eq hp hr)

/-- A branch leaves alone what both of its sides do. -/
theorem ite {c : Prop} [Decidable c] {s t u : State} (ht : WireFrame s t) (hu : WireFrame s u) :
    WireFrame s (if c then t else u) := by
  split
  · exact ht
  · exact hu

/-- A loop leaves alone what every turn leaves alone. -/
theorem foldl {α : Type} {f : State → α → State} (hf : ∀ s x, WireFrame s (f s x)) (l : List α) (s : State) :
    WireFrame s (l.foldl f s) :=
  List.foldlRecOn (motive := WireFrame s) l f (refl s) fun t ht x _ => ht.trans (hf t x)

end WireFrame

/-- A loop whose turns drive no pin drives none. -/
theorem foldl_pins {α : Type} {f : State → α → State} (hf : ∀ s x, (f s x).pins = s.pins) (l : List α) (s : State) :
    (l.foldl f s).pins = s.pins :=
  List.foldlRecOn (motive := fun t : State => t.pins = s.pins) l f rfl fun t ht x _ => (hf t x).trans ht

/-! ### Registers and interrupts -/

theorem wireFrame_post (s : State) (p : PageKey) {off : Nat} (v : Reg) (ho : off < 4096) (h : off ≠ 0x10C) :
    WireFrame s (s.post p off v) :=
  ⟨rfl, fun q => by rw [State.linkUp, rd_post_of_ne s v (rkey_ne_of_off (by omega) ho h.symm)]; rfl⟩

theorem wireFrame_postFld (s : State) (p : PageKey) {off : Nat} (lo w v : Nat) (ho : off < 4096) (h : off ≠ 0x10C) :
    WireFrame s (s.postFld p off lo w v) := wireFrame_post s p _ ho h

/-- No bit but the last of a port's status is its link. -/
theorem wireFrame_postBit (s : State) (p : PageKey) {off i : Nat} (b : Bool) (ho : off < 4096)
    (h : off ≠ 0x10C ∨ i < 31) : WireFrame s (s.postBit p off i b) := by
  by_cases hoff : off = 0x10C
  · subst hoff
    refine ⟨rfl, fun q => ?_⟩
    by_cases hq : q = p
    · rw [hq, State.linkUp, bit_rd_postBit_of_ne s p _ b (by omega) (by omega)]
      rfl
    · rw [State.linkUp, State.postBit, rd_post_of_ne s _ fun e => hq ((rkey_inj ho ho).1 e).1]
      rfl
  · exact wireFrame_post s p _ ho hoff

/-- Vector 0 sets at most its pending bit, which is no port's status (R348). -/
theorem wireFrame_msixSend (s : State) (e f : Nat) : WireFrame s (s.msixSend e f 0) := by
  unfold State.msixSend
  dsimp only
  split
  · exact .refl s
  · split
    · exact wireFrame_postBit s _ _ (by omega) (by omega)
    · exact .of_regs_eq rfl rfl

theorem wireFrame_irqOut (s : State) (p : PageKey) : WireFrame s (s.irqOut p) :=
  irqOut_keeps (C := WireFrame s) (.of_regs_eq rfl rfl) fun u e f h => h.trans (wireFrame_msixSend u e f)

theorem wireFrame_raiseInt (s : State) (p : PageKey) (bits : Reg) : WireFrame s (s.raiseInt p bits) := by
  have hraw (v : Reg) : WireFrame s (s.post p 0x010 v) := wireFrame_post s p v (by omega) (by omega)
  unfold State.raiseInt
  dsimp only
  split
  · exact (hraw _).trans (wireFrame_irqOut ..)
  · exact hraw _

theorem wireFrame_raiseBit (s : State) (p : PageKey) (i : Nat) : WireFrame s (s.raiseBit p i) := wireFrame_raiseInt ..

/-! ### Counters (R92) -/

/-- The HALF registers lie away from the status of a port (R92, R115, R141). -/
theorem halfBit_off {t : PageType} {i off b : Nat} (h : halfBit t i = some (off, b)) : 0x110 ≤ off ∧ off < 0x130 := by
  unfold halfBit at h
  split at h
  case h_1 =>
    split at h
    · cases h; omega
    · split at h
      · cases h; omega
      · split at h
        · cases h; omega
        · cases h
  case h_2 | h_3 =>
    split at h
    · cases h; omega
    · cases h
  case h_4 => cases h

theorem wireFrame_noteHalf (s : State) (p : PageKey) (i : Nat) : WireFrame s (s.noteHalf p i) := by
  unfold State.noteHalf
  split
  · exact .refl s
  · split
    next off b hhalf =>
      obtain ⟨hlo, hhi⟩ := halfBit_off hhalf
      split
      · exact .refl s
      · exact (wireFrame_postBit s p true (by omega) (by omega)).trans (wireFrame_raiseBit ..)
    next =>
      split
      · exact wireFrame_raiseBit ..
      · exact .refl s

theorem wireFrame_count (s : State) (p : PageKey) (i n : Nat) : WireFrame s (s.count p i n) := by
  unfold State.count
  dsimp only
  split
  · exact .refl s
  · split
    · exact (wireFrame_noteHalf ..).after rfl rfl
    · exact .of_regs_eq rfl rfl

theorem wireFrame_macCount (s : State) (p : PageKey) (i n : Nat) : WireFrame s (s.macCount p i n) := by
  unfold State.macCount
  split
  · exact .refl s
  · exact wireFrame_count ..

theorem wireFrame_countQueueDrop (s : State) (k : Nat) (e : Entry) : WireFrame s (s.countQueueDrop k e) := by
  unfold State.countQueueDrop
  dsimp only
  split
  · exact .refl s
  · exact (wireFrame_count ..).trans (wireFrame_count ..)

/-- A record enters staging, or a count says that it was dropped (R480). -/
theorem wireFrame_stageLog (s : State) (r : LogRec) : WireFrame s (s.stageLog r) := by
  unfold State.stageLog
  dsimp only
  split
  · exact (wireFrame_count ..).after rfl rfl
  · generalize (if r.severity = 0 then 256 else 224) = room
    split
    · exact (wireFrame_postFld _ _ _ _ _ (by omega) (by omega)).after rfl rfl
    · exact (wireFrame_count ..).after rfl rfl

/-! ### Completions, buffers and queues (R243, R331) -/

theorem wireFrame_queueCqe (s : State) (c : CqeOut) : WireFrame s (s.queueCqe c) := by
  unfold State.queueCqe
  dsimp only
  split
  · exact (wireFrame_count ..).after rfl rfl
  · exact .of_regs_eq rfl rfl

theorem wireFrame_txComplete (s : State) (t : Nat) : WireFrame s (s.txComplete t) := by
  unfold State.txComplete
  split
  · exact .refl s
  · dsimp only
    split
    · exact .refl s
    · exact (wireFrame_queueCqe ..).after rfl rfl

theorem wireFrame_txFrameEnd (s : State) (t : Nat) : WireFrame s (s.txFrameEnd t) := by
  unfold State.txFrameEnd
  split
  · exact .refl s
  · dsimp only
    split
    · refine .before ?_ rfl rfl
      exact (wireFrame_txComplete ..).after rfl rfl
    · exact .of_regs_eq rfl rfl

theorem wireFrame_bufDone (s : State) (k : Nat) : WireFrame s (s.bufDone k) := by
  unfold State.bufDone
  split
  · exact .refl s
  · split
    · exact .of_regs_eq rfl rfl
    · dsimp only
      split
      · exact .of_regs_eq rfl rfl
      · exact (wireFrame_txFrameEnd ..).after rfl rfl

section
variable (p : Entry → Bool) {also : State → Entry → State} (h : ∀ s e, WireFrame s (also s e))
include h

theorem wireFrame_discardFrom (s : State) (k : Nat) : WireFrame s (s.discardFrom k p also) :=
  (WireFrame.foldl (fun u e => ((wireFrame_countQueueDrop u k e).trans (wireFrame_bufDone _ e.buf)).trans (h _ e))
    ((s.backlog k).filter p) _).after rfl rfl

/-- What an outlet loses touches pins and links only as `also` does. -/
theorem wireFrame_discardOutlet (s : State) (d o : Nat) : WireFrame s (s.discardOutlet d o p also) := by
  unfold State.discardOutlet
  dsimp only
  refine (WireFrame.foldl (fun u q => wireFrame_discardFrom p h u q.1)
    (s.queues.filter fun q => q.1 / 2 ^ 20 == d && s.keyOutlet q.1 == o) s).trans ?_
  split
  · exact .refl _
  · split
    · refine .trans ?_ (h _ _)
      exact (wireFrame_bufDone ..).after rfl rfl
    · exact .refl _

end

end Sys2Proof.Machine
end

section
/-! SUPPORT. Links that go down with their port, and what that leaves of the other ports. -/
namespace Sys2Proof.Machine
open Sys2Proof.Safety

/-! ### APL (R113, R299) -/

theorem wireFrame_winIdle (s : State) (q : Nat) : WireFrame s (s.winIdle q) := by
  unfold State.winIdle
  dsimp only
  split
  · exact .refl s
  · generalize (s.winReqs.filter fun r => r.peer == q && r.bank != s.rdFld (peerPage q 2) 0x100 0 1).length = n
    refine (wireFrame_postFld s (peerPage q 2) (off := 0x108) 0 16 n (by omega) (by omega)).trans ?_
    split
    · exact (wireFrame_postBit _ _ _ (by omega) (by omega)).trans (wireFrame_raiseBit ..)
    · exact .refl _

/-- APL that goes down leaves the links and the pins alone. -/
theorem wireFrame_aplDown (s : State) (q : Nat) : WireFrame s (s.aplDown q) := by
  unfold State.aplDown
  dsimp only
  split
  · exact .refl s
  · refine .trans ?_ (wireFrame_discardOutlet _ (fun u _ => wireFrame_macCount u _ _ _) ..)
    refine .trans ?_ (wireFrame_post _ _ (off := 0x108) 0 (by omega) (by omega))
    refine .trans ?_ (wireFrame_winIdle ..)
    refine .trans ?_ (.of_regs_eq rfl rfl)
    refine .trans ?_ (WireFrame.ite (.refl _) (wireFrame_count ..))
    refine .trans ?_ (WireFrame.ite (.refl _) (wireFrame_count ..))
    exact WireFrame.ite ((wireFrame_count ..).trans (wireFrame_raiseBit ..)) (.refl s)

/-! ### Links (R77, R81, R87) -/

/-- The lane status of a group shows 8 lanes, far from any port's link (R77). -/
theorem wireFrame_postLanes (s : State) (p : PageKey) (up trained : Bool) : WireFrame s (s.postLanes p up trained) := by
  refine List.foldlRecOn (motive := WireFrame s) _ _ (.refl s) fun t ht i hi => ht.trans ?_
  obtain ⟨l, -, rfl⟩ := List.mem_map.1 hi
  have hlane : s.frFld (groupPage p) 0x104 (3 * l) 3 < 8 := Nat.mod_lt _ (by omega)
  exact (wireFrame_postBit t _ _ (by omega) (.inr (by omega))).trans
    (wireFrame_postBit _ _ _ (by omega) (.inr (by omega)))

theorem wireFrame_a2408 (s : State) (p : PageKey) (b : Nat) : WireFrame s (s.a2408 p b) := by
  unfold State.a2408
  exact WireFrame.ite ((wireFrame_postBit s p _ (by omega) (by omega)).trans (wireFrame_raiseBit ..)) (.refl s)

/-- A port's link goes down around the clearing of its status: what comes before and after touches no pin and no
link. -/
theorem linkDown_steps (s : State) (p : PageKey) :
    ∃ u, WireFrame s u ∧ WireFrame (u.post p 0x10C 0) (s.linkDown p) := by
  refine ⟨(if s.macApl p then s.aplDown (peerOf p) else s).postLanes p false false,
    (WireFrame.ite (wireFrame_aplDown ..) (.refl s)).trans (wireFrame_postLanes ..), ?_⟩
  unfold State.linkDown
  dsimp only
  refine .trans ?_ (wireFrame_discardOutlet _ (fun u _ => wireFrame_macCount u _ _ _) ..)
  refine .trans (wireFrame_post _ p (off := 0x114) 0 (by omega) (by omega)) ?_
  exact .ite (((wireFrame_macCount ..).trans (wireFrame_raiseBit ..)).trans (wireFrame_a2408 ..)) (.refl _)

/-- The links after one has gone down. -/
theorem linkUp_linkDown (s : State) (p q : PageKey) : (s.linkDown p).linkUp q = (s.linkUp q && q != p) := by
  obtain ⟨u, ⟨-, hbefore⟩, -, hafter⟩ := linkDown_steps s p
  rw [hafter, ← hbefore]
  by_cases hq : q = p
  · subst hq
    simp [State.linkUp, bit]
  · rw [State.linkUp, rd_post_of_ne u _ fun e => hq ((rkey_inj (by omega) (by omega)).1 e).1]
    simp [State.linkUp, hq]

theorem linkDown_pins (s : State) (p : PageKey) : (s.linkDown p).pins = s.pins := by
  obtain ⟨u, ⟨hbefore, -⟩, hafter, -⟩ := linkDown_steps s p
  exact hafter.trans hbefore

/-- A link that is down stays down while others go down. -/
theorem linkUp_linkDown_of_down {s : State} {q : PageKey} (p : PageKey) (h : s.linkUp q = false) :
    (s.linkDown p).linkUp q = false := by
  rw [linkUp_linkDown, h, Bool.false_and]

/-- A group or peer page takes down no link but by its ports' `linkDown`. -/
theorem portsDown_steps (s : State) (g : PageKey) : ∃ u, WireFrame s u ∧ s.portsDown g =
    (if pgGroup g = 2 then [g + 3] else (List.range 8).map fun k => g + 1 + k).foldl State.linkDown u :=
  ⟨_, WireFrame.ite (wireFrame_aplDown ..) (.refl s), rfl⟩

theorem portsDown_pins (s : State) (g : PageKey) : (s.portsDown g).pins = s.pins := by
  obtain ⟨u, ⟨hpins, -⟩, heq⟩ := portsDown_steps s g
  rw [heq, foldl_pins linkDown_pins, hpins]

theorem linkUp_portsDown_of_down {s : State} {q : PageKey} (g : PageKey) (h : s.linkUp q = false) :
    (s.portsDown g).linkUp q = false := by
  obtain ⟨u, ⟨-, hlink⟩, heq⟩ := portsDown_steps s g
  rw [heq]
  exact List.foldlRecOn (motive := fun t : State => t.linkUp q = false) _ _ ((hlink q).trans h) fun t ht p _ =>
    linkUp_linkDown_of_down p ht

/-- Every port of a group goes down with it (R81). -/
theorem linkUp_portsDown_port (s : State) {g : PageKey} {k : Nat} (hg : pgGroup g ≠ 2) (h1 : 1 ≤ k) (h8 : k ≤ 8) :
    (s.portsDown g).linkUp (g + k) = false := by
  obtain ⟨u, -, heq⟩ := portsDown_steps s g
  rw [heq, if_neg hg]
  refine foldl_of_mem (P := fun t : State => t.linkUp (g + k) = false) (a := g + k) ?_ (fun t => ?_)
    (fun t p ht => linkUp_linkDown_of_down p ht) u
  · exact List.mem_map.2 ⟨k - 1, List.mem_range.2 (by omega), by rw [Nat.add_assoc, Nat.add_sub_cancel' h1]⟩
  · simp [linkUp_linkDown]

end Sys2Proof.Machine
end

section
/-! SUPPORT. An endpoint that goes link-down drives no pin: the steps of a hot reset, from its rings to its links. -/
namespace Sys2Proof.Machine
open Sys2Proof.Safety

/-! ### Shared operations -/

@[simp] theorem count_pins (s : State) (p : PageKey) (i n : Nat) : (s.count p i n).pins = s.pins :=
  (wireFrame_count ..).1

@[simp] theorem raiseBit_pins (s : State) (p : PageKey) (i : Nat) : (s.raiseBit p i).pins = s.pins :=
  (wireFrame_raiseBit ..).1

@[simp] theorem queueCqe_pins (s : State) (c : CqeOut) : (s.queueCqe c).pins = s.pins := (wireFrame_queueCqe ..).1

@[simp] theorem stageLog_pins (s : State) (r : LogRec) : (s.stageLog r).pins = s.pins := (wireFrame_stageLog ..).1

@[simp] theorem forget_pins (s : State) (p : Client → Bool) : (s.forget p).pins = s.pins := rfl

/-! ### Rings that drain (R309, R349, R352) -/

@[simp] theorem dropFetch_pins (s : State) (k : Nat) : (s.dropFetch k).pins = s.pins := by
  unfold State.dropFetch
  dsimp only
  split
  · rfl
  · simp

@[simp] theorem cplDesc_pins (s : State) (k i : Nat) (b : List Byte) (st : Nat) : (s.cplDesc k i b st).pins = s.pins :=
  queueCqe_pins ..

theorem cplBuf_pins (s : State) (k : Nat) (b : RxBuf) (st : Nat) : (s.cplBuf k b st).pins = s.pins := queueCqe_pins ..

/-- Descriptors that complete with ABORTED. -/
@[simp] theorem foldl_cplDesc_pins (s : State) (k : Nat) (l : List Fetched) :
    (l.foldl (fun (s : State) d => s.cplDesc k d.idx d.bytes 1) s).pins = s.pins :=
  foldl_pins (fun _ _ => cplDesc_pins ..) l s

@[simp] theorem abortRx_pins (s : State) (k : Nat) : (s.abortRx k).pins = s.pins := by
  unfold State.abortRx
  dsimp only
  rw [foldl_cplDesc_pins, foldl_pins fun u b => cplBuf_pins u k b 1, State.setWring_pins]

@[simp] theorem dropTx_pins (s : State) (k : Nat) : (s.dropTx k).pins = s.pins := rfl

@[simp] theorem drainRing_pins (s : State) (mode : Nat) (keep : List RxBuf) (k : Nat) :
    (s.drainRing mode keep k).pins = s.pins := by
  unfold State.drainRing
  dsimp only
  split
  · split <;> simp
  · split
    · split <;> simp
    · split <;> simp

@[simp] theorem discardFor_pins (s : State) (e f : Nat) (p : Entry → Bool) : (s.discardFor e f p).pins = s.pins :=
  (wireFrame_discardOutlet _ (fun u _ => .refl u) ..).1

@[simp] theorem drainRings_pins (s : State) (e f mode : Nat) : (s.drainRings e f mode).pins = s.pins := by
  unfold State.drainRings
  dsimp only
  split <;> rw [foldl_pins fun u k => drainRing_pins u _ _ k, discardFor_pins]

/-! ### Mailboxes and instances (R309, R317–R321) -/

theorem pairSync_pins (s : State) (p : PageKey) (b : Nat) : (s.pairSync p b).pins = s.pins := by
  unfold State.pairSync
  dsimp only
  generalize hu : (if pageType p = some .imbx ∧ 2 ≤ instFn p then _ else s) = u
  have hpins : u.pins = s.pins := by rw [← hu]; split <;> simp
  split
  · split <;> exact hpins
  · simpa using hpins

@[simp] theorem halfClear_pins (s : State) (p : PageKey) (b : Nat) : (s.halfClear p b).pins = s.pins := by
  unfold State.halfClear
  rw [pairSync_pins, foldl_pins fun u i => State.postBoth_pins ..]

@[simp] theorem mailClear_pins (s : State) (e f : Nat) : (s.mailClear e f).pins = s.pins := by simp [State.mailClear]

@[simp] theorem mbxwNote_pins (s : State) (e f off i : Nat) : (s.mbxwNote e f off i).pins = s.pins := by
  unfold State.mbxwNote
  dsimp only
  split <;> simp

theorem drainStart_pins (s : State) (e f cause : Nat) : (s.drainStart e f cause).pins = s.pins := by
  unfold State.drainStart
  dsimp only
  split
  · rfl
  · split <;> split <;> simp

/-! ### Functions that go away (R52, R166, R173, R282, R371) -/

theorem readDone_pins (s : State) (r : HRead) (st : Nat) (b : List Byte) : (s.readDone r st b).pins = s.pins := by
  unfold State.readDone
  split <;> rfl

theorem readsGone_pins (s : State) (e : Nat) (p : Nat → Bool) (all : Bool) : (s.readsGone e p all).pins = s.pins :=
  foldl_pins (fun u r => readDone_pins u r 1 []) _ s

theorem dmaEnd_pins (s : State) (r k : Nat) (x : Xfer) (st rf dg o : Nat) : (s.dmaEnd r k x st rf dg o).pins = s.pins :=
  State.setDma_pins ..

theorem dmaHostLost_pins (s : State) (p : Nat → Nat → Bool) : (s.dmaHostLost p).pins = s.pins := by
  unfold State.dmaHostLost
  refine foldl_pins (fun u c => ?_) _ s
  split
  · rfl
  · dsimp only
    split
    · rfl
    · rw [dmaEnd_pins]
      split
      · exact count_pins ..
      · rfl

theorem releaseLocks_pins (s : State) (who : Mid → Bool) (pages : PageKey → Bool) (cause : Nat) :
    (s.releaseLocks who pages cause).pins = s.pins := by
  unfold State.releaseLocks
  refine foldl_pins (fun u x => ?_) _ s
  rw [State.logLock, stageLog_pins, State.lockFree, State.post_pins, State.post_pins]

theorem ringTargetGone_pins (s : State) (r : Nat) : (s.ringTargetGone r).pins = s.pins := by
  unfold State.ringTargetGone
  dsimp only
  split
  · split <;> simp [State.ringLose]
  · rfl

theorem ownersGone_pins (s : State) (e : Nat) (p : Nat → Bool) : (s.ownersGone e p).pins = s.pins := by
  unfold State.ownersGone
  refine foldl_pins (fun u r => ?_) _ s
  dsimp only
  generalize hv : (if (midIsHost _ && midEp _ == e && p (midFn _)) = true then _ else u) = v
  have hpins : v.pins = u.pins := by rw [← hv]; split <;> simp
  split
  · rw [ringTargetGone_pins, hpins]
  · exact hpins

theorem gchClear_pins (s : State) (e p : Nat) : (s.gchClear e p).pins = s.pins :=
  foldl_pins (fun _ _ => halfClear_pins ..) _ s

theorem fnsGone_pins (s : State) (e : Nat) (p : Nat → Bool) (cause lock : Nat) (all : Bool) :
    (s.fnsGone e p cause lock all).pins = s.pins := by
  have hgch (u : State) (q : Nat) : (if p q then u.gchClear e q else u).pins = u.pins := by
    split
    · exact gchClear_pins ..
    · rfl
  have htdi (u : State) (f : Nat) : (u.tdiUnlock e f).pins = u.pins := by
    unfold State.tdiUnlock
    split <;> rfl
  unfold State.fnsGone
  dsimp only
  rw [State.cfgClear]
  dsimp only
  rw [foldl_pins hgch, ownersGone_pins, releaseLocks_pins, dmaHostLost_pins, readsGone_pins, foldl_pins htdi,
    foldl_pins fun u f => drainStart_pins u e f cause]

/-! ### The link (R282, R290) -/

theorem epLinkDown_pins (s : State) (e : Nat) : (s.epLinkDown e).pins = s.pins := by
  unfold State.epLinkDown
  dsimp only
  split <;> simp

theorem epFundamental_pins (s : State) (e cause lock : Nat) : (s.epFundamental e cause lock).pins = s.pins := by
  have hgone : ((s.epLinkDown e).fnsGone e (fun _ => true) cause lock true).pins = s.pins := by
    rw [fnsGone_pins, epLinkDown_pins]
  unfold State.epFundamental
  dsimp only
  rw [State.postBit_pins, foldl_pins fun u j => ?_, State.post_pins, State.setEp_pins]
  · exact hgone
  · rw [State.post_pins, State.post_pins]

/-- A hot reset drives no pin. -/
theorem hotReset_pins (s : State) (e lock : Nat) : (s.hotReset e lock).pins = s.pins := by
  unfold State.hotReset
  dsimp only
  rw [raiseBit_pins, count_pins, State.setEp_pins, epFundamental_pins]

end Sys2Proof.Machine
end

section
/-! SUPPORT. Reference clocks that are lost, and the fabric barriers of the OMC. -/
namespace Sys2Proof.Machine
open Sys2Proof.Safety

/-! ### Loss of a reference (R59) -/

/-- A reference that is lost reads absent. -/
theorem getLsbD_lost (x : BitVec 4) (d : Fin 4) : (x &&& ~~~(BitVec.ofNat 4 (2 ^ d.val))).getLsbD d = false := by
  have hbit : (BitVec.ofNat 4 (2 ^ d.val)).getLsbD d = true := by
    rw [BitVec.getLsbD_ofNat, Nat.testBit_two_pow_self, decide_eq_true d.isLt, Bool.true_and]
  rw [BitVec.getLsbD_and, BitVec.getLsbD_not, hbit, Bool.not_true, Bool.and_false, Bool.and_false]

/-- The ports of a line die go down, group after group and peer port after peer port. -/
def State.diePortsDown (s : State) (d : Nat) : State :=
  [0, 1, 2, 3].foldl (fun s q => s.portsDown (peerPage (4 * d + q) 0))
    ((List.range 8).foldl (fun s n => s.portsDown (npgPage (8 * d + n) 0)) s)

theorem diePortsDown_pins (s : State) (d : Nat) : (s.diePortsDown d).pins = s.pins := by
  unfold State.diePortsDown
  rw [foldl_pins fun u q => portsDown_pins u _, foldl_pins fun u n => portsDown_pins u _]

/-- Network port groups lie in groups 0 and 1 of their region (R54). -/
theorem pgGroup_npgPage (n : Nat) : pgGroup (npgPage n 0) = n % 2 := by
  unfold pgGroup npgPage mkPage natField
  rw [Nat.shiftRight_eq_div_pow]
  omega

theorem npgPage_add (n k : Nat) : npgPage n k = npgPage n 0 + k := by simp [npgPage, mkPage]

/-- Every network port of a line die whose ports go down loses its link. -/
theorem linkUp_diePortsDown (s : State) (d : Fin 4) {n k : Nat} (hn : n < 8) (h1 : 1 ≤ k) (h8 : k ≤ 8) :
    (s.diePortsDown d.val).linkUp (npgPage (8 * d.val + n) k) = false := by
  have hgroup : pgGroup (npgPage (8 * d.val + n) 0) ≠ 2 := by
    rw [pgGroup_npgPage]
    omega
  have hnpg : ((List.range 8).foldl (fun s n => s.portsDown (npgPage (8 * d.val + n) 0)) s).linkUp
      (npgPage (8 * d.val + n) k) = false :=
    foldl_of_mem (P := fun t : State => t.linkUp (npgPage (8 * d.val + n) k) = false) (List.mem_range.2 hn)
      (fun t => by rw [npgPage_add _ k]; exact linkUp_portsDown_port t hgroup h1 h8)
      (fun t m ht => linkUp_portsDown_of_down _ ht) s
  exact List.foldlRecOn (motive := fun t : State => t.linkUp (npgPage (8 * d.val + n) k) = false) _ _ hnpg
    fun t ht q _ => linkUp_portsDown_of_down _ ht

/-- NETREF_LOSS while the reference is present: the pin falls, the die's ports go down, and the loss is logged. -/
theorem exec_netrefLoss {s : State} {d : Fin 4} (h : s.pins.netref.getLsbD d = true) :
    ∃ r : LogRec, exec (.netrefLoss d) s = .next (({ s with pins := { s.pins with
      netref := s.pins.netref &&& ~~~(BitVec.ofNat 4 (2 ^ d.val)) } } : State).diePortsDown d.val |>.stageLog r) := by
  show ∃ _, execNetrefLoss d s = _
  rw [execNetrefLoss, if_neg (by simp [h])]
  exact ⟨_, rfl⟩

/-- PCIEREF_LOSS while the reference is present: the pin falls, and what follows drives no pin. -/
theorem exec_pcierefLoss {s : State} {d : Fin 4} (h : s.pins.pcieref.getLsbD d = true) :
    ∃ t : State, exec (.pcierefLoss d) s = .next t ∧
      t.pins.pcieref = s.pins.pcieref &&& ~~~(BitVec.ofNat 4 (2 ^ d.val)) := by
  show ∃ t, execPcierefLoss d s = _ ∧ _
  rw [execPcierefLoss, if_neg (by simp [h])]
  refine ⟨_, rfl, congrArg Pins.pcieref (foldl_pins (fun u k => ?_) ..)⟩
  split
  · exact hotReset_pins ..
  · rfl

/-! ### Fabric barriers (R23) -/

theorem exec_fabricBarrier {s : State} {mid : Mid} (hm : midIsOmc mid = true) (h : mid ∉ s.barriers) :
    exec (.fabricBarrier mid) s = .next { s with barriers := s.barriers ++ [mid] } := by
  show execFabricBarrier mid s = _
  rw [execFabricBarrier, if_pos ⟨hm, by simpa using h⟩]

theorem exec_fabricBarrierDone {s : State} {mid : Mid} (hm : midIsOmc mid = true) (h : mid ∈ s.barriers)
    (hdone : s.mastersDone mid = true) :
    exec (.fabricBarrierDone mid) s = .next { s with barriers := s.barriers.erase mid } := by
  show execFabricBarrierDone mid s = _
  rw [execFabricBarrierDone, if_pos ⟨hm, by simpa using h, hdone⟩]

/-- A barrier waits for every write and commit of its master (R23). -/
theorem exec_fabricBarrierDone_of_waiting {s : State} {mid : Mid} (h : s.mastersDone mid = false) :
    exec (.fabricBarrierDone mid) s = .next s := by
  show execFabricBarrierDone mid s = _
  rw [execFabricBarrierDone, if_neg fun ⟨_, _, hdone⟩ => Bool.false_ne_true (h.symm.trans hdone)]

end Sys2Proof.Machine
end

section
open Sys2Proof.Machine Sys2Proof.Safety

/-- Settles O11: every step of a power domain stores that domain alone (`runs_setDom`, `wake_eq_doms`), and the wake that
completes clears WAKE_NOW in the pages that list it (`wakeDone_wakeNow`). A reference that is lost takes down the ports of
its die one by one, where none that is down comes up again and no pin is driven (`linkUp_diePortsDown`,
`hotReset_pins`). A barrier asks `mastersDone` of its master. -/
theorem powerAndReferenceRows : Obligations.PowerAndReferenceRows := by
  unfold Obligations.PowerAndReferenceRows
  refine ⟨fun s d hd => ⟨fun hst hidle hopen hdepth hdue => runs_setDom (exec_idleToDim hd hst hidle hopen hdepth hdue),
    fun hbar => ?_,
    fun hst hidle hopen hdepth hdue => runs_setDom (exec_dimToDark hd hst hidle hopen hdepth hdue),
    fun hst hdue => runs_setDom (exec_darkEntryDone hd hst hdue),
    fun src hsrc hopen => ⟨_, exec_wakeRequest hd hsrc, fun hst => dom_wake_of_dim hst hopen,
      fun hst => dom_wake_of_dark hst hopen, wake_of_lit, fun k hk => dom_wake_of_ne s hk, wake_eq_doms s d⟩,
    fun src hfence => ⟨s, exec_wakeRequest_of_fenced src hfence, rfl⟩,
    fun hwaking => ?_⟩,
    fun s d h => ?_, fun s d h => ?_,
    fun s mid hm h => ⟨_, exec_fabricBarrier hm h, rfl⟩,
    fun s mid hm h hdone => ⟨_, exec_fabricBarrierDone hm h hdone, rfl⟩,
    fun s mid h => ⟨s, exec_fabricBarrierDone_of_waiting h, rfl⟩⟩
  · obtain ⟨hdim, hdark⟩ := exec_dimming_of_barred hbar
    exact ⟨⟨s, hdim, rfl⟩, s, hdark, rfl⟩
  · obtain ⟨hlit, hothers, hframe⟩ := wakeDone_row (s := s) (d := d) rfl
    exact ⟨_, exec_wakeComplete hwaking, hlit, fun p hp => wakeDone_wakeNow s hp, hothers, hframe⟩
  · obtain ⟨r, hexec⟩ := exec_netrefLoss h
    refine ⟨_, hexec, ?_, fun n hn k h1 h8 => ?_⟩
    · rw [stageLog_pins, diePortsDown_pins]
      exact getLsbD_lost _ d
    · rw [(wireFrame_stageLog ..).2]
      exact linkUp_diePortsDown _ d hn h1 h8
  · obtain ⟨t, hexec, hpins⟩ := exec_pcierefLoss h
    exact ⟨t, hexec, (congrArg (·.getLsbD d.val) hpins).trans (getLsbD_lost _ d)⟩
end

section
/-! SUPPORT. Commands of the PIPE pages that fast logic takes at once, and the bytes that registers and stores hold. -/
namespace Sys2Proof.Machine
open Sys2Proof.Safety

/-! ### Little-endian fields of byte lists (R3) -/

theorem leNat_lt (bs : List Byte) : leNat bs < 256 ^ bs.length := by
  induction bs with
  | nil => simp [leNat]
  | cons b bs ih =>
    have hb := b.isLt
    rw [leNat, List.length_cons, Nat.pow_succ']
    omega

theorem leAt_lt (bs : List Byte) (o n : Nat) : leAt bs o n < 256 ^ n := by
  simpa [leAt, slice] using leNat_lt (slice bs o n)

/-- Bytes past the end read 0, so that padding changes no field. -/
theorem leAt_padTo (bs : List Byte) (m o n : Nat) : leAt (padTo bs m) o n = leAt bs o n := by
  have hbyte (i : Nat) : (padTo bs m).getD i 0 = bs.getD i 0 := by
    by_cases hi : i < bs.length
    · rw [padTo, List.getD_eq_getElem?_getD, List.getElem?_append_left hi, List.getD_eq_getElem?_getD]
    · rw [padTo, zeros, List.getD_eq_getElem?_getD, List.getElem?_append_right (by omega), List.getElem?_replicate,
        List.getD_eq_getElem?_getD, List.getElem?_eq_none (by omega)]
      split <;> rfl
  simp only [leAt, slice, hbyte]

theorem slice_append_left (xs ys : List Byte) : slice (xs ++ ys) 0 xs.length = xs := by
  refine List.ext_getElem (by simp [slice]) fun i _ hi => ?_
  simp [slice, List.getElem?_append_left hi, List.getElem?_eq_getElem hi]

theorem slice_append_right (xs ys : List Byte) : slice (xs ++ ys) xs.length ys.length = ys := by
  refine List.ext_getElem (by simp [slice]) fun i _ hi => ?_
  simp [slice, List.getElem?_append_right, hi]

/-! ### What a store entry holds -/

/-- An entry that is written whole reads back, also where it is all zeros and is not listed. -/
theorem padTo_storeBytes {b : List Byte} {n : Nat} (h : b.length = n) : padTo (storeBytes b) n = b := by
  subst h
  unfold storeBytes
  split
  next hzero =>
    have hall : ∀ x ∈ b, x = 0 := by simpa using hzero
    simpa [padTo, zeros] using (List.eq_replicate_iff.2 ⟨rfl, hall⟩).symm
  next => simp [padTo, zeros]

theorem length_frBytes (s : State) (p : PageKey) (off n : Nat) : (s.frBytes p off n).length = 4 * n := by
  unfold State.frBytes
  induction n with
  | zero => rfl
  | succ n ih =>
    rw [List.range_succ, List.flatMap_append, List.length_append, ih, List.flatMap_singleton, length_leBytes]
    omega

/-! ### Only registers change -/

/-- Nothing but registers and what fast logic holds of them differs. -/
def PostFrame (s t : State) : Prop := ∃ r f, t = { s with regs := r, fast := f }

theorem PostFrame.refl (s : State) : PostFrame s s := ⟨s.regs, s.fast, rfl⟩

theorem PostFrame.trans {s t u : State} (h : PostFrame s t) (g : PostFrame t u) : PostFrame s u := by
  obtain ⟨r, f, rfl⟩ := h
  obtain ⟨r', f', rfl⟩ := g
  exact ⟨r', f', rfl⟩

theorem PostFrame.eq {s t : State} (h : PostFrame s t) : t = { s with regs := t.regs, fast := t.fast } := by
  obtain ⟨r, f, rfl⟩ := h
  rfl

theorem PostFrame.with_asets {s t : State} (h : PostFrame s t) (a : List (Nat × List Byte)) :
    PostFrame { s with asets := a } { t with asets := a } := by
  obtain ⟨r, f, rfl⟩ := h
  exact ⟨r, f, rfl⟩

theorem PostFrame.with_tpls {s t : State} (h : PostFrame s t) (a : List (Nat × List Byte)) :
    PostFrame { s with tpls := a } { t with tpls := a } := by
  obtain ⟨r, f, rfl⟩ := h
  exact ⟨r, f, rfl⟩

theorem PostFrame.ferry_eq {s t : State} (h : PostFrame s t) : t.ferry = s.ferry := by obtain ⟨_, _, rfl⟩ := h; rfl
theorem PostFrame.asets_eq {s t : State} (h : PostFrame s t) : t.asets = s.asets := by obtain ⟨_, _, rfl⟩ := h; rfl
theorem PostFrame.tpls_eq {s t : State} (h : PostFrame s t) : t.tpls = s.tpls := by obtain ⟨_, _, rfl⟩ := h; rfl
theorem PostFrame.cnts_eq {s t : State} (h : PostFrame s t) : t.cnts = s.cnts := by obtain ⟨_, _, rfl⟩ := h; rfl

theorem postFrame_post (s : State) (p : PageKey) (off : Nat) (v : Reg) : PostFrame s (s.post p off v) := ⟨_, _, rfl⟩

theorem postFrame_applied (s : State) (p : PageKey) : PostFrame s (s.applied p) := by
  unfold State.applied
  split
  · exact .refl s
  · exact postFrame_post ..

theorem fr_applied (s : State) (p q : PageKey) (off : Nat) : (s.applied p).fr q off = s.fr q off := by
  rw [State.fr, applied_fast, State.fr]

theorem rkey_ne_of_ne (p : PageKey) {o r : Nat} (h : r ≠ o) : rkey p r ≠ rkey p o := by unfold rkey; omega

/-! ### Bytes loaded into registers -/

theorem postFrame_putRegBytes (s : State) (p : PageKey) (off : Nat) (b : List Byte) :
    PostFrame s (s.putRegBytes p off b) :=
  List.foldlRecOn (motive := PostFrame s) _ _ (.refl s) fun _ ht _ _ => ht.trans ⟨_, _, rfl⟩

/-- Each data register holds its four bytes. -/
theorem fr_putRegBytes (s : State) (p : PageKey) (off : Nat) (b : List Byte) {i : Nat} (hi : i < b.length / 4) :
    (s.putRegBytes p off b).fr p (off + 4 * i) = BitVec.ofNat 32 (leAt b (4 * i) 4) := by
  have hself (u : State) : (u.postBoth p (off + 4 * i) (BitVec.ofNat 32 (leAt b (4 * i) 4))).fr p (off + 4 * i) =
      BitVec.ofNat 32 (leAt b (4 * i) 4) := fr_setFast_self ..
  refine foldl_of_mem (P := fun u : State => u.fr p (off + 4 * i) = BitVec.ofNat 32 (leAt b (4 * i) 4))
    (List.mem_range.2 hi) hself (fun u j hu => ?_) s
  by_cases hij : i = j
  · subst hij
    exact hself u
  · exact (fr_setFast_of_ne _ _ (rkey_ne_of_ne p (by omega))).trans hu

/-! ### A command that fast logic takes at once (R42, R207) -/

/-- The state in which a command register acts: PAGE_SEQ has advanced, and the page and fast logic hold the value. -/
def State.took (s : State) (p : PageKey) (off : Nat) (w : Reg) : State := (s.wrote p off w).setFast p off w

theorem postFrame_took (s : State) (p : PageKey) (off : Nat) (w : Reg) : PostFrame s (s.took p off w) := ⟨_, _, rfl⟩

theorem fr_took_of_ne (s : State) (p : PageKey) {off r : Nat} (w : Reg) (h : r ≠ off) :
    (s.took p off w).fr p r = s.fr p r := fr_setFast_of_ne _ w (rkey_ne_of_ne p h)

theorem frFld_took_of_ne (s : State) (p : PageKey) {off r : Nat} (w : Reg) (lo n : Nat) (h : r ≠ off) :
    (s.took p off w).frFld p r lo n = s.frFld p r lo n := by rw [State.frFld, fr_took_of_ne s p w h, State.frFld]

theorem frBytes_took_of_lt (s : State) (p : PageKey) {off r : Nat} (w : Reg) (n : Nat) (h : off < r) :
    (s.took p off w).frBytes p r n = s.frBytes p r n := by
  have hfr (i : Nat) : (s.took p off w).fr p (r + 4 * i) = s.fr p (r + 4 * i) := fr_took_of_ne s p w (by omega)
  simp only [State.frBytes, hfr]

theorem pageType_pipeKey (p : Fin 64) : pageType (pipeKey p) = some .pipe := by decide +revert

theorem regionIdx_pipeKey (p : Fin 64) : regionIdx (pipeKey p) = p.val / 4 := by decide +revert

theorem switched_pipeKey (p : Fin 64) : switched (pipeKey p) = true := by decide +revert

/-- No register of a PIPE page has RWL fields. -/
theorem rwl_pipe {p : Fin 64} {off : Nat} {d : RegDesc} (ho : 0x100 ≤ off) (hd : regDesc (pipeKey p) off = some d) :
    d.rwl = 0 := by
  have hall : ∀ d ∈ pipeRegs, d.rwl = 0 := by decide
  have hf : pipeRegs.find? (fun d => d.covers off) = some d := by
    simpa [regDesc, pageType_pipeKey, show ¬ off < 0x100 by omega, blockRegs] using hd
  exact hall d (List.mem_of_find?_eq_some hf)

section
variable {s : State} {mid : Mid} {p : Fin 64} {off : Nat} (hready : s.fastReady (pipeKey p) = true) (ho : 0x100 ≤ off)
  (h : Admitted s mid (pipeKey p) off)
include hready ho h

/-- A write of a PIPE register that fast logic takes at once. -/
theorem ferryWrite_pipe (v : Reg) (act : State → State) :
    ∃ w, s.ferryWrite mid (pipeKey p) off v act = (act (s.took (pipeKey p) off w)).applied (pipeKey p) := by
  obtain ⟨-, -, -, hreg⟩ := h
  obtain ⟨d, hd⟩ := Option.isSome_iff_exists.1 hreg
  refine ⟨(s.stamp (pipeKey p)).written (pipeKey p) off v, ?_⟩
  rw [State.ferryWrite, land_eq_post hd (rwl_pipe ho hd), ← State.wrote]
  simp only [(regFrame_wrote ..).fastReady_eq, hready, wrote_rd_self, if_true, State.took]

/-- A command of a PIPE page that is not BUSY, and whose action leaves waiting writes alone: it acts, and BUSY is 0. -/
theorem pipeCmd_ready {v : Reg} {act : State → PageKey → Reg → State} (hidle : bit (s.rd (pipeKey p) off) 31 = false)
    (hact : ∀ u, (act u (pipeKey p) v).ferry = u.ferry) :
    ∃ w, s.pipeCmd mid p off v act =
      ((act (s.took (pipeKey p) off w) (pipeKey p) v).postBit (pipeKey p) off 31 false).applied (pipeKey p) := by
  obtain ⟨w, hw⟩ := ferryWrite_pipe hready ho h v fun u => (act u (pipeKey p) v).postBit (pipeKey p) off 31 false
  refine ⟨w, ?_⟩
  have hnone : s.waiting (pipeKey p) = false := by
    simp only [State.fastReady, switched_pipeKey, Bool.not_true, Bool.false_or, Bool.and_eq_true,
      Bool.not_eq_true'] at hready
    obtain ⟨⟨hnone, -⟩, -⟩ := hready
    exact hnone
  have hferry : (((act (s.took (pipeKey p) off w) (pipeKey p) v).postBit (pipeKey p) off 31 false).applied
      (pipeKey p)).ferry = s.ferry := by
    rw [(postFrame_applied ..).ferry_eq, State.postBit_ferry, hact, (postFrame_took ..).ferry_eq]
  have hother : (s.ferry.any fun w => w.page == pipeKey p && w.off == off) = false := by
    simp only [State.waiting, List.any_eq_false] at hnone ⊢
    exact fun x hx hxp => hnone x hx (Bool.and_eq_true_iff.1 hxp).1
  rw [State.pipeCmd, accessWrite_admitted h, State.busyCmd, hidle, if_neg Bool.false_ne_true, hw]
  simp only [hferry, hother, Bool.false_eq_true, if_false]

end

/-- What the end of a command leaves: BUSY is 0, and only registers differ. -/
theorem cmdDone_row {s t : State} {p : PageKey} {off : Nat} (ho : off < 4096) (hne : off ≠ 0x034)
    (ht : t = (s.postBit p off 31 false).applied p) :
    bit (t.rd p off) 31 = false ∧ PostFrame s t ∧ ∀ q r, t.fr q r = s.fr q r := by
  subst ht
  refine ⟨?_, (postFrame_post ..).trans (postFrame_applied ..), fun q r => fr_applied ..⟩
  rw [rd_applied_of_ne _ _ ho hne, bit_rd_postBit_self _ _ _ _ (by omega)]

end Sys2Proof.Machine
end

section
/-! SUPPORT. Action sets and templates (R196, R199, R207). -/
namespace Sys2Proof.Machine
open Sys2Proof.Safety

/-! ### Action sets -/

/-- The entry of the action-set store that INDEX names. -/
def State.asKey (s : State) (p : PageKey) : Nat := regionIdx p * 16384 + s.frFld p 0x130 0 14

theorem asKey_pipeKey (s : State) (p : Fin 64) :
    s.asKey (pipeKey p) = p.val / 4 * 16384 + s.frFld (pipeKey p) 0x130 0 14 := by
  rw [State.asKey, regionIdx_pipeKey]

theorem asKey_took (s : State) (p : PageKey) (w : Reg) : (s.took p 0x134 w).asKey p = s.asKey p := by
  rw [State.asKey, frFld_took_of_ne _ _ _ _ _ (by omega), State.asKey]

theorem asAct_write (s : State) (p : PageKey) : s.asAct p 1 =
    ({ s with asets := tabPut [] s.asets (s.asKey p) (storeBytes (s.frBytes p 0x140 8)) } : State).post p 0x134 0 := rfl

theorem asAct_read (s : State) (p : PageKey) : s.asAct p 2 =
    (s.putRegBytes p 0x140 (padTo (tabGet [] s.asets (s.asKey p)) 32)).post p 0x134 0 := rfl

theorem asAct_write_ferry (s : State) (p : PageKey) : (s.asAct p 1).ferry = s.ferry := rfl

theorem asAct_read_ferry (s : State) (p : PageKey) : (s.asAct p 2).ferry = s.ferry := by
  rw [asAct_read, State.post_ferry, (postFrame_putRegBytes ..).ferry_eq]

/-- A WRITE stores the data registers at INDEX. -/
theorem asWrite_row {s t : State} {p : PageKey} {w : Reg}
    (ht : t = (((s.took p 0x134 w).asAct p 1).postBit p 0x134 31 false).applied p) :
    t.asets = tabPut [] s.asets (s.asKey p) (storeBytes (s.frBytes p 0x140 8)) ∧
      t = { s with regs := t.regs, fast := t.fast, asets := t.asets } := by
  obtain ⟨-, hframe, -⟩ := cmdDone_row (by omega) (by omega) ht
  rw [asAct_write, asKey_took, frBytes_took_of_lt _ _ _ _ (by omega), (postFrame_took ..).asets_eq] at hframe
  obtain ⟨r, f, rfl⟩ := (((postFrame_took s p 0x134 w).with_asets _).trans (postFrame_post ..)).trans hframe
  exact ⟨rfl, rfl⟩

/-- A READ loads the data registers with the entry at INDEX. -/
theorem asRead_row {s t : State} {p : PageKey} {w : Reg}
    (ht : t = (((s.took p 0x134 w).asAct p 2).postBit p 0x134 31 false).applied p) :
    ((tabGet [] s.asets (s.asKey p)).length ≤ 32 → ∀ i, i < 8 →
        (t.fr p (0x140 + 4 * i)).toNat = leAt (tabGet [] s.asets (s.asKey p)) (4 * i) 4) ∧
      bit (t.rd p 0x134) 31 = false ∧ PostFrame s t := by
  obtain ⟨hbusy, hframe, hfr⟩ := cmdDone_row (by omega) (by omega) ht
  rw [asAct_read, asKey_took, (postFrame_took ..).asets_eq] at hframe hfr
  refine ⟨fun hlen i hi => ?_, hbusy,
    (((postFrame_took ..).trans (postFrame_putRegBytes ..)).trans (postFrame_post ..)).trans hframe⟩
  have hwhole : (padTo (tabGet [] s.asets (s.asKey p)) 32).length = 32 := by simp [padTo, zeros]; omega
  rw [hfr, fr_post, fr_putRegBytes _ _ _ _ (by omega), leAt_padTo, BitVec.toNat_ofNat]
  exact Nat.mod_eq_of_lt (leAt_lt _ _ 4)

/-! ### Templates -/

/-- The line of the template store that LINE names. -/
def State.tplKey (s : State) (p : PageKey) : Nat := regionIdx p * 8192 + s.frFld p 0x160 0 13

theorem tplKey_pipeKey (s : State) (p : Fin 64) :
    s.tplKey (pipeKey p) = p.val / 4 * 8192 + s.frFld (pipeKey p) 0x160 0 13 := by
  rw [State.tplKey, regionIdx_pipeKey]

/-- The template store after a WRITE: line 0 holds no template (R196). -/
def State.tplsWritten (s : State) (p : PageKey) : List (Nat × List Byte) :=
  if s.frFld p 0x160 0 13 ≠ 0 then tabPut [] s.tpls (s.tplKey p) (storeBytes (s.frBytes p 0x180 16)) else s.tpls

theorem tplsWritten_took (s : State) (p : PageKey) (w : Reg) : (s.took p 0x164 w).tplsWritten p = s.tplsWritten p := by
  simp only [State.tplsWritten, State.tplKey, frFld_took_of_ne s p w 0 13 (show 0x160 ≠ 0x164 by omega),
    frBytes_took_of_lt s p w 16 (show 0x164 < 0x180 by omega), (postFrame_took ..).tpls_eq]

theorem tplAct_write (s : State) (p : PageKey) :
    s.tplAct p 1 = ({ s with tpls := s.tplsWritten p } : State).post p 0x164 0 := by
  by_cases hline : s.frFld p 0x160 0 13 = 0 <;> simp [State.tplAct, State.tplsWritten, State.tplKey, bit, hline]

theorem tplAct_write_ferry (s : State) (p : PageKey) : (s.tplAct p 1).ferry = s.ferry := by rw [tplAct_write]; rfl

/-- A READ of the template store changes registers alone. -/
theorem postFrame_tplAct_read (s : State) (p : PageKey) : PostFrame s (s.tplAct p 2) := by
  simp only [State.tplAct, show bit 2 0 = false from rfl, Bool.false_eq_true, false_and, if_false]
  split
  · exact (postFrame_putRegBytes ..).trans (postFrame_post ..)
  · exact postFrame_post ..

/-- A WRITE changes the template store and registers. -/
theorem tplWrite_row {s t : State} {p : PageKey} {w : Reg}
    (ht : t = (((s.took p 0x164 w).tplAct p 1).postBit p 0x164 31 false).applied p) :
    t.tpls = s.tplsWritten p ∧ t = { s with regs := t.regs, fast := t.fast, tpls := t.tpls } := by
  obtain ⟨-, hframe, -⟩ := cmdDone_row (by omega) (by omega) ht
  rw [tplAct_write, tplsWritten_took] at hframe
  obtain ⟨r, f, rfl⟩ := (((postFrame_took s p 0x164 w).with_tpls _).trans (postFrame_post ..)).trans hframe
  exact ⟨rfl, rfl⟩

/-- A READ changes registers alone. -/
theorem tplRead_row {s t : State} {p : PageKey} {w : Reg}
    (ht : t = (((s.took p 0x164 w).tplAct p 2).postBit p 0x164 31 false).applied p) :
    bit (t.rd p 0x164) 31 = false ∧ PostFrame s t := by
  obtain ⟨hbusy, hframe, -⟩ := cmdDone_row (by omega) (by omega) ht
  exact ⟨hbusy, ((postFrame_took ..).trans (postFrame_tplAct_read ..)).trans hframe⟩

end Sys2Proof.Machine
end

section
/-! SUPPORT. The counter cache (R202). -/
namespace Sys2Proof.Machine
open Sys2Proof.Safety

theorem mem_tabErase {α : Type} {t : List (Nat × α)} {k : Nat} {e : Nat × α} :
    e ∈ tabErase t k ↔ e ∈ t ∧ e.1 ≠ k := by simp [tabErase]

/-- A listed key is found. -/
theorem ne_of_tabFind_none {α : Type} {t : List (Nat × α)} {k : Nat} (h : tabFind t k = none) : ∀ e ∈ t, e.1 ≠ k := by
  induction t with
  | nil => simp
  | cons x t ih =>
    have hx : x.1 ≠ k := fun hx => by simp [tabFind_cons, hx] at h
    exact List.forall_mem_cons.2 ⟨hx, ih (by simpa [tabFind_cons, hx] using h)⟩

/-- Where a region places a pair in HBM3E. -/
def State.pairAddr (s : State) (r pair : Nat) : Nat :=
  hbmBase (r / 4) + s.frFld (pipePage r 0) 0x120 0 24 * 4096 + 16 * pair

/-- The 16 bytes of a pair after a write-back, from those before it. -/
def CntPair.written (c : CntPair) (old : List Byte) : List Byte :=
  leBytes 8 ((leAt old 0 8 + c.packets) % 2 ^ 64) ++ leBytes 8 ((leAt old 8 8 + c.octets) % 2 ^ 64)

theorem length_written (c : CntPair) (old : List Byte) : (c.written old).length = 16 := by
  simp [CntPair.written, length_leBytes]

theorem leNat_leBytes_word (v : Nat) : leNat (leBytes 8 (v % 2 ^ 64)) = v % 2 ^ 64 := by
  rw [leNat_leBytes]
  exact Nat.mod_mod v (2 ^ 64)

theorem leAt_written (c : CntPair) (old : List Byte) :
    leAt (c.written old) 0 8 = (leAt old 0 8 + c.packets) % 2 ^ 64 ∧
      leAt (c.written old) 8 8 = (leAt old 8 8 + c.octets) % 2 ^ 64 := by
  have hleft := slice_append_left (leBytes 8 ((leAt old 0 8 + c.packets) % 2 ^ 64))
    (leBytes 8 ((leAt old 8 8 + c.octets) % 2 ^ 64))
  have hright := slice_append_right (leBytes 8 ((leAt old 0 8 + c.packets) % 2 ^ 64))
    (leBytes 8 ((leAt old 8 8 + c.octets) % 2 ^ 64))
  simp only [length_leBytes] at hleft hright
  exact ⟨by rw [leAt, CntPair.written, hleft, leNat_leBytes_word],
    by rw [leAt, CntPair.written, hright, leNat_leBytes_word]⟩

theorem setBytes_cnts (s : State) (a : Nat) (bs : List Byte) : (s.setBytes a bs).cnts = s.cnts := by rw [setBytes_eq]

theorem cntFlush_of_none {s : State} {r pair : Nat} (h : tabFind s.cnts (r * 2 ^ 22 + pair) = none) :
    s.cntFlush r pair = s := by
  rw [State.cntFlush, h]

theorem cntFlush_of_some {s : State} {r pair : Nat} {c : CntPair} (h : tabFind s.cnts (r * 2 ^ 22 + pair) = some c) :
    s.cntFlush r pair = { s.setBytes (s.pairAddr r pair) (c.written (s.bytes (s.pairAddr r pair) 16)) with
      cnts := tabErase s.cnts (r * 2 ^ 22 + pair) } := by
  simp only [State.cntFlush, h, setBytes_cnts]
  rfl

/-- Bytes that are written, and a pair that is emptied: what memory and the cache hold, and that no more differs. -/
theorem setBytes_tabErase_row {s t : State} {a k : Nat} {bs : List Byte}
    (ht : t = { s.setBytes a bs with cnts := tabErase s.cnts k }) :
    t.bytes a bs.length = bs ∧ (∀ x, x < a ∨ a + bs.length ≤ x → t.byte x = s.byte x) ∧
    tabFind t.cnts k = none ∧ t = { s with mem := t.mem, cnts := t.cnts } := by
  have hself := bytes_setBytes_self s a bs
  have hout (x : Nat) := byte_setBytes_outside s a bs (c := x)
  have hmem := setBytes_eq bs s a
  generalize s.setBytes a bs = u at ht hself hout hmem
  subst ht
  exact ⟨hself, hout, tabFind_erase_self .., by rw [hmem]⟩

/-- A write-back adds the pair's counts to its 16 bytes, and empties the pair. -/
theorem cntFlush_row {s t : State} {r pair : Nat} {c : CntPair} (h : tabFind s.cnts (r * 2 ^ 22 + pair) = some c)
    (ht : t = s.cntFlush r pair) :
    leAt (t.bytes (s.pairAddr r pair) 16) 0 8 = (leAt (s.bytes (s.pairAddr r pair) 16) 0 8 + c.packets) % 2 ^ 64 ∧
    leAt (t.bytes (s.pairAddr r pair) 16) 8 8 = (leAt (s.bytes (s.pairAddr r pair) 16) 8 8 + c.octets) % 2 ^ 64 ∧
    (∀ x, x < s.pairAddr r pair ∨ s.pairAddr r pair + 16 ≤ x → t.byte x = s.byte x) ∧
    tabFind t.cnts (r * 2 ^ 22 + pair) = none ∧ t = { s with mem := t.mem, cnts := t.cnts } := by
  obtain ⟨hbytes, hframe⟩ := setBytes_tabErase_row (ht.trans (cntFlush_of_some h))
  rw [length_written] at hbytes hframe
  obtain ⟨hpackets, hoctets⟩ := leAt_written c (s.bytes (s.pairAddr r pair) 16)
  rw [hbytes]
  exact ⟨hpackets, hoctets, hframe⟩

/-- A write-back takes its pair out of the cache, and no other. -/
theorem mem_cntFlush {s : State} {r pair : Nat} {e : Nat × CntPair} :
    e ∈ (s.cntFlush r pair).cnts ↔ e ∈ s.cnts ∧ e.1 ≠ r * 2 ^ 22 + pair := by
  cases h : tabFind s.cnts (r * 2 ^ 22 + pair) with
  | none =>
    rw [cntFlush_of_none h]
    exact ⟨fun he => ⟨he, ne_of_tabFind_none h e he⟩, And.left⟩
  | some c =>
    rw [cntFlush_of_some h]
    exact mem_tabErase

/-- The pairs that remain after those of a list are written back. -/
theorem mem_foldl_cntFlush {r : Nat} {l : List (Nat × CntPair)} {s : State} {e : Nat × CntPair} :
    e ∈ (l.foldl (fun s x => s.cntFlush r (x.1 % 2 ^ 22)) s).cnts ↔
      e ∈ s.cnts ∧ ∀ x ∈ l, e.1 ≠ r * 2 ^ 22 + x.1 % 2 ^ 22 := by
  induction l generalizing s with
  | nil => simp
  | cons x l ih => rw [List.foldl_cons, ih, mem_cntFlush, List.forall_mem_cons, and_assoc]

/-- A flush writes back the pairs of its region, and no other. -/
theorem mem_cntFlushAct {s : State} {p : PageKey} {e : Nat × CntPair} :
    e ∈ (s.cntFlushAct p).cnts ↔ e ∈ s.cnts ∧ e.1 / 2 ^ 22 ≠ regionIdx p := by
  have hfold : e ∈ (s.cntFlushAct p).cnts ↔ e ∈ s.cnts ∧
      ∀ x ∈ s.cnts.filter fun x => x.1 / 2 ^ 22 == regionIdx p, e.1 ≠ regionIdx p * 2 ^ 22 + x.1 % 2 ^ 22 :=
    mem_foldl_cntFlush
  rw [hfold]
  refine and_congr_right fun he => ⟨fun hall hmine => ?_, fun hother x hx heq => ?_⟩
  · exact hall e (List.mem_filter.2 ⟨he, beq_iff_eq.2 hmine⟩) (by omega)
  · have hx := beq_iff_eq.1 (List.mem_filter.1 hx).2
    omega

/-- PIPE_CNT_FLUSH as it takes effect: the region's pairs leave the cache, and GO reads 0. -/
theorem cntFlush_done_row {s t : State} {p : PageKey} {w : Reg}
    (ht : t = ((s.took p 0x128 w).cntFlushAct p).applied p) :
    (∀ e, e ∈ t.cnts ↔ e ∈ s.cnts ∧ e.1 / 2 ^ 22 ≠ regionIdx p) ∧ t.rd p 0x128 = 0 := by
  subst ht
  refine ⟨fun e => ?_, ?_⟩
  · rw [(postFrame_applied ..).cnts_eq, mem_cntFlushAct, (postFrame_took ..).cnts_eq]
  · rw [rd_applied_of_ne _ _ (by omega) (by omega)]
    exact rd_post_self ..

end Sys2Proof.Machine
end

section
open Sys2Proof.Machine Sys2Proof.Safety

/-- Settles O18: a command of a PIPE page that takes writes at once and is not BUSY acts in its own step
(`pipeCmd_ready`). A WRITE is one store at the entry that INDEX names, a READ posts registers, and a write-back writes
one run of 16 bytes and erases one pair (`cntFlush_row`), which a flush does for each pair of its region
(`mem_cntFlushAct`). -/
theorem storeRows : Obligations.StoreRows := by
  unfold Obligations.StoreRows
  intro s mid p hready
  refine ⟨fun h hidle => ⟨?_, ?_⟩, fun h hidle => ⟨?_, ?_⟩, fun h => ?_, fun r pair c h => ?_⟩
  · obtain ⟨w, hw⟩ := pipeCmd_ready hready (by omega) h hidle (asAct_write_ferry · _)
    obtain ⟨hasets, hframe⟩ := asWrite_row hw
    rw [asKey_pipeKey] at hasets
    refine ⟨_, rfl, ?_, fun k hk => ?_, hframe⟩
    · rw [hasets, tabGet_put_self, padTo_storeBytes (length_frBytes ..)]
    · rw [hasets, tabGet_put_of_ne _ _ _ _ _ _ hk]
  · obtain ⟨w, hw⟩ := pipeCmd_ready hready (by omega) h hidle (asAct_read_ferry · _)
    obtain ⟨hdata, hbusy, hframe⟩ := asRead_row hw
    rw [asKey_pipeKey] at hdata
    exact ⟨_, rfl, hdata, hbusy, hframe.eq⟩
  · obtain ⟨w, hw⟩ := pipeCmd_ready hready (by omega) h hidle (tplAct_write_ferry · _)
    obtain ⟨htpls, hframe⟩ := tplWrite_row hw
    rw [State.tplsWritten, tplKey_pipeKey] at htpls
    refine ⟨_, rfl, fun hline => ?_, fun hline => ?_, fun k hk => ?_, hframe⟩
    · rw [htpls, if_pos hline, tabGet_put_self, padTo_storeBytes (length_frBytes ..)]
    · rw [htpls, if_neg fun hne => hne hline]
    · rw [htpls]
      split
      · exact tabGet_put_of_ne _ _ _ _ _ _ hk
      · rfl
  · obtain ⟨w, hw⟩ := pipeCmd_ready hready (by omega) h hidle fun u => (postFrame_tplAct_read u _).ferry_eq
    obtain ⟨hbusy, hframe⟩ := tplRead_row hw
    exact ⟨_, rfl, hframe.eq, hbusy⟩
  · obtain ⟨w, hw⟩ := ferryWrite_pipe hready (by omega) h 1 fun u => u.cntFlushAct (pipeKey p)
    have hown : s.ownWrite mid (pipeKey p) 0x128 1 (fun u => u.cntFlushAct (pipeKey p)) = _ :=
      (accessWrite_admitted h _).trans hw
    obtain ⟨hcnts, hgo⟩ := cntFlush_done_row hown
    rw [regionIdx_pipeKey] at hcnts
    exact ⟨_, rfl, fun e he => ((hcnts e).1 he).2, fun e he hother => (hcnts e).2 ⟨he, hother⟩, hgo⟩
  · exact ⟨_, rfl, cntFlush_row h rfl⟩
end
